-- ==== Sys2Proof/Word.lean ====
section
/-! DEFINITION. The words of the KPS-880: 32-bit command and register words, 16-bit monitor words,
bytes, and the plain arithmetic on them. -/

namespace Sys2Proof

/-- A 32-bit word of a packet, a register or a parameter (R155, R183). -/
abbrev Word := BitVec 32

/-- A 16-bit parameter or data word of a monitor CMD or RESP (R38). -/
abbrev Half := BitVec 16

/-- One byte. -/
abbrev Byte := BitVec 8

/-- A 64-bit word (force values, counts of plant time as words). -/
abbrev Long := BitVec 64

/-- A word from a natural number, modulo 2^32. -/
def w32 (n : Nat) : Word := BitVec.ofNat 32 n

/-- A word from a signed number, modulo 2^32. -/
def i32 (n : Int) : Word := BitVec.ofInt 32 n

/-- The high word of a 64-bit count (plant time, tick number), as replies carry it first. -/
def hiWord (n : Nat) : Word := BitVec.ofNat 32 (n / 2 ^ 32)

/-- The low word of a 64-bit count. -/
def loWord (n : Nat) : Word := BitVec.ofNat 32 n

/-- The 64-bit count of two words, high word first. -/
def ofHiLo (hi lo : Word) : Nat := hi.toNat * 2 ^ 32 + lo.toNat

/-- Field [hi:lo] of a word as a number. -/
def fieldOf (w : Word) (hi lo : Nat) : Nat := w.toNat / 2 ^ lo % 2 ^ (hi + 1 - lo)

/-- A bit of a word. -/
def bitOf (w : Word) (i : Nat) : Bool := w.getLsbD i

/-- A flag as the number 0 or 1. -/
def b2n (b : Bool) : Nat := if b then 1 else 0

/-- A word built from fields: each pair is (lowest bit, value). -/
def packWord (fs : List (Nat × Nat)) : Word :=
  fs.foldl (fun acc f => acc ||| BitVec.ofNat 32 (f.2 * 2 ^ f.1)) 0

end Sys2Proof
end

