-- ==== Sys2Proof/Machine/Map.lean ====
section
/-! DEFINITION. Finite maps from unit numbers to unit records, and the canonical byte memory.
A map's unlisted key reads as the unit's default, which is the unit's state after reset. -/

namespace Sys2Proof

/-- A map from a number (of a chain, partition, port, …) to its record. Unlisted keys read as
`default`. Setting a key replaces its entry or adds one; no entry is ever dropped. -/
abbrev Map (α : Type) := List (Nat × α)

/-- Read a key; the reset record where nothing is listed. -/
def Map.get {α : Type} [Inhabited α] (m : Map α) (k : Nat) : α :=
  match m with
  | [] => default
  | (j, v) :: r => if j = k then v else Map.get r k

/-- Set a key. -/
def Map.set {α : Type} (m : Map α) (k : Nat) (v : α) : Map α :=
  match m with
  | [] => [(k, v)]
  | (j, x) :: r => if j = k then (k, v) :: r else (j, x) :: Map.set r k v

/-- Change a key's record by a function. -/
def Map.modify {α : Type} [Inhabited α] (m : Map α) (k : Nat) (f : α → α) : Map α :=
  m.set k (f (m.get k))

/-- Drop every entry whose key fails the test: those units read as reset again. -/
def Map.keep {α : Type} (m : Map α) (p : Nat → Bool) : Map α :=
  m.filter (fun e => p e.1)

@[simp] theorem Map.get_set_same {α : Type} [Inhabited α] (m : Map α) (k : Nat) (v : α) :
    (m.set k v).get k = v := by
  induction m with
  | nil => simp [Map.set, Map.get]
  | cons e r ih =>
    obtain ⟨j, x⟩ := e
    by_cases h : j = k
    · simp [Map.set, Map.get, h]
    · simp [Map.set, Map.get, h, ih]

theorem Map.get_set_other {α : Type} [Inhabited α] (m : Map α) (k j : Nat) (v : α) (h : j ≠ k) :
    (m.set k v).get j = m.get j := by
  induction m with
  | nil => simp [Map.set, Map.get, Ne.symm h]
  | cons e r ih =>
    obtain ⟨i, x⟩ := e
    by_cases hk : i = k
    · subst hk; simp [Map.set, Map.get, Ne.symm h]
    · by_cases hj : i = j
      · subst hj; simp [Map.set, Map.get, h]
      · simp [Map.set, Map.get, hk, hj, ih]

/-- The byte memory of a partition: address and byte pairs, addresses strictly rising, and no byte
0 listed, since an unlisted address reads 0 (R201: the rest of the data region is filled with zeros). -/
abbrev Memory := List Host.Cell

/-- Read one byte. -/
def Memory.read (m : Memory) (a : Nat) : Byte :=
  match m with
  | [] => 0
  | (b, v) :: r => if b = a then v else Memory.read r a

/-- Write one byte, keeping the canonical form. -/
def Memory.write (m : Memory) (a : Nat) (v : Byte) : Memory :=
  match m with
  | [] => if v = 0 then [] else [(a, v)]
  | (b, x) :: r =>
    if a < b then (if v = 0 then (b, x) :: r else (a, v) :: (b, x) :: r)
    else if a = b then (if v = 0 then r else (a, v) :: r)
    else (b, x) :: Memory.write r a v

/-- Every address of the list is above the given one, addresses rise strictly, no byte is 0. -/
def Memory.wfFrom (lo : Option Nat) (m : Memory) : Bool :=
  match m with
  | [] => true
  | (b, v) :: r =>
    (match lo with | none => true | some l => decide (l < b)) && decide (v ≠ 0) &&
      Memory.wfFrom (some b) r

/-- The canonical form. -/
def Memory.wf (m : Memory) : Bool := Memory.wfFrom none m

/-- Read a little-endian 32-bit word (byte order: R207 gives source 32b + 4w + j byte j of word w). -/
def Memory.readWord (m : Memory) (a : Nat) : Word :=
  (m.read (a + 3)) ++ (m.read (a + 2)) ++ (m.read (a + 1)) ++ (m.read a)

/-- Byte i of a word, byte 0 in bits [7:0]. -/
def byteOf (w : Word) (i : Nat) : Byte := BitVec.ofNat 8 (w.toNat / 2 ^ (8 * i))

/-- Write a little-endian 32-bit word. -/
def Memory.writeWord (m : Memory) (a : Nat) (w : Word) : Memory :=
  (((m.write a (byteOf w 0)).write (a + 1) (byteOf w 1)).write (a + 2) (byteOf w 2)).write (a + 3) (byteOf w 3)

/-- Write consecutive words from an address. -/
def Memory.writeWords (m : Memory) (a : Nat) (ws : List Word) : Memory :=
  match ws with
  | [] => m
  | w :: r => Memory.writeWords (m.writeWord a w) (a + 4) r

/-- Write every cell of a list, in its order. -/
def Memory.load (m : Memory) (cells : List Host.Cell) : Memory :=
  match cells with
  | [] => m
  | (a, v) :: r => Memory.load (m.write a v) r

/-- Read n consecutive words from an address. -/
def Memory.readWords (m : Memory) (a n : Nat) : List Word :=
  (List.range n).map (fun i => m.readWord (a + 4 * i))

/-- Keep only the bytes whose address passes the test; the others read 0 again. -/
def Memory.restrict (m : Memory) (p : Nat → Bool) : Memory :=
  m.filter (fun c => p c.1)

end Sys2Proof
end

