-- ==== Sys2Proof/Machine/RecordsA.lean ====
section
/-! DEFINITION. Plain records of the battery side: chains, tiles and cell slots, protection,
balancing, zones and dispatch. Each default value is the value after reset. -/

namespace Sys2Proof

/-- The two ends of a chain ring (R28). -/
inductive RingEnd where
  | a | b
deriving DecidableEq, Repr, Inhabited

/-- How a chain's ring is run (R54, R57, R249). -/
inductive Running where
  | whole
  | healed (k : Nat)
  | reversed
  | folded
deriving DecidableEq, Repr, Inhabited

/-- CH_STATE (R68). -/
inductive ChState where
  | off | enumerating | inService | healing | healed | reversed | outOfService
deriving DecidableEq, Repr, Inhabited

/-- The code of CH_STATE (R68). -/
def ChState.code : ChState → Nat
  | .off => 0 | .enumerating => 1 | .inService => 2 | .healing => 3 | .healed => 4
  | .reversed => 5 | .outOfService => 6

/-- The compensation values of one position (R45, R68 CH_COMP). -/
structure Comp where
  fwd : Nat := 0
  rev : Nat := 0
deriving DecidableEq, Repr, Inhabited

/-- The tracking round trips of one position and end, newest first, at most 16 (R46). -/
structure Track where
  rts : List Nat := []
deriving DecidableEq, Repr, Inhabited

/-- Why a monitor CMD was queued, which says what its RESP or its failure does. -/
inductive CmdFor where
  | enumeration                    -- R44: ends the enumeration on failure
  | readCmp                        -- R53, R121: verification
  | segment (value : Nat)          -- R54, R56, R467
  | contactor (drivers : Nat)      -- R126, R128, R130
  | setting                        -- SET_COMP, SET_THRESH, SET_FILTERS, SET_ABSENT in service
  | balance                        -- R132: the Keeper's own BLEED_SET or BLEED_STOP
  | impedance (cell : Nat) (byOpcode : Bool) (tenant : Nat) (seq : Nat)  -- R98
  | tenant (tenant : Nat) (seq : Nat)          -- CHAIN_CMD
  | diag (tenant : Nat) (seq : Nat)            -- CHAIN_DIAG
  | relay                          -- R58: for the partner
deriving DecidableEq, Repr, Inhabited

/-- A monitor CMD (R38, R59): destination 1..128 or 255, opcode, parameter words. -/
structure MonCmd where
  dest : Nat := 0
  opc : Nat := 0
  params : List Half := []
  why : CmdFor := .setting
  /-- 0 = not yet sent, 1 = sent once and to be sent once more (R41) -/
  attempt : Nat := 0
  /-- effective tick handed to the tile at the first sending (R133) -/
  effTick : Nat := 0
  /-- the CTAG of a CMD that the partner relays (R58) -/
  ctag : Nat := 0
deriving DecidableEq, Repr, Inhabited

/-- A CMD that is on the line and awaits its RESP (R41). -/
structure SentCmd where
  ctag : Nat := 0
  cmd : MonCmd := {}
  sentAt : Nat := 0
  from_ : RingEnd := .a
  relayed : Bool := false
deriving DecidableEq, Repr, Inhabited

/-- What an ECHO was sent for. -/
inductive EchoFor where
  | comp | track | ring | search | healCheck
deriving DecidableEq, Repr, Inhabited

/-- An ECHO on the line (R37, R45). -/
structure SentEcho where
  etag : Nat := 0
  dest : Nat := 0
  from_ : RingEnd := .a
  why : EchoFor := .track
deriving DecidableEq, Repr, Inhabited

/-- The phases of an enumeration (R44). -/
inductive EnumPhase where
  | waitEnum | readId | echoA | echoB | setup | waitEntry
deriving DecidableEq, Repr, Inhabited

/-- An enumeration in progress (R44). -/
structure EnumRun where
  attempt : Nat := 1
  phase : EnumPhase := .waitEnum
  /-- position in work in phases readId, echoA, echoB and setup -/
  k : Nat := 1
  rtsA : Map Track := []
  rtsB : Map Track := []
  /-- setup CMDs of the position in work still to be answered -/
  left : Nat := 0
  /-- the CHAIN_ENUMERATE request that started it -/
  asked : Option (Nat × Nat) := none
deriving DecidableEq, Repr, Inhabited

/-- A TRIP being sent (R51). -/
structure TripRun where
  action : Nat := 1
  reason : Nat := 0
  origin : Nat := 0
  startedAt : Nat := 0
deriving DecidableEq, Repr, Inhabited

/-- The phases of a verification (R53, R54, R121). -/
inductive VerPhase where
  | ringEcho | search | reading | healing | waitCroak
deriving DecidableEq, Repr, Inhabited

/-- A VERIFY in progress (R120 to R123). -/
structure Verify where
  /-- the Matrix decides by it; false where the string opened at once and only the ring is looked at (R53) -/
  decides : Bool := true
  startedAt : Nat := 0
  graceEnd : Nat := 0
  phase : VerPhase := .ringEcho
  /-- binary search bounds: positions up to lo are reached, positions above hi are not (R53) -/
  lo : Nat := 0
  hi : Nat := 0
  /-- the ring was found whole -/
  ringWhole : Bool := false
  /-- positions whose READ_CMP answered clear -/
  clear : List Nat := []
  /-- the segment commands answered OK -/
  segDone : List Nat := []
deriving DecidableEq, Repr, Inhabited

/-- The adoption of a chain after a start that kept the rail (R398). -/
structure AdoptRun where
  /-- the tick of the first of the three trains -/
  first : Nat := 0
  ticks : Nat := 0
  /-- positions that answered with a good frame and COMP_SET, in every tick so far -/
  good : List Nat := []
  /-- a finding that forbids adoption -/
  bad : Bool := false
  /-- the head's driver bits of its last frame (POS, NEG, PRE) -/
  drivers : Option Nat := none
deriving DecidableEq, Repr, Inhabited

/-- One chain as its Chain Master and the Keeper hold it (chapter 2). -/
structure Chain where
  state : ChState := .off
  fault : BitVec 8 := 0
  countFound : Nat := 0
  breakAfter : Nat := 255
  missingLast : Nat := 0
  crcLast : Nat := 0
  /-- CRC failures of the present and the last tick: tick and count (R68 CH_CRC_LAST) -/
  crcBy : List (Nat × Nat) := []
  comp : Map Comp := []
  trackA : Map Track := []
  trackB : Map Track := []
  nextTrackA : Nat := 1
  nextTrackB : Nat := 1
  echoes : List SentEcho := []
  nextEtag : Nat := 0
  queue : List MonCmd := []
  sent : List SentCmd := []
  nextCtag : Nat := 0
  /-- the module inserts the Croak at the ends that R24 and R58 give it -/
  croak : Bool := false
  lostA : Option Nat := none
  lostB : Option Nat := none
  /-- no Croak has come yet at this watched end since the present running began (R54, R121) -/
  awaitA : Bool := false
  awaitB : Bool := false
  trip : Option TripRun := none
  running : Running := .whole
  /-- the running that begins at the next tick edge (R54, R56, R57, R249) -/
  pendRun : Option Running := none
  /-- SEGMENT commands not yet answered OK: position and value (R467) -/
  segments : List (Nat × Nat) := []
  /-- the last good DATA frame of a position since the chain entered service (R69) -/
  lastFrame : Map (Option (BitVec 512)) := []
  missing : Map Nat := []
  /-- positions that SILENT_MONITOR names now -/
  silent : List Nat := []
  /-- positions with a good frame and COMP_SET in a train of the adoption: tick and position -/
  gotNow : List (Nat × Nat) := []
  enum : Option EnumRun := none
  verify : Option Verify := none
  /-- the decision on a VERIFY since the last mirror point: hold, and the REASON of an open one (R252) -/
  decided : Option (Bool × Nat) := none
  adopt : Option AdoptRun := none
  /-- tick of entry into service -/
  serviceTick : Option Nat := none
  /-- the line was last seen with a cable at the A-end or B-end port (R449) -/
  cableA : Bool := false
  cableB : Bool := false
  /-- plant time at which folded or reversed running may end (R249) -/
  foldSince : Option Nat := none
deriving DecidableEq, Repr, Inhabited

/-- The result code of the last impedance sequence of a cell (R111). -/
structure ImpResult where
  rOhm : Word := 0
  rCt : Word := 0
  h0 : Word := 0
  rms : Word := 0
  result : Nat := 255
  tick : Nat := 0
deriving DecidableEq, Repr, Inhabited

/-- The cell slot of R79 (its 128 words are read out by Slot.words) and the bookkeeping of R81 and R95. -/
structure Slot where
  model : Nat := 0
  chem : Nat := 0
  present : Bool := false
  flags : BitVec 16 := 0
  staleRun : Nat := 0
  gateRun : Nat := 0
  /-- x1..x12 of R80; x1 and x5 are the HI words of their pairs -/
  x : List Word := List.replicate 11 0 ++ [0x3F800000]
  thnLo : Word := 0
  thpLo : Word := 0
  /-- the covariance, upper triangle row by row, 78 words -/
  p : List Word := List.replicate 78 0
  rohm25 : Word := 0
  rct25 : Word := 0
  soh : Word := 0x3F800000
  ict : Word := 0
  vhat : Word := 0
  ilast : Word := 0
  qthHi : Word := 0
  qthLo : Word := 0
  socRest : Word := 0x7FC00000
  slopeRest : Word := 0
  nuV : Word := 0
  sV : Word := 0
  corr : List Word := List.replicate 16 0
  impK : Nat := 0
  impSeq : Nat := 0
  impLfsr : Nat := 0
  impStale : Nat := 0
  out0 : Word := 0
  out1 : Word := 0
  out2 : Word := 0
  /-- the last usable measured voltage since initialisation, as binary32 volts (R81) -/
  vLast : Option Word := none
  /-- the last measured voltage code, for the extremes of R105, in 25 µV -/
  vCode : Nat := 0
  /-- plant tick since which |I_str| has stayed at or below the rest current (R93) -/
  restSince : Option Nat := none
  /-- the cell has been initialised (R94) -/
  initialised : Bool := false
  /-- marked by EST_REINIT (R95) -/
  reinit : Bool := false
  /-- the cell was at rest in the last tick, and its rest has been entered (R96) -/
  rested : Bool := false
  imp : ImpResult := {}
deriving DecidableEq, Repr, Inhabited

/-- The bleed masks handed to the tile for a monitor, newest first: effective tick, mask, and the tick at
which its timer has run out (R64, R81, R133). The last six are kept. -/
structure BleedMask where
  hist : List (Nat × Nat × Nat) := []
deriving DecidableEq, Repr, Inhabited

/-- The mask in effect over the chip interval after sample j. -/
def BleedMask.at (b : BleedMask) (j : Nat) : Nat :=
  match b.hist.find? (fun e => decide (e.1 ≤ j)) with
  | some (_, m, stop) => if j < stop then m else 0
  | none => 0

/-- An item of a tile's deferred work (R78): the extraction of a position's sequence, or the reinitialisation of a cell
at a temperature and a voltage; `enters` says that the cell came to rest in this tick. -/
inductive Work where
  | extract (p : Nat)
  | reinit (p cell : Nat) (t v : Word) (code : Nat) (enters : Bool)
deriving DecidableEq, Repr

/-- An impedance sequence of one monitor (R98, R100). -/
structure ImpRun where
  cell : Nat := 0
  tick0 : Nat := 0
  count : Nat := 64
  byOpcode : Bool := false
  /-- the tick at which a PRBS_STOP takes effect (R62) -/
  stopAt : Option Nat := none
  sumE2 : Word := 0
  sumV : Word := 0
  sumT : Word := 0
  n : Nat := 0
deriving DecidableEq, Repr, Inhabited

/-- A cell ledger entry (R97). -/
structure Ledger where
  soc : Word := 0
  soh : Word := 0
  rohm25 : Word := 0
  rct25 : Word := 0
  time : Nat := 0
deriving DecidableEq, Repr, Inhabited

/-- One tile of the Cell Estimation Array (chapter 3). -/
structure Tile where
  /-- the tick whose cutoff has not come yet -/
  tick : Nat := 0
  /-- the tick of entry into service: no position has an earlier update -/
  base : Nat := 0
  /-- head frames in hand by tick, newest first -/
  heads : List (Nat × BitVec 512) := []
  /-- good copies that wait: position, tick, frame (R74, R76) -/
  waiting : List (Nat × Nat × BitVec 512) := []
  /-- the next tick to update, by position -/
  nextTick : Map Nat := []
  /-- positions that had a good copy in the tick being worked on -/
  copies : List Nat := []
  slots : Map Slot := []
  /-- slots as the tick left them, of positions that are already a tick ahead -/
  old : Map Slot := []
  /-- words 0-9 of R105 as last issued -/
  record : List Word := []
  /-- words 0-15 of R105 of the last tick whose cutoff has come -/
  summary : List Word := []
  /-- the record of the present tick has been issued at +704 µs -/
  issued : Bool := false
  istr : Int := 0
  vstr : Nat := 0
  /-- the deferred-work queue, at most 16 entries (R70, R78) -/
  work : List Work := []
  /-- the partial sums of words 10 to 12 by position, and those of positions that are a tick ahead (R86, R105) -/
  sums : Map (List Word) := []
  oldSums : Map (List Word) := []
  /-- the valid sensor codes of the frames in hand: tick, position, codes (R110) -/
  sensors : List (Nat × Nat × List Nat) := []
  tambLast : Map (Option Word) := []
  /-- monitors for which TAMB_MISSING holds -/
  tambMiss : List Nat := []
  bleed : Map BleedMask := []
  imped : Map (Option ImpRun) := []
  /-- the sequence before, by position: its last chips still count in u (R81) -/
  impedOld : Map (Option ImpRun) := []
  /-- the last cell of the impedance round robin, by position -/
  nextCell : Map Nat := []
  validCount : Nat := 0
  staleCount : Nat := 0
  digest : Word := 0
  /-- per-position digests of the present digest tick -/
  digestParts : Map Word := []
  mismatch : Bool := false
  stagePos : Nat := 1
  stageAt : Nat := 0
  /-- resynchronisation (R254): tick m, and the positions still awaited, or still to be sent -/
  resync : Option (Nat × List Nat) := none
  /-- slots that arrived before the position's own tick-m update: position, tick, slots -/
  resyncWait : List (Nat × Nat × List Slot) := []
deriving DecidableEq, Repr, Inhabited

/-- One of the two tick summary buffers (R16). -/
structure TickBuf where
  /-- the plant time of the flip that made it readable (R18) -/
  since : Nat := 0
  tick : Nat := 0
  sample : Nat := 0
  /-- words 0-15 of R105 by chain -/
  strings : Map (List Word) := []
  /-- words 0-28 of R106 -/
  plant : List Word := []
deriving DecidableEq, Repr, Inhabited

/-- The state of a string (R124). -/
inductive StrState where
  | open_ | closing | closed | opening | tripped
deriving DecidableEq, Repr, Inhabited

/-- PROT_STR_STATE[2:0] (R124). -/
def StrState.code : StrState → Nat
  | .open_ => 0 | .closing => 1 | .closed => 2 | .opening => 3 | .tripped => 4

/-- The steps of the close and open sequences (R126, R128). -/
inductive SeqStep where
  | none_ | negOn | preOn | posOn | preOff | waitCurrent | posOff | allOff
deriving DecidableEq, Repr, Inhabited

/-- One string as the Protection Matrix holds it (chapter 4). -/
structure Str where
  state : StrState := .open_
  warnHi : Bool := false
  warnLo : Bool := false
  warnT : Bool := false
  firstCause : Nat := 0
  action : Nat := 0
  /-- PROT_CAUSE: present conditions, bits of R114 -/
  cause : BitVec 23 := 0
  nOv : Nat := 0
  nUv : Nat := 0
  nOt : Nat := 0
  nUt : Nat := 0
  nPm : Nat := 0
  nOcd : Nat := 0
  nOcc : Nat := 0
  nStale : Nat := 0
  nFeedback : Nat := 0
  /-- TC_MAX of the last 10 s, newest first: plant time and value (THERMAL_EVENT) -/
  tcHist : List (Nat × Int) := []
  lastRecord : Option Nat := none
  /-- records with every present cell VALID or REST since the chain entered service (R125) -/
  goodRecords : Nat := 0
  silentSince : Option Nat := none
  lastContactor : Option Nat := none
  seq : SeqStep := .none_
  seqAt : Nat := 0
  preCount : Nat := 0
  /-- plant time at which the OPENING was accepted (R128, R144) -/
  openingAt : Nat := 0
  /-- THERMAL_EVENT or EXT_TRIP has tripped the chain and it has not been reset since (R134 PURGE) -/
  purge : Bool := false
deriving DecidableEq, Repr, Inhabited

/-- A plant trip output (R131, R138). -/
structure Pto where
  asserted : Bool := true
  /-- chains whose trip latches it, each with the causing PTO_CLASS bits -/
  latched : List (Nat × Nat) := []
deriving DecidableEq, Repr, Inhabited

/-- The mask that the monitor's last bleed command leaves it with at sample j. -/
def BleedMask.last (b : BleedMask) (j : Nat) : Nat :=
  match b.hist.head? with
  | some (_, m, stop) => if j < stop then m else 0
  | none => 0

/-- The balancing of one monitor (R132, R62); its mask stands in the tile (R133). -/
structure MonBal where
  lastCmd : Nat := 0
  /-- out of the policy until this plant time -/
  outUntil : Nat := 0
deriving DecidableEq, Repr, Inhabited

/-- The balancing of one chain (R132, R139). -/
structure Bal where
  target : Nat := 0
  bleeding : Nat := 0
  lastEval : Nat := 0
  mons : Map MonBal := []
deriving DecidableEq, Repr, Inhabited

/-- A thermal zone (R134, R136). -/
structure Zone where
  /-- D in units of 0.1 % -/
  demand : Nat := 0
  /-- the integral of e over time, in K·s -/
  integral : Rat := 0
  heat : Bool := false
  boost : Bool := false
  vent : Nat := 0
  tzMax : Int := 0
  tzMin : Int := 0
  /-- room temperature in 0.01 °C and the plant time of its write -/
  tamb : Option (Int × Nat) := none
  evaluated : Option Nat := none
deriving DecidableEq, Repr, Inhabited

/-- A burst grant (R149, R150). -/
structure Grant where
  id : Nat := 0
  tenant : Nat := 0
  chg : Bool := false
  value : Rat := 0
  valueBits : Word := 0
  endTick : Nat := 0
deriving DecidableEq, Repr, Inhabited

/-- The unramped limits of one string: discharge then charge for 1, 10, 60, 600 s, with bound codes (R142). -/
structure StrLimit where
  amps : List Rat := []
  codes : List Nat := []
  /-- |STR_I| of the last 1,000 ticks in mA, newest first (R144) -/
  window : List Nat := []
deriving DecidableEq, Repr, Inhabited

/-- A dispatch group (R144 to R150). -/
structure Group where
  /-- computed limits, discharge then charge, four horizons -/
  comp : List Rat := List.replicate 8 0
  codes : List Nat := List.replicate 8 0
  /-- published currents -/
  pub : List Rat := List.replicate 8 0
  /-- fall per tick of a ramp in progress, per value (R145) -/
  ramp : List (Option Rat) := List.replicate 8 none
  grant : Option Grant := none
  grantCut : Bool := false
  /-- a string was lost, so the values step at once (R145) -/
  stepNow : Bool := false
  /-- the block of R147 as last computed, and as last published (R154) -/
  ready : List Word := List.replicate 20 0
  block : List Word := List.replicate 20 0
deriving DecidableEq, Repr, Inhabited

/-- A BURST_REQUEST that waits for the next tick's evaluation (R149). -/
structure BurstAsk where
  tenant : Nat := 0
  seq : Nat := 0
  group : Nat := 0
  chg : Bool := false
  kw : Bool := false
  value : Word := 0
  dur : Nat := 0
deriving DecidableEq, Repr, Inhabited

/-- The override states (R151). -/
inductive OvrState where
  | normal | armedInput | armedCommand | inForce | ending
deriving DecidableEq, Repr, Inhabited

/-- DSP_OVR_STATE (R151). -/
def OvrState.code : OvrState → Nat
  | .normal => 0 | .armedInput => 1 | .armedCommand => 2 | .inForce => 3 | .ending => 4

/-- Module-wide dispatch state (chapter 5). -/
structure Disp where
  ovr : OvrState := .normal
  ovrAt : Nat := 0
  /-- X36.EOV after its filter (R151, R460) -/
  eov : Bool := false
  lastOvrRecord : Nat := 0
  nextGrant : Nat := 1
  /-- the dispatch key: 0 none, 1 AES-128, 2 AES-256, with its words (R147) -/
  keyKind : Nat := 0
  key : List Word := []
  /-- the last tick whose limits the Keeper completed -/
  doneTick : Option Nat := none
  asks : List BurstAsk := []
deriving DecidableEq, Repr, Inhabited

end Sys2Proof
end

