-- ==== Sys2Proof/Machine/RecordsB.lean ====
section
/-! DEFINITION. Plain records of the command side: requests, tenants, the frame pool, the
configuration, partitions and Event Fabric views. Each default value is the value after reset. -/

namespace Sys2Proof

/-- What every opcode row carries beside its tenant: the plant time at which the Keeper takes it up,
SEQ, TAG, FLAGS and the payload words W2 onward (R155). -/
structure Req where
  time : Nat := 0
  seq : Nat := 0
  tag : Nat := 0
  flags : Nat := 0
  payload : List Word := []
deriving DecidableEq, Repr, Inhabited

/-- Payload word W_i, i from 2 (R155). -/
def Req.w (r : Req) (i : Nat) : Word := r.payload.getD (i - 2) 0

/-- A request packet with its opcode. LENGTH differs from the payload's length only in a malformed packet. -/
structure Packet where
  opcode : Nat := 0
  length : Nat := 0
  req : Req := {}
deriving DecidableEq, Repr, Inhabited

/-- A reply packet (R155). -/
structure Reply where
  status : Nat := 0
  flags : Nat := 0
  seq : Nat := 0
  tag : Nat := 0
  payload : List Word := []
deriving DecidableEq, Repr, Inhabited

/-- A reply waiting to be read: the words not yet read, and the words still to be acknowledged. -/
structure Unread where
  words : List Word := []
deriving DecidableEq, Repr, Inhabited

/-- A request in execution; a tenant reset marks it so that its reply is discarded (R163). -/
structure Running2 where
  pkt : Packet := {}
  discard : Bool := false
deriving DecidableEq, Repr, Inhabited

/-- A reply cache entry: W0, W1 and at most 14 payload words are kept (R165). -/
structure Cached where
  seq : Nat := 0
  opcode : Nat := 0
  reply : Reply := {}
  trunc : Bool := false
deriving DecidableEq, Repr, Inhabited

/-- A recorder record (R427) with its place in the ring. -/
structure Rec where
  source : Nat := 0
  type : Nat := 0
  inst : Nat := 127
  op : Nat := 0
  cycles : Nat := 0
  tvalid : Bool := false
  time : Nat := 0
  body : List Word := []
  offset : Nat := 0
deriving DecidableEq, Repr, Inhabited

/-- A bulk reply stream: its request and the data words not yet produced (R166). A read of the recorder also
holds the records it has not reached yet, and the words that it may still deliver (R433). -/
structure OutStream where
  pkt : Packet := {}
  object : Nat := 0
  words : List Word := []
  flags : Nat := 0
  recs : List Rec := []
  room : Nat := 0
deriving DecidableEq, Repr, Inhabited

/-- An open bulk write stream (R167). -/
structure InStream where
  pkt : Packet := {}
  object : Nat := 0
  inst : Nat := 0
  offset : Nat := 0
  count : Nat := 0
  words : List Word := []
deriving DecidableEq, Repr, Inhabited

/-- A TLS session (R180, R181). -/
structure Session where
  port : Nat := 4
  lastPacket : Nat := 0
  /-- words received that make no whole packet yet, or wait for a credit (R162, R181) -/
  words : List Word := []
deriving DecidableEq, Repr, Inhabited

/-- One tenant's window, credit book, caches and streams (R159 to R167). -/
structure Tenant where
  assembly : List Word := []
  txHeld : Bool := false
  /-- CW_FAULT: TX_NO_HEADER of the last commit attempt on the assembly in progress -/
  noHeader : Bool := false
  credits : Nat := 32
  queued : List Packet := []
  executing : List Running2 := []
  unread : List Unread := []
  cache : List Cached := []
  outStream : Option OutStream := none
  waitingStreams : List OutStream := []
  inStream : Option InStream := none
  ended : List Nat := []
  session : Option Session := none
  /-- the number of the last request started among those of all tenants: whose turn it is (R164) -/
  served : Nat := 0
deriving DecidableEq, Repr, Inhabited

/-- The frame pool's book (R170). -/
structure Pool where
  free : Nat := 16384
  transit : Nat := 0
  held : Map Nat := []
  /-- refusals of a channel in the running second, and that second -/
  refused : Map Nat := []
  refusedAt : Map Nat := []
deriving DecidableEq, Repr, Inhabited

/-- Values of parameters by address; unlisted addresses hold their default (R183). -/
abbrev ParamMap := Map (Option Word)

/-- A stored configuration copy (R399); the two flags say what R399 calls good. -/
structure CfgCopy where
  crcGood : Bool := false
  checkGood : Bool := false
  generation : Nat := 0
  time : Nat := 0
  tenant : Nat := 0
  params : ParamMap := []
deriving DecidableEq, Repr, Inhabited

/-- A commit that awaits the standby's acknowledgment, with what it commits (R176). -/
structure CommitWait where
  tenant : Nat := 0
  seq : Nat := 0
  time : Nat := 0
  params : ParamMap := []
  /-- the safety set that the commit hands to the evaluator (R378) -/
  safe : Option ParamMap := none
  /-- each copy can be written (R400) -/
  writeA : Bool := true
  writeB : Bool := true
deriving DecidableEq, Repr, Inhabited

/-- The configuration (R174 to R178, R399 to R403). -/
structure Cfg where
  active : ParamMap := []
  /-- what was in force before the last change, and the tick from which the active values govern (R107) -/
  before : ParamMap := []
  activeFrom : Nat := 0
  generation : Nat := 0
  commitTime : Nat := 0
  commitTenant : Nat := 0
  copyA : CfgCopy := {}
  copyB : CfgCopy := {}
  lock : Option Nat := none
  /-- BROKEN_PENDING with the detail of R178 -/
  broken : Option Nat := none
  staged : ParamMap := []
  /-- the staged image of a bulk write of object 0x01 replaces every parameter -/
  stagedWhole : Bool := false
  /-- the staged safety set words (R378) -/
  stagedSafe : ParamMap := []
  /-- committed values with the tick from which they act (R107) -/
  due : List (Nat × ParamMap) := []
  wait : Option CommitWait := none
  fallback : Bool := false
  defaulted : Bool := false
  /-- the copy to be rewritten by the Keeper: 0 = A, 1 = B (R401) -/
  repair : Option Nat := none
  /-- plant time of the reset that follows a commit in factory defaults (R403) -/
  resetAt : Option Nat := none
deriving DecidableEq, Repr, Inhabited

/-- PART_STATE (R211). -/
inductive PartState where
  | stopped | starting | run | held | faulted
deriving DecidableEq, Repr, Inhabited

/-- The code of PART_STATE. -/
def PartState.code : PartState → Nat
  | .stopped => 0 | .starting => 1 | .run => 2 | .held => 3 | .faulted => 4

/-- A stored partition program image (R196): header words 0-7, program, initial data. -/
structure PartImage where
  header : List Word := []
  program : List Word := []
  data : List Word := []
deriving DecidableEq, Repr, Inhabited

/-- A force entry (R228, R234). -/
structure Force where
  addr : Nat := 0
  bit : Nat := 0
  width : Nat := 1
  value : Nat := 0
deriving DecidableEq, Repr, Inhabited

/-- The figures of one completed cycle (R234 SCAN_STAT). -/
structure CycleStat where
  elapsed : Nat := 0
  late : Nat := 0
  exec : Nat := 0
  overrun : Bool := false
deriving DecidableEq, Repr, Inhabited

/-- A mode request that waits for the current cycle's bus cycle (R226). -/
inductive ModeAsk where
  | stop (tenant seq : Nat)
  | hold (tenant seq : Nat)
  | step (tenant seq : Nat)
deriving DecidableEq, Repr, Inhabited

/-- One partition (chapters 7 and 8). -/
structure Part where
  state : PartState := .stopped
  fault : Nat := 0
  faultPc : Nat := 0
  restarts : List Nat := []
  restartAt : Option Nat := none
  execUs : Nat := 0
  image : Option PartImage := none
  /-- the words of an image that is written in several streams (R167, R197) -/
  imgBuf : List Word := []
  /-- program, data, retained working copy and output image, by native byte address (R193) -/
  mem : Memory := []
  /-- the two non-volatile buffers of the retained region; the flag says that B is current (R231) -/
  retA : Memory := []
  retB : Memory := []
  retCurB : Bool := false
  retAt : Nat := 0
  /-- outputs are held safe until the end of the first cycle (R201, R226) -/
  outSafe : Bool := true
  tRun : Nat := 0
  inCycle : Bool := false
  cycleStart : Nat := 0
  feedAt : Nat := 0
  sysCycle : Nat := 0
  sysCause : Nat := 0
  nextCause : Nat := 0
  lastUs : Nat := 0
  first : Bool := true
  takeover : Bool := false
  subst : Nat := 0
  evtCount : Map Nat := []
  evtSat : Nat := 0
  /-- event tasks that have run in the present cycle -/
  evtRan : List Nat := []
  /-- the latched tick summary buffer (R18) -/
  latched : TickBuf := {}
  /-- the latched input image words by offset (R218) -/
  input : Map Word := []
  /-- last valid values of substitutable items, by offset (R220) -/
  lastValid : Map (Option Word) := []
  forces : List Force := []
  /-- mode requests that wait for the end of the cycle, first in, first out -/
  asks : List ModeAsk := []
  /-- the force list as this cycle took it (R228) -/
  cycleForces : List Force := []
  /-- the next instant of the grid (R215) -/
  nextGrid : Nat := 0
  scanCount : Nat := 0
  elapsedUs : Nat := 0
  lateUs : Nat := 0
  overruns : Nat := 0
  skipped : Bool := false
  /-- a snapshot of Newt mode waits for the end of the cycle (R256) -/
  newtDue : Bool := false
  /-- the partition resumed within a stepped cycle: its budget restarts there (R192) -/
  resumed : Bool := false
  stats : List CycleStat := []
  eccCount : Nat := 0
  eccAt : Nat := 0
  errAt : Option Nat := none
  /-- SYS_CAUSE bits that error tasks raised since, and how often (R224) -/
  errBits : Nat := 0
  errCount : Nat := 0
  /-- bus cycles since entering RUN (R354) -/
  busCount : Nat := 0
  cmpHi : Word := 0
deriving DecidableEq, Repr, Inhabited

/-- The slice that began last on a shared core pair (R189): its partition, its instant, and the instant at which its
pair frame began. -/
structure Slice where
  part : Nat := 0
  since : Nat := 0
  frame : Nat := 0
deriving DecidableEq, Repr, Inhabited

/-- What an Event Fabric source keeps beside its bits (R205, R209). -/
structure Src where
  prio : Nat := 128
  count : Nat := 0
  sat : Bool := false
deriving DecidableEq, Repr, Inhabited

/-- An Event Fabric view (R205 to R210). -/
structure View where
  /-- PRIGROUP as it reads back -/
  prigroup : Nat := 7
  /-- PRIGROUP as it governs ordering (R208) -/
  effGroup : Nat := 7
  deliver : Bool := false
  enable : BitVec 1024 := 0
  pending : BitVec 1024 := 0
  srcs : Map Src := []
  /-- the active stack, top first: source and priority at claim -/
  stack : List (Nat × Nat) := []
deriving DecidableEq, Repr, Inhabited

/-- A plant-time compare unit (R269, R270). -/
structure Cmp where
  armed : Bool := false
  periodic : Bool := false
  long : Bool := false
  tgtLo : Word := 0
  tgtHi : Word := 0
  period : Word := 0
deriving DecidableEq, Repr, Inhabited

end Sys2Proof
end

