-- ==== Sys2Proof/Machine/RecordsC.lean ====
section
/-! DEFINITION. Plain records of the pair link, time, networks, loop engine, feedback, analog,
digital and CAN units. Each default value is the value after reset. -/

namespace Sys2Proof

/-- The pair roles (R239). -/
inductive Role where
  | offline | alone | active | standby | notReady | newt | single
deriving DecidableEq, Repr, Inhabited

/-- The role code of R239. -/
def Role.code : Role → Nat
  | .offline => 0 | .alone => 1 | .active => 2 | .standby => 3 | .notReady => 4 | .newt => 5
  | .single => 6

/-- The causes of a give-up (R244). -/
inductive GiveUpCause where
  | lockstep | keeperMemory | lossD41 | keeperWdt | ioLoss | junction | ownPulse | senseAbsent
  | contention | switchover
deriving DecidableEq, Repr, Inhabited

/-- What a control block of the partner carries (R235, R239, R243, R264, R266). -/
structure ControlBlock where
  plant : Nat := 0
  role : Role := .offline
  sideB : Bool := false
  release : Nat := 0
  generation : Nat := 0
  crc : Word := 0
  images : List Word := []
  timeState : Nat := 0
deriving DecidableEq, Repr, Inhabited

/-- The string part of the Keeper mirror set (R252). -/
structure StrMirror where
  chain : Nat := 0
  state : StrState := .open_
  firstCause : Nat := 0
  action : Nat := 0
  /-- the last CONTACTOR command, and when an OPENING was accepted -/
  contactor : Option Nat := none
  openingAt : Nat := 0
deriving DecidableEq, Repr, Inhabited

/-- A slot's mirrored record (R252). -/
structure SlotRec where
  slot : Nat := 0
  integ : Int := 0
  d : Int := 0
  notch : List Int := []
  r : Int := 0
  v : Int := 0
  a : Int := 0
  sample : Nat := 0
deriving DecidableEq, Repr, Inhabited

/-- The mirror set of a partition (R252). -/
structure PartMirror where
  retained : Memory := []
  data : Memory := []
  output : Memory := []
  forces : List Force := []
  state : PartState := .stopped
  cycle : Nat := 0
deriving DecidableEq, Repr, Inhabited

/-- The Keeper mirror set (R252). -/
structure KeeperMirror where
  strings : List StrMirror := []
  /-- the grants in force, and the next grant ID -/
  grants : List (Nat × Grant) := []
  nextGrant : Nat := 1
  ovr : OvrState := .normal
  /-- published group values and ramps -/
  groups : List (Nat × List Rat) := []
  ramps : List (Nat × List (Option Rat)) := []
  /-- of each PTO: the chains that latch it with their causing classes -/
  ptoLatches : List (Nat × List (Nat × Nat)) := []
  /-- balancing masks: chain, position, effective tick, mask, tick at which the timer runs out -/
  masks : List (Nat × Nat × Nat × Nat × Nat) := []
  /-- impedance starts: chain, position, sequence with its first tick -/
  imped : List (Nat × Nat × ImpRun) := []
  lockHeld : Bool := false
  /-- VERIFY decisions since the last point of consistency: chain, hold, REASON -/
  decisions : List (Nat × Bool × Nat) := []
deriving DecidableEq, Repr, Inhabited

/-- The loop and valve records (R252). -/
structure LoopMirror where
  slots : List SlotRec := []
  /-- valve port and phase -/
  valves : List (Nat × Nat) := []
deriving DecidableEq, Repr, Inhabited

/-- A mirror set's content, by set: 0-11 partitions, 12 Keeper, 13 loop and valve records. -/
inductive MirrorBody where
  | part (p : Nat) (m : PartMirror)
  | keeper (m : KeeperMirror)
  | loops (m : LoopMirror)
deriving DecidableEq, Repr, Inhabited

/-- The number of the set a body belongs to. -/
def MirrorBody.set : MirrorBody → Nat
  | .part p _ => p
  | .keeper _ => 12
  | .loops _ => 13

/-- A delta of a mirror set: its number, its base is the number before it (R251). Of a partition's memory it carries the 64-byte
blocks that changed, each under its byte address / 64, with their CRC-32C; `body` is the rest of the set, without memory. -/
structure Delta where
  num : Nat := 0
  base : Nat := 0
  body : MirrorBody := .keeper {}
  blocks : List (Nat × List Byte) := []
  crc : Word := 0
deriving DecidableEq, Repr, Inhabited

/-- One mirror set on either side (R251). -/
structure MirrorSet where
  /-- number of the last delta applied (standby) or sent (active): MIRROR_LAST -/
  last : Nat := 0
  current : Option MirrorBody := none
  /-- a snapshot has been applied since the link came up -/
  snapped : Bool := false
  /-- a delta refers to a base that was never received -/
  missing : Bool := false
  asked : Bool := false
  kept : List Delta := []
  /-- the content that the last delta sent stands for (active) -/
  sent : Option MirrorBody := none
deriving DecidableEq, Repr, Inhabited

/-- The Pair Link and Mirror Unit (chapter 9). -/
structure Pair where
  role : Role := .offline
  partner : Option Role := none
  /-- PAIR_MODE in force since the last start -/
  mode : Nat := 0
  lane1 : Bool := false
  lane2 : Bool := false
  partnerPulse : Bool := false
  sense : Bool := false
  holdFault : Bool := false
  /-- the module drives the pulse -/
  driving : Bool := false
  confirmAt : Nat := 0
  claimAt : Option Nat := none
  /-- the partner's pulse has been absent since -/
  absentAt : Option Nat := none
  /-- partition images that await the standby's acknowledgment: partition, tenant, SEQ, words (R197) -/
  imgWaits : List (Nat × Nat × Nat × Nat) := []
  contended : Bool := false
  /-- the module's own pulse was seen during the claim -/
  seenOwn : Bool := false
  /-- tiles resynchronised since the link came up, with no digest mismatch since (R243 bit 7, R254) -/
  resynced : List Nat := []
  /-- the partner's configuration or images have been asked for since the link came up (R255) -/
  takeupAsked : Bool := false
  cfgTakeup : Bool := false
  imageTakeup : Bool := false
  sideConflict : Bool := false
  fwMismatch : Bool := false
  /-- OFFLINE is kept until SYS_RESET, FW_ACTIVATE or power-on (R242) -/
  stayOffline : Bool := false
  switchAt : Option Nat := none
  giveUpSeen : Option Nat := none
  giveUpAt : Option Nat := none
  /-- output stages frozen since (R245) -/
  frozen : Option Nat := none
  /-- plant time of the last first output cycle of a takeover (R247) -/
  outputAt : Nat := 0
  /-- arrival of FIRST_OUTPUT, from which the frozen analog outputs ramp to 0 (R316) -/
  rampDown : Option Nat := none
  linkUpAt : Option Nat := none
  partnerBlock : ControlBlock := {}
  sets : Map MirrorSet := []
  /-- the last Croak map from the B-end holder and its time (R49, R250) -/
  mapWord : BitVec 64 := 0
  mapAt : Option Nat := none
  /-- holds decided by the running module for chains under VERIFY (R123) -/
  newts : Map (Option PartMirror) := []
  sentGiveUp : Bool := false
deriving DecidableEq, Repr, Inhabited

/-- TIME_STATE (R264). -/
inductive TimeState where
  | free | acquiring | locked | holdover | following
deriving DecidableEq, Repr, Inhabited

/-- The code of TIME_STATE. -/
def TimeState.code : TimeState → Nat
  | .free => 0 | .acquiring => 1 | .locked => 2 | .holdover => 3 | .following => 4

/-- An Announce message's data set (R264; fields of IEEE 1588). -/
structure Announce where
  /-- domainNumber (R273 TIME_DOMAIN) -/
  domain : Nat := 0
  gm : Nat := 0
  prio1 : Nat := 128
  cls : Nat := 248
  accuracy : Nat := 0
  variance : Nat := 0
  prio2 : Nat := 128
  steps : Nat := 0
  intervalNs : Nat := 1000000000
deriving DecidableEq, Repr, Inhabited

/-- A PTP message on a port, with its domain (R262 to R264, R273). -/
inductive PtpMsg where
  | announce (a : Announce)
  | sync (domain : Nat) (t1 : Option Nat) (t2 : Nat)
  | followUp (domain : Nat) (t1 : Nat)
  | delayResp (domain : Nat) (t3 t4 : Nat)
  | delayReq (domain : Nat) (t3 : Nat)
  | other
deriving DecidableEq, Repr, Inhabited

/-- The domain of a message. -/
def PtpMsg.domain : PtpMsg → Nat
  | .announce a => a.domain
  | .sync d _ _ => d
  | .followUp d _ => d
  | .delayResp d _ _ => d
  | .delayReq d _ => d
  | .other => 0

/-- A foreign master of a PTP port: its latest Announce, and the arrival times, newest first. -/
structure Foreign where
  data : Announce := {}
  heard : List Nat := []
deriving DecidableEq, Repr, Inhabited

/-- What a PTP port remembers. -/
structure PtpPort where
  /-- the foreign masters heard, one for each clockIdentity -/
  foreign : List Foreign := []
  t2 : Option Nat := none
  t1 : Option Nat := none
  delay : Int := 0
  state : Nat := 1
  lastSync : Nat := 0
  lastAnnounce : Nat := 0
deriving DecidableEq, Repr, Inhabited

/-- The plant-time counter and its discipline (R261, R264). -/
structure TimeUnit where
  state : TimeState := .free
  offset : Int := 0
  rate : Int := 0
  /-- the slew still to be made, in ns -/
  slew : Int := 0
  lockedAt : Option Nat := none
  gm : Nat := 0
  good : Nat := 0
  ports : Map PtpPort := []
  /-- the port with the selected master -/
  selected : Option Nat := none
  /-- the data set of the master selected last -/
  master : Option Announce := none
  lastHeard : Nat := 0
  partnerState : Nat := 0
  /-- step 6 of the start: the wait of R397 counts from here -/
  waitFrom : Option Nat := none
  waitOver : Bool := false
deriving DecidableEq, Repr, Inhabited

/-- A frame in a launch-time queue (R267). -/
structure LaunchFrame where
  launch : Nat := 0
  dest : Word := 0
  port : Nat := 0
  bytes : Nat := 0
  data : List Word := []
deriving DecidableEq, Repr, Inhabited

/-- One Ethernet port (R259, R273). -/
structure NetPort where
  link : Bool := false
  lateDrops : Nat := 0
  rxDrops : Nat := 0
  oneLan : Nat := 0
deriving DecidableEq, Repr, Inhabited

/-- The network unit (chapter 10). -/
structure Net where
  ports : Map NetPort := []
  /-- launch queues by port index (1 = PRP pair, 2 = port 3, 3 = port 4) × 8 + queue -/
  queues : Map (List LaunchFrame) := []
  /-- PRP duplicate-discard entries: source node, sequence number, time, LAN -/
  prp : List (Nat × Nat × Nat × Nat) := []
  /-- PRP node table: node and time last heard -/
  nodes : List (Nat × Nat) := []
  prpSeq : Nat := 0
  supervisionAt : Nat := 0
deriving DecidableEq, Repr, Inhabited

/-- The states of a loop slot (R284). -/
inductive LoopState where
  | off | run | track | stopping
deriving DecidableEq, Repr, Inhabited

/-- The code of LOOP_ST[2:0]. -/
def LoopState.code : LoopState → Nat
  | .off => 0 | .run => 1 | .track => 2 | .stopping => 3

/-- A motion that a profile has planned (R278, R279): its terms (shape, VMAX, AMAX, JMAX and the period), its target and the r, v and a
at which it began, with 32 fraction bits, the samples that a POLY5 lasts, and the samples since it began. -/
structure Move where
  terms : List Int := []
  target : Int := 0
  r : Int := 0
  v : Int := 0
  a : Int := 0
  samples : Nat := 0
  done : Nat := 0
deriving DecidableEq, Repr, Inhabited

/-- A loop slot (R276 to R287). Signals are Q16.16; r, v, a carry 32 fraction bits; i is the 64-bit accumulator. -/
structure Loop where
  state : LoopState := .off
  r : Int := 0
  v : Int := 0
  a : Int := 0
  i : Int := 0
  d : Int := 0
  y : Int := 0
  u : Int := 0
  e : Int := 0
  /-- r with the injection at the set-point, as the sample used it (R276) -/
  rOut : Int := 0
  uPre : Int := 0
  injected : Int := 0
  /-- the output at the previous instant, which slots of a lower or equal number read (R277) -/
  uPrev : Int := 0
  /-- plant time of the latest sample -/
  at_ : Nat := 0
  /-- notch states x1 x2 w1 w2 of notches 1 and 2 -/
  notch : List Int := [0, 0, 0, 0, 0, 0, 0, 0]
  /-- LOOP_SP as the owner's bus cycle last transferred it -/
  sp : Int := 0
  track : Int := 0
  profileDone : Bool := false
  /-- u was clamped at LOOP_UMAX or at LOOP_UMIN in the latest sample -/
  clampHi : Bool := false
  clampLo : Bool := false
  sat : Bool := false
  arith : Bool := false
  fbInvalid : Bool := false
  destFault : Bool := false
  satCount : Nat := 0
  arithCount : Nat := 0
  fbSince : Option Nat := none
  /-- a generator was attached and running in the latest sample -/
  injecting : Bool := false
  /-- the motion in progress -/
  move : Option Move := none
  /-- where the profile comes to rest while STOPPING, with 32 fraction bits -/
  stopTarget : Option Int := none
  /-- the next start is the first one after a cold takeover, with the integrator at 0 (R248) -/
  cold : Bool := false
deriving DecidableEq, Repr, Inhabited

/-- An injection generator (R288). -/
structure Inj where
  running : Bool := false
  armed : Bool := false
  startAt : Nat := 0
  lfsr : Nat := 2047
  chip : Nat := 0
  value : Int := 0
deriving DecidableEq, Repr, Inhabited

/-- The trace states (R290). -/
inductive TraceState where
  | idle | armed | triggered | done
deriving DecidableEq, Repr, Inhabited

/-- The code of TRACE_STATUS W2. -/
def TraceState.code : TraceState → Nat
  | .idle => 0 | .armed => 1 | .triggered => 2 | .done => 3

/-- The trace (R289, R290): samples oldest first, each with its plant time and channel words. -/
structure Trace where
  state : TraceState := .idle
  samples : List (Nat × List Word) := []
  trigIndex : Nat := 0
  /-- channel 0 and LOOP_ST bits [9:0] of its slot at the previous sample -/
  prev0 : Option Word := none
  prevSt : Option Nat := none
  /-- TRACE_TRIGGER, or the start of an injection, since the last sample looked at -/
  forced : Bool := false
  injStarted : Bool := false
deriving DecidableEq, Repr, Inhabited

/-- VALVE_ST state codes (R295). -/
inductive ValveState where
  | safe | run | standstill | fault
deriving DecidableEq, Repr, Inhabited

/-- The code of VALVE_ST[1:0]. -/
def ValveState.code : ValveState → Nat
  | .safe => 0 | .run => 1 | .standstill => 2 | .fault => 3

/-- A valve actuator port (R291 to R297). -/
structure Valve where
  state : ValveState := .safe
  phase : Nat := 0
  pos : Int := 0
  seq : Nat := 0
  mode : Nat := 0
  scale : Nat := 0
  linkFault : Bool := false
  /-- OVERCURRENT, OVERTEMP, UNDERVOLT, OPEN_PHASE, bit 0 to bit 3 -/
  bridge : Nat := 0
  missed : Nat := 0
  imeas : Nat := 0
  temp : Nat := 0
  crcErr : Nat := 0
  /-- the command word as last transferred by the owner's bus cycle -/
  cmd : Word := 0
  /-- speed from the slot that has this port as destination -/
  loopSpeed : Int := 0
  speed : Int := 0
  /-- speed has been 0 since -/
  stillSince : Option Nat := none
  /-- ENABLE has been 0 in a bus cycle since the fault, and 1 in a later one (R295) -/
  seenOff : Bool := false
  rearmed : Bool := false
  /-- the latest update's uplink has been good -/
  answered : Bool := true
  /-- the DL driver is enabled (R457) -/
  driver : Bool := false
deriving DecidableEq, Repr, Inhabited

/-- A motion feedback port (R299 to R312). -/
structure Fb where
  /-- the running position, wrapping 32 bits -/
  count : Word := 0
  /-- position of the latest complete sample -/
  pos : Word := 0
  /-- the position captured last, which a loss of D45 or a mode change leaves (R220) -/
  captured : Word := 0
  /-- bits [13:0] of FB_STATUS as of the latest sample (R312) -/
  stat : BitVec 14 := 0
  /-- the last valid HALL sector, 0 = none yet -/
  lastSector : Nat := 0
  /-- QUAD_ERR and HALL_SEQ collected since the last sample -/
  quadNow : Bool := false
  seqNow : Bool := false
  mismatch : Bool := false
  mismatchAt : Option Nat := none
  leapArmed : Bool := false
  leapOvr : Bool := false
  leapNext : Word := 0
  /-- LFO is high until this plant time -/
  leapEnd : Option Nat := none
  /-- the LEAP bit as the owner's bus cycle last transferred it -/
  leapOn : Bool := false
  indexCount : Nat := 0
  errCount : Nat := 0
  speed : Word := 0
  /-- position changes of the last 128 samples, newest first -/
  hist : List Int := []
  /-- levels of IN1, IN2, IN3 after the filter -/
  levels : BitVec 3 := 0
  indexCap : Word := 0
  indexDiff : Word := 0
  /-- a position and a Leapfrog command that apply at the next sample instant (R304, R307) -/
  posSet : Option Word := none
  leapSet : Option (Word × Bool) := none
  /-- the last good POS of SERIAL mode -/
  serLast : Option Nat := none
  serDelay : Nat := 0
deriving DecidableEq, Repr, Inhabited

/-- A HART transaction in progress (R329). -/
structure HartRun where
  tenant : Nat := 0
  seq : Nat := 0
  tries : Nat := 0
  req : List Word := []
deriving DecidableEq, Repr, Inhabited

/-- An analog loop channel (R315 to R331). -/
structure Ana where
  code : Nat := 0
  flags : BitVec 16 := 0
  volt : Nat := 0
  miswire : Nat := 0
  hartErr : Nat := 0
  /-- the filter's value, times 65,536 (R318) -/
  filt : Nat := 0
  /-- LIMIT with V_CH above 20 V has held since (R322) -/
  limitSince : Option Nat := none
  /-- opened under R322: MISWIRE holds -/
  opened : Bool := false
  /-- the instant from which the 2 s of the next retry count -/
  openedAt : Nat := 0
  /-- closed for a retry since -/
  retrying : Option Nat := none
  /-- consecutive samples below 21.0 mA in a recovery (R322) -/
  clean : Nat := 0
  recovering : Bool := false
  /-- ANA_TEST in progress: tenant, SEQ, and its end -/
  test : Option (Nat × Nat × Nat) := none
  openSince : Option Nat := none
  compSince : Option Nat := none
  /-- the output code as last transferred or supplied -/
  out : Nat := 0
  /-- the frozen code from which the ramp to 0 began (R316) -/
  rampFrom : Nat := 0
  hart : Option HartRun := none
  /-- the channel passes through OFF for one sample after a mode change (R315) -/
  offOnce : Bool := false
deriving DecidableEq, Repr, Inhabited

/-- A digital input (R334, R336). -/
structure Di where
  value : Bool := false
  valid : Bool := false
deriving DecidableEq, Repr, Inhabited

/-- A digital output (R338 to R342). -/
structure Do where
  /-- the transferred command -/
  cmd : Bool := false
  /-- the driver is on -/
  on : Bool := false
  shutAt : Option Nat := none
  /-- its readback disagrees with its command for more than 5 ms -/
  mismatch : Bool := false
  readback : Bool := false
  changedAt : Nat := 0
deriving DecidableEq, Repr, Inhabited

/-- A CAN frame (R345, R348), with the plant time in ns of the hard-synchronisation edge of its start of
frame where it has been on the bus (R353). -/
structure CanFrame where
  id : Nat := 0
  ide : Bool := false
  fdf : Bool := false
  brs : Bool := false
  esi : Bool := false
  remote : Bool := false
  data : List Byte := []
  sof : Nat := 0
deriving DecidableEq, Repr, Inhabited

/-- A CAN message object (R348 to R355). -/
structure CanObj where
  /-- the stored frame's bytes; of a transmit object, the bytes last queued -/
  data : List Byte := []
  esi : Bool := false
  brs : Bool := false
  fdf : Bool := false
  ts : Word := 0
  /-- the pending frame: when it was queued, and its data with the time of each copy, newest first (R355) -/
  pend : Option (Nat × List (List Byte × Nat)) := none
  /-- what was pending when bus monitoring began, and that instant: a frame in transmission then is completed (R359) -/
  leaving : Option (Nat × List (List Byte × Nat)) := none
  /-- the data last queued and the time of it (R354) -/
  lastData : Option (List Byte) := none
  lastAt : Nat := 0
deriving DecidableEq, Repr, Inhabited

/-- A CAN FD controller (R345 to R361). -/
structure Can where
  /-- 0 ERROR_ACTIVE, 1 ERROR_PASSIVE, 2 BUS_OFF, 3 OFF -/
  state : Nat := 3
  recovering : Bool := false
  tec : Nat := 0
  recCnt : Nat := 0
  rxUnmatched : Nat := 0
  poolRefused : Nat := 0
  txLate : Nat := 0
  busOff : Nat := 0
  tdcNs : Nat := 0
  objs : Map CanObj := []
  /-- UNREAD by partition × 64 + object -/
  unread : Map Nat := []
  lostTotal : Map Nat := []
  /-- dispatch frames pending ahead of every partition frame -/
  dispatch : List CanFrame := []
  /-- when each was queued, by identifier -/
  dispAt : Map Nat := []
  /-- those pending when bus monitoring began, and that instant -/
  leaving : Option (Nat × List CanFrame) := none
deriving DecidableEq, Repr, Inhabited

/-- A bus or transmit error as ISO 11898-1 counts it (R357). -/
inductive CanErr where
  | rxError | rxDominantAfterFlag | txError | txDominantRun
deriving DecidableEq, Repr, Inhabited

end Sys2Proof
end

