-- ==== Sys2Proof/Machine/RecordsD.lean ====
section
/-! DEFINITION. Plain records of the Safety Evaluator, identity and firmware, power, recorder and
display. Each default value is the value after reset. -/

namespace Sys2Proof

/-- SAFE_STATE (R365). -/
inductive SafeState where
  | starting | noSet | unconfirmed | run | lockout
deriving DecidableEq, Repr, Inhabited

/-- The code of SAFE_STATE. -/
def SafeState.code : SafeState → Nat
  | .starting => 0 | .noSet => 1 | .unconfirmed => 2 | .run => 3 | .lockout => 4

/-- SF_STATE (R370). -/
inductive SfState where
  | demand | release | fault | waitFirstOpen | waitRelease
deriving DecidableEq, Repr, Inhabited

/-- The code of SF_STATE. -/
def SfState.code : SfState → Nat
  | .demand => 0 | .release => 1 | .fault => 2 | .waitFirstOpen => 3 | .waitRelease => 4

/-- SP_STATE (R375). -/
inductive SpState where
  | off | readyReset | on | fault
deriving DecidableEq, Repr, Inhabited

/-- The code of SP_STATE. -/
def SpState.code : SpState → Nat
  | .off => 0 | .readyReset => 1 | .on => 2 | .fault => 3

/-- A safety input as one channel holds it (R367, R369). -/
structure SafeIn where
  /-- the reading outside test pulses -/
  raw : Bool := false
  filt : Bool := false
  /-- cycles for which the reading has differed from the filtered value -/
  held : Nat := 0
deriving DecidableEq, Repr, Inhabited

/-- A safety function (R370 to R373). -/
structure SafeFn where
  state : SfState := .demand
  discrepancy : Bool := false
  testFail : Bool := false
  crossShort : Bool := false
  /-- cycles for which inputs a and b, and c and d, have disagreed -/
  discAB : Nat := 0
  discCD : Nat := 0
  /-- both inputs have read 0 together (both buttons have been released) since the fault or the start -/
  opened : Bool := false
  /-- TWOHAND: cycles for which each button has been pressed -/
  pressL : Nat := 0
  pressR : Nat := 0
deriving DecidableEq, Repr, Inhabited

/-- An OSSD pair (R375, R376). -/
structure SafePair where
  state : SpState := .off
  stopReq : Bool := false
  stuck : Bool := false
  low : Bool := false
  edm : Bool := false
  /-- cycles for which the reset input has read 1, and whether that pulse counts -/
  resetFor : Nat := 0
  resetOk : Bool := false
  /-- cycles since the pair last switched, and whether the EDM input has followed -/
  since : Nat := 0
  edmDone : Bool := true
  /-- cycles for which the two channels' decisions have differed -/
  differ : Nat := 0
deriving DecidableEq, Repr, Inhabited

/-- The status of an evaluator as the Keeper holds it (R382, R386). -/
structure SafeView where
  words : List Word := []
  at_ : Option Nat := none
deriving DecidableEq, Repr, Inhabited

/-- The Safety Evaluator (chapter 16). -/
structure SafeEval where
  powered : Bool := false
  state : SafeState := .starting
  scv : Word := 0
  fault : Nat := 0
  /-- SAFE voltage, LSB 10 mV -/
  supply : Nat := 0
  evtLost : Nat := 0
  /-- cycles of 500 µs since its start -/
  cycles : Nat := 0
  /-- the safety set held, one copy per channel (R378) -/
  setA : ParamMap := []
  setB : ParamMap := []
  setGood : Bool := false
  confirmed : Bool := false
  band : Bool := false
  inA : Map SafeIn := []
  inB : Map SafeIn := []
  differ : Map Nat := []
  fns : Map SafeFn := []
  pairs : Map SafePair := []
  /-- the event buffer: entries and their milliseconds (R384) -/
  events : List (Word × Nat) := []
  own : SafeView := {}
  partner : SafeView := {}
deriving DecidableEq, Repr, Inhabited

/-- Firmware slot states (R392). -/
inductive FwState where
  | empty | inactive | active | trial
deriving DecidableEq, Repr, Inhabited

/-- The code of a slot state in FW_STATUS. -/
def FwState.code : FwState → Nat
  | .empty => 0 | .inactive => 1 | .active => 2 | .trial => 3

/-- A firmware slot: its image words and whether its HASH and SIGNATURE verify (R390 to R392). -/
structure FwSlot where
  state : FwState := .empty
  words : List Word := []
  hashGood : Bool := false
  sigGood : Bool := false
deriving DecidableEq, Repr, Inhabited

/-- Identity, firmware and start-up (chapter 17). -/
structure Ident where
  serial : Nat := 0
  hwRev : Nat := 0
  sideB : Bool := false
  /-- the side set by PAIR_SET_SIDE, effective at the next module reset -/
  sideNext : Bool := false
  deviceCert : List Byte := []
  operatorCert : Option (List Byte) := none
  /-- the three MAC addresses of R388 -/
  macs : List Nat := []
  /-- slot 0 as the factory ships it (R388 to R392 name no release; log entry 15) -/
  slot0 : FwSlot := { state := .active, words := [0x4B460001], hashGood := true, sigGood := true }
  slot1 : FwSlot := {}
  trialCount : Nat := 0
  booted : Nat := 0
  antiRollback : Nat := 0
  bootedAt : Nat := 0
  recovery : Bool := false
  reverted : Option (Nat × Nat) := none
  /-- the lock record of the store: the tenant that held the lock (R177) -/
  lockRecord : Option Nat := none
deriving DecidableEq, Repr, Inhabited

/-- What the Keeper is doing (SYS_STATE W2), with the module stopped as a fourth case. -/
inductive KeeperState where
  | starting | running | safe | down
deriving DecidableEq, Repr, Inhabited

/-- SYS_STATE W2. -/
def KeeperState.code : KeeperState → Nat
  | .starting => 0 | .running => 1 | .safe => 2 | .down => 0

/-- The power states of the module (R413 to R421). -/
inductive PowerState where
  | off | run | hibernate | stopped | hold
deriving DecidableEq, Repr, Inhabited

/-- A power domain (R408 to R412). -/
inductive DomState where
  | down | idle | run
deriving DecidableEq, Repr, Inhabited

/-- A domain with its time-wheel entry and its retry history (R410, R412). -/
structure Domain where
  state : DomState := .down
  wake : Option Nat := none
  lost : Bool := false
  attempts : List Nat := []
  retryAt : Option Nat := none
deriving DecidableEq, Repr, Inhabited

/-- Power, clocks and resets (chapter 18). -/
structure Power where
  state : PowerState := .off
  doms : Map Domain := []
  /-- input voltages X1, X2, LSB 10 mV -/
  supplyA : Nat := 0
  supplyB : Nat := 0
  tj : Int := 0
  thermWarn : Bool := false
  /-- consecutive readings of 125 °C or above -/
  hot : Nat := 0
  /-- an orderly stop by a thermal shutdown, or by a brown-out, awaits its restart (R416, R421) -/
  thermStop : Bool := false
  brownStop : Bool := false
  coolSince : Option Nat := none
  causes : BitVec 7 := 0
  /-- causes collected for the next start -/
  nextCauses : BitVec 7 := 0
  faultResets : List Nat := []
  opSeconds : Nat := 0
  opSince : Nat := 0
  cycles : Nat := 0
  confirmAt : Nat := 0
  keeper : KeeperState := .down
  /-- the Matrix takes the Keeper as running (PTO class bit 8) -/
  keeperOk : Bool := false
  hibAsk : Option (Nat × Nat × Nat) := none
  /-- Matrix events held through HIBERNATE, and the number beyond 16 (R414) -/
  heldEvents : List Rec := []
  heldLost : Nat := 0
  rail : Bool := false
  /-- since power-on a Keeper has applied a valid configuration (R131) -/
  applied : Bool := false
deriving DecidableEq, Repr, Inhabited

/-- The event recorder (R427 to R434). -/
structure Recorder where
  recs : List Rec := []
  wpos : Nat := 0
  overwritten : Nat := 0
  /-- records that wait in their source, and events counted as lost there (R431) -/
  waiting : Map (List Rec) := []
  lost : Map Nat := []
deriving DecidableEq, Repr, Inhabited

/-- A partition's user zone of the display (R438). -/
structure DispZone where
  segLo : Word := 0
  segHi : Word := 0
  comLo : Word := 0
  comHi : Word := 0
  latchLo : Word := 0
  latchHi : Word := 0
  pending : Bool := false
  shown : Bool := false
deriving DecidableEq, Repr, Inhabited

/-- The front display (R435 to R440). -/
structure Display where
  zones : Map DispZone := []
  glassLo : Word := 0
  glassHi : Word := 0
  testUntil : Option Nat := none
  /-- the last start of line 8 (R435) -/
  latchAt : Option Nat := none
deriving DecidableEq, Repr, Inhabited

/-- A symbol of the chain's line, one bit time long (R31). -/
inductive Sym where
  | bit (b : Bool)
  | j | k
deriving DecidableEq, Repr, Inhabited

/-- What a chain port sends beside CMDs (R31, R33). -/
inductive LineItem where
  | sync | solicit | trip | enum | echo | croak | abort
deriving DecidableEq, Repr, Inhabited

/-- The terms of a TLS 1.3 session (R179). -/
structure TlsTerms where
  tcpPort : Nat := 30410
  suites : List String := ["TLS_AES_256_GCM_SHA384", "TLS_AES_128_GCM_SHA256"]
  keyExchange : String := "secp384r1"
  signature : String := "ecdsa_secp384r1_sha384"
  /-- a client certificate, X.509 v3 on P-384, is required -/
  clientCert : Bool := true
  /-- 0-RTT data and pre-shared-key resumption are refused -/
  earlyData : Bool := false
  resumption : Bool := false
  /-- the certificate that the module presents -/
  certificate : List Byte := []
deriving DecidableEq, Repr

/-- What leaves the module in a step (the model's own record of the last step's outputs). What a chain port
sends stands there with its content and with its symbols in line order. -/
inductive Out where
  | chain (c : Nat) (e : RingEnd) (item : LineItem) (a b : Nat) (line : List Sym)
  | cmd (c : Nat) (e : RingEnd) (ctag dest opc : Nat) (params : List Half) (line : List Sym)
  | agfin (msg : String) (words : List Word)
  | mirror (d : Delta) (snapshot : Bool)
  | reply (t : Nat) (r : Reply)
  | read (w : Word)
  /-- a UDP datagram: physical port, IPv4 destination, UDP port, payload -/
  | udp (port : Nat) (dest : Word) (udpPort : Nat) (words : List Word)
  | launch (port queue : Nat) (f : LaunchFrame)
  | can (k : Nat) (f : CanFrame)
  | valve (v : Nat) (bits : BitVec 40)
  | lfo (p : Nat) (high : Bool)
  /-- CLK of a feedback port: clock periods of one serial read, and their length in ns (R305) -/
  | serialClk (p periods ns : Nat)
  | pto (k : Nat) (asserted : Bool)
  | hart (ch : Nat) (words : List Word)
  | hold (low : Bool)
  | tls (alert : String)
  /-- a TLS session opens on a port for a tenant, on the terms of R179 -/
  | session (port t : Nat) (terms : TlsTerms)
  | net (port : Nat) (what : String)
  | ossd (k : Nat) (on : Bool)
  /-- the view signals its core pair (R209) -/
  | signal (v : Nat)
  /-- the result of an arithmetic operation of a partition program (R230) -/
  | arith (val : Int) (flags : Nat)
deriving DecidableEq, Repr, Inhabited

end Sys2Proof
end

