-- ==== Sys2Proof/Syntax.lean ====
section
/-! DEFINITION. The commands of the block: one constructor of Instr per row of spec/opcode_table.json.
`time` operands are the plant time in ns at which the event happens. An opcode row carries the tenant
and the request (SEQ, TAG, FLAGS, payload); a row without operands falls at its fixed instant. -/

namespace Sys2Proof

/-- An integer type of R229: signed or unsigned, of a width. -/
structure IntTy where
  signed : Bool := true
  width : Nat := 16
deriving DecidableEq, Repr, Inhabited

/-- An arithmetic operation of a partition program (R230). Integers are given by value, REAL and
LREAL values by their bits (`wide` = LREAL). -/
inductive ArithOp where
  | add (ty : IntTy) (x y : Int)
  | sub (ty : IntTy) (x y : Int)
  | mul (ty : IntTy) (x y : Int)
  | div (ty : IntTy) (x y : Int)
  | mod (ty : IntTy) (x y : Int)
  | neg (ty : IntTy) (x : Int)
  | abs (ty : IntTy) (x : Int)
  /-- shifts and rotations by a count n of type `cty` -/
  | shl (ty : IntTy) (x : Int) (cty : IntTy) (n : Int)
  | shr (ty : IntTy) (x : Int) (cty : IntTy) (n : Int)
  | shra (ty : IntTy) (x : Int) (cty : IntTy) (n : Int)
  | rol (ty : IntTy) (x : Int) (cty : IntTy) (n : Int)
  | ror (ty : IntTy) (x : Int) (cty : IntTy) (n : Int)
  | narrow (ty : IntTy) (x : Int)
  | realAdd (wide : Bool) (x y : Nat)
  | realSub (wide : Bool) (x y : Nat)
  | realMul (wide : Bool) (x y : Nat)
  | realDiv (wide : Bool) (x y : Nat)
  | realToInt (wide : Bool) (ty : IntTy) (trunc : Bool) (x : Nat)
  | realSqrt (wide : Bool) (x : Nat)
  | realNeg (wide : Bool) (x : Nat)
  | realAbs (wide : Bool) (x : Nat)
  /-- REAL to LREAL, or LREAL to REAL: `wide` is the format of the operand -/
  | realConvert (wide : Bool) (x : Nat)
  | intToReal (wide : Bool) (ty : IntTy) (x : Int)
deriving DecidableEq, Repr, Inhabited

/-- The error task of a cycle: its operations, and how long it ran in ns (R216 step 4, R225). -/
structure ErrorTask where
  ops : List ArithOp := []
  ns : Nat := 0
deriving DecidableEq, Repr, Inhabited

/-- What an Ethernet frame carries, as far as the module takes it (R259, R260). -/
inductive EthKind where
  | tls (t : Fin 16) (words : List Word)
  | ptp
  | arp
  | icmpEcho
  | other
deriving DecidableEq, Repr, Inhabited

/-- An Ethernet frame at a port: length in bytes, VLAN ID if tagged, PRP source node and sequence number. -/
structure EthFrame where
  length : Nat := 64
  vlan : Option Nat := none
  node : Nat := 0
  prpSeq : Nat := 0
  kind : EthKind := .other
deriving DecidableEq, Repr, Inhabited

/-- How an encoder answered a SERIAL read (R305, R306): the data line was not high, or no HEADER came
in time, or a frame with its header, ERR, POS bits and CRC-6, and the measured line delay. -/
inductive SerialRead where
  | lineLow
  | noHeader
  | frame (header : Nat) (err : Bool) (pos : Nat) (crc : Nat) (delayNs : Nat)
deriving DecidableEq, Repr, Inhabited

/-- One analog channel at a sample instant: the measured code before filtering, V_CH (10 mV), and
whether the output driver is at its compliance limit (R317, R322, R325). -/
structure AnaMeas where
  code : Nat := 0
  volt : Nat := 0
  atLimit : Bool := false
deriving DecidableEq, Repr, Inhabited

/-- What a safety cycle reads (R363, R366, R376): the raw inputs of both channels (bit i-1 = Ii), the
readback of both outputs of each pair outside and inside off-pulses, whether each channel found its
self-test and the other's clock good, and the two channels' decisions where they differ. -/
structure SafeSense where
  rawA : BitVec 24 := 0
  rawB : BitVec 24 := 0
  selfTestOk : Bool := true
  clockOk : Bool := true
  /-- pairs on which a readback read 1 while off, or during its own off-pulse -/
  stuck : BitVec 4 := 0
  /-- pairs on which a readback read 0 while on -/
  low : BitVec 4 := 0
  /-- pairs for which the channels' decisions differ in this cycle -/
  differ : BitVec 4 := 0
deriving DecidableEq, Repr, Inhabited

/-- How the Tadpole finds the two firmware slots (R391): for each, whether HASH and SIGNATURE verify. -/
structure BootCheck where
  verify0 : Bool := true
  verify1 : Bool := true
deriving DecidableEq, Repr, Inhabited

/-- What wakes the module from HIBERNATE (R415). -/
inductive WakeBy where
  | tcpSyn | croakLoss | eov | holdLow
deriving DecidableEq, Repr, Inhabited

/-- The module faults of R26 and R244. -/
inductive FaultKind where
  | lockstep | keeperMemory | lossD41
deriving DecidableEq, Repr, Inhabited

/-- An image taken from the running module (R255, R176, R197). -/
inductive PartnerImage where
  | config (c : CfgCopy)
  | part (p : Fin 12) (image : PartImage)
deriving DecidableEq, Repr, Inhabited

/-- What a bulk object's check needs from outside the module's logic: whether signature and hash
verify (R391), and whether a certificate parses, is on P-384 and carries the device key (R389). -/
structure BulkCheck where
  hashOk : Bool := true
  sigOk : Bool := true
  parses : Bool := true
  onP384 : Bool := true
  keyMatches : Bool := true
deriving DecidableEq, Repr, Inhabited

/-- The commands: one constructor per row of spec/opcode_table.json, in its order. -/
inductive Instr where
  | plantTickEdge
  | syncLaunch
  | solicitLaunch
  | croakInsert
  | croakLoss (c : Fin 64) (e : RingEnd) (time : Nat)
  | croakRestored (c : Fin 64) (e : RingEnd) (time : Nat)
  | croakMapSend (time : Nat)
  | croakMapReceived (map : BitVec 64) (time : Nat)
  | croakMapTimeout (time : Nat)
  | dataFrameReceived (c : Fin 64) (e : RingEnd) (frame : BitVec 512) (time : Nat)
  | agfinFrameReceived (c : Fin 64) (frame : BitVec 512) (time : Nat)
  | worstCellRecord (c : Fin 64)
  | tripRepeat (c : Fin 64) (time : Nat)
  | tileCutoff (c : Fin 64)
  | tickSummaryFlip
  | keeperMirrorPoint
  | dispatchPublish
  | silentMonitor (c : Fin 64) (p : Nat)
  | silentMonitorTrip (c : Fin 64) (time : Nat)
  | blindTimeout (c : Fin 64) (time : Nat)
  | trackingEcho (e : RingEnd)
  | echoReturned (c : Fin 64) (e : RingEnd) (etag : BitVec 8) (rtNs : Nat) (time : Nat)
  | echoLost (c : Fin 64) (etag : BitVec 8) (time : Nat)
  | cmdWindow
  | respReceived (c : Fin 64) (ctag src rcode : BitVec 8) (data : List Half) (crc : BitVec 32) (time : Nat)
  | respTimeout (c : Fin 64) (ctag : BitVec 8) (time : Nat)
  | relayedCmdReceived (c : Fin 64) (ctag dest opc : BitVec 8) (params : List Half) (time : Nat)
  | keepBroadcast (time : Nat)
  | enumReceived (c : Fin 64) (nextPos : BitVec 8) (time : Nat)
  | enumTimeout (c : Fin 64) (time : Nat)
  | chainEnterService (c : Fin 64)
  | startTimeWaitExpiry (time : Nat)
  | verifyGraceEnd (c : Fin 64) (time : Nat)
  | verifyStandbyTimeout (c : Fin 64) (time : Nat)
  | verifyDecisionReceived (c : Fin 64) (hold : Bool) (reason : BitVec 8) (time : Nat)
  | healCheckEcho (c : Fin 64) (time : Nat)
  | prechargeStart (c : Fin 64) (time : Nat)
  | prechargeFail (c : Fin 64) (time : Nat)
  | closePreOff (c : Fin 64) (time : Nat)
  | openTimeout (c : Fin 64) (time : Nat)
  | openFinal (c : Fin 64) (time : Nat)
  | balEvaluate (c : Fin 64) (time : Nat)
  | impedSequenceEnd (c : Fin 64) (p : Nat)
  | zoneEvaluate (time : Nat)
  | zoneTambTimeout (z : Fin 16) (time : Nat)
  | grantEnd (g : Fin 8)
  | eovAssert (time : Nat)
  | eovRelease (time : Nat)
  | overrideLapse (time : Nat)
  | overrideEndingEnd (time : Nat)
  | overrideRecord (time : Nat)
  | cwTxdataWrite (p : Fin 12) (w : Word)
  | cwTxcommitSubmit (p : Fin 12) (time : Nat)
  | cwTxcommitDiscard (p : Fin 12)
  | cwRxdataRead (p : Fin 12)
  | cwResetWrite (p : Fin 12) (time : Nat)
  | bulkReplyPacket (t : Fin 16)
  | replyAcked (t : Fin 16)
  | tlsSessionOpen (port : Nat) (fp : List Word) (issuerOk : Bool) (time : Nat)
  | tlsSessionEnd (t : Fin 16)
  | tlsIdleTimeout (t : Fin 16) (time : Nat)
  | sysIdent (t : Fin 16) (r : Req)
  | sysState (t : Fin 16) (r : Req)
  | sysReset (t : Fin 16) (r : Req) (boot : BootCheck)
  | poolAudit (t : Fin 16) (r : Req)
  | bulkRead (t : Fin 16) (r : Req)
  | bulkWrite (t : Fin 16) (r : Req)
  | bulkWriteContinuation (t : Fin 16) (r : Req) (chk : BulkCheck)
  | bulkCancelReply (t : Fin 16) (r : Req)
  | bulkCancelWrite (t : Fin 16) (r : Req)
  | paramRead (t : Fin 16) (r : Req)
  | paramWrite (t : Fin 16) (r : Req)
  | tenantList (t : Fin 16) (r : Req)
  | cfgBegin (t : Fin 16) (r : Req)
  | cfgCommit (t : Fin 16) (r : Req) (writeA writeB evalOk : Bool)
  | cfgAbort (t : Fin 16) (r : Req)
  | cfgStatus (t : Fin 16) (r : Req)
  | partnerAck (part : Option (Fin 12)) (time : Nat)
  | configEffectiveTick
  | budgetFault (p : Fin 12) (pc : Word) (time : Nat)
  | geckoExpiry (p : Fin 12) (pc : Word) (time : Nat)
  | memFault (p : Fin 12) (addr : Word) (time : Nat)
  | arithFault (p : Fin 12) (pc : Word) (op : ArithOp) (time : Nat)
  | eccFault (p : Fin 12) (pc : Word) (time : Nat)
  | eccCorrected (p : Fin 12) (time : Nat)
  | partRestart (p : Fin 12) (time : Nat)
  | partStatus (t : Fin 16) (r : Req)
  | partReset (t : Fin 16) (r : Req)
  | partImageInfo (t : Fin 16) (r : Req)
  | evfSourceEvent (v : Fin 13) (src : Fin 1024) (time : Nat)
  | evfClaimRead (v : Fin 13)
  | evfCompleteWrite (v : Fin 13) (w : Word) (time : Nat)
  | evfSetenWrite (v : Fin 13) (bank : Fin 32) (w : Word)
  | evfClrenWrite (v : Fin 13) (bank : Fin 32) (w : Word)
  | evfSetpendWrite (v : Fin 13) (bank : Fin 32) (w : Word)
  | evfClrpendWrite (v : Fin 13) (bank : Fin 32) (w : Word)
  | registerWrite (v : Fin 13) (addr : Word) (bytes : Nat) (w : Word) (time : Nat)
  | scanCycleStart (p : Fin 12) (ops : List ArithOp) (time : Nat)
  | scanCycleEnd (p : Fin 12) (ops : List ArithOp) (err : ErrorTask) (execUs : Nat) (time : Nat)
  | scanRun (t : Fin 16) (r : Req)
  | scanRunCold (t : Fin 16) (r : Req)
  | scanStop (t : Fin 16) (r : Req)
  | scanHold (t : Fin 16) (r : Req)
  | scanStep (t : Fin 16) (r : Req)
  | scanResume (t : Fin 16) (r : Req)
  | forceSet (t : Fin 16) (r : Req)
  | forceClear (t : Fin 16) (r : Req)
  | forceList (t : Fin 16) (r : Req)
  | scanStat (t : Fin 16) (r : Req)
  | holdPulse (time : Nat)
  | keeperConfirmTimeout (time : Nat)
  | pulseSeen (time : Nat)
  | pulseAbsent (time : Nat)
  | claimEnd (time : Nat)
  | contention (time : Nat)
  | ownPulseMissing (time : Nat)
  | partnerSenseAbsent (time : Nat)
  | laneDown (lane : Fin 2) (time : Nat)
  | laneUp (lane : Fin 2) (time : Nat)
  | controlBlockReceived (b : ControlBlock) (time : Nat)
  | giveUp (cause : GiveUpCause) (time : Nat)
  | giveUpReceived (cause : GiveUpCause) (time : Nat)
  | takeoverDecision (time : Nat)
  | firstOutputReceived (time : Nat)
  | freezeTimeout (time : Nat)
  | foldEnd (time : Nat)
  | switchoverReturn (time : Nat)
  | mirrorDeltaReceived (d : Delta) (crcOk : Bool) (time : Nat)
  | snapshotReceived (num : Nat) (body : MirrorBody) (time : Nat)
  | newtSnapshot (time : Nat)
  | digestReceived (tick : Nat) (digests : List Word) (time : Nat)
  | resyncSlotsReceived (c : Fin 64) (p : Nat) (tick : Nat) (slots : List Slot) (time : Nat)
  | hibernateReceived (time : Nat)
  | pairStatus (t : Fin 16) (r : Req)
  | pairSwitchover (t : Fin 16) (r : Req)
  | pairSetSide (t : Fin 16) (r : Req)
  | pairResync (t : Fin 16) (r : Req)
  | ptpMessageReceived (port : Fin 5) (m : PtpMsg) (time : Nat)
  | announceTimeout (time : Nat)
  | ptpMasterSend (port : Fin 5) (time : Nat)
  | launchTimeDue (port : Fin 4) (queue : Fin 8) (time : Nat)
  | ethFrameReceived (port : Fin 5) (f : EthFrame) (time : Nat)
  | prpSupervision (time : Nat)
  | netLinkChange (port : Fin 5) (up : Bool) (time : Nat)
  | compareFire (p : Fin 12) (u : Fin 32) (time : Nat)
  | cmpNowLoRead (p : Fin 12) (time : Nat)
  | cmpCtrlArm (p : Fin 12) (u : Fin 32) (periodic long : Bool) (time : Nat)
  | cmpCtrlDisarm (p : Fin 12) (u : Fin 32) (periodic long : Bool)
  | timeStatus (t : Fin 16) (r : Req)
  | netStatus (t : Fin 16) (r : Req)
  | timeSet (t : Fin 16) (r : Req)
  | netLaunch (t : Fin 16) (r : Req)
  | loopSample (slot : Fin 64) (time : Nat)
  | loopFbTimeout (slot : Fin 64) (time : Nat)
  | injDurationEnd (g : Fin 4) (time : Nat)
  | valveUpdate (v : Fin 16) (time : Nat)
  | valveUplinkReceived (v : Fin 16) (bits : BitVec 40) (time : Nat)
  | valveLinkFault (v : Fin 16) (time : Nat)
  | valveStill (v : Fin 16) (time : Nat)
  | loopRead (t : Fin 16) (r : Req)
  | loopCtrlRun (t : Fin 16) (r : Req)
  | loopCtrlTrack (t : Fin 16) (r : Req)
  | loopCtrlStop (t : Fin 16) (r : Req)
  | injStart (t : Fin 16) (r : Req)
  | injStop (t : Fin 16) (r : Req)
  | traceArm (t : Fin 16) (r : Req)
  | traceTrigger (t : Fin 16) (r : Req)
  | traceStatus (t : Fin 16) (r : Req)
  | valveRead (t : Fin 16) (r : Req)
  | valvePosSet (t : Fin 16) (r : Req)
  | fbEdge (port : Fin 8) (levels : BitVec 3) (time : Nat)
  | fbSample (port : Fin 8) (serial : Option SerialRead) (time : Nat)
  | fbIndexCapture (port : Fin 8) (levels : BitVec 3) (time : Nat)
  | leapPulseEnd (port : Fin 8) (time : Nat)
  | fbRead (t : Fin 16) (r : Req)
  | fbPosSet (t : Fin 16) (r : Req)
  | fbLeapArm (t : Fin 16) (r : Req)
  | fbLeapDisarm (t : Fin 16) (r : Req)
  | anaSample (meas : List AnaMeas) (field : List Nat) (time : Nat)
  | anaMiswireOpen (ch : Fin 32) (time : Nat)
  | anaMiswireRetry (ch : Fin 32) (time : Nat)
  | anaRead (t : Fin 16) (r : Req)
  | anaTest (t : Fin 16) (r : Req)
  | anaTestDone (ch : Fin 32) (code4 code20 : Nat) (time : Nat)
  | hartCmd (t : Fin 16) (r : Req)
  | hartReplyReceived (ch : Fin 32) (respCode devStatus : Byte) (data : List Byte) (sumOk : Bool) (time : Nat)
  | hartTimeout (ch : Fin 32) (time : Nat)
  | diChange (k : Fin 64) (level : Bool) (time : Nat)
  | doOverload (k : Fin 32) (time : Nat)
  | doRetry (k : Fin 32) (time : Nat)
  | doReadbackMismatch (k : Fin 32) (time : Nat)
  | vsupLow (g : Fin 4) (time : Nat)
  | vsupRestored (g : Fin 4) (time : Nat)
  | digRead (t : Fin 16) (r : Req)
  | canFrameReceived (k : Fin 8) (f : CanFrame) (time : Nat)
  | canTxDone (k : Fin 8) (o : Option (Fin 64)) (sof : Nat) (tdcNs : Option Nat) (time : Nat)
  | canTxTimeout (k : Fin 8) (o : Option (Fin 64)) (time : Nat)
  | canRecoveryDone (k : Fin 8) (time : Nat)
  | objAckRead (p : Fin 12) (k : Fin 8) (o : Fin 64)
  | canStatus (t : Fin 16) (r : Req)
  | canRecover (t : Fin 16) (r : Req)
  | canObjRead (t : Fin 16) (r : Req)
  | safeCycle (x : SafeSense)
  | safeTestPulse (k : Fin 4) (readA readB : BitVec 24)
  | safeSupplyLow
  | safeSupplyBand (entering : Bool) (volt : Nat)
  | safeStart (selfTestOk : Bool) (volt : Nat)
  | safeStatusReport (time : Nat)
  | safePartnerStatus (time : Nat)
  | safeStatus (t : Fin 16) (r : Req)
  | safeConfirm (t : Fin 16) (r : Req)
  | safeStopReq (t : Fin 16) (r : Req) (answers : Bool)
  | powerOn (boot : BootCheck) (volt : Nat)
  | keeperStart (time : Nat)
  | adoptionEnd (c : Fin 64)
  | cfgRepairWrite (written : Bool) (time : Nat)
  | fwTrialConfirm (time : Nat)
  | defaultTripRepeat (time : Nat)
  | defaultCommitReset (boot : BootCheck) (time : Nat)
  | cableTest (c : Fin 64) (e : RingEnd) (load : Bool) (time : Nat)
  | fwStatus (t : Fin 16) (r : Req)
  | fwActivate (t : Fin 16) (r : Req) (boot : BootCheck)
  | certRead (t : Fin 16) (r : Req)
  | certClear (t : Fin 16) (r : Req)
  | domainLost (d : Fin 50) (pll : Bool) (time : Nat)
  | domainRetry (d : Fin 50) (good : Bool) (time : Nat)
  | timeWheelFire (d : Fin 50) (time : Nat)
  | supplyLost (x2 : Bool) (returned : Bool) (volt : Nat) (time : Nat)
  | brownOut (time : Nat)
  | supplyRestored (boot : BootCheck) (time : Nat)
  | keeperWdt (boot : BootCheck) (time : Nat)
  | moduleFault (kind : FaultKind) (boot : BootCheck) (time : Nat)
  | thermRead (sensors : List Int) (time : Nat)
  | thermRestart (boot : BootCheck) (time : Nat)
  | hibernateWake (by_ : WakeBy) (boot : BootCheck) (time : Nat)
  | pwrStatus (t : Fin 16) (r : Req)
  | pwrHibernate (t : Fin 16) (r : Req)
  | recStatus (t : Fin 16) (r : Req)
  | recClear (t : Fin 16) (r : Req)
  | displayLatch (time : Nat)
  | dspCommitWrite (p : Fin 12)
  | dispRead (t : Fin 16) (r : Req)
  | dispTest (t : Fin 16) (r : Req)
  | dispTestEnd (time : Nat)
  | chainEnumerate (t : Fin 16) (r : Req)
  | chainCmd (t : Fin 16) (r : Req)
  | chainFrameRead (t : Fin 16) (r : Req)
  | chainDiag (t : Fin 16) (r : Req)
  | estCellRead (t : Fin 16) (r : Req)
  | estChainRead (t : Fin 16) (r : Req)
  | estStringSummary (t : Fin 16) (r : Req)
  | estPlantSummary (t : Fin 16) (r : Req)
  | estImpedStart (t : Fin 16) (r : Req)
  | estImpedResult (t : Fin 16) (r : Req)
  | estReinit (t : Fin 16) (r : Req)
  | estSlotRead (t : Fin 16) (r : Req)
  | protStatus (t : Fin 16) (r : Req)
  | stringClose (t : Fin 16) (r : Req)
  | stringOpen (t : Fin 16) (r : Req)
  | stringOpenImmediate (t : Fin 16) (r : Req)
  | protReset (t : Fin 16) (r : Req)
  | ptoStatus (t : Fin 16) (r : Req)
  | balStatus (t : Fin 16) (r : Req)
  | zoneRead (t : Fin 16) (r : Req)
  | zoneTambWrite (t : Fin 16) (r : Req)
  | dspRead (t : Fin 16) (r : Req)
  | burstRequest (t : Fin 16) (r : Req)
  | burstCancel (t : Fin 16) (r : Req)
  | overrideStart (t : Fin 16) (r : Req)
  | overrideEnd (t : Fin 16) (r : Req)
  | dspKeyWrite (t : Fin 16) (r : Req)
  | dspStringRead (t : Fin 16) (r : Req)
  | alwaysOnRailLoss
  | canBusError (k : Fin 8) (err : CanErr) (time : Nat)
  | sliceBegin (pair : Fin 8) (p : Fin 12) (time : Nat)
  | hibernatePartnerTimeout (time : Nat)
  | snapshotRequestReceived (set : Fin 14) (time : Nat)
  | resyncRequestReceived (c : Fin 64) (time : Nat)
  | partnerImageReceived (image : PartnerImage) (atTakeup : Bool) (time : Nat)
  | echoResultsReceived (c : Fin 64) (p : Nat) (rts : List Nat) (tracking : Bool) (time : Nat)
  | fbForwardReceived (port : Fin 8) (pos : Option Word) (leap : Option Word) (arm : Bool) (time : Nat)
  | safePartnerStatusReceived (words : List Word) (time : Nat)
  | dspKeyReceived (kind : Nat) (key : List Word)
  | hartSecondaryMasterFrame (ch : Fin 32) (time : Nat)
  | prpEntryForgotten (time : Nat)
deriving DecidableEq, Repr

end Sys2Proof
end

