-- ==== Sys2Proof/Config.lean ====
section
/-! DEFINITION. What the manual leaves open: opaque constants without a body. A claim holds for
every value of them. Log entries 2 to 13 say for each what the manual does not state. -/

namespace Sys2Proof.Config

/-- A free value: the n-th value the manual leaves open (State.fresh counts them). Log entry 2. -/
opaque freeValue : Nat → BitVec 64

/-- Which lane takes which term of the sum at program point n (R72: the image fixes the operations, and the manual does
not give the image). Read as the number of a permutation of lanes 0 to 31. Log entry 3. -/
opaque imageOrder : Nat → Nat

/-- The 64 entries of the OCV table of an electrode (false = Un, true = Up) of a chemistry code
(R85, R91: "64-point tables in the model image"). Log entry 4. -/
opaque ocvTable : Nat → Bool → Nat → Word

/-- The SoC whose OCV equals a voltage at a core temperature, by chemistry code (R94: "the inverse OCV";
no method is given). Log entry 4. -/
opaque inverseOcv : Nat → Word → Word → Word

/-- The bits of a NaN result (R89 names binary32 and no NaN payload). Log entry 5. -/
opaque nanBits : Nat → Word

/-- The value of a quotient whose divisor is 0, by program point and numerator (a band or a time constant
of 0, which R134, R142 and R152 do not state). Log entry 6. -/
opaque zeroDivide : Nat → Rat → Rat

/-- The next profile sample (r, v, a), in units of 2^-32, where no fifth-order polynomial keeps the limits or a motion is to end
that way (R278, R279), from the target, r, v, a, VMAX, AMAX, JMAX and the period. Log entry 8. -/
opaque profileStep : Int → Int → Int → Int → Int → Int → Int → Nat → Int × Int × Int

/-- The nearest point, in units of 2^-32, at which a moving POLY5 profile can come to rest (R284 gives none for a polynomial), from
r, v, a, VMAX, AMAX and JMAX. Log entry 8. -/
opaque restPoint : Int → Int → Int → Int → Int → Int → Int

/-- Whether a value that the manual rounds without saying how is taken upward. Log entry 8. -/
opaque roundUp : Rat → Bool

/-- Whether a state of the injection register gives +INJ_AMP (R288 gives the feedback and no output bit). Log
entry 8. -/
opaque prbsChip : Nat → Bool

/-- One step of ANA_FILTER code n: the filter's next value from its value and a sample's code, both times
65,536 (R318 gives the corner, no discretisation). Log entry 9. -/
opaque anaFilterStep : Nat → Nat → Nat → Nat

/-- The rate the time servo applies, in 0.001 ppm, from the present rate and the measured offset in ns
(R264, R266: "disciplines the rate"; the law is not given). Log entry 10. -/
opaque servoRate : Int → Int → Int

/-- The evaluator's event entry coding (R384, R432). Log entry 11. -/
opaque safeEvent : Nat → Nat → Nat → Word

/-- Segment words of the display (R437 and R380 give texts and digits, no segment patterns). Kind 0: the byte of
hex digit n; kind 1: of "rEC", "dEF", "Strt" (n / 2 = 0, 1, 2) digits 1-4 for even n, digits 5-8 for odd n;
kind 2: digits 1-4 for role code n; kind 3: digits 5-8 for the number n. Log entry 13. -/
opaque segText : Nat → Nat → Word

/-- The cause code of a GIVE_UP message and entry (R245, R432: "cause"; no codes are given), by cause. Log entry 12. -/
opaque causeCode : Nat → Word

end Sys2Proof.Config
end

