-- ==== Sys2Proof/Machine/State.lean ====
section
/-! DEFINITION. State: everything the manual gives the module, as plain data, and the queue of the
commands that wait. Every map's unlisted key reads as that unit's state after reset. -/

namespace Sys2Proof.Machine

/-- The faults of a step. Empty: no command of the table stops the module in this model, since the
manual gives every one of them an effect (or none, where its condition does not hold). -/
inductive Fault where
deriving DecidableEq, Repr

/-- Why a command has no meaning. -/
inductive Refusal where
  /-- raised by Dispatch for a command that has no meaning yet; safe: nothing can be proved of it -/
  | notModelled (mnemonic : String)
deriving DecidableEq, Repr

end Sys2Proof.Machine

namespace Sys2Proof.Machine

/-- The whole module. -/
structure State where
  /-- the commands that wait, first in, first out (the model's own: the block's interface) -/
  pending : List Instr := []
  /-- plant time: the 64-bit count of TAI nanoseconds (R12) -/
  now : Nat := 0
  /-- what left the module in the last step (the model's own record) -/
  out : List Out := []
  /-- how many free values have been used (the model's own; any value is as good) -/
  fresh : Nat := 0
  power : Power := {}
  ident : Ident := {}
  cfg : Cfg := {}
  /-- the sixteen tenants' windows, books and sessions (R159 to R167, R180) -/
  tenants : Map Tenant := []
  pool : Pool := {}
  chains : Map Chain := []
  tiles : Map Tile := []
  /-- the cell ledger, by chain * 2304 + (position - 1) * 18 + (cell - 1) (R97) -/
  ledger : Map (Option Ledger) := []
  /-- the two tick summary buffers, and which one is readable (R16) -/
  bufA : TickBuf := {}
  bufB : TickBuf := {}
  readB : Bool := false
  strs : Map Str := []
  ptos : Map Pto := []
  bals : Map Bal := []
  zones : Map Zone := []
  strLimits : Map StrLimit := []
  groups : Map Group := []
  disp : Disp := {}
  parts : Map Part := []
  /-- the partition that holds the slice of a core pair (R189) -/
  slices : Map (Option Slice) := []
  /-- the thirteen Event Fabric views: 0-11 partitions, 12 the Keeper (R205) -/
  views : Map View := []
  /-- compare units, by partition * 32 + unit (R269) -/
  cmps : Map Cmp := []
  pair : Pair := {}
  time : TimeUnit := {}
  net : Net := {}
  loops : Map Loop := []
  injs : Map Inj := []
  trace : Trace := {}
  valves : Map Valve := []
  fbs : Map Fb := []
  anas : Map Ana := []
  /-- GRP_FIELD_V (10 mV) and SUPPLY_LOW of the four analog groups (R330, R331) -/
  grpField : Map Nat := []
  grpLow : Map Bool := []
  dis : Map Di := []
  dos : Map Do := []
  /-- output groups whose supply is below its limit (R338) -/
  vsupLow : Map Bool := []
  /-- FDP_FAULT and FDP_FAULT_TIME of the output groups (R342, R343) -/
  fdpFault : Map Bool := []
  fdpTime : Map Word := []
  cans : Map Can := []
  safe : SafeEval := {}
  recorder : Recorder := {}
  display : Display := {}
deriving DecidableEq, Repr, Inhabited

/-- The module right after reset, before power is applied: every register at the value the manual
gives for reset, or at the value a log entry names; nothing waits. -/
def State.reset : State := {}

end Sys2Proof.Machine
end

