-- ==== Sys2Proof/Machine/Params.lean ====
section
/-! DEFINITION. The parameters (R183): for each address its fields, stated ranges, access and default,
as the tables R68, R110, R137, R138, R153, R171, R184, R211, R212, R233, R257, R273, R296, R297, R313,
R331, R343, R361, R385, R406, R424 and R441 list them. -/

namespace Sys2Proof.Machine

/-- The stated range of a field (R183). -/
inductive Rng where
  | full
  | range (lo hi : Nat)
  | srange (lo hi : Int)
  | oneOf (l : List Nat)
  /-- a multiple of `m`, at most `hi` -/
  | multiple (m hi : Nat)
  /-- LOOP_FB_SRC: kind and number (R277) -/
  | fbSrc
  /-- LOOP_FB_RATIO (R277) -/
  | fbRatio
  /-- LOOP_DEST (R286) -/
  | loopDest
  /-- TRC_CH k: number and code (R289) -/
  | trcCh
deriving DecidableEq, Repr

/-- A field of a parameter word. -/
structure PField where
  hi : Nat
  lo : Nat
  rng : Rng := .full
deriving DecidableEq, Repr

/-- A row of a parameter table: `n` consecutive indices from `idx`. -/
structure PRow where
  idx : Nat
  n : Nat := 1
  fs : List PField
  ro : Bool := false
  dflt : Nat := 0
deriving DecidableEq, Repr

/-- A signed value of `w` bits. -/
def signedOf (w v : Nat) : Int := if v < 2 ^ (w - 1) then v else (v : Int) - 2 ^ w

/-- A feedback source kind and number that R277 lists. -/
def fbSrcOk (kind num : Nat) : Bool :=
  match kind with
  | 0 => true
  | 1 => decide (1 ≤ num ∧ num ≤ 8)
  | 2 => decide (1 ≤ num ∧ num ≤ 8)
  | 3 => decide (1 ≤ num ∧ num ≤ 32)
  | 4 => decide (num ≤ 63)
  | _ => false

/-- The field value v (of width w) lies in the stated range. -/
def Rng.ok (r : Rng) (w v : Nat) : Bool :=
  match r with
  | .full => true
  | .range lo hi => decide (lo ≤ v ∧ v ≤ hi)
  | .srange lo hi => decide (lo ≤ signedOf w v ∧ signedOf w v ≤ hi)
  | .oneOf l => l.contains v
  | .multiple m hi => decide (v % m = 0 ∧ v ≤ hi)
  | .fbSrc => fbSrcOk (v / 256) (v % 256) || decide (v / 256 = 5 ∧ v % 256 = 0)
  | .fbRatio =>
      decide (v = 0) ||
      (decide (1 ≤ v / 2 ^ 24) && fbSrcOk (v / 2 ^ 24) (v / 2 ^ 16 % 256) &&
        decide (1 ≤ v / 2 ^ 8 % 256) && fbSrcOk (v / 2 ^ 8 % 256) (v % 256))
  | .loopDest =>
      match v / 256 with
      | 0 => true
      | 1 => decide (1 ≤ v % 256 ∧ v % 256 ≤ 16)
      | 2 => decide (1 ≤ v % 256 ∧ v % 256 ≤ 32)
      | 3 => decide (v % 256 ≤ 63)
      | _ => false
  | .trcCh =>
      decide (v % 256 ≤ 9) ||
      (decide (0x10 ≤ v % 256 ∧ v % 256 ≤ 0x13) && decide (1 ≤ v / 256 % 64 ∧ v / 256 % 64 ≤ 16))

/-- A whole-row field [hi:0] with a range. -/
def pf (hi : Nat) (rng : Rng := .full) : List PField := [{ hi := hi, lo := 0, rng := rng }]

/-- A row with one field. -/
def rw_ (idx hi : Nat) (dflt : Nat := 0) (rng : Rng := .full) (n : Nat := 1) : PRow :=
  { idx := idx, n := n, fs := pf hi rng, dflt := dflt }

/-- A read-only row. -/
def ro_ (idx hi : Nat) (dflt : Nat := 0) (n : Nat := 1) : PRow :=
  { idx := idx, n := n, fs := pf hi, ro := true, dflt := dflt }

/-- The owner codes of R212. -/
def ownerCodes : List Nat := [0, 1, 2, 3, 4, 5, 6, 7, 8, 9, 10, 11, 15]

/-- A word of eight owner nibbles (R212). -/
def ownRow (idx n : Nat) : PRow :=
  { idx := idx, n := n, dflt := 0xFFFFFFFF,
    fs := (List.range 8).map (fun k => { hi := 4 * k + 3, lo := 4 * k, rng := .oneOf ownerCodes }) }

/-- BLOCK 0x01, INSTANCE 0x00 (R184, R406, R424). -/
def rowsSys : List PRow :=
  [{ idx := 0, fs := [{ hi := 1, lo := 0 }, { hi := 3, lo := 3 }], dflt := 8 },
   rw_ 1 15 60, rw_ 2 9 10 (.range 0 600), rw_ 3 2 4 (.oneOf [1, 3, 4]), rw_ 4 0 1,
   ro_ 0x10 31, ro_ 0x11 17, ro_ 0x12 15, ro_ 0x13 15, ro_ 0x14 15, ro_ 0x15 15, ro_ 0x16 0,
   ro_ 0x17 6, ro_ 0x18 1]

/-- Tenant t (R184). -/
def rowsTenant (t : Nat) : List PRow :=
  [rw_ 0 1 (if t = 0 then 1 else 0) (.range 0 2), rw_ 1 1 (if t = 0 then 2 else 0) (.range 0 2),
   rw_ 2 3 0 (.range 0 11), rw_ 0x10 31 0 .full 12]

/-- POOL_MIN and POOL_MAX of a channel by default (R171). -/
def poolDefault (ch : Nat) : Nat × Nat :=
  if ch < 8 then (128, 256) else if ch < 12 then (512, 2048)
  else if ch = 12 then (576, 576) else if ch < 28 then (0, 0)
  else if ch = 28 then (256, 512) else if ch = 29 then (64, 64)
  else if ch = 30 then (512, 1024) else (0, 0)

/-- The channels whose sizes are fixed (R171). -/
def poolFixed (ch : Nat) : Bool := decide (12 ≤ ch ∧ ch ≤ 27) || decide (31 ≤ ch)

/-- Pool channel ch (R184). -/
def rowsPool (ch : Nat) : List PRow :=
  [{ idx := 0, fs := pf 13, ro := poolFixed ch, dflt := (poolDefault ch).1 },
   { idx := 1, fs := pf 14 (.range 0 16384), ro := poolFixed ch, dflt := (poolDefault ch).2 },
   ro_ 2 14]

/-- A partition (R211, R233). -/
def rowsPart : List PRow :=
  [rw_ 0 0, rw_ 1 0, rw_ 2 2, rw_ 3 15, rw_ 4 15 1000 (.range 10 60000), rw_ 5 15 50 (.range 1 10000),
   rw_ 6 16 4096 (.multiple 64 65536), rw_ 7 10 64 (.range 0 1024), rw_ 8 0 1, rw_ 9 0, rw_ 0xA 0 1,
   ro_ 0x10 2, ro_ 0x11 2, ro_ 0x12 31, ro_ 0x13 1, ro_ 0x14 15,
   rw_ 0x20 19 1000 (.range 20 1000000), rw_ 0x21 0, rw_ 0x22 15 1000 (.range 100 60000), rw_ 0x23 0,
   { idx := 0x24, n := 16, fs := [{ hi := 9, lo := 0 }, { hi := 19, lo := 16 }, { hi := 31, lo := 31 }] },
   ro_ 0x38 31, ro_ 0x39 19, ro_ 0x3A 15, ro_ 0x3B 31, ro_ 0x3C 6]

/-- Ownership (R212). -/
def rowsOwn : List PRow :=
  [ownRow 0 4, ownRow 4 4, ownRow 8 2, ownRow 0xA 8, ownRow 0x12 1]

/-- A chain (R68; the comparator codes are those of R63). -/
def rowsChain : List PRow :=
  [rw_ 0 0, rw_ 1 7 0 (.range 0 128), rw_ 2 1 1, rw_ 3 2 2 (.range 0 4), rw_ 4 0 1,
   rw_ 5 7 10 (.range 1 100),
   ro_ 0x10 2, ro_ 0x11 7, ro_ 0x12 7, ro_ 0x13 7 0xFF, ro_ 0x14 7, ro_ 0x15 8,
   rw_ 0x100 17 0 .full 128, ro_ 0x200 29 0 128]

/-- Estimation of a chain (R110). -/
def rowsEst : List PRow :=
  [rw_ 0 7 0x0C, rw_ 1 3 0 (.range 0 2), rw_ 2 31, rw_ 3 15 50, rw_ 4 15 600, rw_ 5 15 500,
   rw_ 6 15 50, rw_ 7 7 6 (.range 3 20),
   { idx := 8, dflt := 0x8B0E2,
     fs := (List.range 4).map (fun k => { hi := 5 * k + 4, lo := 5 * k, rng := .range 0 18 }) },
   rw_ 9 31, rw_ 0xA 31, rw_ 0xB 31, rw_ 0xC 31, rw_ 0xD 31 0x42040000, rw_ 0xE 0, rw_ 0xF 0 1,
   ro_ 0x10 15, ro_ 0x11 11, ro_ 0x12 11, ro_ 0x13 11, ro_ 0x14 31, ro_ 0x15 1]

/-- Protection and balancing of a chain (R137). -/
def rowsProt : List PRow :=
  [rw_ 0 0 1, rw_ 1 9 200 (.range 0 500), rw_ 2 15 0 .full 8, rw_ 0xA 7 5 (.range 1 100),
   rw_ 0xB 15 0x8000 .full 3, rw_ 0xE 15 (2 ^ 16 - 3000), rw_ 0xF 15 100, rw_ 0x10 15 (2 ^ 16 - 100),
   rw_ 0x11 15 1000, rw_ 0x12 15 200, rw_ 0x13 15 100, rw_ 0x14 15 500, rw_ 0x15 7 10,
   rw_ 0x16 11 18, rw_ 0x17 15 100, rw_ 0x18 7 5, rw_ 0x19 15 8000, rw_ 0x1A 15 100,
   rw_ 0x1B 6 0 (.range 0 64), rw_ 0x1C 15 2000, rw_ 0x1D 15 100, rw_ 0x1E 15 3000, rw_ 0x1F 15 20,
   rw_ 0x20 15 5, rw_ 0x28 0 1, rw_ 0x29 15 50, rw_ 0x2A 15 50, rw_ 0x2B 15 4500, rw_ 0x2C 15 1000,
   rw_ 0x2D 4 6 (.range 1 18), rw_ 0x2E 15 60 (.range 10 3600), rw_ 0x2F 15 180, rw_ 0x30 7 75,
   ro_ 0x40 19, ro_ 0x41 22, ro_ 0x42 11]

/-- A thermal zone (R138). -/
def rowsZone : List PRow :=
  [rw_ 0 31, rw_ 1 31, rw_ 2 15 3000, rw_ 3 15 100, rw_ 4 15 300, rw_ 5 15 500, rw_ 6 15 1000,
   rw_ 7 15 4500, rw_ 8 15 4200]

/-- A plant trip output (R138). -/
def rowsPto : List PRow :=
  [rw_ 0 31, rw_ 1 31, { idx := 2, fs := [{ hi := 6, lo := 0 }, { hi := 8, lo := 8 }], dflt := 0x100 },
   rw_ 3 0 1, ro_ 4 0 1]

/-- Module-wide dispatch (R153). -/
def rowsDsp : List PRow :=
  [rw_ 0 0, rw_ 1 2 1, rw_ 2 31, rw_ 3 7, rw_ 4 10 0x10, ro_ 5 1, ro_ 6 2, rw_ 8 15 180, rw_ 9 15 220,
   rw_ 0xA 15 260, rw_ 0xB 15 300, rw_ 0xC 15 50, rw_ 0xD 7 10]

/-- A dispatch group (R153). -/
def rowsGroup : List PRow :=
  [rw_ 0 31, rw_ 1 31, rw_ 2 15 500, rw_ 3 15 9500, rw_ 4 15 180, rw_ 5 15 90, rw_ 6 15 500,
   rw_ 7 15 100, ro_ 0x10 2]

/-- An analog channel (R331). -/
def rowsAna : List PRow :=
  [rw_ 0 1, rw_ 1 1, rw_ 2 0, rw_ 3 15 0 (.range 0 48000), rw_ 4 0, rw_ 5 4 5 (.range 5 20), rw_ 6 1 2,
   ro_ 0x10 15, ro_ 0x11 15, ro_ 0x12 15, ro_ 0x13 31, ro_ 0x14 31]

/-- A digital input (R343, R334). -/
def rowsDi : List PRow := [rw_ 0 2 4 (.range 0 6), rw_ 1 1 3, rw_ 2 0]

/-- A CAN controller (R361). -/
def rowsCan : List PRow :=
  [rw_ 0 0, rw_ 1 0 1, rw_ 2 8 1, rw_ 3 8 127, rw_ 4 8 32, rw_ 5 8 32, rw_ 6 5 1, rw_ 7 5 31, rw_ 8 5 8,
   rw_ 9 5 8, rw_ 0xA 0 1, rw_ 0xB 5, rw_ 0xC 0, rw_ 0xD 15 10 (.range 1 10000), rw_ 0xE 0 1,
   ro_ 0x10 23 3, ro_ 0x11 31, ro_ 0x12 31, ro_ 0x13 31, ro_ 0x14 31, ro_ 0x15 9]

/-- The field f of a CAN object (R361), as a row at index 0x0100 + 16 o + f. -/
def rowCanObj (idx f : Nat) : Option PRow :=
  match f with
  | 0 => some { idx := idx, fs := [{ hi := 29, lo := 0 }, { hi := 31, lo := 31 }] }
  | 1 => some (rw_ idx 1 0 (.range 0 2))
  | 2 => some (rw_ idx 6 8 (.oneOf [0, 1, 2, 3, 4, 5, 6, 7, 8, 12, 16, 20, 24, 32, 48, 64]))
  | 3 => some (rw_ idx 1)
  | 4 => some (rw_ idx 0)
  | 5 => some (rw_ idx 7 1 (.range 1 255))
  | 6 => some (rw_ idx 15)
  | 7 => some (rw_ idx 5)
  | 8 => some (rw_ idx 3 15 (.oneOf ownerCodes))
  | _ => none

/-- A feedback port (R313). -/
def rowsFb : List PRow :=
  [rw_ 0 1, rw_ 1 0, rw_ 2 7 16, rw_ 3 0, rw_ 4 31, rw_ 5 31, rw_ 6 7 1, rw_ 7 0, rw_ 8 2 4,
   rw_ 9 5 24 (.range 8 32), rw_ 0xA 1, rw_ 0xB 5 20 (.range 2 40), rw_ 0xC 5 20, rw_ 0xD 31, rw_ 0xE 31,
   rw_ 0xF 0, rw_ 0x10 9 10 (.range 1 1000), ro_ 0x20 31, ro_ 0x21 31, ro_ 0x22 31, ro_ 0x23 31,
   ro_ 0x24 31, ro_ 0x25 31, ro_ 0x26 10]

/-- A loop slot (R296). -/
def rowsLoop : List PRow :=
  [rw_ 0 2 4, rw_ 1 15 0 .fbSrc, rw_ 2 31 0 .fbRatio, rw_ 3 31 0x40000000, rw_ 4 5 14 (.range 0 62), rw_ 5 31,
   rw_ 6 15 10 (.range 1 10000), rw_ 7 15 0 .loopDest, rw_ 8 1, rw_ 9 31 0x7FFFFFFF .full 3,
   rw_ 0xC 31 0 .full 3, rw_ 0xF 31 0x40000000, rw_ 0x10 31 0 .full 2, rw_ 0x12 7, rw_ 0x13 31 0x7FFFFFFF,
   rw_ 0x14 31 0x80000000, rw_ 0x15 31 0x7FFFFFFF, rw_ 0x16 0, rw_ 0x17 0 1,
   rw_ 0x20 31 0x40000000, rw_ 0x21 31 0 .full 4, rw_ 0x28 31 0x40000000, rw_ 0x29 31 0 .full 4,
   ro_ 0x30 31 0 5]

/-- An injection generator (R297). -/
def rowsInj : List PRow :=
  [{ idx := 0, fs := [{ hi := 5, lo := 0 }, { hi := 9, lo := 8, rng := .range 0 2 }] },
   rw_ 1 1 0 (.range 0 2), rw_ 2 31, rw_ 3 31, rw_ 4 31, rw_ 5 19 0 (.range 0 600000), rw_ 6 7 1 (.range 1 255)]

/-- The trace (R297). -/
def rowsTrace : List PRow :=
  [rw_ 0 2, rw_ 1 2 0 (.range 0 4), rw_ 2 31, rw_ 3 17,
   { idx := 0x10, n := 16, fs := [{ hi := 13, lo := 0, rng := .trcCh }, { hi := 31, lo := 31 }] }]

/-- A valve port (R297). -/
def rowsValve : List PRow :=
  [rw_ 0 0, rw_ 1 7 128, rw_ 2 7 64, rw_ 3 1 0 (.range 0 2), rw_ 4 15 200, rw_ 5 7 20 (.range 1 200), rw_ 6 0,
   ro_ 0x10 31, ro_ 0x11 31, ro_ 0x12 7, ro_ 0x13 7, ro_ 0x14 31]

/-- The evaluator (R385). -/
def rowsSafe : List PRow := [rw_ 0 31, ro_ 0x10 2, ro_ 0x11 31, ro_ 0x12 4, ro_ 0x13 15, ro_ 0x14 31]
/-- A safety function (R385). -/
def rowsSafeFn : List PRow :=
  [rw_ 0 2 0 (.range 0 4),
   { idx := 1, fs := (List.range 4).map (fun k => { hi := 8 * k + 4, lo := 8 * k, rng := .range 0 24 }) },
   rw_ 2 4 3 (.range 1 25), rw_ 3 11 100 (.range 10 3000), ro_ 0x10 2, ro_ 0x11 2]
/-- A safety input (R385). -/
def rowsSafeIn : List PRow := [rw_ 0 2 0 (.range 0 4), ro_ 0x10 1]
/-- An OSSD pair (R385). -/
def rowsSafePair : List PRow :=
  [rw_ 0 15, rw_ 1 4 0 (.range 0 24), rw_ 2 4 0 (.range 0 24), rw_ 3 9 300 (.range 50 1000), ro_ 0x10 1, ro_ 0x11 20]

/-- The pair (R257). -/
def rowsPair : List PRow :=
  [rw_ 0 1 0 (.range 0 2), rw_ 1 0 1, rw_ 2 0 1, ro_ 0x10 2, ro_ 0x11 2 7, ro_ 0x12 0, ro_ 0x13 8, ro_ 0x14 4,
   ro_ 0x15 15]
/-- A partition's mirror (R257). -/
def rowsMirror : List PRow := [rw_ 0 11 0 (.multiple 4 4095), ro_ 1 31]

/-- Plant time (R273). -/
def rowsTime : List PRow :=
  [rw_ 0 0 1, rw_ 1 7 0 (.range 0 127), rw_ 2 7 128, rw_ 3 7 128, rw_ 4 0, rw_ 5 0, rw_ 6 7 0 (.srange (-4) 1),
   rw_ 7 3 3 (.range 2 10), ro_ 0x10 2, ro_ 0x11 31, ro_ 0x12 31, ro_ 0x13 31, ro_ 0x14 31 0 2]
/-- A network port (R273). -/
def rowsPort : List PRow :=
  [rw_ 0 31, rw_ 1 31 0xFFFFFF00, rw_ 2 31, rw_ 3 0 1, rw_ 4 15 10 (.range 0 1000), ro_ 0x10 0, ro_ 0x11 3 1,
   ro_ 0x12 31, ro_ 0x13 31, ro_ 0x14 31]

/-- The recorder (R441). -/
def rowsRec : List PRow := [ro_ 0 31, ro_ 1 22, ro_ 2 31]
/-- The display (R441). -/
def rowsDisp : List PRow := [rw_ 0 3 15 (.oneOf ownerCodes), rw_ 1 3 8]

/-- The rows of a block and instance; none where the instance does not exist. -/
def paramRows (block inst : Nat) : List PRow :=
  match block with
  | 0x01 =>
    if inst = 0 then rowsSys
    else if 0x10 ≤ inst ∧ inst < 0x20 then rowsTenant (inst - 0x10)
    else if 0x20 ≤ inst ∧ inst < 0x40 then rowsPool (inst - 0x20) else []
  | 0x03 =>
    if inst < 12 then rowsPart
    else if 0x21 ≤ inst ∧ inst ≤ 0x27 then [rw_ 0 15 100 (.range 20 10000)]
    else if inst = 0x40 then rowsOwn else []
  | 0x10 => if inst < 64 then rowsChain else []
  | 0x11 => if inst < 64 then rowsEst else []
  | 0x12 =>
    if inst < 64 then rowsProt
    else if inst < 0x50 then rowsZone
    else if inst < 0x58 then rowsPto else []
  | 0x13 => if inst = 0 then rowsDsp else if 0x10 ≤ inst ∧ inst < 0x18 then rowsGroup else []
  | 0x20 =>
    if inst < 0x20 then rowsAna else if inst < 0x24 then [ro_ 0 15] else []
  | 0x21 =>
    if inst < 0x40 then rowsDi
    else if inst < 0x60 then [rw_ 0 15 100 (.range 10 10000)]
    else if inst = 0x60 then [ro_ 0 0, ro_ 1 31] else []
  | 0x22 => if inst < 8 then rowsCan else []
  | 0x23 => if inst < 8 then rowsFb else []
  | 0x24 =>
    if inst < 64 then rowsLoop
    else if inst < 0x44 then rowsInj
    else if inst = 0x50 then rowsTrace else []
  | 0x25 => if inst < 16 then rowsValve else []
  | 0x30 =>
    if inst = 0 then rowsSafe
    else if 0x10 ≤ inst ∧ inst < 0x20 then rowsSafeFn
    else if 0x40 ≤ inst ∧ inst < 0x58 then rowsSafeIn
    else if 0x60 ≤ inst ∧ inst < 0x64 then rowsSafePair else []
  | 0x40 =>
    if inst = 0 then rowsPair else if 0x10 ≤ inst ∧ inst < 0x1C then rowsMirror else []
  | 0x41 => if inst = 0 then rowsTime else if inst ≤ 4 then rowsPort else []
  | 0x50 => if inst = 0 then rowsRec else []
  | 0x51 => if inst = 0 then rowsDisp else []
  | _ => []

/-- The row that defines an address; none for an undefined address (R183). -/
def paramRow (addr : Nat) : Option PRow :=
  if addr / 2 ^ 24 = 0x22 ∧ 0x100 ≤ addr % 2 ^ 16 ∧ addr % 2 ^ 16 < 0x500 ∧ addr / 2 ^ 16 % 256 < 8 then
    rowCanObj (addr % 2 ^ 16) (addr % 16)
  else
    (paramRows (addr / 2 ^ 24) (addr / 2 ^ 16 % 256)).find?
      (fun r => decide (r.idx ≤ addr % 2 ^ 16 ∧ addr % 2 ^ 16 < r.idx + r.n))

/-- The default of an address (0 for an undefined one, which no rule reads). -/
def paramDefault (addr : Nat) : Word :=
  match paramRow addr with
  | none => 0
  | some r => w32 r.dflt

/-- A value has no bit outside the row's fields, and each field is in its stated range (R183). -/
def PRow.valueOk (r : PRow) (w : Word) : Bool :=
  r.fs.all (fun f => f.rng.ok (f.hi + 1 - f.lo) (fieldOf w f.hi f.lo)) &&
  decide ((r.fs.foldl (fun acc f => acc + fieldOf w f.hi f.lo * 2 ^ f.lo) 0) = w.toNat)

/-- The bits of a row's fields. -/
def PRow.mask (r : PRow) : Word := w32 (r.fs.foldl (fun acc f => acc + (2 ^ (f.hi + 1 - f.lo) - 1) * 2 ^ f.lo) 0)

/-- The parameter address BLOCK[31:24] | INSTANCE[23:16] | INDEX[15:0] (R183). -/
def paddr (block inst idx : Nat) : Nat := block * 2 ^ 24 + inst * 2 ^ 16 + idx

/-- A safety parameter (BLOCK 0x30) is held in the safety set and not in the configuration (R378, R404). -/
def isSafeParam (addr : Nat) : Bool := decide (addr / 2 ^ 24 = 0x30)

/-- The value a parameter map gives an address. -/
def paramValue (m : ParamMap) (addr : Nat) : Word :=
  match m.get addr with
  | some w => w
  | none => paramDefault addr

/-- The active value of a parameter. -/
def State.par (s : State) (addr : Nat) : Word := paramValue s.cfg.active addr

/-- The active value as a number. -/
def State.parN (s : State) (block inst idx : Nat) : Nat := (s.par (paddr block inst idx)).toNat

/-- The active value of a 16-bit signed parameter. -/
def State.parI (s : State) (block inst idx : Nat) : Int := signedOf 16 (s.parN block inst idx)

/-- The active value of a 32-bit signed parameter. -/
def State.parI32 (s : State) (block inst idx : Nat) : Int := (s.par (paddr block inst idx)).toInt

/-- Bit 0 of an active value. -/
def State.parB (s : State) (block inst idx : Nat) : Bool := bitOf (s.par (paddr block inst idx)) 0

/-- Bit i of the pair of words at idx (0–31) and idx + 1 (32–63). -/
def State.parBit64 (s : State) (block inst idx i : Nat) : Bool :=
  if i < 32 then bitOf (s.par (paddr block inst idx)) i
  else bitOf (s.par (paddr block inst (idx + 1))) (i - 32)

end Sys2Proof.Machine
end

