-- ==== Sys2Proof/Machine/Ops.lean ====
section
/-! DEFINITION. The shared operations: the form of every meaning, access to the units, roles, the
event recorder, the Event Fabric views and the frame pool. -/

namespace Sys2Proof.Machine

/-- What a meaning answers. -/
abbrev Outcome := Host.Outcome State Fault Refusal

/-- A command without a time of its own: what left the module before is cleared, then the effect. -/
def evt0 (s : State) (f : State → State) : Outcome := .next (f { s with out := [] })

/-- Plant time reaches the time of the command; it never runs backward here (R12). -/
def State.at (s : State) (time : Nat) : State := { s with now := max s.now time, out := [] }

/-- A command at a plant time. -/
def evt (s : State) (time : Nat) (f : State → State) : Outcome := .next (f (s.at time))

/-- The next instant, not before now, at this offset in ns within a tick; rows without a time fall there. -/
def State.toOffset (s : State) (off : Nat) : State :=
  { s with
    now := if s.now % 1000000 ≤ off then s.now / 1000000 * 1000000 + off
           else (s.now / 1000000 + 1) * 1000000 + off
    out := [] }

/-- A command at its fixed offset within the tick. -/
def evtOff (s : State) (off : Nat) (f : State → State) : Outcome := .next (f (s.toOffset off))

/-- Something leaves the module. -/
def State.emit (s : State) (o : Out) : State := { s with out := s.out ++ [o] }

/-- The next free value (log entry 2). -/
def State.freeWord (s : State) : Word := (Config.freeValue s.fresh).truncate 32

/-- One free value has been used. -/
def State.tookFree (s : State) : State := { s with fresh := s.fresh + 1 }

/-- Do f for every element in order. -/
def forEach {α : Type} (l : List α) (s : State) (f : State → α → State) : State := l.foldl f s

/-- Do f if the condition holds. -/
def doIf (b : Bool) (s : State) (f : State → State) : State := if b then f s else s

/-! ## Units -/

def State.chain (s : State) (c : Nat) : Chain := s.chains.get c
def State.tile (s : State) (c : Nat) : Tile := s.tiles.get c
def State.str (s : State) (c : Nat) : Str := s.strs.get c
def State.pto (s : State) (k : Nat) : Pto := s.ptos.get k
def State.bal (s : State) (c : Nat) : Bal := s.bals.get c
def State.zone (s : State) (z : Nat) : Zone := s.zones.get z
def State.group (s : State) (g : Nat) : Group := s.groups.get g
def State.tenant (s : State) (t : Nat) : Tenant := s.tenants.get t
def State.part (s : State) (p : Nat) : Part := s.parts.get p
def State.view (s : State) (v : Nat) : View := s.views.get v
def State.cmp (s : State) (p u : Nat) : Cmp := s.cmps.get (p * 32 + u)
def State.loop (s : State) (i : Nat) : Loop := s.loops.get i
def State.inj (s : State) (g : Nat) : Inj := s.injs.get g
def State.valve (s : State) (v : Nat) : Valve := s.valves.get v
def State.fb (s : State) (p : Nat) : Fb := s.fbs.get p
def State.ana (s : State) (ch : Nat) : Ana := s.anas.get ch
def State.di (s : State) (k : Nat) : Di := s.dis.get k
def State.dout (s : State) (k : Nat) : Do := s.dos.get k
def State.can (s : State) (k : Nat) : Can := s.cans.get k

def State.modChain (s : State) (c : Nat) (f : Chain → Chain) : State := { s with chains := s.chains.modify c f }
def State.modTile (s : State) (c : Nat) (f : Tile → Tile) : State := { s with tiles := s.tiles.modify c f }
def State.modStr (s : State) (c : Nat) (f : Str → Str) : State := { s with strs := s.strs.modify c f }
def State.modPto (s : State) (k : Nat) (f : Pto → Pto) : State := { s with ptos := s.ptos.modify k f }
def State.modBal (s : State) (c : Nat) (f : Bal → Bal) : State := { s with bals := s.bals.modify c f }
def State.modZone (s : State) (z : Nat) (f : Zone → Zone) : State := { s with zones := s.zones.modify z f }
def State.modGroup (s : State) (g : Nat) (f : Group → Group) : State := { s with groups := s.groups.modify g f }
def State.modPart (s : State) (p : Nat) (f : Part → Part) : State := { s with parts := s.parts.modify p f }
def State.modView (s : State) (v : Nat) (f : View → View) : State := { s with views := s.views.modify v f }
def State.modCmp (s : State) (p u : Nat) (f : Cmp → Cmp) : State := { s with cmps := s.cmps.modify (p * 32 + u) f }
def State.modLoop (s : State) (i : Nat) (f : Loop → Loop) : State := { s with loops := s.loops.modify i f }
def State.modInj (s : State) (g : Nat) (f : Inj → Inj) : State := { s with injs := s.injs.modify g f }
def State.modValve (s : State) (v : Nat) (f : Valve → Valve) : State := { s with valves := s.valves.modify v f }
def State.modFb (s : State) (p : Nat) (f : Fb → Fb) : State := { s with fbs := s.fbs.modify p f }
def State.modAna (s : State) (ch : Nat) (f : Ana → Ana) : State := { s with anas := s.anas.modify ch f }
def State.modDi (s : State) (k : Nat) (f : Di → Di) : State := { s with dis := s.dis.modify k f }
def State.modDo (s : State) (k : Nat) (f : Do → Do) : State := { s with dos := s.dos.modify k f }
def State.modCan (s : State) (k : Nat) (f : Can → Can) : State := { s with cans := s.cans.modify k f }
def State.modPair (s : State) (f : Pair → Pair) : State := { s with pair := f s.pair }
def State.modSafe (s : State) (f : SafeEval → SafeEval) : State := { s with safe := f s.safe }
def State.modPower (s : State) (f : Power → Power) : State := { s with power := f s.power }
def State.modCfg (s : State) (f : Cfg → Cfg) : State := { s with cfg := f s.cfg }
def State.modTime (s : State) (f : TimeUnit → TimeUnit) : State := { s with time := f s.time }
def State.modNet (s : State) (f : Net → Net) : State := { s with net := f s.net }
def State.modDisp (s : State) (f : Disp → Disp) : State := { s with disp := f s.disp }
def State.modTrace (s : State) (f : Trace → Trace) : State := { s with trace := f s.trace }

/-- The readable tick summary buffer (R16). -/
def State.readBuf (s : State) : TickBuf := if s.readB then s.bufB else s.bufA

/-- The slot of a cell. -/
def State.slot (s : State) (c p cell : Nat) : Slot := (s.tile c).slots.get ((p - 1) * 18 + (cell - 1))

/-! ## Time, roles, domains -/

/-- The number of the present plant tick (R12). -/
def State.tickNo (s : State) : Nat := s.now / 1000000

/-- The plant time of the edge of tick n. -/
def tickTime (n : Nat) : Nat := n * 1000000

/-- Single configuration (R238, R239). -/
def State.single (s : State) : Bool := s.pair.mode == 0

/-- The module's role as it reports it (R239): 6 in Single. -/
def State.role (s : State) : Role := if s.single then .single else s.pair.role

/-- The module runs the plant: ACTIVE, ALONE or NEWT, or Single (R239). -/
def State.runsPlant (s : State) : Bool :=
  match s.role with
  | .single | .active | .alone | .newt => true
  | _ => false

/-- The partner's role is STANDBY or STANDBY-NOT-READY. -/
def State.partnerFollows (s : State) : Bool :=
  s.pair.partner == some .standby || s.pair.partner == some .notReady

/-- The Agfin link is up: at least one lane (R235). -/
def State.linkUp (s : State) : Bool := s.pair.lane1 || s.pair.lane2

/-- The module holds the A-ends (R15, R238). -/
def State.holdsA (s : State) : Bool := s.single || !s.ident.sideB

/-- The module holds the B-ends. -/
def State.holdsB (s : State) : Bool := s.single || s.ident.sideB

/-- The module holds the given end. -/
def State.holds (s : State) (e : RingEnd) : Bool :=
  match e with
  | .a => s.holdsA
  | .b => s.holdsB

/-- The end from which the module commands the chain: its own, the A-end in Single. -/
def State.ownEnd (s : State) : RingEnd := if s.holdsA then .a else .b

/-- A domain is in RUN or IDLE (R408). -/
def State.up (s : State) (d : Nat) : Bool := (s.power.doms.get d).state != .down

/-- The domain of the tile of chain c (R408). -/
def tileDomain (c : Nat) : Nat := 1 + c / 2

/-- The domain of the chain bank at an end (R408). -/
def bankDomain (e : RingEnd) : Nat := match e with | .a => 42 | .b => 43

/-- The units of an I/O domain work: the domain is up, and D41, which they need (R26). -/
def State.unitUp (s : State) (d : Nat) : Bool := s.up d && s.up 41

/-- The tile of chain c works: its domain is up, and D41, which it needs (R26). -/
def State.tileWorks (s : State) (c : Nat) : Bool := s.up (tileDomain c) && s.up 41

/-- The chain banks that this module holds are up; a tile needs them both (R26). -/
def State.banksUp (s : State) : Bool := (!s.holdsA || s.up 42) && (!s.holdsB || s.up 43)

/-- The core pair of partition p. -/
def State.pairOf (s : State) (p : Nat) : Nat := s.parN 0x03 p 2

/-- The core pair of partition p is up, and what it needs: pair 0 and D41 (R10, R25, R26). -/
def State.pairUp (s : State) (p : Nat) : Bool := s.up (33 + s.pairOf p) && s.up 33 && s.up 41

/-- Set a domain's state. -/
def State.setDom (s : State) (d : Nat) (st : DomState) : State :=
  s.modPower (fun p => { p with doms := p.doms.modify d (fun x => { x with state := st }) })

/-- The domain's queue is empty: it asks for IDLE, its entry armed, if the entry lies more than 5 µs ahead
(R20, R412). -/
def State.askIdle (s : State) (d wake : Nat) : State :=
  if (s.power.doms.get d).state == .run && decide (s.now + 5000 < wake) then
    s.modPower (fun p => { p with doms := p.doms.modify d (fun x => { x with state := .idle, wake := some wake }) })
  else s

/-- An event from outside wakes an idle domain, which keeps its entry (R20). -/
def State.awake (s : State) (d : Nat) : State :=
  if (s.power.doms.get d).state == .idle then s.setDom d .run else s

/-- The Keeper's work of the tick is done: pair 0 asks for IDLE until the next flip (R16, R20, R412). -/
def State.keeperIdle (s : State) : State := s.askIdle 33 (s.now / 1000000 * 1000000 + 1500000)

/-- The Keeper answers packets: RUNNING or SAFE (R185). -/
def State.keeperUp (s : State) : Bool := s.power.keeper == .running || s.power.keeper == .safe

/-- The recovery service of the Tadpole runs (R394). -/
def State.inRecovery (s : State) : Bool := s.ident.recovery

/-- Chain c is in service, in any way of running (R68). -/
def State.inService (s : State) (c : Nat) : Bool :=
  match (s.chain c).state with
  | .inService | .healing | .healed | .reversed => true
  | _ => false

/-- Some chain is in service (R13). -/
def State.anyInService (s : State) : Bool := (List.range 64).any s.inService

/-- CH_ENABLE. -/
def State.chEnabled (s : State) (c : Nat) : Bool := s.parB 0x10 c 0

/-- CH_POSITIONS. -/
def State.chPositions (s : State) (c : Nat) : Nat := s.parN 0x10 c 1

/-- Cell `cell` (1 to 18) of position p is present: p is configured and the cell is not CH_ABSENT (R68). -/
def State.cellPresent (s : State) (c p cell : Nat) : Bool :=
  decide (1 ≤ p ∧ p ≤ s.chPositions c ∧ 1 ≤ cell ∧ cell ≤ 18) &&
  !bitOf (s.par (paddr 0x10 c (0x100 + p - 1))) (cell - 1)

/-- The module with the configuration that governs tick n (R107). -/
def State.asOf (s : State) (n : Nat) : State :=
  if n < s.cfg.activeFrom then s.modCfg (fun g => { g with active := g.before }) else s

/-- The key of a cell in the slot and ledger maps: position and cell. -/
def cellKey (p cell : Nat) : Nat := (p - 1) * 18 + (cell - 1)

/-- Operating seconds now (R185, R422). -/
def State.opSecondsNow (s : State) : Nat :=
  if s.power.state == .off then s.power.opSeconds
  else s.power.opSeconds + (s.now - s.power.opSince) / 1000000000

/-! ## The owner codes of R212 -/

/-- Nibble k of the owner words from idx. -/
def State.owner (s : State) (idx k : Nat) : Nat :=
  fieldOf (s.par (paddr 0x03 0x40 (idx + k / 8))) (4 * (k % 8) + 3) (4 * (k % 8))

def State.ownDo (s : State) (k : Nat) : Nat := s.owner 0 (k - 1)
def State.ownAo (s : State) (ch : Nat) : Nat := s.owner 4 (ch - 1)
def State.ownValve (s : State) (v : Nat) : Nat := s.owner 8 (v - 1)
def State.ownLoop (s : State) (i : Nat) : Nat := s.owner 0xA i
def State.ownLeap (s : State) (p : Nat) : Nat := s.owner 0x12 (p - 1)

/-! ## The event recorder (R427 to R434) -/

/-- Bytes of the ring (R427). -/
def recArea : Nat := 4194304

/-- The body as stored: at least two words (R432). -/
def recBody (b : List Word) : List Word := b ++ List.replicate (2 - b.length) 0

end Sys2Proof.Machine

namespace Sys2Proof
open Sys2Proof.Machine

/-- Bytes of a record: the 20-byte header and the body (R427). -/
def Rec.size (r : Rec) : Nat := 20 + 4 * r.body.length

/-- HDR (R427). -/
def Rec.hdr (r : Rec) : Word :=
  packWord [(24, r.source % 256), (16, r.type % 256), (9, r.inst % 128), (0, 4 * r.body.length)]

/-- The record's words (R427). -/
def Rec.words (r : Rec) : List Word :=
  [r.hdr, w32 r.op, w32 r.cycles, packWord [(31, b2n r.tvalid)] ||| (hiWord r.time &&& 0x7FFFFFFF), loWord r.time] ++ r.body

/-- A record overlaps the bytes [lo, hi). -/
def Rec.overlaps (r : Rec) (lo hi : Nat) : Bool := decide (r.offset < hi ∧ lo < r.offset + r.size)

/-- Append a record: the end marker, the words, the header; older records in the way are overwritten
and counted, saturating (R429, R430). -/
def Recorder.append (q : Recorder) (r : Rec) : Recorder :=
  let wraps := decide (recArea < q.wpos + r.size)
  let pos := if wraps then 0 else q.wpos
  let old := if wraps then q.recs.filter (fun x => decide (x.offset < q.wpos)) else q.recs
  let fits := old.filter (fun x => !x.overlaps pos (pos + r.size + 4))
  let gone := q.recs.length - fits.length
  { q with
    recs := fits ++ [{ r with offset := pos }]
    wpos := if pos + r.size = recArea then 0 else pos + r.size
    overwritten := min (2 ^ 32 - 1) (q.overwritten + gone) }

end Sys2Proof

namespace Sys2Proof.Machine

/-- TVALID of an entry made now (R428). -/
def State.tvalid (s : State) : Bool :=
  match s.time.state with
  | .locked | .holdover => true
  | .following => s.time.partnerState == 2 || s.time.partnerState == 3
  | _ => false

/-- A record of this instant. -/
def State.newRec (s : State) (source type inst : Nat) (body : List Word) : Rec :=
  { source := source, type := type, inst := inst, op := s.opSecondsNow, cycles := s.power.cycles,
    tvalid := s.tvalid, time := s.now, body := recBody body }

/-- Cells of 64 bytes that a number of words needs (R170). -/
def cellsOfWords (n : Nat) : Nat := (4 * n + 63) / 64

/-! ### The frame pool (R170 to R173) -/

/-- POOL_MIN and POOL_MAX of a channel as they apply (R171). -/
def State.poolLimits (s : State) (ch : Nat) : Nat × Nat :=
  if 12 ≤ ch ∧ ch ≤ 27 then
    (if s.parN 0x01 (0x10 + (ch - 12)) 0 = 0 then (0, 0) else (576, 576))
  else (s.parN 0x01 (0x20 + ch) 0, s.parN 0x01 (0x20 + ch) 1)

end Sys2Proof.Machine

namespace Sys2Proof
open Sys2Proof.Machine

/-- Move a channel's holding to n cells, from or to the free cells; no change where they do not suffice, or
where there is no such channel. -/
def Pool.setHeld (q : Pool) (ch n : Nat) : Pool :=
  if ch < 32 ∧ n ≤ q.free + q.held.get ch then
    { q with free := q.free + q.held.get ch - n, held := q.held.set ch n }
  else q

end Sys2Proof

namespace Sys2Proof.Machine

/-- Free cells that no channel's minimum still reserves (R172). -/
def State.poolShared (s : State) : Nat :=
  s.pool.free - ((List.range 32).map (fun c => (s.poolLimits c).1 - s.pool.held.get c)).sum

/-- A channel can take n more cells (R172). -/
def State.poolCan (s : State) (ch n : Nat) : Bool :=
  decide (s.pool.held.get ch + n ≤ (s.poolLimits ch).2) &&
  decide (s.pool.held.get ch + n - max (s.pool.held.get ch) (s.poolLimits ch).1 ≤ s.poolShared)

/-- A refusal of a channel is counted (R172); the entry of its second follows at a tick edge. -/
def State.poolRefuse (s : State) (ch : Nat) : State :=
  { s with pool :=
    { s.pool with
      refused := s.pool.refused.modify ch (· + 1)
      refusedAt := if s.pool.refused.get ch = 0 then s.pool.refusedAt.set ch s.now else s.pool.refusedAt } }

/-- A channel takes n cells. -/
def State.poolTake (s : State) (ch n : Nat) : State :=
  { s with pool := s.pool.setHeld ch (s.pool.held.get ch + n) }

/-- A channel gives n cells back. -/
def State.poolGive (s : State) (ch n : Nat) : State :=
  { s with pool := s.pool.setHeld ch (s.pool.held.get ch - n) }

/-! ### Frames in the launch-time queues (R170, R267) -/

/-- The terminal of a queue's port: 1 = the PRP pair, 2 = port 3, 3 = port 4. -/
def launchPort (k : Nat) : Nat := if k = 1 then 1 else k + 1

/-- The frames of a queue. -/
def State.queueOf (s : State) (k q : Nat) : List LaunchFrame := s.net.queues.get (k * 8 + q)

end Sys2Proof.Machine

namespace Sys2Proof
open Sys2Proof.Machine

/-- Cells of a frame in a launch queue: its data with the Ethernet, IPv4 and UDP headers, 42 bytes (log entry 198). -/
def LaunchFrame.cells (f : LaunchFrame) : Nat := (f.bytes + 42 + 63) / 64

end Sys2Proof

namespace Sys2Proof.Machine

/-- The pool channel of a queue's port holds the cells of the frames that wait there (R170). -/
def State.syncNet (s : State) (k : Nat) : State :=
  let cells := (((List.range 8).flatMap (s.queueOf k)).map (fun f => LaunchFrame.cells f)).sum
  { s with pool := s.pool.setHeld (7 + launchPort k) cells }

/-! ### Writing records -/

end Sys2Proof.Machine

namespace Sys2Proof
open Sys2Proof.Machine

/-- A record waits in its source, at most 8; beyond that the events are counted (R431). -/
def Recorder.wait (q : Recorder) (r : Rec) : Recorder :=
  if (q.waiting.get r.source).length < 8 then
    { q with waiting := q.waiting.modify r.source (· ++ [r]) }
  else { q with lost := q.lost.modify r.source (· + 1) }

/-- Write what waits in a source, and then the count of what it lost (R431). -/
def Recorder.flush (q : Recorder) (source : Nat) (lostRec : Nat → Rec) : Recorder :=
  let q1 := (q.waiting.get source).foldl Recorder.append { q with waiting := q.waiting.set source [] }
  if q1.lost.get source = 0 then q1
  else { q1.append (lostRec (q1.lost.get source)) with lost := q1.lost.set source 0 }

end Sys2Proof

namespace Sys2Proof.Machine

/-- The recorder stages a record, or the record waits in its source (R172, R431). In HIBERNATE the
Skink holds up to 16 of the Matrix's events and counts the rest (R414). -/
def State.addRec (s : State) (r : Rec) : State :=
  if s.power.state == .hibernate then
    (if s.power.heldEvents.length < 16 then
      { s with power := { s.power with heldEvents := s.power.heldEvents ++ [r] } }
    else { s with power := { s.power with heldLost := s.power.heldLost + 1 } })
  else if !s.up 41 then s
  else if s.poolCan 28 (cellsOfWords (5 + r.body.length)) then
    { s with recorder :=
      ((s.recorder.flush r.source (fun n => s.newRec r.source 0xFF 127 [w32 n])).append r) }
  else ({ s with recorder := s.recorder.wait r }).poolRefuse 28

/-- Make an entry in the recorder (R432). -/
def State.record (s : State) (source type inst : Nat) (body : List Word) : State :=
  s.addRec (s.newRec source type inst body)

/-! ## The Event Fabric views (R205 to R210) -/

/-- The source is assigned to view v (R206); 12 is the Keeper's view. -/
def State.srcAssigned (s : State) (v n : Nat) : Bool :=
  if n < 120 then true
  else if n < 128 then decide (s.ownLeap (n - 119) = v)
  else if n < 192 then decide (s.ownLoop (n - 128) = v)
  else if n < 208 then decide (s.ownValve (n - 191) = v)
  else if n < 256 then false
  else if n < 290 then decide (v < 12)
  else if n < 292 then true
  else if n < 512 then false
  else decide (n < 1023)

/-- A bit of a view's bank bits. -/
def setBit (b : BitVec 1024) (n : Nat) (v : Bool) : BitVec 1024 :=
  if v then b ||| (1#1024 <<< n) else b &&& ~~~(1#1024 <<< n)

/-- The group of a priority under PRIGROUP g (R208). -/
def prioGroup (g p : Nat) : Nat := p / 2 ^ (7 - g)

end Sys2Proof.Machine

namespace Sys2Proof
open Sys2Proof.Machine

/-- The pending and enabled source that comes first: group, sub-priority, then number (R208). `mine` says which sources are
assigned to the view (R206); a source on the active stack waits for its completion (R210). -/
def View.first (v : View) (mine : Nat → Bool) : Option Nat :=
  (List.range 1023).foldl
    (fun best n =>
      if v.pending.getLsbD n && v.enable.getLsbD n && mine n && !v.stack.any (fun e => e.1 == n) then
        match best with
        | none => some n
        | some b => if (v.srcs.get n).prio < (v.srcs.get b).prio then some n else some b
      else best) none

/-- The source that may pre-empt (R208): EVF_HIGHEST. -/
def View.highest (v : View) (mine : Nat → Bool) : Option Nat :=
  match v.first mine with
  | none => none
  | some n =>
    if 16 ≤ v.stack.length then none
    else match v.stack with
      | [] => some n
      | (_, p) :: _ =>
        if prioGroup v.effGroup (v.srcs.get n).prio < prioGroup v.effGroup p then some n else none

/-- An event arrives on a source: pending, and COUNT rises, saturating at 255 (R209, R210). -/
def View.event (v : View) (n : Nat) : View :=
  let c := (v.srcs.get n).count
  { v with
    pending := setBit v.pending n true
    srcs := v.srcs.modify n (fun x =>
      if c < 255 then { x with count := c + 1 } else { x with sat := true }) }

/-- A claim: push the source with its priority, clear its pending bit and its count (R209). -/
def View.claim (v : View) (n : Nat) : View :=
  { v with
    stack := (n, (v.srcs.get n).prio) :: v.stack
    pending := setBit v.pending n false
    srcs := v.srcs.modify n (fun x => { x with count := 0, sat := false }) }

/-- Remove the top of the active stack; a waiting PRIGROUP governs once the stack is empty (R208, R209). -/
def View.complete (v : View) : View :=
  { v with stack := v.stack.tail, effGroup := if v.stack.tail.isEmpty then v.prigroup else v.effGroup }

/-- The word a read of EVF_CLAIM returns for a source (R207). -/
def View.claimWord (v : View) (n : Nat) : Word :=
  packWord [(0, n), (16, (v.srcs.get n).count), (24, b2n (v.srcs.get n).sat)]

end Sys2Proof

namespace Sys2Proof.Machine

/-- The enabled partitions on a core pair, the lower-numbered first (R189). -/
def State.sharers (s : State) (pr : Nat) : List Nat :=
  (List.range 12).filter (fun q => s.parB 0x03 q 0 && s.parN 0x03 q 2 == pr)

/-- PART_SLICE_US of a partition, in ns. -/
def State.sliceNs (s : State) (p : Nat) : Nat := s.parN 0x03 p 3 * 1000

/-- The partition's core pair runs it now: alone on its pair, or within its slice, which lasts PART_SLICE_US (R189, R190). -/
def State.inSlice (s : State) (p : Nat) : Bool :=
  let pr := s.parN 0x03 p 2
  if (s.sharers pr).any (fun q => q != p) then
    match s.slices.get pr with
    | none => false
    | some x => x.part == p && decide (s.now < x.since + s.sliceNs p)
  else true

/-- A slice of partition p begins on its shared pair (R189): the lower-numbered partition's opens a pair frame, PAIR_FRAME_US
or more after the one before, and the other's follows within the frame; a switch takes 1 µs. -/
def State.sliceDue (s : State) (pr p : Nat) : Bool :=
  let l := s.sharers pr
  decide (1 ≤ pr) && l.length == 2 && l.contains p && s.pairUp p &&
  match s.slices.get pr with
  | none => l.head? == some p
  | some x =>
    decide (x.since + s.sliceNs x.part + 1000 ≤ s.now) &&
    (if l.head? == some p then decide (x.frame + s.parN 0x03 (0x20 + pr) 0 * 1000 ≤ s.now) else x.part != p)

/-- The slice of partition p as it begins: the first of the pair's opens the frame. -/
def State.newSlice (s : State) (pr p : Nat) : Slice :=
  { part := p, since := s.now
    frame := if (s.sharers pr).head? == some p then s.now else match s.slices.get pr with | some x => x.frame | none => s.now }

/-- The domain of the core pair behind a view: the Keeper's is pair 0 (R10). -/
def State.viewDomain (s : State) (v : Nat) : Nat := if v < 12 then 33 + s.pairOf v else 33

/-- The source that view v would claim now (R206, R208): EVF_HIGHEST. -/
def State.highest (s : State) (v : Nat) : Option Nat := (s.view v).highest (s.srcAssigned v)

/-- The view signals its core pair when a source may pre-empt and DELIVER = 1; a partition outside its
slice is signalled when its slice begins (R190, R209). The signal wakes an idle pair (R20). -/
def State.signal (s : State) (v : Nat) : State :=
  doIf ((s.view v).deliver && (s.highest v).isSome && (v == 12 || s.inSlice v)) s
    (fun s => (s.awake (s.viewDomain v)).emit (.signal v))

/-- EVT_SOURCE k of partition p, where it is enabled (R233): source and priority. -/
def State.evtBind (s : State) (p k : Nat) : Option (Nat × Nat) :=
  let w := s.par (paddr 0x03 p (0x24 + k))
  if bitOf w 31 then some (fieldOf w 9 0, fieldOf w 19 16) else none

/-- Event tasks of partition p may run now: it is RUN, or in its first cycle, or in a stepped cycle while
HELD, and within its slice (R190, R223, R226, R227). -/
def State.tasksRun (s : State) (p : Nat) : Bool :=
  s.parN 0x03 p 1 == 0 &&
  ((s.part p).state == .run || ((s.part p).inCycle && ((s.part p).state == .starting || (s.part p).state == .held))) &&
  s.inSlice p

/-- Event task k runs, on its core pair, which wakes for it (R20): its source is claimed, its COUNT and SAT become
the event words, and it is over within the step (R223, R224). -/
def State.runTask (s : State) (p k n : Nat) : State :=
  let x := (s.view p).srcs.get n
  let cause := if x.sat then 16 else 0
  ((s.awake (s.viewDomain p)).modView p (fun v => { (View.claim v n) with stack := v.stack })).modPart p (fun q =>
    { q with
      evtCount := q.evtCount.set k x.count
      evtSat := if x.sat then q.evtSat ||| 2 ^ k else q.evtSat
      evtRan := k :: q.evtRan
      sysCause := if q.inCycle then q.sysCause ||| cause else q.sysCause
      nextCause := if q.inCycle then q.nextCause else q.nextCause ||| cause })

/-- Run event task k if it is due at this priority. -/
def State.tryTask (s : State) (p pr k : Nat) : State :=
  match s.evtBind p k with
  | none => s
  | some (n, q) =>
    if q == pr && !(s.part p).evtRan.contains k && (s.view p).pending.getLsbD n && (s.view p).enable.getLsbD n then
      s.runTask p k n
    else s

/-- Every event task that is due runs, in priority order (R222, R223). -/
def State.runTasks (s : State) (p : Nat) : State :=
  if s.tasksRun p then
    forEach (List.range 16) s (fun s pr => forEach (List.range 16) s (fun s k => s.tryTask p pr k))
  else s

/-- The bits of the input image that show the item of a source: its first bit and its width (R206, R218). -/
def sourceItem (n : Nat) : Option (Nat × Nat) :=
  if n < 64 then some (8 * 0x40 + n, 1)
  else if n < 96 then some (8 * (0x80 + 4 * (n - 64)), 32)
  else if 112 ≤ n ∧ n < 120 then some (8 * (0x100 + 8 * (n - 112)), 64)
  else if 128 ≤ n ∧ n < 192 then some (8 * (0x200 + 4 * (n - 128)), 32)
  else if 192 ≤ n ∧ n < 208 then some (8 * (0x300 + 4 * (n - 192)), 32)
  else none

/-- The input item of a source is forced in partition v's cycle, in any of its bits: it raises no event there (R228). -/
def State.forcedSource (s : State) (v n : Nat) : Bool :=
  match sourceItem n with
  | none => false
  | some (lo, w) => decide (v < 12) && (s.part v).cycleForces.any (fun f =>
      decide (8 * f.addr + f.bit < lo + w ∧ lo < 8 * f.addr + f.bit + f.width))

/-- An event on one view's source, if the source is assigned to the view (R206). The Scan Engine claims for the event tasks of
a PART_KIND 0 partition (R223). -/
def State.raise (s : State) (v n : Nat) : State :=
  if s.srcAssigned v n then
    let s1 := s.modView v (fun w => w.event n)
    if v < 12 then (s1.runTasks v).signal v else s1.signal v
  else s

/-- An event of a unit: a forced input raises none (R228). -/
def State.event (s : State) (v n : Nat) : State := doIf (!s.forcedSource v n) s (fun s => s.raise v n)

/-- An event on every view (R206). -/
def State.eventAll (s : State) (n : Nat) : State :=
  forEach (List.range 13) s (fun s v => s.event v n)

/-- A view at its reset values (R210): priorities 0x80, PRIGROUP 7. -/
def State.resetView (s : State) (v : Nat) : State := s.modView v (fun _ => {})

end Sys2Proof.Machine
end

