-- ==== Sys2Proof/Machine/Crc.lean ====
section
/-! DEFINITION. The check values: CRC-32C of R33, CRC-32 of R380 and CRC-6 of R305. -/

namespace Sys2Proof.Machine

/-- One bit through a 32-bit register, most significant bit first. -/
def crc32Bit (gen : Word) (reg : Word) (b : Bool) : Word :=
  if reg.getLsbD 31 != b then (reg <<< 1) ^^^ gen else reg <<< 1

/-- The bits of a w-bit number, most significant first. -/
def bitsMsb (w v : Nat) : List Bool := (List.range w).map (fun i => Nat.testBit v (w - 1 - i))

/-- The bits of a w-bit number, least significant first. -/
def bitsLsb (w v : Nat) : List Bool := (List.range w).map (fun i => Nat.testBit v i)

/-- CRC-32C of bits in line order: generator 0x1EDC6F41, initial and final 0xFFFFFFFF, no reflection (R33). -/
def crc32cBits (bs : List Bool) : Word := bs.foldl (crc32Bit 0x1EDC6F41) 0xFFFFFFFF ^^^ 0xFFFFFFFF

/-- CRC-32C of words, each most significant byte first (R399). -/
def crc32c (ws : List Word) : Word := crc32cBits (ws.flatMap (fun w => bitsMsb 32 w.toNat))

/-- The bits of a word in the order R380 takes them: bytes from the most significant, each reflected. -/
def reflectedBits (w : Word) : List Bool :=
  ([3, 2, 1, 0] : List Nat).flatMap (fun k => bitsLsb 8 (w.toNat / 2 ^ (8 * k) % 256))

/-- A word with its bits in reverse order. -/
def reverseWord (w : Word) : Word :=
  (List.range 32).foldl (fun acc i => if w.getLsbD i then acc ||| (1#32 <<< (31 - i)) else acc) 0

/-- CRC-32: generator 0x04C11DB7, reflected, initial and final 0xFFFFFFFF (R380). -/
def crc32 (ws : List Word) : Word :=
  reverseWord ((ws.flatMap reflectedBits).foldl (crc32Bit 0x04C11DB7) 0xFFFFFFFF) ^^^ 0xFFFFFFFF

/-- CRC-6 with generator x^6 + x + 1, initial value all ones (R305). -/
def crc6 (bs : List Bool) : Nat :=
  bs.foldl (fun reg b =>
    let top := Nat.testBit reg 5
    if top != b then ((reg * 2) % 64) ^^^ 3 else (reg * 2) % 64) 63

end Sys2Proof.Machine
end

