-- ==== Sys2Proof/Machine/Keeper.lean ====
section
/-! DEFINITION. The Keeper's command side: tenants' credit books and queues, the reply cache, the
configuration lock, the order of the checks, and how every opcode row runs (R155 to R182). -/

namespace Sys2Proof.Machine

/-! ## Status words (R157) -/

def stOk : Nat := 0x0000
def stStarting : Nat := 0x0101
def stResource : Nat := 0x0102
def stUnknownOpcode : Nat := 0x0201
def stBadLength : Nat := 0x0202
def stBadFlags : Nat := 0x0203
def stUnknownAddress : Nat := 0x0204
def stOutOfRange : Nat := 0x0205
def stReadOnly : Nat := 0x0206
def stNoLock : Nat := 0x0207
def stBulkSequence : Nat := 0x0208
def stSeqReuse : Nat := 0x0209
def stNotActive : Nat := 0x020A
def stCommitCheck : Nat := 0x020B
def stRole : Nat := 0x0301
def stHeld : Nat := 0x0401
def stInternal : Nat := 0x0501
def stStoreWrite : Nat := 0x0502
def stStreamAborted : Nat := 0x0503
/-- REJECTED with a detail of the opcode's own chapter. -/
def stRejected (d : Nat) : Nat := 0x0200 + d
/-- FAULT with a detail of the opcode's own chapter. -/
def stFault (d : Nat) : Nat := 0x0500 + d
/-- LOCK_BROKEN with its detail (R178): 1 OWNER_RESET, 2 OWNER_FAULT, 3 MODULE_RESTART. -/
def stBroken (d : Nat) : Nat := 0x0600 + d

/-! ## Flags (R156) -/

def flBulk (f : Nat) : Bool := Nat.testBit f 0
def flLast (f : Nat) : Bool := Nat.testBit f 1
def flStaged (f : Nat) : Bool := Nat.testBit f 3

/-! ## Tenants -/

/-- TNT_KIND, TNT_ROLE and TNT_PARTITION (R184). -/
def State.tntKind (s : State) (t : Nat) : Nat := s.parN 0x01 (0x10 + t) 0
def State.tntRole (s : State) (t : Nat) : Nat := s.parN 0x01 (0x10 + t) 1
def State.tntPart (s : State) (t : Nat) : Nat := s.parN 0x01 (0x10 + t) 2

/-- The tenant to which partition p is bound (R187): the lowest of kind 2 that names it. -/
def State.partTenant (s : State) (p : Nat) : Option Nat :=
  (List.range 16).find? (fun t => s.tntKind t == 2 && s.tntPart t == p)

/-- Words of a reply packet (R155). -/
def replyWords (r : Reply) : List Word :=
  packWord [(0, r.status), (16, r.payload.length % 256), (24, r.flags)] ::
  packWord [(0, r.seq), (16, r.tag)] :: r.payload

/-- Cells of a packet of n words: at most 17, since words past those of the longest packet are not kept (R171). -/
def packetCells (n : Nat) : Nat := min 17 (cellsOfWords n)

/-- Cells that a tenant's queue holds: its packets and one per cache entry (R171); never more than 576. -/
def tenantCells (x : Tenant) : Nat :=
  min 576 ((x.queued.map (fun p => packetCells (2 + p.req.payload.length))).sum +
    (x.executing.map (fun e => packetCells (2 + e.pkt.req.payload.length))).sum +
    (x.unread.map (fun u => packetCells u.words.length)).sum + x.cache.length)

/-- Set a tenant's record, and with it the cells of its pool channel. -/
def State.setTenant (s : State) (t : Nat) (x : Tenant) : State :=
  { s with tenants := s.tenants.set t x, pool := s.pool.setHeld (12 + t) (tenantCells x) }

/-- Change a tenant's record. -/
def State.modTenant (s : State) (t : Nat) (f : Tenant → Tenant) : State := s.setTenant t (f (s.tenant t))

/-- Two packets carry the same request (the instant aside). -/
def sameRequest (p : Packet) (opcode : Nat) (r : Req) : Bool :=
  p.opcode == opcode && p.req.seq == r.seq && p.req.tag == r.tag && p.req.flags == r.flags &&
  p.req.payload == r.payload

/-- SEQ equals that of a request queued or executing (R165). -/
def Tenant.inFlight (x : Tenant) (seq : Nat) : Bool :=
  x.queued.any (fun p => p.req.seq == seq) || x.executing.any (fun e => e.pkt.req.seq == seq)

/-- A write-stream opening that waits for its continuations. It holds back no later request of its
group, since R167 and R185 answer such requests while the stream is open (log entry 20). -/
def Tenant.isOpening (x : Tenant) (e : Running2) : Bool :=
  match x.inStream with
  | none => false
  | some w => e.pkt.opcode == 0x0111 && e.pkt.req.seq == w.pkt.req.seq

/-- A request of an opcode can start: fewer than 8 execute, and none of its group (R164). -/
def Tenant.canStart (x : Tenant) (opcode : Nat) : Bool :=
  decide (x.executing.length < 8) &&
  !x.executing.any (fun e => e.pkt.opcode / 256 == opcode / 256 && !Tenant.isOpening x e)

/-- A packet that continues a write stream, open or with its opening still queued, or strays from an ended one
(R167). -/
def Tenant.isContinuation (x : Tenant) (opcode : Nat) (r : Req) : Bool :=
  opcode == 0x0111 && flBulk r.flags &&
  (x.ended.contains r.seq || (match x.inStream with | none => false | some w => w.pkt.req.seq == r.seq) ||
    x.queued.any (fun p => p.opcode == 0x0111 && flBulk p.req.flags && !flLast p.req.flags && p.req.seq == r.seq))

/-- The partition of a partition tenant, for the sources of its window (R206). -/
def State.windowEvent (s : State) (t n : Nat) : State :=
  if s.tntKind t == 2 then s.event (s.tntPart t) n else s

/-- The tenant's session carries a packet: its idle time begins anew (R181). -/
def Tenant.carries (x : Tenant) (now : Nat) : Tenant :=
  { x with session := x.session.map (fun w => { w with lastPacket := now }) }

/-- The reply goes to the tenant: one more reply unread; RX_READY is set when there was none (R162). -/
def State.toUnread (s : State) (t : Nat) (r : Reply) : State :=
  let was := (s.tenant t).unread.isEmpty
  let s1 := s.modTenant t (fun x => Tenant.carries { x with unread := x.unread ++ [{ words := replyWords r }] } s.now)
  doIf was (s1.emit (.reply t r)) (fun s => s.windowEvent t 288)

/-- The reply cache keeps the last 32 distinct SEQ values (R165). -/
def Tenant.addCache (x : Tenant) (seq opcode : Nat) (r : Reply) : Tenant :=
  if x.cache.any (fun e => e.seq == seq) then x
  else
    let trunc := decide (14 < r.payload.length)
    let e : Cached := { seq := seq, opcode := opcode, trunc := trunc,
                        reply := { r with payload := if trunc then [] else r.payload } }
    { x with cache := (e :: x.cache).take 32 }

/-- A tenant is partition p's tenant, or an external tenant with a session, or tenant 0 in recovery. -/
def State.canSubmit (s : State) (t : Nat) : Bool :=
  (s.tntKind t == 2 && s.parB 0x03 (s.tntPart t) 0) || (s.tenant t).session.isSome

/-- Put a packet into a tenant's queue: the credit moves to queued; a SEQ that is queued or executing
is discarded and its credit returns at once (R162, R165). Without a credit nothing is queued. A packet wakes the
Keeper's core pair (R20). -/
def State.enqueue (s : State) (t : Nat) (p : Packet) : State :=
  let x := s.tenant t
  if x.credits = 0 || (Tenant.inFlight x p.req.seq && !Tenant.isContinuation x p.opcode p.req) then s
  else (s.awake 33).modTenant t (fun x => { x with credits := x.credits - 1, queued := x.queued ++ [p] })

/-- Every opcode of the manual. -/
def knownOpcodes : List Nat :=
  [0x0101, 0x0102, 0x0103, 0x0104, 0x0105, 0x0106, 0x0107, 0x0108, 0x0109, 0x010A, 0x0110, 0x0111, 0x0112,
   0x0120, 0x0121, 0x0131, 0x0201, 0x0202, 0x0203, 0x0204, 0x0301, 0x0302, 0x0303, 0x0310, 0x0311, 0x0312,
   0x0313, 0x0314, 0x0315, 0x0316, 0x0317, 0x0318] ++
  [0x1001, 0x1002, 0x1003, 0x1004, 0x1101, 0x1102, 0x1103, 0x1104, 0x1105, 0x1106, 0x1107, 0x1108,
   0x1201, 0x1202, 0x1203, 0x1204, 0x1205, 0x1206, 0x1207, 0x1208, 0x1301, 0x1302, 0x1303, 0x1304, 0x1305,
   0x1306] ++
  [0x2001, 0x2002, 0x2003, 0x2101, 0x2201, 0x2202, 0x2203, 0x2301, 0x2302, 0x2303, 0x2401, 0x2402, 0x2403,
   0x2404, 0x2405, 0x2406, 0x2407, 0x2501, 0x2502, 0x3001, 0x3002, 0x3003, 0x4001, 0x4002, 0x4003, 0x4004,
   0x4101, 0x4102, 0x4103, 0x4104, 0x5001, 0x5002, 0x5101, 0x5102]

/-- The opcodes the recovery service answers (R394). -/
def recoveryOpcodes : List Nat := [0x0101, 0x0102, 0x0103, 0x0111, 0x0106]

/-- A packet for which no opcode row exists: its opcode is unknown or its LENGTH is not that of its words. -/
def Packet.malformed (p : Packet) : Bool :=
  p.length != p.req.payload.length || !knownOpcodes.contains p.opcode

/-- The answer to a malformed packet (R158, R160, R394): a packet without a header, or with more words than its LENGTH
says, is BAD_LENGTH whatever its opcode. -/
def malformedStatus (s : State) (p : Packet) : Nat :=
  if s.power.keeper == .starting && !s.inRecovery then stStarting
  else if p.length = 256 ∨ p.length < p.req.payload.length then stBadLength
  else if !knownOpcodes.contains p.opcode || (s.inRecovery && !recoveryOpcodes.contains p.opcode) then stUnknownOpcode
  else stBadLength

/-- Packets are taken: the Keeper starts, runs or is SAFE, or the recovery service runs (R394, R395). -/
def State.takesPackets (s : State) : Bool :=
  s.power.state == .run && (s.power.keeper != .down || s.inRecovery)

/-! ## Turns and malformed packets (R158, R160, R164) -/

/-- The request at the head of tenant u's queue could start now. -/
def State.waitsTurn (s : State) (u : Nat) : Bool :=
  match (s.tenant u).queued with
  | [] => false
  | p :: _ => !Packet.malformed p && Tenant.canStart (s.tenant u) p.opcode

/-- It is tenant t's turn: no other tenant has a request that could start and was served less recently (R164). -/
def State.hisTurn (s : State) (t : Nat) : Bool :=
  (List.range 16).all (fun u => u == t || !s.waitsTurn u || decide ((s.tenant t).served ≤ (s.tenant u).served))

/-- The tenant is the one served last. -/
def State.nextServed (s : State) : Nat := 1 + ((List.range 16).map (fun u => (s.tenant u).served)).foldl max 0

/-- Move the head of the queue to executing (R162); the tenant's turn is over (R164). -/
def State.startHead (s : State) (t : Nat) (p : Packet) : State :=
  if (s.tenant t).queued.isEmpty then s
  else s.modTenant t (fun x =>
    { x with queued := x.queued.tail, executing := x.executing ++ [{ pkt := p }], served := s.nextServed })

/-- What the reply cache answers to a request whose SEQ it holds (R165). -/
def cachedReply (e : Cached) (opcode : Nat) (r : Req) : Reply :=
  if e.opcode = opcode then { e.reply with flags := e.reply.flags ||| (if e.trunc then 0x14 else 4) }
  else { status := stSeqReuse, flags := r.flags &&& 8, seq := r.seq, tag := r.tag }

/-- The cache's entry of a SEQ. -/
def Tenant.cached (x : Tenant) (seq : Nat) : Option Cached := x.cache.find? (fun e => e.seq == seq)

/-- The malformed packet at the head of the queue is answered: from the reply cache where that holds its SEQ, unless it
continues a bulk write (R165). -/
def State.answerMalformed (s : State) (t : Nat) (p : Packet) : State :=
  let x := s.tenant t
  let own : Reply := { status := malformedStatus s p, flags := p.req.flags &&& 8, seq := p.req.seq, tag := p.req.tag }
  let s1 := s.modTenant t (fun x => { x with queued := x.queued.tail, served := s.nextServed })
  if Tenant.isContinuation { x with queued := x.queued.tail } p.opcode p.req then s1.toUnread t own
  else
    match Tenant.cached x p.req.seq with
    | some e => s1.toUnread t (if own.status = stStarting then own else cachedReply e p.opcode p.req)
    | none => (s1.modTenant t (fun x => Tenant.addCache x p.req.seq p.opcode own)).toUnread t own

/-- Malformed packets at the head of the queue are answered as soon as they can start. -/
def State.drain (fuel : Nat) (s : State) (t : Nat) : State :=
  match fuel with
  | 0 => s
  | n + 1 =>
    match (s.tenant t).queued with
    | p :: _ =>
      if s.takesPackets && Packet.malformed p && Tenant.canStart (s.tenant t) p.opcode then
        State.drain n (s.answerMalformed t p) t
      else s
    | [] => s

/-! ## Submission -/

/-- The packet that words in hand make (R155, R160). With fewer than two words, its LENGTH counts as wrong, so that it is
answered BAD_LENGTH. -/
def packetOf (now : Nat) (ws : List Word) : Packet :=
  let w0 := ws.headD 0
  let w1 := ws.tail.headD 0
  { opcode := fieldOf w0 15 0
    length := if ws.length < 2 then 256 else fieldOf w0 23 16
    req := { time := now, seq := fieldOf w1 15 0, tag := fieldOf w1 31 16, flags := fieldOf w0 31 24,
             payload := ws.drop 2 } }

/-- Words of the first packet of a session's words, where they hold a whole one: LENGTH delimits it (R181). -/
def packetAhead (ws : List Word) : Option Nat :=
  let n := 2 + fieldOf (ws.headD 0) 23 16
  if 2 ≤ ws.length ∧ n ≤ ws.length then some n else none

/-- The packets of a session are read one after another, while the tenant has a credit (R162, R181). -/
def State.readSession (fuel : Nat) (s : State) (t : Nat) : State :=
  match fuel with
  | 0 => s
  | k + 1 =>
    match (s.tenant t).session with
    | none => s
    | some w =>
      match packetAhead w.words with
      | none => s
      | some n =>
        if (s.tenant t).credits = 0 then s
        else
          State.readSession k
            ((s.modTenant t (fun x => { x with session := some { w with lastPacket := s.now, words := w.words.drop n } })).enqueue t
              (packetOf s.now (w.words.take n))) t

/-- A credit returns; a packet held in the window is submitted with it, and a session is read on (R160, R162). -/
def State.creditBack (s : State) (t : Nat) : State :=
  let s1 := s.modTenant t (fun x => { x with credits := x.credits + 1 })
  let s2 := s1.windowEvent t 289
  let x := s2.tenant t
  if x.txHeld then
    ((s2.modTenant t (fun x => { x with txHeld := false, noHeader := false, assembly := [] })).enqueue t
      (packetOf s2.now x.assembly)).drain 32 t
  else (s2.readSession 32 t).drain 32 t

/-- Take the first executing request with a SEQ out of the list. -/
def takeExec (l : List Running2) (seq : Nat) : Option (Running2 × List Running2) :=
  match l with
  | [] => none
  | e :: r =>
    if e.pkt.req.seq == seq then some (e, r)
    else match takeExec r seq with
      | none => none
      | some (x, r') => some (x, e :: r')

/-- Complete an executing request: its reply becomes unread, or is discarded after a tenant reset (R162, R163). A malformed
packet that waited for it is answered. -/
def State.finish (s : State) (t seq status : Nat) (payload : List Word) (flags : Nat := 0) : State :=
  match takeExec (s.tenant t).executing seq with
  | none => s
  | some (e, rest) =>
    let s1 := s.modTenant t (fun x => { x with executing := rest })
    if e.discard then s1.creditBack t
    else
      let r : Reply :=
        { status := status, flags := flags ||| (e.pkt.req.flags &&& 8), seq := seq,
          tag := e.pkt.req.tag, payload := payload }
      ((s1.modTenant t (fun x => Tenant.addCache x seq e.pkt.opcode r)).toUnread t r).drain 32 t

/-- The final packet of a stream that fails (R166); STAGED is echoed (R156). -/
def abortedReply (st : OutStream) : Reply :=
  { status := stStreamAborted, flags := 3 ||| (st.pkt.req.flags &&& 8), seq := st.pkt.req.seq, tag := st.pkt.req.tag }

/-- The next packet of a reply stream: up to 255 words, BULK, and LAST on the final one (R166). -/
def streamPacket (st : OutStream) : Reply × Option OutStream :=
  let ws := st.words.take 255
  let rest := st.words.drop 255
  if st.flags = 1 then
    (abortedReply st, none)
  else
    ({ status := 0, flags := (1 + (if rest.isEmpty then 2 else 0)) ||| (st.pkt.req.flags &&& 8), seq := st.pkt.req.seq,
       tag := st.pkt.req.tag, payload := ws },
     if rest.isEmpty then none else some { st with words := rest })

/-- Take the next records of a recorder read into its words until a packet and one word more are in hand.
Records that have been overwritten are left out, and the read ends at the last one that fits (R433). -/
def fillRecs (ring : List Rec) (recs : List Rec) (words : List Word) (room : Nat) : List Rec × List Word × Nat :=
  match recs with
  | [] => ([], words, room)
  | x :: rest =>
    if 255 < words.length then (x :: rest, words, room)
    else if !ring.contains x then fillRecs ring rest words room
    else if room < (Rec.words x).length then ([], words, room)
    else fillRecs ring rest (words ++ Rec.words x) (room - (Rec.words x).length)

/-- The stream with the words of its next packet in hand. -/
def State.fillStream (s : State) (st : OutStream) : OutStream :=
  let (recs, words, room) := fillRecs s.recorder.recs st.recs st.words st.room
  { st with recs := recs, words := words, room := room }

/-- Start a reply stream whose request executes: the first packet leaves on the request's credit (R166). -/
def State.startStream (s : State) (t : Nat) (st0 : OutStream) : State :=
  let st := s.fillStream st0
  match takeExec (s.tenant t).executing st.pkt.req.seq with
  | none => s
  | some (e, rest) =>
    let s1 := s.modTenant t (fun x => { x with executing := rest })
    if e.discard then s1.creditBack t
    else
      let (r, next) := streamPacket st
      let whole : Reply := { r with payload := st.words }
      ((s1.modTenant t (fun x =>
        { (Tenant.addCache x st.pkt.req.seq st.pkt.opcode whole) with outStream := next })).toUnread t r).drain 32 t

/-- A request's reply is a stream: it leaves now, or waits until the running stream has ended (R166). -/
def State.streamReply (s : State) (t : Nat) (st : OutStream) : State :=
  if (s.tenant t).outStream.isSome then
    s.modTenant t (fun x => { x with waitingStreams := x.waitingStreams ++ [st] })
  else s.startStream t st

/-- Waiting streams leave in turn, until one of them needs further packets (R166). -/
def State.nextOf (s : State) (t : Nat) : List OutStream → State
  | [] => s
  | st :: r =>
    if (s.tenant t).outStream.isSome then s
    else State.nextOf ((s.modTenant t (fun x => { x with waitingStreams := r })).startStream t st) t r

/-- The running stream has ended: the next waiting one leaves (R166). -/
def State.nextStream (s : State) (t : Nat) : State := s.nextOf t (s.tenant t).waitingStreams

/-- The running stream fails: its final packet carries FAULT, STREAM_ABORTED (R166, R185). -/
def State.abortStream (s : State) (t : Nat) : State :=
  match (s.tenant t).outStream with
  | none => s
  | some st =>
    if (s.tenant t).credits = 0 then
      -- the packet leaves with the next free credit: an empty stream marked failed stands for it
      s.modTenant t (fun x => { x with outStream := some { st with words := [], recs := [], flags := 1 } })
    else
      ((s.modTenant t (fun x => { x with outStream := none, credits := x.credits - 1 })).toUnread t (abortedReply st)).nextStream t

/-- The ended list keeps the last 4 SEQ values of write streams (R167). -/
def Tenant.addEnded (x : Tenant) (seq : Nat) : Tenant := { x with ended := (seq :: x.ended).take 4 }

/-! ## The configuration lock (R174 to R178) -/

/-- Staged changes are discarded. -/
def Cfg.clearStaged (c : Cfg) : Cfg := { c with staged := [], stagedWhole := false, stagedSafe := [] }

/-- The Keeper breaks the lock: BROKEN_PENDING shows with the first cause (R177, R178). -/
def State.breakLock (s : State) (detail : Nat) : State :=
  match s.cfg.lock with
  | none => s
  | some _ =>
    { s with
      cfg :=
        { (Cfg.clearStaged s.cfg) with
          lock := none
          broken := match s.cfg.broken with | some d => some d | none => some detail }
      ident := { s.ident with lockRecord := none } }

/-- The holder t of the lock is lost; a commit that already executes runs to completion (R177). -/
def State.holderLost (s : State) (t detail : Nat) : State :=
  if s.cfg.lock == some t && s.cfg.wait.isNone then s.breakLock detail else s

/-- A tenant reset (R163); the detail is that of R178 for a lock it holds. Credits that return set the source of the
tenant's window (R206). -/
def State.tenantReset (s : State) (t detail : Nat) : State :=
  let x := s.tenant t
  let waiting := x.waitingStreams.map (fun st => st.pkt.req.seq)
  let opening := match x.inStream with | none => [] | some w => [w.pkt.req.seq]
  let gone := waiting ++ opening
  let stay := x.executing.filter (fun e => !gone.contains e.pkt.req.seq)
  let back := x.queued.length + x.unread.length + (x.executing.length - stay.length)
  let s1 := (s.setTenant t
    { x with
      assembly := [], txHeld := false, noHeader := false
      credits := x.credits + back
      queued := [], unread := []
      executing := stay.map (fun e => { e with discard := true })
      cache := if s.tntKind t == 2 then [] else x.cache
      outStream := none, waitingStreams := [], inStream := none, ended := [] }).holderLost t detail
  if back = 0 then s1 else s1.windowEvent t 289

/-! ## How an opcode row runs -/

/-- What the body of an opcode answers. -/
inductive Answer where
  /-- a reply of one packet -/
  | reply (status : Nat) (ws : List Word)
  /-- a reply that leaves as a bulk read -/
  | bulk (object : Nat) (ws : List Word)
  /-- a bulk read of the recorder: the records from the first one asked for, and the greatest word count (R433) -/
  | records (recs : List Rec) (room : Nat)
  /-- the reply comes later; the request stays executing -/
  | later
deriving DecidableEq, Repr

/-- An opcode's fixed properties: number, role, length check, and the gates that apply to it. -/
structure OpSpec where
  opcode : Nat
  role : Nat := 0
  len : List Word → Bool := fun ws => ws.isEmpty
  /-- flag bits that may be set -/
  flags : Nat := 0
  /-- a configuration packet of R178; `takes` = CFG_BEGIN, which needs no lock -/
  config : Bool := false
  takes : Bool := false
  /-- accepted only by the module that runs the plant (R157) -/
  active : Bool := false
  /-- an answer that stands in the place of the role check (R169) -/
  pre : Option Nat := none

/-- OK without a payload. -/
def ok : Answer := .reply stOk []

/-- Refused with a status. -/
def no (st : Nat) : Answer := .reply st []

/-- Take up a request of tenant t: from the head of its queue, or as it arrives. Answers whether it
now executes (R162, R164): a request whose turn it is not waits in the queue. -/
def State.intake (s : State) (t opcode : Nat) (r : Req) : State × Bool :=
  let x := s.tenant t
  let pkt : Packet := { opcode := opcode, length := r.payload.length, req := r }
  if x.queued.any (fun p => sameRequest p opcode r) then
    match x.queued with
    | p :: _ =>
      if sameRequest p opcode r && Tenant.canStart x opcode && s.hisTurn t then (s.startHead t p, true) else (s, false)
    | [] => (s, false)
  else if !s.canSubmit t || decide (x.credits = 0) || Tenant.inFlight x r.seq then (s, false)
  else
    let s1 := (s.enqueue t pkt).modTenant t (fun x => Tenant.carries x s.now)
    if x.queued.isEmpty && Tenant.canStart x opcode && s.hisTurn t then (s1.startHead t pkt, true) else (s1, false)

/-- The checks of R158 before the opcode's own: the status and payload of the first that fails. -/
def State.gate (s : State) (t : Nat) (r : Req) (sp : OpSpec) : Option (Nat × List Word) :=
  if s.inRecovery && !recoveryOpcodes.contains sp.opcode then some (stUnknownOpcode, [])
  else if !sp.len r.payload then some (stBadLength, [])
  else if r.flags &&& (255 - sp.flags) != 0 then some (stBadFlags, [])
  else match sp.pre with
  | some st => some (st, [])
  | none =>
    if s.tntRole t < sp.role then some (stRole, [])
    else if sp.config then
      match s.cfg.broken with
      | some d => some (stBroken d, [])
      | none =>
        match s.cfg.lock with
        | some h => if h = t then (if sp.active && !s.runsPlant then some (stNotActive, []) else none)
                    else some (stHeld, [w32 h])
        | none => if !sp.takes then some (stNoLock, [])
                  else if sp.active && !s.runsPlant then some (stNotActive, []) else none
    else if sp.active && !s.runsPlant then some (stNotActive, []) else none

/-- BROKEN_PENDING clears once its answer is given (R178). -/
def State.clearBroken (s : State) (status : Nat) : State :=
  if status / 256 = 6 then { s with cfg := { s.cfg with broken := none } } else s

/-- Answer an executing request. -/
def State.answer (s : State) (t : Nat) (sp : OpSpec) (r : Req) (a : Answer) : State :=
  match a with
  | .reply st ws => s.finish t r.seq st ws
  | .bulk obj ws =>
    s.streamReply t { pkt := { opcode := sp.opcode, length := r.payload.length, req := r }, object := obj, words := ws }
  | .records recs room =>
    s.streamReply t { pkt := { opcode := sp.opcode, length := r.payload.length, req := r }, object := 4, recs := recs, room := room }
  | .later => s

/-- A request that executes: the cache, the checks, the body (R158, R165). -/
def State.runBody (s : State) (t : Nat) (r : Req) (sp : OpSpec) (body : State → State × Answer) : State :=
  if s.power.keeper == .starting && !s.inRecovery then s.finish t r.seq stStarting []
  else
    match Tenant.cached (s.tenant t) r.seq with
    | some e =>
      match takeExec (s.tenant t).executing r.seq with
      | none => s
      | some (_, rest) =>
        (s.modTenant t (fun x => { x with executing := rest })).toUnread t (cachedReply e sp.opcode r)
    | none =>
      match s.gate t r sp with
      | some (st, ws) => (s.clearBroken st).finish t r.seq st ws
      | none =>
        let (s1, a) := body s
        s1.answer t sp r a

/-- The meaning of an opcode row. -/
def opcode (s : State) (t : Nat) (r : Req) (sp : OpSpec) (body : State → State × Answer) : Outcome :=
  evt s r.time (fun s =>
    if !s.takesPackets then s
    else
      let (s1, go) := s.intake t sp.opcode r
      if go then (s1.runBody t r sp body).drain 32 t else s1)

/-- A length check: exactly n words. -/
def lenIs (n : Nat) : List Word → Bool := fun ws => ws.length == n

end Sys2Proof.Machine
end

