-- ==== Sys2Proof/Machine/Outputs.lean ====
section
/-! DEFINITION. Output ownership and safe states: what drives the outputs of the I/O units (R203, R204). -/

namespace Sys2Proof.Machine

/-- The partition with this owner code is RUN or HELD (R203, R227). Code 0xF names none. -/
def State.ownerRuns (s : State) (o : Nat) : Bool :=
  decide (o < 12) && ((s.part o).state == .run || (s.part o).state == .held)

/-- The owner is RUN or HELD and its outputs are no longer held safe (R201, R226). -/
def State.ownerDrives (s : State) (o : Nat) : Bool := s.ownerRuns o && !(s.part o).outSafe

/-- The output stages are frozen at their last values (R245). -/
def State.isFrozen (s : State) : Bool := s.pair.frozen.isSome

/-- The tenant of the partition that owns an output, for the commands that only it may send. -/
def State.isOwnerTenant (s : State) (t o : Nat) : Bool := decide (o < 12) && s.partTenant o == some t

end Sys2Proof.Machine
end

