-- ==== Sys2Proof/Machine/Valve.lean ====
section
/-! DEFINITION. The valve actuator ports (R291 to R298). Ports are numbered 1 to 16. -/

namespace Sys2Proof.Machine

/-- CRC-8 with polynomial x^8 + x^2 + x + 1, initial value 0 (R294). -/
def crc8 (bs : List Bool) : Nat :=
  bs.foldl (fun reg b => if Nat.testBit reg 7 != b then ((reg * 2) % 256) ^^^ 7 else (reg * 2) % 256) 0

/-- Bits hi to lo of a 40-bit frame as a number, with bit 0 of the frame first on the line. -/
def lineField (f : BitVec 40) (first last : Nat) : Nat := f.toNat / 2 ^ (39 - last) % 2 ^ (last + 1 - first)

/-- The downlink frame (R294). -/
def downlink (mode index scale seq : Nat) : BitVec 40 :=
  let body := mode % 4 * 2 ^ 26 + index % 1024 * 2 ^ 16 + scale % 256 * 2 ^ 8 + seq % 16 * 2 ^ 4
  BitVec.ofNat 40 (6 * 2 ^ 36 + body * 2 ^ 8 + crc8 (bitsMsb 28 body))

/-- INDEX of a phase (R291). -/
def valveIndex (phase : Nat) : Nat := phase / 2 ^ 22 % 1024

/-- The slot whose destination is of this kind and number (R286). -/
def State.slotOfDest (s : State) (kind num : Nat) : Option Nat :=
  (List.range 64).find? (fun i => s.parN 0x24 i 7 == kind * 256 + num)

/-- The speed a port is commanded to, Q8.16 index steps per update, before VALVE_DIR (R292). -/
def State.valveSpeed (s : State) (v : Nat) : Int :=
  let x := s.valve v
  if bitOf x.cmd 30 then
    match s.slotOfDest 1 v with
    | none => 0
    | some i => if (s.loop i).state == .off then 0 else x.loopSpeed
  else signedOf 24 (fieldOf x.cmd 23 0)

/-- The link mode and current scale of standstill (R293): COAST, SHORT, or RUN with INDEX held. -/
def State.standstill (s : State) (v : Nat) : Nat × Nat :=
  match s.parN 0x25 (v - 1) 3 with
  | 0 => (0, 0)
  | 1 => (2, 0)
  | _ => (1, s.parN 0x25 (v - 1) 2)

/-- Mode and scale by port state (R293). -/
def State.valveDrive (s : State) (v : Nat) (st : ValveState) : Nat × Nat :=
  match st with
  | .run => (1, s.parN 0x25 (v - 1) 1)
  | .fault => (0, 0)
  | _ => s.standstill v

/-- The port's owner sets it: RUN or HELD, its outputs not held safe, and the module runs the plant. -/
def State.valveOwned (s : State) (v : Nat) : Bool := s.ownerDrives (s.ownValve v) && s.runsPlant

/-- Set a port's state with the mode and scale that follow from it. -/
def State.setValve (s : State) (v : Nat) (st : ValveState) (speed : Int) (still : Option Nat) : State :=
  let (m, c) := s.valveDrive v st
  s.modValve v (fun x => { x with state := st, mode := m, scale := c, speed := speed, stillSince := still })

/-- The state of a port that is not in FAULT (R293). -/
def State.valveSettle (s : State) (v : Nat) : State :=
  let x := s.valve v
  let still := match x.stillSince with | some a => some a | none => some s.now
  if x.state == .fault then s
  else if !s.valveOwned v then s.setValve v .safe 0 still
  else if !bitOf x.cmd 31 then s.setValve v .standstill 0 still
  else
    let sp := if s.parB 0x25 (v - 1) 6 then -(s.valveSpeed v) else s.valveSpeed v
    if sp ≠ 0 then s.setValve v .run sp none
    else
      let done := match x.stillSince with
        | none => false
        | some a => decide (a + s.parN 0x25 (v - 1) 4 * 1000000 ≤ s.now)
      s.setValve v (if x.state == .standstill && done then .standstill else .run) 0 still

/-- The safe state of a port: speed 0, with VALVE_STANDSTILL applied at once (R293). -/
def State.valveSafe (s : State) (v : Nat) : State :=
  let s1 := s.modValve v (fun x => { x with cmd := 0, loopSpeed := 0 })
  if (s1.valve v).state == .fault then s1 else s1.setValve v .safe 0 (some s1.now)

/-- The port's source in the owner's view (R206, R295). -/
def State.valveEvent (s : State) (v : Nat) : State :=
  if s.ownValve v < 12 then s.event (s.ownValve v) (191 + v) else s

/-- A port enters FAULT or its fault bits change: its source is set, and P stops with COAST (R293, R295). -/
def State.valveFault (s : State) (v : Nat) (link : Bool) (bridge : Nat) : State :=
  let x := s.valve v
  let bad := link || bridge != 0
  let changed := x.linkFault != link || x.bridge != bridge
  let s1 := s.modValve v (fun x => { x with linkFault := link, bridge := bridge })
  let s2 :=
    if bad && x.state != .fault then
      (s1.setValve v .fault 0 none).modValve v (fun x => { x with seenOff := false, rearmed := false })
    else s1
  doIf (changed && (bad || x.state == .fault)) s2 (fun s => s.valveEvent v)

/-- The port leaves FAULT once no condition holds and ENABLE has gone through 0 to 1 (R295). -/
def State.valveLeave (s : State) (v : Nat) : State :=
  let x := s.valve v
  if x.state == .fault && !x.linkFault && x.bridge == 0 && x.rearmed then
    (s.setValve v .safe 0 (some s.now)).valveSettle v
  else s

/-- A bus cycle transfers a port's command (R292, R295). -/
def State.valveSet (s : State) (v : Nat) (w : Word) : State :=
  let en := bitOf w 31
  let s1 := s.modValve v (fun x =>
    { x with
      cmd := w
      seenOff := x.seenOff || !en
      rearmed := x.rearmed || (x.seenOff && en) })
  (s1.valveLeave v).valveSettle v

/-- The port is configured and its domain is up. -/
def State.valveLive (s : State) (v : Nat) : Bool := s.parB 0x25 (v - 1) 0 && s.unitUp 47

/-- One update: P advances by speed × 64, VALVE_POS counts whole index steps, SEQ rises, and the frame
leaves where the DL driver is enabled (R291, R294, R457). -/
def State.valveStep (s : State) (v : Nat) (moves : Bool) : State :=
  let x := s.valve v
  let delta := if moves && x.state != .fault then x.speed * 64 else 0
  let raw := (x.phase : Int) + delta
  let steps := raw / 4194304 - (x.phase : Int) / 4194304
  let drv := x.driver || (s.runsPlant && decide (s.pair.outputAt + 30000 ≤ s.now))
  let y := { x with
    phase := (raw % 4294967296).toNat
    pos := signedOf 32 (i32 (x.pos + steps)).toNat
    seq := (x.seq + 1) % 16
    missed := if x.answered then x.missed else x.missed + 1
    answered := false
    driver := drv }
  let s1 := s.modValve v (fun _ => y)
  doIf drv s1 (fun s => s.emit (.valve v (downlink y.mode (valveIndex y.phase) y.scale y.seq)))

/-- VALVE_UPDATE (R291): every 50 µs. During the freeze the port repeats its frame with INDEX unchanged
(R293); on a module that does not run the plant it drives nothing (R285). -/
def execValveUpdate (v : Fin 16) (time : Nat) (s : State) : Outcome :=
  evt s time (fun s =>
    let p := v.val + 1
    if s.now % 50000 ≠ 0 ∨ s.valveLive p = false then s
    else if s.isFrozen then s.valveStep p false
    else if s.runsPlant then (s.valveSettle p).valveStep p true
    else s)

/-- VALVE_UPLINK_RECEIVED (R294, R295). -/
def execValveUplinkReceived (v : Fin 16) (bits : BitVec 40) (time : Nat) (s : State) : Outcome :=
  evt s time (fun s =>
    let p := v.val + 1
    let x := s.valve p
    let crcOk := crc8 (bitsMsb 28 (lineField bits 4 31)) == lineField bits 32 39
    let st := lineField bits 8 15
    if !s.valveLive p || !s.runsPlant then s
    else if lineField bits 0 3 != 9 then s
    else if !crcOk then s.modValve p (fun x => { x with crcErr := (x.crcErr + 1) % 2 ^ 32 })
    else if lineField bits 4 7 != x.seq then s
    else
      let ready := Nat.testBit st 3
      let bridge := b2n (Nat.testBit st 7) + 2 * b2n (Nat.testBit st 6) + 4 * b2n (Nat.testBit st 5) +
        8 * b2n (Nat.testBit st 4)
      let s1 := if ready then
          s.modValve p (fun x =>
            { x with imeas := lineField bits 16 23, temp := lineField bits 24 31, answered := true, missed := 0 })
        else s
      (s1.valveFault p (x.linkFault && !ready) bridge).valveLeave p)

/-- VALVE_LINK_FAULT (R295): VALVE_LINK_MISS consecutive updates are missed, the latest one 25 µs after its
downlink began. -/
def execValveLinkFault (v : Fin 16) (time : Nat) (s : State) : Outcome :=
  evt s time (fun s =>
    let p := v.val + 1
    let x := s.valve p
    let missed := x.missed + (if !x.answered && decide (27000 ≤ s.now % 50000) then 1 else 0)
    if s.valveLive p && s.runsPlant && decide (s.parN 0x25 v 5 ≤ missed) then s.valveFault p true x.bridge else s)

/-- VALVE_STILL (R293): at speed 0 for VALVE_STILL_MS the port enters its standstill mode. -/
def execValveStill (v : Fin 16) (time : Nat) (s : State) : Outcome :=
  evt s time (fun s =>
    let p := v.val + 1
    let x := s.valve p
    match x.stillSince with
    | none => s
    | some a =>
      if x.state == .run && decide (a + s.parN 0x25 v 4 * 1000000 ≤ s.now) then
        s.setValve p .standstill 0 (some a)
      else s)

/-- VALVE_ST (R295). -/
def Valve.status (x : Valve) : Word :=
  packWord [(0, x.state.code), (2, x.mode), (4, b2n x.linkFault), (5, x.bridge), (16, valveIndex x.phase)]

/-- A valve port number of a payload, 1 to 16. -/
def valveNo (w : Word) : Bool := decide (1 ≤ w.toNat ∧ w.toNat ≤ 16)

/-- VALVE_READ (R298). -/
def execValveRead (t : Fin 16) (r : Req) (s : State) : Outcome :=
  opcode s t r { opcode := 0x2501, len := lenIs 1 } (fun s =>
    let x := s.valve (r.w 2).toNat
    if !valveNo (r.w 2) then (s, no stOutOfRange)
    else (s, .reply stOk [Valve.status x, i32 x.pos, w32 x.imeas, w32 x.temp, w32 x.crcErr]))

/-- VALVE_POS_SET (R298): only in SAFE or STANDSTILL. -/
def execValvePosSet (t : Fin 16) (r : Req) (s : State) : Outcome :=
  opcode s t r { opcode := 0x2502, role := 1, len := lenIs 2, active := true } (fun s =>
    let v := (r.w 2).toNat
    if !valveNo (r.w 2) then (s, no stOutOfRange)
    else
      match (s.valve v).state with
      | .safe | .standstill => (s.modValve v (fun x => { x with pos := (r.w 3).toInt }), ok)
      | _ => (s, no (stRejected 0x10)))

end Sys2Proof.Machine
end

