-- ==== Sys2Proof/Machine/Analog.lean ====
section
/-! DEFINITION. The analog loop ports (R315 to R332). Channels are numbered 1 to 32, groups 0 to 3;
codes have an LSB of 0.5 µA. -/

namespace Sys2Proof.Machine

/-- ANA_MODE: 0 OFF, 1 INPUT, 2 INPUT_LOOP, 3 OUTPUT (R315). -/
def State.anaMode (s : State) (ch : Nat) : Nat := s.parN 0x20 (ch - 1) 0

/-- The group of a channel, 0 to 3. -/
def anaGroup (ch : Nat) : Nat := (ch - 1) / 8

/-- Something sets the channel's output: an owner that drives, or a loop slot whose destination it is (R203, R324). -/
def State.anaOwned (s : State) (ch : Nat) : Bool :=
  s.ownerDrives (s.ownAo ch) || (match s.slotOfDest 2 ch with | none => false | some k => (s.loop k).state != .off)

/-- The code an output channel is to drive: at most 48,000, ANA_OUT_SAFE where nothing sets it (R203, R324). Frozen outputs keep
their values (R245). -/
def State.anaFull (s : State) (ch : Nat) : Nat :=
  min (if s.isFrozen || s.anaOwned ch then (s.ana ch).out else s.parN 0x20 (ch - 1) 3) 48000

/-- Duration of the ramp of an output at a takeover (R316). -/
def anaRampNs : Nat := 200000

/-- The code an output channel drives: in a Pair it rises from 0 over 200 µs from the first output cycle, and on the module that gave
up it falls to 0 over 200 µs from the arrival of FIRST_OUTPUT; 0 where the module does not drive it (R316). -/
def State.anaDrive (s : State) (ch : Nat) : Nat :=
  if s.anaMode ch ≠ 3 ∨ s.unitUp 44 = false then 0
  else
    match s.pair.rampDown with
    | some a => if s.runsPlant then s.anaFull ch else (s.ana ch).rampFrom * (a + anaRampNs - s.now) / anaRampNs
    | none =>
      if s.isFrozen then s.anaFull ch
      else if !s.runsPlant then 0
      else if s.single then s.anaFull ch
      else s.anaFull ch * min anaRampNs (s.now - s.pair.outputAt) / anaRampNs

/-- The frozen analog outputs begin to ramp to 0. -/
def State.anaRelease (s : State) (at_ : Nat) : State :=
  (forEach (List.range 32) s (fun s i => s.modAna (i + 1) (fun x => { x with rampFrom := s.anaDrive (i + 1) }))).modPair
    (fun p => { p with rampDown := some at_ })

/-- The safe state of an output channel: ANA_OUT_SAFE (R326). -/
def State.anaSafe (s : State) (ch : Nat) : State :=
  s.modAna ch (fun x => { x with out := s.parN 0x20 (ch - 1) 3 })

/-- A bus cycle or a loop slot sets the output code (R324). -/
def State.anaSet (s : State) (ch code : Nat) : State := s.modAna ch (fun x => { x with out := code })

/-! ## HART (R327 to R329) -/

/-- The channel's transaction is over: its request is answered. -/
def State.hartEnd (s : State) (ch status : Nat) (ws : List Word) : State :=
  match (s.ana ch).hart with
  | none => s
  | some h => (s.modAna ch (fun x => { x with hart := none })).finish h.tenant h.seq status ws

/-- An attempt has brought no valid reply: the request is repeated up to HART_RETRIES times (R329). -/
def State.hartRetry (s : State) (ch detail : Nat) : State :=
  match (s.ana ch).hart with
  | none => s
  | some h =>
    let s1 := s.modAna ch (fun x => { x with hartErr := (x.hartErr + 1) % 2 ^ 32 })
    if h.tries < s.parN 0x20 (ch - 1) 6 then
      doIf s1.runsPlant (s1.modAna ch (fun x => { x with hart := some { h with tries := h.tries + 1 } })) (fun s =>
        s.emit (.hart ch h.req))
    else s1.hartEnd ch (stFault detail) []

/-! ## Samples (R317 to R325) -/

/-- The NAMUR flags of a code: NE_LOW, NE_UNDER, NE_OVER, HIGH at bits 1 to 4 (R320). -/
def neFlags (code : Nat) : Nat :=
  if code ≤ 7200 then 2 else if code ≤ 7599 then 4 else if code ≤ 41000 then 0
  else if code ≤ 41999 then 8 else 16

/-- The limiter holds 25 mA (R322). -/
def AnaMeas.limits (m : AnaMeas) : Bool := decide (50000 ≤ m.code)

/-- LIMIT with V_CH above 20 V. -/
def AnaMeas.miswired (m : AnaMeas) : Bool := AnaMeas.limits m && decide (2000 < m.volt)

/-- Set the flags; a change of any sets the channel's source, and MISWIRE or SUPPLY_LOW that appears ends
a HART transaction (R319, R329). -/
def State.setAnaFlags (s : State) (ch : Nat) (f : BitVec 16) : State :=
  let old := (s.ana ch).flags
  if f = old then s
  else
    let s1 := (s.modAna ch (fun x => { x with flags := f })).eventAll (63 + ch)
    let lost := (f.getLsbD 6 && !old.getLsbD 6) || (f.getLsbD 10 && !old.getLsbD 10)
    doIf lost s1 (fun s => s.hartEnd ch (stFault 0x22) [])

/-- The recovery and retry bookkeeping of an input channel (R322): a channel opened for MISWIRE reads clean
at its third consecutive sample below 21.0 mA while closed for a retry, and opens again where the fault is
there at the sample that ends the 10 ms; a LIMIT episode ends the same way. `now` is 400 µs after the sample instant. -/
def inputStep (x : Ana) (m : AnaMeas) (now : Nat) : Ana :=
  let seen := !x.opened || x.retrying.isSome
  let clean := if seen && decide (m.code < 42000) then x.clean + 1 else 0
  let limitSince := if seen && AnaMeas.miswired m then 
    (match x.limitSince with | some a => some a | none => some (now - 400000)) else none
  let y := { x with clean := clean, limitSince := limitSince, recovering := x.recovering || (seen && AnaMeas.limits m) }
  if 3 ≤ clean then { y with clean := 0, opened := false, retrying := none, recovering := false }
  else
    match x.retrying with
    | none => y
    | some a =>
      if x.opened && decide (a + 10000000 ≤ now ∧ now < a + 11000000) && AnaMeas.miswired m then
        { y with retrying := none, limitSince := none, clean := 0, miswire := (x.miswire + 1) % 2 ^ 32 }
      else y

/-- The code after the filter: a sample that follows an invalid one, or is not filtered, is taken as it is (R318). -/
def State.anaFilter (s : State) (ch : Nat) (x : Ana) (good : Bool) (code : Nat) : Nat :=
  let f := s.parN 0x20 (ch - 1) 1
  if f = 0 ∨ good = false ∨ x.flags.getLsbD 0 = false then 65536 * code
  else Config.anaFilterStep f x.filt (65536 * code)

/-- A sample of a channel in an input mode. -/
def State.inputSample (s : State) (ch : Nat) (m : AnaMeas) (low : Bool) : State :=
  let x := s.ana ch
  let y := inputStep x m s.now
  let test := x.test.isSome
  if y.opened then
    (s.modAna ch (fun _ => { y with code := 0xFFFF, volt := m.volt, filt := 0 })).setAnaFlags ch 0x40
  else
    let good := !AnaMeas.limits m && !y.recovering && !test && !low
    let filt := s.anaFilter ch x good (min m.code 50000)
    let code := filt / 65536
    let ne := neFlags code
    let valid := good && !(s.parB 0x20 (ch - 1) 2 && (ne == 2 || ne == 16))
    let flags := packWord [(0, b2n valid), (0, ne), (5, b2n (AnaMeas.limits m)), (9, b2n test), (10, b2n low)]
    (s.modAna ch (fun _ => { y with code := code, volt := m.volt, filt := filt })).setAnaFlags ch (flags.truncate 16)

/-- How long a condition has held: the instant it began. -/
def heldSince (was : Option Nat) (cond : Bool) (now : Nat) : Option Nat :=
  if cond then (match was with | some a => some a | none => some now) else none

/-- It has held for 10 ms. -/
def held10 (a : Option Nat) (now : Nat) : Bool := match a with | none => false | some t => decide (t + 10000000 ≤ now)

/-- A sample of an output channel (R325). -/
def State.outputSample (s : State) (ch : Nat) (m : AnaMeas) (low : Bool) : State :=
  let x := s.ana ch
  let cmd := s.anaDrive ch
  let open_ := heldSince x.openSince (m.atLimit && decide (1000 ≤ cmd) && decide (m.code < 400)) s.now
  let comp := heldSince x.compSince (m.atLimit && decide (m.code + 200 < cmd) && decide (400 ≤ m.code)) s.now
  let filt := s.anaFilter ch x (!low) m.code
  let flags := packWord [(0, b2n (!low)), (7, b2n (held10 open_ s.now)), (8, b2n (held10 comp s.now)), (10, b2n low)]
  (s.modAna ch (fun x =>
    { x with code := filt / 65536, volt := m.volt, filt := filt, openSince := open_, compSince := comp })).setAnaFlags ch
    (flags.truncate 16)

/-- A channel that is OFF, or passes through OFF after a mode change (R315). -/
def State.offSample (s : State) (ch : Nat) (m : AnaMeas) : State :=
  (s.modAna ch (fun x =>
    { x with
      code := 0, volt := m.volt, filt := 0, offOnce := false, opened := false, retrying := none
      recovering := false, clean := 0, limitSince := none, openSince := none, compSince := none })).setAnaFlags ch 0

/-- One channel's sample. -/
def State.anaOne (s : State) (ch : Nat) (m : AnaMeas) : State :=
  let low := s.grpLow.get (anaGroup ch)
  if s.anaMode ch = 0 ∨ (s.ana ch).offOnce = true then s.offSample ch m
  else if s.anaMode ch = 3 then s.outputSample ch m low
  else s.inputSample ch m low

/-- The FIELD supplies (R330): SUPPLY_LOW below 18.0 V, clear above 18.5 V. -/
def State.takeField (s : State) (field : List Nat) : State :=
  forEach (List.range 4) s (fun s g =>
    let v := field.getD g 0
    { s with
      grpField := s.grpField.set g v
      grpLow := s.grpLow.set g (if v < 1800 then true else if 1850 < v then false else s.grpLow.get g) })

/-- ANA_SAMPLE (R317): the sample instant is a multiple of 1 ms; codes and flags are formed 400 µs later. -/
def execAnaSample (meas : List AnaMeas) (field : List Nat) (time : Nat) (s : State) : Outcome :=
  evt s (time + 400000) (fun s =>
    if time % 1000000 = 0 ∧ s.unitUp 44 = true then
      forEach (List.range 32) (s.takeField field) (fun s i => s.anaOne (i + 1) (meas.getD i {}))
    else s)

/-- ANA_MISWIRE_OPEN (R322 step 3): LIMIT with V_CH above 20 V for 100 ms opens the channel. -/
def execAnaMiswireOpen (ch : Fin 32) (time : Nat) (s : State) : Outcome :=
  evt s time (fun s =>
    let c := ch.val + 1
    match (s.ana c).limitSince with
    | none => s
    | some a =>
      if a + 100000000 ≤ s.now ∧ s.unitUp 44 = true then
        (s.modAna c (fun x =>
          { x with
            opened := true, openedAt := s.now, retrying := none, limitSince := none, clean := 0
            code := 0xFFFF, miswire := (x.miswire + 1) % 2 ^ 32 })).setAnaFlags c 0x40
      else s)

/-- ANA_MISWIRE_RETRY (R322 step 4): every 2 s an opened channel closes. -/
def execAnaMiswireRetry (ch : Fin 32) (time : Nat) (s : State) : Outcome :=
  evt s time (fun s =>
    let c := ch.val + 1
    let x := s.ana c
    if x.opened && x.retrying.isNone && decide (x.openedAt + 2000000000 ≤ s.now) && s.unitUp 44 then
      s.modAna c (fun x => { x with retrying := some s.now, openedAt := x.openedAt + 2000000000, clean := 0 })
    else s)

/-! ## Opcodes (R332) -/

/-- A channel number of a payload, 1 to 32, in W2[7:0]. -/
def chanOf (r : Req) : Nat := fieldOf (r.w 2) 7 0

/-- It is within the numbering. -/
def chanOk (r : Req) : Bool := decide (1 ≤ chanOf r ∧ chanOf r ≤ 32)

/-- ANA_READ. -/
def execAnaRead (t : Fin 16) (r : Req) (s : State) : Outcome :=
  opcode s t r { opcode := 0x2001, len := lenIs 1 } (fun s =>
    let x := s.ana (chanOf r)
    if !chanOk r then (s, no stOutOfRange)
    else (s, .reply stOk [w32 x.code, x.flags.zeroExtend 32, w32 x.volt, w32 (s.grpField.get (anaGroup (chanOf r)))]))

/-- ANA_TEST: TEST for 20 ms; a test on a channel under test finds the channel occupied. -/
def execAnaTest (t : Fin 16) (r : Req) (s : State) : Outcome :=
  opcode s t r { opcode := 0x2002, role := 1, len := lenIs 1, active := true } (fun s =>
    let c := chanOf r
    let x := s.ana c
    if !chanOk r then (s, no stOutOfRange)
    else if s.anaMode c = 0 ∨ s.anaMode c = 3 then (s, no (stRejected 0x11))
    else if x.opened then (s, no (stRejected 0x12))
    else if x.test.isSome then (s, no stResource)
    else
      ((s.modAna c (fun x => { x with test := some (t, r.seq, s.now + 20000000) })).setAnaFlags c
        ((x.flags ||| 0x200) &&& 0xFFFE), .later))

/-- ANA_TEST_DONE: after 20 ms the codes of the internal references are returned. -/
def execAnaTestDone (ch : Fin 32) (code4 code20 : Nat) (time : Nat) (s : State) : Outcome :=
  evt s time (fun s =>
    let c := ch.val + 1
    match (s.ana c).test with
    | none => s
    | some (t, seq, end_) =>
      if end_ ≤ s.now then
        ((s.modAna c (fun x => { x with test := none })).setAnaFlags c ((s.ana c).flags &&& 0xFDFF)).finish t seq stOk
          [w32 code4, w32 code20]
      else s)

/-- The HART commands that need only OPERATE. -/
def hartOpen (r : Req) : Bool := [0, 1, 2, 3, 9, 13, 20, 48].contains (fieldOf (r.w 2) 15 8)

/-- HART_CMD: four words and the data, four bytes per word. -/
def hartLen (ws : List Word) : Bool :=
  decide (4 ≤ ws.length) && ws.length == 4 + (fieldOf (ws.getD 3 0) 7 0 + 3) / 4

/-- HART_CMD (R329): one transaction per channel at a time. -/
def execHartCmd (t : Fin 16) (r : Req) (s : State) : Outcome :=
  opcode s t r { opcode := 0x2003, role := if hartOpen r then 0 else 1, len := hartLen, active := true } (fun s =>
    let c := chanOf r
    if !chanOk r then (s, no stOutOfRange)
    else if !s.parB 0x20 (c - 1) 4 then (s, no (stRejected 0x13))
    else if (s.ana c).hart.isSome then (s, no stResource)
    else
      ((s.modAna c (fun x => { x with hart := some { tenant := t, seq := r.seq, req := r.payload } })).emit
        (.hart c r.payload), .later))

/-- Bytes packed four per word, the first in [31:24]. -/
def packBytes (fuel : Nat) (bs : List Byte) : List Word :=
  match fuel, bs with
  | 0, _ => []
  | _, [] => []
  | n + 1, bs =>
    ((bs.getD 0 0) ++ (bs.getD 1 0) ++ (bs.getD 2 0) ++ (bs.getD 3 0)) :: packBytes n (bs.drop 4)

/-- HART_REPLY_RECEIVED (R329). -/
def execHartReplyReceived (ch : Fin 32) (respCode devStatus : Byte) (data : List Byte) (sumOk : Bool) (time : Nat)
    (s : State) : Outcome :=
  evt s time (fun s =>
    let c := ch.val + 1
    if sumOk then
      s.hartEnd c stOk
        (packWord [(0, respCode.toNat), (8, devStatus.toNat), (16, data.length % 256)] :: packBytes data.length data)
    else s.hartRetry c 0x21)

/-- HART_TIMEOUT (R329): no reply. -/
def execHartTimeout (ch : Fin 32) (time : Nat) (s : State) : Outcome :=
  evt s time (fun s => s.hartRetry (ch.val + 1) 0x20)

/-- HART_SECONDARY_MASTER_FRAME (R327): the module defers its transmission and stores nothing, so that the
transaction in progress only ends later. -/
def execHartSecondaryMasterFrame (_ch : Fin 32) (time : Nat) (s : State) : Outcome := evt s time (fun s => s)

end Sys2Proof.Machine
end

