-- ==== Sys2Proof/Machine/F32.lean ====
section
/-! DEFINITION. IEEE 754 arithmetic on bits, rounded to nearest even once per operation (R89, R230).
The array flushes subnormal inputs and results to zero with their sign kept (R89); partition programs
keep subnormals (R230, log entry 5). A value is exact as a signed fraction before it is rounded. -/

namespace Sys2Proof

/-- A decoded floating-point value: (−1)^neg · n / d, an infinity or a NaN. -/
inductive Fl where
  | nan
  | inf (neg : Bool)
  | num (neg : Bool) (n d : Nat)
deriving DecidableEq, Repr

/-- A binary format: exponent bits, fraction bits, and whether subnormals are flushed. -/
structure Fmt where
  eb : Nat
  mb : Nat
  flush : Bool
deriving DecidableEq, Repr

/-- binary32 as the array computes it (R89). -/
def f32 : Fmt := { eb := 8, mb := 23, flush := true }
/-- binary32 as REAL (R230). -/
def fReal : Fmt := { eb := 8, mb := 23, flush := false }
/-- binary64 as LREAL (R230). -/
def fLreal : Fmt := { eb := 11, mb := 52, flush := false }

/-- The exponent bias. -/
def Fmt.bias (f : Fmt) : Nat := 2 ^ (f.eb - 1) - 1

/-- n / d times 2^e as a fraction. -/
def scale2 (n d : Nat) (e : Int) : Nat × Nat :=
  if 0 ≤ e then (n * 2 ^ e.toNat, d) else (n, d * 2 ^ (-e).toNat)

/-- Decode. -/
def Fmt.decode (f : Fmt) (v : Nat) : Fl :=
  let neg := Nat.testBit v (f.eb + f.mb)
  let e := v / 2 ^ f.mb % 2 ^ f.eb
  let m := v % 2 ^ f.mb
  if e = 2 ^ f.eb - 1 then (if m = 0 then .inf neg else .nan)
  else if e = 0 then
    (if f.flush then .num neg 0 1
     else let q := scale2 m 1 (1 - (f.bias : Int) - f.mb); .num neg q.1 q.2)
  else let q := scale2 (2 ^ f.mb + m) 1 ((e : Int) - f.bias - f.mb); .num neg q.1 q.2

/-- n / d to the nearest integer, ties to even. -/
def roundNE (n d : Nat) : Nat :=
  let q := n / d
  let r := n % d
  if 2 * r < d then q else if d < 2 * r then q + 1 else if q % 2 = 0 then q else q + 1

/-- The exponent e with 2^e ≤ n/d < 2^(e+1), for n > 0. -/
def exponentOf (n d : Nat) : Int :=
  let e : Int := (Nat.log2 n : Int) - Nat.log2 d
  let q := scale2 n d (-e)
  if q.1 < q.2 then e - 1 else e

/-- The sign bit in its place. -/
def Fmt.signBits (f : Fmt) (neg : Bool) : Nat := if neg then 2 ^ (f.eb + f.mb) else 0

/-- Encode, rounding to nearest even; a NaN has the bits of log entry 5. -/
def Fmt.encode (f : Fmt) (x : Fl) : Nat :=
  match x with
  | .nan => (2 ^ f.eb - 1) * 2 ^ f.mb + 2 ^ (f.mb - 1) + (Config.nanBits 0).toNat % 2 ^ (f.mb - 1)
  | .inf neg => f.signBits neg + (2 ^ f.eb - 1) * 2 ^ f.mb
  | .num neg n d =>
    if n = 0 then f.signBits neg
    else
      let e := max (exponentOf n d) (1 - (f.bias : Int))
      let q := scale2 n d ((f.mb : Int) - e)
      let m := roundNE q.1 q.2
      let biased : Nat := (e + f.bias).toNat
      let v := if m < 2 ^ f.mb then m else (biased - 1) * 2 ^ f.mb + m
      if (2 ^ f.eb - 1) * 2 ^ f.mb ≤ v then f.signBits neg + (2 ^ f.eb - 1) * 2 ^ f.mb
      else if f.flush && decide (v < 2 ^ f.mb) then f.signBits neg
      else f.signBits neg + v

/-- Exact negation. -/
def Fl.neg : Fl → Fl
  | .nan => .nan
  | .inf s => .inf (!s)
  | .num s n d => .num (!s) n d

/-- Exact product. -/
def Fl.mul (a b : Fl) : Fl :=
  match a, b with
  | .nan, _ => .nan
  | _, .nan => .nan
  | .inf s, .inf t => .inf (s != t)
  | .inf s, .num t n _ => if n = 0 then .nan else .inf (s != t)
  | .num s n _, .inf t => if n = 0 then .nan else .inf (s != t)
  | .num s n d, .num t m e => .num (s != t) (n * m) (d * e)

/-- Exact sum; a sum of opposite values is +0, and −0 only where both are −0. -/
def Fl.add (a b : Fl) : Fl :=
  match a, b with
  | .nan, _ => .nan
  | _, .nan => .nan
  | .inf s, .inf t => if s = t then .inf s else .nan
  | .inf s, .num _ _ _ => .inf s
  | .num _ _ _, .inf t => .inf t
  | .num s n d, .num t m e =>
    let x := n * e
    let y := m * d
    if s = t then .num s (x + y) (d * e)
    else if x = y then .num (s && t) 0 1
    else if y < x then .num s (x - y) (d * e)
    else .num t (y - x) (d * e)

/-- Exact quotient. -/
def Fl.div (a b : Fl) : Fl :=
  match a, b with
  | .nan, _ => .nan
  | _, .nan => .nan
  | .inf _, .inf _ => .nan
  | .inf s, .num t _ _ => .inf (s != t)
  | .num s _ _, .inf t => .num (s != t) 0 1
  | .num s n d, .num t m e =>
    if m = 0 then (if n = 0 then .nan else .inf (s != t)) else .num (s != t) (n * e) (d * m)

/-- Square root, exact to far more bits than any format keeps, with a sticky last bit. -/
def Fl.sqrt (a : Fl) : Fl :=
  match a with
  | .nan => .nan
  | .inf s => if s then .nan else .inf false
  | .num s n d =>
    if n = 0 then .num s 0 1
    else if s then .nan
    else
      let k := 80 + Nat.log2 d
      let big := n * 4 ^ k / d
      let r := Nat.sqrt big
      let sticky := if r * r * d = n * 4 ^ k then 0 else 1
      .num false (2 * r + sticky) (2 * 2 ^ k)

/-- The value is finite. -/
def Fl.finite : Fl → Bool
  | .num _ _ _ => true
  | _ => false

/-- The exact value as a rational; 0 for a NaN or an infinity. -/
def Fl.toRat : Fl → Rat
  | .num s n d => if s then -((n : Rat) / d) else (n : Rat) / d
  | _ => 0

/-- a < b as numbers; false where either is a NaN. -/
def Fl.lt (a b : Fl) : Bool :=
  match a, b with
  | .nan, _ => false
  | _, .nan => false
  | .inf s, .inf t => s && !t
  | .inf s, .num _ _ _ => s
  | .num _ _ _, .inf t => !t
  | .num s n d, .num t m e =>
    if n = 0 ∧ m = 0 then false
    else if s && !t then decide (n ≠ 0 ∨ m ≠ 0)
    else if !s && t then false
    else if s then decide (m * d < n * e) else decide (n * e < m * d)

/-! ## The array's operations on words -/

/-- Decode a word as the array reads it. -/
def fdec (w : Word) : Fl := f32.decode w.toNat
/-- Round a value to a word. -/
def fenc (x : Fl) : Word := w32 (f32.encode x)
/-- One fused multiply-add: rounded once (R89). -/
def ffma (a b c : Word) : Word := fenc ((fdec a).mul (fdec b) |>.add (fdec c))
def fadd (a b : Word) : Word := fenc ((fdec a).add (fdec b))
def fsub (a b : Word) : Word := fenc ((fdec a).add (fdec b).neg)
def fmul (a b : Word) : Word := fenc ((fdec a).mul (fdec b))
def fdiv (a b : Word) : Word := fenc ((fdec a).div (fdec b))
def fsqrt (a : Word) : Word := fenc (fdec a).sqrt
def fneg (a : Word) : Word := a ^^^ 0x80000000
def fabs (a : Word) : Word := a &&& 0x7FFFFFFF
def flt (a b : Word) : Bool := (fdec a).lt (fdec b)
def fgt (a b : Word) : Bool := flt b a
/-- Neither NaN nor infinity. -/
def ffinite (a : Word) : Bool := (fdec a).finite
/-- The nearest word of n / d. -/
def fq (n : Int) (d : Nat) : Word := fenc (.num (decide (n < 0)) n.natAbs d)
/-- The nearest word of an integer. -/
def fint (n : Int) : Word := fq n 1
/-- The exact value of a word. -/
def frat (w : Word) : Rat := (fdec w).toRat
/-- The nearest word of a rational. -/
def fofRat (q : Rat) : Word := fenc (.num (decide (q < 0)) q.num.natAbs q.den)
/-- Clamp to lo … hi; a NaN stays. -/
def fclamp (lo hi x : Word) : Word := if flt x lo then lo else if flt hi x then hi else x

/-- A value to the nearest integer, halves away from zero (R103). -/
def ratRoundAway (q : Rat) : Int :=
  if q < 0 then -((2 * q.num.natAbs + q.den) / (2 * q.den) : Nat) else ((2 * q.num.natAbs + q.den) / (2 * q.den) : Nat)

/-- A rational rounded to the nearest integer, halves up (R44). -/
def ratRoundUp (q : Rat) : Int := (2 * q.num + q.den) / (2 * q.den)

/-- A word to the nearest code, halves away from zero, saturated to lo … hi (R103). -/
def fcode (x : Word) (k : Nat) (lo hi : Int) : Int :=
  match fdec x with
  | .nan => lo
  | .inf s => if s then lo else hi
  | .num s n d =>
    let v : Int := ((2 * n * k + d) / (2 * d) : Nat)
    max lo (min hi (if s then -v else v))

end Sys2Proof
end

