-- ==== Sys2Proof/Machine/Line.lean ====
section
/-! DEFINITION. What the module's chain ports send, symbol by symbol: the frames of R31, R33, R37 and R38. -/

namespace Sys2Proof.Machine

/-- SD, the start delimiter (R31). -/
def sdLine : List Sym := [.j, .k, .j, .k, .j, .k, .j, .k]

/-- A frame from its bits 8 onward: SD, the bits, and their CRC-32C, MSB first (R33). -/
def frameLine (bits : List Bool) : List Sym :=
  sdLine ++ (bits ++ bitsMsb 32 (crc32cBits bits).toNat).map Sym.bit

/-- A 64-bit frame: TYPE, bits 12 to 19 and bits 20 to 31 (R37). -/
def shortFrame (type hi lo : Nat) : List Sym := frameLine (bitsMsb 4 type ++ bitsMsb 8 hi ++ bitsMsb 12 lo)

/-- The symbols of an item (R31, R37). SYNC: SEQ and DELAY; SOLICIT: SEQ; ENUM: NEXT; ECHO: DEST and ETAG;
TRIP: ACTION * 256 + REASON, and ORIGIN. -/
def itemLine (i : LineItem) (a b : Nat) : List Sym :=
  match i with
  | .sync => shortFrame 1 a b
  | .solicit => shortFrame 2 a 0
  | .trip => shortFrame 6 (a / 256 % 16 * 16 + a % 16) (a / 16 % 16 * 256 + b % 16 * 16)
  | .enum => shortFrame 7 a 0
  | .echo => shortFrame 8 a (b % 256 * 16)
  | .croak => [.j, .j, .k, .k]
  | .abort => [.k, .k, .j, .j]

/-- An item leaves the port of an end. -/
def chainOut (c : Nat) (e : RingEnd) (i : LineItem) (a b : Nat) : Out := .chain c e i a b (itemLine i a b)

/-- The symbols of a CMD: CTAG, DEST, OPC, LEN and the parameter words (R38). -/
def cmdLine (ctag dest opc : Nat) (ps : List Half) : List Sym :=
  frameLine (bitsMsb 4 4 ++ bitsMsb 8 ctag ++ bitsMsb 8 dest ++ bitsMsb 8 opc ++ bitsMsb 4 ps.length ++
    ps.flatMap (fun (h : Half) => bitsMsb 16 h.toNat))

/-- A CMD leaves the port of an end. -/
def cmdOut (c : Nat) (e : RingEnd) (ctag dest opc : Nat) (ps : List Half) : Out :=
  .cmd c e ctag dest opc ps (cmdLine ctag dest opc ps)

end Sys2Proof.Machine
end

