-- ==== Sys2Proof/Machine/ChainOps.lean ====
section
/-! DEFINITION. Shared operations on a chain: which end does what, frames, monitor CMDs and their
queue, compensation values, TRIP, and the start and failure of an enumeration (R28 to R67, R467). -/

namespace Sys2Proof.Machine

/-! ## Ends -/

/-- The ends of this module that launch SYNC, SOLICIT and the Croak in a running (R54, R57, R58, R249). -/
def State.endsIn (s : State) (r : Running) : List RingEnd :=
  (if s.holdsA && r != .reversed then [.a] else []) ++
  (if s.holdsB && (match r with | .healed _ => true | .reversed => true | _ => false) then [.b] else [])

/-- The ends that launch SYNC, SOLICIT and the Croak on chain c and that this module holds. -/
def State.launchEnds (s : State) (c : Nat) : List RingEnd :=
  if s.role == .offline then [] else s.endsIn (s.chain c).running

/-- The ends that launch SYNC: it opens the next tick, so a running that begins at that edge governs it (R54). -/
def State.syncEnds (s : State) (c : Nat) : List RingEnd :=
  if s.role == .offline then [] else s.endsIn ((s.chain c).pendRun.getD (s.chain c).running)

/-- The ends at which this module inserts the Croak, once it has begun to (R24, R43, R54, R57, R58, R249). -/
def State.croakEnds (s : State) (c : Nat) : List RingEnd := s.endsIn (s.chain c).running

/-- The end from which position p is reached (R54, R57, R58, R249): A or B of a broken or healed
ring by its break, B on a reversed chain, the module's own end otherwise. -/
def State.endFor (s : State) (c p : Nat) : RingEnd :=
  match (s.chain c).running with
  | .healed k => if p ≤ k then .a else .b
  | .reversed => .b
  | .folded => .a
  | .whole =>
    match (s.chain c).verify with
    | some v => if v.ringWhole || v.phase == .ringEcho || v.phase == .search then s.ownEnd
                else if p ≤ (s.chain c).breakAfter then .a else .b
    | none => s.ownEnd

/-- The ends at which this module watches the Croak of chain c (R49, R50, R54, R57, R58, R249). A segment
without monitors (a break at k = 0 or k = N) returns no Croak, and its end watches none (log entry 178). -/
def State.watches (s : State) (c : Nat) (e : RingEnd) : Bool :=
  s.holds e && ((s.chain c).serviceTick.isSome || s.power.state == .hibernate) &&
  match (s.chain c).running, e with
  | .whole, .a => false
  | .whole, .b => true
  | .healed k, .a => decide (1 ≤ k)
  | .healed k, .b => decide (k < s.chPositions c)
  | .reversed, .b => true
  | .reversed, .a => false
  | .folded, .a => true
  | .folded, .b => false

/-- The bank of an end is up (R408). -/
def State.bankUp (s : State) (e : RingEnd) : Bool := s.up (bankDomain e)

/-- A chain port's RX pair shows line activity: a cable is present (R449). -/
def State.lineActive (s : State) (c : Nat) (e : RingEnd) : State :=
  s.modChain c (fun x => match e with | .a => { x with cableA := true } | .b => { x with cableB := true })

/-- The last good head frame's STATUS word. -/
def frameField (f : BitVec 512) (lo hi : Nat) : Nat := f.toNat / 2 ^ (511 - hi) % 2 ^ (hi + 1 - lo)

/-- STATUS of a DATA frame, bits 400–431 (R34, R36). -/
def frameStatus (f : BitVec 512) : Word := w32 (frameField f 400 431)

/-- The head's driver bits POS, NEG, PRE as P0 of CONTACTOR has them (R36, R59). -/
def driverBits (st : Word) : Nat := 4 * b2n (bitOf st 22) + 2 * b2n (bitOf st 21) + b2n (bitOf st 20)

/-- The head's driver bits of its last good frame; none before any. -/
def State.headDrivers (s : State) (c : Nat) : Option Nat :=
  ((s.chain c).lastFrame.get 1).map (fun f => driverBits (frameStatus f))

/-! ## CMDs (R38, R41, R59) -/

/-- Queue a CMD for the next window. -/
def State.queueCmd (s : State) (c : Nat) (m : MonCmd) : State :=
  s.modChain c (fun x => { x with queue := x.queue ++ [m] })

/-- A 16-bit parameter. -/
def half (n : Nat) : Half := BitVec.ofNat 16 n

/-- The mask words P0, P1 of an 18-cell mask (R59). -/
def maskParams (m : Nat) : List Half := [half (m % 65536), half (m / 65536 % 4)]

/-- SET_COMP (R59). -/
def cmdSetComp (p : Nat) (v : Comp) (why : CmdFor) : MonCmd :=
  { dest := p, opc := 0x02, params := [half v.fwd, half v.rev], why := why }
/-- SET_FILTERS with the chain's codes (R59, R63). -/
def State.cmdSetFilters (s : State) (c dest : Nat) (why : CmdFor) : MonCmd :=
  { dest := dest, opc := 0x03, params := [half (s.parN 0x10 c 2 + 16 * s.parN 0x10 c 3)], why := why }
/-- SET_ABSENT (R59). -/
def State.cmdSetAbsent (s : State) (c p : Nat) (why : CmdFor) : MonCmd :=
  { dest := p, opc := 0x05, params := maskParams (s.parN 0x10 c (0x100 + p - 1)), why := why }
/-- READ_CMP (R59). -/
def cmdReadCmp (p : Nat) : MonCmd := { dest := p, opc := 0x06, why := .readCmp }
/-- SEGMENT v to position p (R59). -/
def cmdSegment (p v : Nat) : MonCmd := { dest := p, opc := 0x0C, params := [half v], why := .segment v }
/-- CONTACTOR with the driver bits (R59). -/
def cmdContactor (p0 : Nat) : MonCmd := { dest := 1, opc := 0x0D, params := [half p0], why := .contactor p0 }

/-- The default thresholds of R115 by chemistry, in 0.1 mV or 0.01 °C, in the order of the table:
CMP_OV, CMP_UV, TRIP_HI, TRIP_LO, WARN_HI, WARN_LO, OVR_HI, OVR_LO, TC_WARN, TC_TRIP, TC_OVR. -/
def chemThresholds (chem : Nat) : List Int :=
  match chem with
  | 0 => [37500, 20000, 36500, 25000, 36000, 28000, 37000, 23000, 5000, 6000, 7000]
  | 1 => [43000, 27000, 42500, 29000, 42000, 32000, 42800, 28000, 4500, 5500, 6000]
  | _ => [29000, 15000, 28500, 17000, 28000, 19000, 28800, 16000, 5500, 6500, 7500]

/-- EST_CHEM. -/
def State.chem (s : State) (c : Nat) : Nat := s.parN 0x11 c 1

/-- A voltage threshold of index 2 to 9 (R115, R137): the chemistry's where it is 0. -/
def State.vThresh (s : State) (c idx : Nat) : Int :=
  if s.parN 0x12 c idx = 0 then (chemThresholds (s.chem c)).getD (idx - 2) 0 else s.parN 0x12 c idx

/-- PROT_TC_TRIP, _WARN, _OVR (index 0xB, 0xC, 0xD): the chemistry's where it is 0x8000. -/
def State.tcThresh (s : State) (c idx : Nat) : Int :=
  if s.parN 0x12 c idx = 0x8000 then
    (chemThresholds (s.chem c)).getD (if idx = 0xB then 9 else if idx = 0xC then 8 else 10) 0
  else s.parI 0x12 c idx

/-- SET_THRESH with the chain's comparator thresholds (R59, R113). -/
def State.cmdSetThresh (s : State) (c dest : Nat) (why : CmdFor) : MonCmd :=
  { dest := dest, opc := 0x04, params := [half (s.vThresh c 2).toNat, half (s.vThresh c 3).toNat], why := why }

/-- SEGMENT v to position p, kept until it is answered OK; an earlier one to p is superseded (R467). -/
def State.sendSegment (s : State) (c p v : Nat) : State :=
  s.modChain c (fun x =>
    { x with segments := x.segments.filter (fun e => e.1 != p) ++ [(p, v)]
             queue := x.queue.filter (fun m => !(m.opc == 0x0C && m.dest == p)) ++ [cmdSegment p v] })

/-- CONTACTOR in the next window. -/
def State.sendContactor (s : State) (c p0 : Nat) : State := s.queueCmd c (cmdContactor p0)

/-- Queued CONTACTOR commands are discarded (R129). -/
def State.dropContactor (s : State) (c : Nat) : State :=
  s.modChain c (fun x => { x with queue := x.queue.filter (fun m => m.opc != 0x0D) })

/-- The mask of a BLEED_SET or BLEED_STOP (R59): a timer of 0 stops. -/
def bleedMaskOf (m : MonCmd) : Nat :=
  if m.opc = 0x07 ∧ (m.params.getD 2 0).toNat ≠ 0 then
    (m.params.getD 0 0).toNat + (m.params.getD 1 0).toNat % 4 * 65536
  else 0

/-- Hand the tile a bleed mask with its effective tick; its timer runs out after 1,000 sample instants
per second (R64, R81, R133). -/
def State.handMask (s : State) (c p eff mask timer : Nat) : State :=
  s.modTile c (fun x =>
    { x with bleed := x.bleed.modify p (fun b =>
        { hist := ((eff, mask, eff + 1000 * timer) :: b.hist.filter (fun e => decide (e.1 ≤ eff))).take 6 }) })

/-- Take a mask back that the monitor refused: what went before it stays (R62, R133). -/
def State.unhandMask (s : State) (c p eff mask : Nat) : State :=
  s.modTile c (fun x =>
    { x with bleed := x.bleed.modify p (fun b =>
        { hist := match b.hist.find? (fun e => e.1 == eff && e.2.1 == mask) with
            | some e => b.hist.erase e
            | none => b.hist }) })

/-- Positions a CMD addresses. -/
def State.cmdPositions (s : State) (c dest : Nat) : List Nat :=
  if dest = 0xFF then (List.range (s.chPositions c)).map (· + 1) else [dest]

/-- The ends from which a CMD leaves: both on a healed ring for a broadcast (R54). -/
def State.cmdEnds (s : State) (c dest : Nat) : List RingEnd :=
  match (s.chain c).running with
  | .healed _ => if dest = 0xFF then [.a, .b] else [s.endFor c dest]
  | _ => [s.endFor c dest]

/-- The parameters as they leave: START_SEQ of PRBS_START is the SEQ of the tick 32 ticks on (R62, R98). -/
def State.cmdParams (s : State) (m : MonCmd) : List Half :=
  if m.opc = 0x0A then [m.params.getD 0 0, half ((s.tickNo + 32) % 256), m.params.getD 2 0] else m.params

/-- The CTAG of a CMD: the next one, or the one that the partner gave it (R38, R58). -/
def State.ctagOf (s : State) (c : Nat) (m : MonCmd) : Nat := if m.why = .relay then m.ctag else (s.chain c).nextCtag

/-- The ends from which a CMD leaves; a relayed one leaves from the module's own end (R58). -/
def State.sendEnds (s : State) (c : Nat) (m : MonCmd) : List RingEnd :=
  if m.why = .relay then [s.ownEnd] else s.cmdEnds c m.dest

/-- The end to whose port a CMD's RESP comes. -/
def State.respEnd (s : State) (c : Nat) (m : MonCmd) : RingEnd :=
  if m.why = .relay then s.ownEnd else s.endFor c m.dest

/-- The last CONTACTOR that the module knows of, and the timers of the sequences that wait for it. -/
def State.noteContactor (s : State) (c : Nat) (m : MonCmd) : State :=
  match m.why with
  | .contactor p0 => s.modStr c (fun (t : Str) =>
      { t with
        lastContactor := some p0
        seqAt := if (t.seq == SeqStep.posOn && p0 == 7) || (t.seq == SeqStep.posOff && p0 == 2) then s.now else t.seqAt })
  | .relay =>
    if m.opc = 0x0D then s.modStr c (fun x => { x with lastContactor := some ((m.params.getD 0 0).toNat % 8) }) else s
  | _ => s

/-- A CMD is sent: its CTAG, its ends; a broadcast awaits no RESP (R38, R41). A CMD for an end that the
partner holds goes over the Agfin link (R58). The effective tick of R133 is fixed at the first sending.
`later` is how long after this instant it leaves. -/
def State.sendCmd (s : State) (c later : Nat) (m : MonCmd) : State :=
  let m1 : MonCmd := if m.attempt = 0 then { m with effTick := s.tickNo + 1 } else m
  let tag := s.ctagOf c m
  let ps := s.cmdParams m
  let s1 := s.modChain c (fun x =>
    { x with nextCtag := if m.why = .relay then x.nextCtag else (tag + 1) % 256
             sent := if m.dest = 0xFF then x.sent
                     else x.sent ++ [{ ctag := tag, cmd := m1, sentAt := s.now + later,
                                       from_ := s.respEnd c m, relayed := !s.holds (s.respEnd c m) }] })
  let s2 := s1.noteContactor c m
  let s3 :=
    if m.attempt = 0 ∧ (m.opc = 0x07 ∨ m.opc = 0x08) ∧ m.why ≠ .relay then
      forEach (s.cmdPositions c m.dest) s2 (fun s p => s.handMask c p m1.effTick (bleedMaskOf m) (m.params.getD 2 0).toNat)
    else s2
  forEach (s.sendEnds c m) s3 (fun s e =>
    if s.holds e then s.emit (cmdOut c e tag m.dest m.opc ps)
    else s.emit (.agfin "RELAYED_CMD" ([w32 c, w32 tag, w32 m.dest, w32 m.opc] ++ ps.map (fun (h : Half) => w32 h.toNat))))

/-- The line time of a CMD in ns (R38). -/
def cmdTime (m : MonCmd) : Nat := 10 * (72 + 16 * m.params.length)

/-- d_k in ns from an end, from its compensation value; before one is known, the greatest that R44 admits. -/
def State.delayTo (s : State) (c p : Nat) (e : RingEnd) : Nat :=
  let v := match e with | .a => ((s.chain c).comp.get p).fwd | .b => ((s.chain c).comp.get p).rev
  if v = 0 then 32000 else 40000 - 4 * v

/-- A CMD may leave with `used` ns of this window gone: it has left by +955 µs (R41), and the RESP of a PRBS_START is
due before the next edge, so that its START_SEQ counts from the tick of the RESP (R98; log entry 169). -/
def State.mayLeave (s : State) (c used : Nat) (m : MonCmd) : Bool :=
  decide (used + cmdTime m ≤ 115000) &&
  (m.opc != 0x0A || m.dest == 0xFF || decide (used + 2 * s.delayTo c m.dest (s.respEnd c m) + 40000 < 160000))

/-- Send queued CMDs while fewer than 16 are outstanding and the CMD leaves by +955 µs (R41). The list of
broadcasts that were sent is returned with the state. -/
def State.sendQueued (fuel used : Nat) (s : State) (c : Nat) (bc : List MonCmd) : State × List MonCmd :=
  match fuel with
  | 0 => (s, bc)
  | n + 1 =>
    match (s.chain c).queue with
    | [] => (s, bc)
    | m :: rest =>
      if (s.chain c).sent.length < 16 ∧ s.mayLeave c used m then
        State.sendQueued n (used + cmdTime m) ((s.modChain c (fun x => { x with queue := rest })).sendCmd c (used - (s.now % 1000000 - 840000)) m) c
          (if m.dest = 0xFF then bc ++ [m] else bc)
      else (s, bc)

/-- When the RESP of a CMD is due: 2 d_k + 20 µs, and 20 µs more for a relayed one (R41, R54). -/
def State.respDue (s : State) (c : Nat) (o : SentCmd) : Nat :=
  o.sentAt + 2 * s.delayTo c o.cmd.dest o.from_ + 20000 + (if o.relayed then 20000 else 0)

/-- A SEGMENT that failed goes out again in this window, unless it is queued or outstanding (R467). -/
def State.retrySegments (s : State) (c : Nat) : State :=
  let x := s.chain c
  let due := x.segments.filter (fun e =>
    !x.queue.any (fun m => m.opc == 0x0C && m.dest == e.1) &&
    !x.sent.any (fun o => o.cmd.opc == 0x0C && o.cmd.dest == e.1))
  s.modChain c (fun x => { x with queue := x.queue ++ due.map (fun e => cmdSegment e.1 e.2) })

/-! ## ECHO and compensation (R37, R45, R46) -/

/-- Send an ECHO from an end. -/
def State.sendEcho (s : State) (c dest : Nat) (e : RingEnd) (why : EchoFor) : State :=
  let tag := (s.chain c).nextEtag
  (s.modChain c (fun x =>
    { x with nextEtag := (tag + 1) % 256
             echoes := x.echoes ++ [{ etag := tag, dest := dest, from_ := e, why := why }] })).emit
    (chainOut c e .echo dest tag)

/-- The mean of round trips in whole 4 ns periods, to the nearest 1 ns, halves up (R45). -/
def meanRt (rts : List Nat) : Nat := (2 * (4 * rts.sum) + rts.length) / (2 * rts.length)

/-- round((40,000 ns − (RT − 400 ns) / 2) / 4 ns), halves up (R44, R45). -/
def compOf (mean : Nat) : Nat := (80400 - mean + 4) / 8

/-- The delay (RT − 400 ns) / 2 is above 32,000 ns (R44). -/
def compOutOfRange (mean : Nat) : Bool := decide (64400 < mean)

/-- Take a round trip into a position's track at an end; 16 are kept (R46). -/
def Track.add (t : Track) (rt : Nat) : Track := { t with rts := (rt :: t.rts).take 16 }

/-- The tracks of an end. -/
def Chain.track (x : Chain) (e : RingEnd) : Map Track := match e with | .a => x.trackA | .b => x.trackB

/-- The value formed from a position's sixteen round trips at an end; 0 before it has them (R45, R46). -/
def Chain.formed (x : Chain) (e : RingEnd) (p : Nat) : Nat :=
  let l := ((Chain.track x e).get p).rts
  if l.length < 16 then 0 else compOf (meanRt l)

/-- A SET_COMP to position p waits or is on the line. -/
def Chain.compOnWay (x : Chain) (p : Nat) : Bool :=
  x.queue.any (fun m => m.opc == 0x02 && m.dest == p) || x.sent.any (fun o => o.cmd.opc == 0x02 && o.cmd.dest == p)

/-- The values for position p with the tracked one of an end in place. A value that is not known, as after an
adoption (R398), is the other end's tracked one (log entry 179). -/
def Chain.trackedComp (x : Chain) (p : Nat) (e : RingEnd) : Comp :=
  let old := x.comp.get p
  match e with
  | .a => { fwd := Chain.formed x .a p, rev := if old.rev = 0 then Chain.formed x .b p else old.rev }
  | .b => { fwd := if old.fwd = 0 then Chain.formed x .a p else old.fwd, rev := Chain.formed x .b p }

/-- A tracked value that differs by 2 or more from the loaded one queues SET_COMP (R46); both values of the
command are then known. -/
def State.trackUpdate (s : State) (c p : Nat) (e : RingEnd) (rt : Nat) : State :=
  let s1 := s.modChain c (fun x => match e with
    | .a => { x with trackA := x.trackA.modify p (fun t => Track.add t rt) }
    | .b => { x with trackB := x.trackB.modify p (fun t => Track.add t rt) })
  let x := s1.chain c
  let old := x.comp.get p
  let v := Chain.formed x e p
  let cur := match e with | .a => old.fwd | .b => old.rev
  let new := Chain.trackedComp x p e
  if v = 0 || new.fwd = 0 || new.rev = 0 || !s.runsPlant || Chain.compOnWay x p then s1
  else if cur + 2 ≤ v ∨ v + 2 ≤ cur then s1.queueCmd c (cmdSetComp p new .setting)
  else s1

/-! ## TRIP (R37, R51) -/

/-- The ends from which this module's TRIP leaves: both segments' ends in Single, its own otherwise; in factory
defaults every port with a cable (R402). -/
def State.tripEnds (s : State) (c : Nat) : List RingEnd :=
  if s.cfg.defaulted then
    (if (s.chain c).cableA && s.bankUp .a then [.a] else []) ++ (if (s.chain c).cableB && s.bankUp .b then [.b] else [])
  else match (s.chain c).running with
  | .healed _ => if s.single then [.a, .b] else [s.ownEnd]
  | .reversed => if s.single then [.b] else [s.ownEnd]
  | _ => [s.ownEnd]

/-- TRIP leaves: bits 12–27 as ACTION, REASON, ORIGIN. -/
def State.emitTrip (s : State) (c action reason origin : Nat) : State :=
  forEach (s.tripEnds c) s (fun s e => s.emit (chainOut c e .trip (action * 256 + reason) origin))

/-- SYNC is on the line: from the start of its SD, 80 ns before its reference edge, to its last bit (R37, R40). -/
def State.syncOnLine (s : State) : Bool :=
  decide (959920 ≤ s.now % 1000000 ∧ s.now % 1000000 < 960560)

/-- The DELAY of a SYNC that a TRIP requested at this instant has ended: the lateness of its reference edge in
4 ns units. The output ends with ABORT at the next bit boundary, TRIP starts within 5 µs of the request, and SYNC
follows it (R31, R51); when within the 5 µs TRIP starts is a free value (log entry 2). -/
def State.syncDelay (s : State) (asked : Nat) : Nat :=
  let first := (asked + 9) / 10 * 10 + 40
  (first + s.freeWord.toNat % (asked + 5001 - first) + 720 - (asked / 1000000 * 1000000 + 960000)) / 4

/-- Start TRIP; it is repeated until the head shows TRIPPED or 10 ms have passed. ABORT ends what its port sends.
A SYNC that it ends after its reference edge is sent again, with its DELAY (R51). -/
def State.sendTrip (s : State) (c action reason origin : Nat) : State :=
  let s0 := s.modChain c (fun x =>
    { x with trip := some { action := action, reason := reason, origin := origin, startedAt := s.now } })
  let s1 := (forEach (s.tripEnds c) s0 (fun s e => s.emit (chainOut c e .abort 0 0))).emitTrip c action reason origin
  if s.syncOnLine && decide (960000 ≤ s.now % 1000000) && s.inService c then
    (forEach ((s.launchEnds c).filter (s.tripEnds c).contains) s1 (fun t e =>
      t.emit (chainOut c e .sync ((s.tickNo + 1) % 256) (s.syncDelay s.now)))).tookFree
  else s1

/-- ORIGIN of a TRIP of this module's Matrix (R37). -/
def State.matrixOrigin (s : State) : Nat := if s.single then 0 else b2n s.ident.sideB

/-- ORIGIN of a TRIP that the Keeper commands (R37): the one of an enumeration, of factory defaults, and of
STRING_OPEN with the immediate bit (log entry 180). -/
def keeperOrigin : Nat := 2

/-! ## Faults of a chain (R68 CH_FAULT) -/

/-- Set or clear a bit of CH_FAULT. -/
def State.chFault (s : State) (c bit : Nat) (v : Bool) : State :=
  s.modChain c (fun x =>
    { x with fault := if v then x.fault ||| (1#8 <<< bit) else x.fault &&& ~~~(1#8 <<< bit) })

/-- A bit of CH_FAULT. -/
def State.chFaultBit (s : State) (c bit : Nat) : Bool := (s.chain c).fault.getLsbD bit

/-- The Croak is lost at an end this module watches. -/
def Chain.croakLost (x : Chain) : Bool := x.lostA.isSome || x.lostB.isSome

/-- The Croak map word of this module's B-end (R49): one bit per chain, as two words. -/
def State.croakMap (s : State) : BitVec 64 :=
  (List.range 64).foldl (fun acc c => if (s.chain c).lostB.isSome then acc ||| (1#64 <<< c) else acc) 0

/-! ## Enumeration (R43, R44) -/

/-- The requests whose CMDs a chain drops are answered: a CMD that has not left as on a chain that is not in
service, one on the line as unanswered (log entry 181). -/
def State.dropCmds (s : State) (c : Nat) : State :=
  let answer := fun (st : Nat) (s : State) (m : MonCmd) =>
    match m.why with
    | .tenant t q => s.finish t q st []
    | .diag t q => s.finish t q st []
    | .impedance _ true t q => s.finish t q st []
    | _ => s
  let x := s.chain c
  let s1 := forEach x.queue (s.modChain c (fun x => { x with queue := [], sent := [] })) (answer (stRejected 0x10))
  forEach (x.sent.map (fun o => o.cmd)) s1 (answer (stFault 0x20))

/-- An enumeration begins: ENUM with NEXT = 1 from the A-end, and the Croak from the A-end from here on. What
held of the ring before ends with it. -/
def State.beginEnum (s : State) (c : Nat) (asked : Option (Nat × Nat)) : State :=
  let s1 := (s.dropCmds c).modChain c (fun x =>
    { x with state := .enumerating, enum := some { asked := asked }, adopt := none, running := .whole, pendRun := none,
             segments := [], verify := none, echoes := [], serviceTick := none,
             croak := true, breakAfter := 255, trackA := [], trackB := [], comp := [], fault := x.fault &&& 0xCB
             silent := [], missing := [], lostA := none, lostB := none, awaitA := false, awaitB := false })
  if s.holdsA then s1.emit (chainOut c .a .enum 1 0) else s1.emit (.agfin "ENUM" [w32 c, 1])

/-- The request that asked for an enumeration, if it still executes. -/
def State.enumAsked (s : State) (c : Nat) : Option (Nat × Nat) :=
  match (s.chain c).enum with
  | none => none
  | some e => e.asked

end Sys2Proof.Machine
end

