-- ==== Sys2Proof/Machine/ProtOps.lean ====
section
/-! DEFINITION. Shared operations of the Plant Protection Matrix: the causes of R114, tripping (R118),
the plant trip outputs (R131), the head-frame and record layers, the string-head sequences, and the
verification of a lost Croak (R120 to R128). -/

namespace Sys2Proof.Machine

/-! ## Causes -/

/-- REASON, ACTION and PTO_CLASS bit of each bit of PROT_CAUSE (R114, R131); class 15 is no class. -/
def causeTable : List (Nat × Nat × Nat) :=
  [(0x01, 1, 0), (0x02, 2, 0), (0x03, 2, 0), (0x04, 1, 0), (0x05, 1, 0), (0x10, 2, 1), (0x11, 1, 1),
   (0x12, 1, 2), (0x13, 1, 2), (0x14, 1, 2), (0x15, 1, 3), (0x16, 1, 3), (0x17, 2, 3), (0x18, 1, 4),
   (0x19, 1, 4), (0x1A, 1, 4), (0x1B, 1, 4), (0x20, 2, 4), (0x30, 2, 5), (0x31, 2, 6), (0x40, 1, 8),
   (0x41, 2, 8), (0x42, 1, 15)]

/-- REASON of a bit. -/
def causeReason (b : Nat) : Nat := (causeTable.getD b (0, 1, 15)).1
/-- ACTION of a bit. -/
def causeAction (b : Nat) : Nat := (causeTable.getD b (0, 1, 15)).2.1
/-- Class of a bit. -/
def causeClass (b : Nat) : Nat := (causeTable.getD b (0, 1, 15)).2.2

/-- The set bits of a cause word. -/
def causeBits (n : Nat) : List Nat := (List.range 23).filter (fun b => n.testBit b)

/-- The PTO_CLASS bits of a cause word. -/
def classesOf (n : Nat) : Nat :=
  (causeBits n).foldl (fun acc b => if causeClass b < 9 then acc ||| 2 ^ causeClass b else acc) 0

/-- The lowest REASON among the bits (R118). -/
def lowestReason (bits : List Nat) : Nat := (bits.map causeReason).foldl min 255

/-- The highest ACTION among the bits (R118). -/
def highestAction (bits : List Nat) : Nat := (bits.map causeAction).foldl max 1

/-! ## Plant trip outputs (R131) -/

/-- PTO k+1 names chain c in PTO_CHAINS. -/
def State.ptoCovers (s : State) (k c : Nat) : Bool := s.parBit64 0x12 (0x50 + k) 0 c

/-- The PTO_CLASS bits that hold PTO k+1 now. -/
def State.ptoCauses (s : State) (k : Nat) : Nat :=
  let cls := s.parN 0x12 (0x50 + k) 2
  let mod := if s.cfg.defaulted || !s.power.keeperOk then 0x100 else 0
  let live := s.strs.foldl
    (fun acc e => if s.ptoCovers k e.1 then acc ||| classesOf e.2.cause.toNat else acc) 0
  let held := if s.parB 0x12 (0x50 + k) 3 then (s.pto k).latched.foldl (fun acc e => acc ||| e.2) 0 else 0
  ((mod ||| live) &&& cls) ||| held

/-- Bring every PTO to what its causes and latches say; before a Keeper has applied a valid
configuration every PTO is asserted. -/
def State.syncPtos (s : State) : State :=
  forEach (List.range 8) s (fun s k =>
    let on := !s.power.applied || s.ptoCauses k != 0
    if on == (s.pto k).asserted then s
    else (s.modPto k (fun p => { p with asserted := on })).emit (.pto k on))

/-- Latch the PTOs that a trip of chain c with these causes asserts; CFG_DEFAULTED never latches. -/
def State.latchPtos (s : State) (c bits : Nat) : State :=
  forEach (List.range 8) s (fun s k =>
    let cls := classesOf (bits &&& (2 ^ 23 - 1 - 2 ^ 21)) &&& s.parN 0x12 (0x50 + k) 2
    if s.ptoCovers k c && s.parB 0x12 (0x50 + k) 3 && cls != 0 then
      s.modPto k (fun p =>
        { p with latched := p.latched.filter (fun e => e.1 != c) ++
            [(c, (p.latched.filter (fun e => e.1 == c)).foldl (fun acc e => acc ||| e.2) cls)] })
    else s)

/-- Chain c has been reset: its latches end. -/
def State.unlatchPtos (s : State) (c : Nat) : State :=
  (forEach (List.range 8) s (fun s k =>
    s.modPto k (fun p => { p with latched := p.latched.filter (fun e => e.1 != c) }))).syncPtos

/-! ## Tripping (R118) -/

/-- A string of the group was lost: the group's published values step at once (R145). -/
def State.stringLost (s : State) (c : Nat) : State :=
  forEach (List.range 8) s (fun s g =>
    if s.parBit64 0x13 (0x10 + g) 0 c then s.modGroup g (fun x => { x with stepNow := true }) else s)

/-- Causes with these bits have appeared on chain c. -/
def State.trip (s : State) (c bits : Nat) : State :=
  if bits = 0 then s
  else
    let l := causeBits bits
    let reason := lowestReason l
    let action := highestAction l
    let s1 :=
      if (s.str c).state != .tripped then
        let rec_ := (s.tile c).record
        (((s.modStr c (fun x =>
            { x with
              state := .tripped
              firstCause := reason
              action := action
              seq := .none_
              lastContactor := some 0 })).dropContactor c).sendTrip c action reason
            (if reason = 0x41 ∨ reason = 0x42 then keeperOrigin else s.matrixOrigin)
          |>.record 0x12 0x01 c
              [w32 reason, w32 action, rec_.getD 1 0 >>> 16, rec_.getD 4 0 >>> 16]).stringLost c
      else if action = 2 && (s.str c).action != 2 then
        (s.modStr c (fun x => { x with action := 2 })).sendTrip c 2 reason s.matrixOrigin
      else s
    let s2 := s1.latchPtos c bits
    if bits &&& 0xC0000 != 0 then s2.modStr c (fun x => { x with purge := true }) else s2

/-- Of the causes named by keys, those of `on` are present now; one that appears trips (R118).
PROT_CAUSE shows present conditions only. -/
def State.setCauses (s : State) (c keys on : Nat) : State :=
  let old := (s.str c).cause.toNat
  let new := (old &&& (2 ^ 23 - 1 - keys)) ||| (on &&& keys)
  if new = old then s
  else
    ((s.modStr c (fun x => { x with cause := BitVec.ofNat 23 new })).trip c
      (new &&& (2 ^ 23 - 1 - old))).syncPtos

/-- One cause is present or has ended. -/
def State.setCause (s : State) (c b : Nat) (on : Bool) : State :=
  s.setCauses c (2 ^ b) (if on then 2 ^ b else 0)

/-- A cause that lasts only for the instant: it trips, holds its PTOs while it lasts, and leaves no present
condition (R118, R131). -/
def State.tripOnce (s : State) (c b : Nat) : State :=
  if (s.str c).cause.toNat.testBit b then (s.trip c (2 ^ b)).syncPtos
  else (s.setCause c b true).setCause c b false

/-- The causes of the comparator layer end with the Croak loss. -/
def State.endCroakCauses (s : State) (c : Nat) : State := s.setCauses c 0x1F 0

/-- Start an enumeration; the conditions of the Croak and of silent monitors end with what held before (R118). -/
def State.startEnum (s : State) (c : Nat) (asked : Option (Nat × Nat)) : State :=
  (((s.beginEnum c asked).modStr c (fun x => { x with silentSince := none })).endCroakCauses c).setCause c 14 false

/-- The chain's functions are evaluated: its Matrix has power, and its first in-service tick has come (R396). -/
def State.protects (s : State) (c : Nat) : Bool := s.power.rail && (s.chain c).serviceTick.isSome

/-- EST_Q_NOM in Ah. -/
def State.qNom (s : State) (c : Nat) : Rat := frat (s.par (paddr 0x11 c 2))

/-- A C-rate parameter (LSB 0.01 C) of block 0x12 as milliamperes. -/
def State.rateMa (s : State) (c idx : Nat) : Rat := 10 * (s.parN 0x12 c idx : Rat) * s.qNom c

/-- The override is in force: IN_FORCE and ENDING (R151). -/
def State.overrideOn (s : State) : Bool := s.disp.ovr == .inForce || s.disp.ovr == .ending

/-- EXT_TRIP of every enabled chain that names an input: present while the input reads 0 (R114). -/
def State.syncExt (s : State) : State :=
  forEach (List.range 64) s (fun s c =>
    let k := s.parN 0x12 c 0x1B
    s.setCause c 19 (s.chEnabled c && decide (k ≠ 0) && (s.di k).valid && !(s.di k).value))

/-- CFG_DEFAULTED is present while the factory defaults are in use (R114). It trips the strings that the Matrix has
seen in service; the others are commanded open by R402 (log entry 184). -/
def State.syncDefaulted (s : State) : State :=
  forEach (List.range 64) s (fun s c =>
    if s.protects c then s.setCause c 21 s.cfg.defaulted
    else s.modStr c (fun x => { x with cause := BitVec.ofNat 23 (if s.cfg.defaulted then x.cause.toNat ||| 2 ^ 21
                                                                else x.cause.toNat &&& (2 ^ 23 - 1 - 2 ^ 21)) }))

/-- CHAIN_FAULT is present while CH_FAULT shows a failure of enumeration (R114, R44). -/
def State.syncChainFault (s : State) (c : Nat) : State :=
  s.setCause c 17 ((s.chain c).fault &&& 0xCB != 0)

/-! ## The head-frame layer (R112, R114, R126, R128) -/

/-- ISTR of a head frame, mA. -/
def frameIstr (f : BitVec 512) : Int := signedOf 24 (frameField f 432 455)
/-- VSTR of a head frame, 0.05 V. -/
def frameVstr (f : BitVec 512) : Nat := frameField f 456 479

/-- A filter's count: consecutive evaluations in which the condition holds. -/
def countIf (b : Bool) (n : Nat) : Nat := if b then n + 1 else 0

/-- The count reaches the filter; a filter of 0 acts as 1. -/
def filtered (n filt : Nat) : Bool := decide (max filt 1 ≤ n)

/-- The current functions and CONTACTOR_FEEDBACK on a good head frame. -/
def State.headProtection (s : State) (c : Nat) (f : BitVec 512) : State :=
  let i : Rat := frameIstr f
  let drv := driverBits (frameStatus f)
  let x := s.str c
  let ocd := countIf (decide (s.rateMa c 0x12 < i)) x.nOcd
  let occ := countIf (decide (s.rateMa c 0x13 < -i)) x.nOcc
  let sc := decide (s.rateMa c 0x14 < (if i < 0 then -i else i))
  let fb := countIf (match x.lastContactor with | some d => d != drv | none => false) x.nFeedback
  let s1 := s.modStr c (fun x => { x with nOcd := ocd, nOcc := occ, nFeedback := fb })
  s1.setCauses c 0x9C00
    ((if filtered ocd (s.parN 0x12 c 0x15) then 2 ^ 10 else 0) |||
     (if filtered occ (s.parN 0x12 c 0x15) then 2 ^ 11 else 0) |||
     (if sc then 2 ^ 12 else 0) ||| (if filtered fb 5 then 2 ^ 15 else 0))

/-- The opening level is reached: POS off (R128 step 3). -/
def State.openPosOff (s : State) (c : Nat) : State :=
  (s.modStr c (fun x => { x with seq := .posOff })).sendContactor c 2

/-- |ISTR| is at or below the opening level (R128). -/
def State.openLevel (s : State) (c : Nat) (istr : Int) : Bool :=
  decide ((istr.natAbs : Rat) ≤ s.rateMa c 0x20)

/-- The sequences' reactions to a head frame (R126 steps 3 and 5, R128 step 2). -/
def State.headSequence (s : State) (c : Nat) (f : BitVec 512) : State :=
  let i := frameIstr f
  let drv := driverBits (frameStatus f)
  let x := s.str c
  if !s.runsPlant then s
  else match x.seq with
  | .preOn =>
    let n := countIf (decide (i.natAbs ≤ s.parN 0x12 c 0x1F * 100)) x.preCount
    let s1 := s.modStr c (fun x => { x with preCount := n })
    if 10 ≤ n ∧ x.seqAt + s.parN 0x12 c 0x1D * 1000000 ≤ s.now then
      (s1.modStr c (fun x => { x with seq := .posOn })).sendContactor c 7
    else s1
  | .preOff =>
    if drv = 6 then s.modStr c (fun x => { x with state := .closed, seq := .none_ }) else s
  | .waitCurrent => if s.openLevel c i then s.openPosOff c else s
  | _ => s

/-- What the Matrix does with a good head frame of a chain it protects. -/
def State.headFrame (s : State) (c : Nat) (f : BitVec 512) : State :=
  if !s.protects c then s
  else
    let s1 := if bitOf (frameStatus f) 23 then s.modChain c (fun x => { x with trip := none }) else s
    (s1.headProtection c f).headSequence c f

/-! ## The record layer (R114, R116) -/

/-- The number of present cells of chain c. -/
def State.presentCount (s : State) (c : Nat) : Nat :=
  ((List.range (s.chPositions c)).map (fun p =>
    ((List.range 18).filter (fun k => s.cellPresent c (p + 1) (k + 1))).length)).sum

/-- The key of a cell's slot. -/
def slotKey (p cell : Nat) : Nat := (p - 1) * 18 + (cell - 1)

/-- The next tick that position p is to be updated for. -/
def Tile.nextOf (x : Tile) (p : Nat) : Nat := max x.base (x.nextTick.get p)

/-- The slot of a cell as the tick being worked on left it. -/
def Tile.slotNow (x : Tile) (p cell : Nat) : Slot :=
  if x.tick + 1 < Tile.nextOf x p then x.old.get (slotKey p cell) else x.slots.get (slotKey p cell)

/-- Every present cell of the chain is VALID or at REST, and there is one (R125). -/
def State.allValidOrRest (s : State) (c : Nat) : Bool :=
  s.presentCount c != 0 &&
  (List.range (s.chPositions c)).all (fun p => (List.range 18).all (fun k =>
    !s.cellPresent c (p + 1) (k + 1) ||
      ((Tile.slotNow (s.tile c) (p + 1) (k + 1)).flags &&& 5#16) != 0))

/-- The value of an extreme word. -/
def extVal (w : Word) : Nat := w.toNat / 65536
/-- The signed value of an extreme word. -/
def extInt (w : Word) : Int := signedOf 16 (extVal w)
/-- The extreme word holds a cell (R105). -/
def extHas (w : Word) : Bool := w.toNat % 256 != 0

/-- COUNTS: PENDING, STALE, INVALID. -/
def countsPending (w : Word) : Nat := fieldOf w 31 24
def countsStale (w : Word) : Nat := fieldOf w 23 12
def countsInvalid (w : Word) : Nat := fieldOf w 11 0

/-- The temperatures of the last 10 s, and the one before them, newest first. -/
def keepTenSeconds (now : Nat) (h : List (Nat × Int)) : List (Nat × Int) :=
  h.takeWhile (fun e => decide (now < e.1 + 10000000000)) ++
    (h.dropWhile (fun e => decide (now < e.1 + 10000000000))).take 1

/-- The oldest temperature kept. -/
def oldestTemp (h : List (Nat × Int)) (d : Int) : Int :=
  match h.getLast? with | some e => e.2 | none => d

/-- A warning level was crossed in either direction: an entry (R116). -/
def State.warning (s : State) (c kind : Nat) (was now_ : Bool) (w : Word) : State :=
  if was == now_ then s else s.record 0x12 0x02 c [w32 kind, w32 (b2n now_), w]

/-- The record-layer functions on a worst-cell record. -/
def State.recordLayer (s : State) (c : Nat) (r : List Word) : State :=
  let x := s.str c
  let w := fun i => r.getD i 0
  let ov := s.overrideOn
  let vHi := s.vThresh c (if ov then 8 else 4)
  let vLo := s.vThresh c (if ov then 9 else 5)
  let tcHi := s.tcThresh c (if ov then 0xD else 0xB)
  let nOv := countIf (extHas (w 0) && decide (vHi < (extVal (w 0) : Int))) x.nOv
  let nUv := countIf (extHas (w 1) && decide ((extVal (w 1) : Int) < vLo)) x.nUv
  let nOt := countIf (extHas (w 4) && decide (tcHi < extInt (w 4))) x.nOt
  let nUt := countIf (extHas (w 5) && decide (extInt (w 5) < s.parI 0x12 c 0xE)) x.nUt
  let nPm := countIf (extHas (w 6) && decide (extInt (w 6) < s.parI 0x12 c 0x10)) x.nPm
  let present := s.presentCount c
  let nStale := countIf (decide (present ≠ 0 ∧ countsStale (w 9) = present)) x.nStale
  let estLoss := decide (s.parN 0x12 c 0x16 < countsInvalid (w 9)) || filtered nStale (s.parN 0x12 c 0x17) ||
    decide (present ≤ countsInvalid (w 9))
  let tc := extInt (w 4)
  let hist := if extHas (w 4) then (s.now, tc) :: keepTenSeconds s.now x.tcHist else keepTenSeconds s.now x.tcHist
  let thermal := extHas (w 4) &&
    (decide (s.parI 0x12 c 0x19 ≤ tc) ||
     (decide (s.tcThresh c 0xC ≤ tc) && decide (oldestTemp hist tc + 10 * s.parN 0x12 c 0x1A ≤ tc)))
  let hi := extHas (w 0) && decide (s.vThresh c 6 < (extVal (w 0) : Int))
  let lo := extHas (w 1) && decide ((extVal (w 1) : Int) < s.vThresh c 7)
  let wt := extHas (w 4) && decide (s.tcThresh c 0xC < tc)
  let good := s.allValidOrRest c
  let s1 := s.modStr c (fun x =>
    { x with
      nOv := nOv, nUv := nUv, nOt := nOt, nUt := nUt, nPm := nPm, nStale := nStale
      tcHist := hist, warnHi := hi, warnLo := lo, warnT := wt
      goodRecords := if good then x.goodRecords + 1 else x.goodRecords })
  (((s1.warning c 0 x.warnHi hi (w 0)).warning c 1 x.warnLo lo (w 1)).warning c 2 x.warnT wt (w 4)).setCauses c 0x423E0
    ((if filtered nOv (s.parN 0x12 c 0xA) then 2 ^ 5 else 0) |||
     (if filtered nUv (s.parN 0x12 c 0xA) then 2 ^ 6 else 0) |||
     (if filtered nOt (s.parN 0x12 c 0xF) then 2 ^ 7 else 0) |||
     (if filtered nUt (s.parN 0x12 c 0xF) then 2 ^ 8 else 0) |||
     (if filtered nPm (s.parN 0x12 c 0x11) then 2 ^ 9 else 0) |||
     (if estLoss then 2 ^ 13 else 0) ||| (if thermal then 2 ^ 18 else 0))

/-- A worst-cell record reaches the Matrix. -/
def State.takeRecord (s : State) (c : Nat) (r : List Word) : State :=
  let s1 := (s.modStr c (fun x => { x with lastRecord := some s.now })).setCause c 20 false
  if s.protects c then s1.recordLayer c r else s1

/-! ## Verification of a lost Croak (R53, R54, R120 to R123) -/

/-- The partner is neither ACTIVE nor STANDBY (R49). -/
def State.partnerAway (s : State) : Bool :=
  !(s.pair.partner == some .active || s.pair.partner == some .standby) || s.single

/-- This module verifies and decides (R123). -/
def State.leadsVerify (s : State) : Bool := s.runsPlant || s.partnerAway

/-- The ends this module holds. -/
def State.heldEnds (s : State) : List RingEnd := (if s.holdsA then [.a] else []) ++ (if s.holdsB then [.b] else [])

/-- Set the verification of a chain. -/
def State.setVerify (s : State) (c : Nat) (v : Option Verify) : State := s.modChain c (fun x => { x with verify := v })

/-- Look at the ring (R53): ECHO with DEST 0xFF leaves from each end the module holds. `decides` starts a VERIFY,
with its grace; without it the string has opened already, and only CH_BREAK_AFTER and the comparators are read. -/
def State.startVerify (s : State) (c : Nat) (decides : Bool) : State :=
  forEach s.heldEnds
    (s.setVerify c (some
      { decides := decides, startedAt := s.now, graceEnd := s.now + s.parN 0x12 c 1 * 1000000, hi := s.chPositions c }))
    (fun s e => s.sendEcho c 0xFF e .ring)

/-- Tell the partner the decision on a VERIFY (R123); the next Keeper set carries it too (R252). -/
def State.tellDecision (s : State) (c : Nat) (hold : Bool) (reason : Nat) : State :=
  if s.single || !s.linkUp then s
  else
    (s.modChain c (fun x => { x with decided := some (hold, reason) })).emit
      (.agfin "VERIFY_DECISION" [w32 c, w32 (b2n hold), w32 reason])

/-- The Croak is back at every end this module knows of. -/
def Chain.croakBack (x : Chain) : Bool := x.lostA.isNone && x.lostB.isNone && !x.awaitA && !x.awaitB

/-- A VERIFY runs by which the Matrix decides (R121). -/
def Chain.verifying (x : Chain) : Bool := match x.verify with | some v => v.decides | none => false

/-- A cause of the comparator layer: present while the Croak is away, over at once where it is back (R118). -/
def State.croakCause (s : State) (c b : Nat) : State :=
  if Chain.croakBack (s.chain c) then s.tripOnce c b else s.setCause c b true

/-- RING_BROKEN and CH_BREAK_AFTER end with the Croak back on a chain that runs whole (R68). -/
def State.ringMended (s : State) (c : Nat) : State :=
  let x := s.chain c
  if x.running == .whole && Chain.croakBack x && x.verify.isNone && x.breakAfter != 255 then
    (s.modChain c (fun x => { x with breakAfter := 255 })).chFault c 2 false
  else s

/-- The string opens by the verification: the cause of this bit trips (R121). -/
def State.verifyOpen (s : State) (c b : Nat) : State :=
  match (s.chain c).verify with
  | none => s
  | some v =>
    if v.decides then (((s.tellDecision c false (causeReason b)).setVerify c none).croakCause c b).ringMended c
    else (s.setVerify c none).ringMended c

/-- Read every monitor's comparators (R53). -/
def State.readAll (s : State) (c : Nat) : State :=
  forEach (List.range (s.chPositions c)) s (fun s p => s.queueCmd c (cmdReadCmp (p + 1)))

/-- The string is held (R121): a transient on a whole ring, or a healed ring. -/
def State.verifyHold (s : State) (c : Nat) : State :=
  match (s.chain c).verify with
  | none => s
  | some v =>
    let s1 := (s.tellDecision c true 0).setVerify c none
    if v.ringWhole then
      (s1.record 0x12 0x03 c [w32 ((s.now - v.startedAt) / 1000), w32 ((v.graceEnd - v.startedAt) / 1000000)]).ringMended c
    else s1.modChain c (fun x => { x with state := .healed })

/-- The verification has read every monitor clear, and looks at the ring and the Croak. -/
def State.verifySettle (s : State) (c : Nat) : State :=
  match (s.chain c).verify with
  | none => s
  | some v =>
    match v.phase with
    | .waitCroak => if Chain.croakBack (s.chain c) then s.verifyHold c else s
    | .healing =>
      if (s.chain c).running != .whole && Chain.croakBack (s.chain c) then s.verifyHold c else s
    | _ => s

/-- Every monitor is clear: hold or wait on a whole ring, heal a broken one (R121, R54). -/
def State.verifyRead (s : State) (c : Nat) : State :=
  match (s.chain c).verify with
  | none => s
  | some v =>
    if !v.decides then (s.setVerify c none).ringMended c
    else if v.ringWhole then (s.setVerify c (some { v with phase := .waitCroak })).verifySettle c
    else
      let k := (s.chain c).breakAfter
      let s1 := (s.setVerify c (some { v with phase := .healing })).modChain c (fun x => { x with state := .healing })
      let s2 := if 1 ≤ k then s1.sendSegment c k 1 else s1
      if k < s.chPositions c then s2.sendSegment c (k + 1) 2 else s2

/-- The break is found: positions up to k are reached from the A-end (R53). The module that verifies reads the
monitors. -/
def State.breakFound (s : State) (c k : Nat) : State :=
  match (s.chain c).verify with
  | none => s
  | some v =>
    let s1 := (s.modChain c (fun x => { x with breakAfter := k })).setVerify c
      (some { v with phase := .reading, lo := k, hi := k })
    if s.leadsVerify then s1.readAll c else s1

/-- The A-end's holder searches for the break, and gives its results to a partner that verifies (R53; log entry
182). -/
def State.searchesBreak (s : State) : Bool := s.holdsA || !(s.linkUp && s.partnerFollows)

/-- Send the next ECHO of the binary search, from the A-end; where no partner holds it, from the module's own end. -/
def State.searchStep (s : State) (c : Nat) : State :=
  match (s.chain c).verify with
  | none => s
  | some v =>
    if v.phase != .search || !s.searchesBreak || (s.chain c).echoes.any (fun e => e.why == .search) then s
    else if v.lo = v.hi then s.breakFound c v.lo
    else s.sendEcho c ((v.lo + v.hi + 1) / 2) s.ownEnd .search

/-- The ring ECHO passed: the ring is whole, and every monitor is read. -/
def State.ringIsWhole (s : State) (c : Nat) : State :=
  match (s.chain c).verify with
  | some v =>
    if v.phase == .ringEcho && s.leadsVerify then
      (((s.chFault c 2 false).modChain c (fun x => { x with breakAfter := 255 })).setVerify c
        (some { v with phase := .reading, ringWhole := true })).readAll c
    else s
  | none => s

/-- The ring ECHO of the last end did not pass: the ring is broken, and the search begins. -/
def State.ringIsBroken (s : State) (c : Nat) : State :=
  match (s.chain c).verify with
  | some v =>
    if v.phase == .ringEcho && (s.leadsVerify || s.holdsA) && !(s.chain c).echoes.any (fun e => e.why == .ring) then
      (s.chFault c 2 true).setVerify c (some { v with phase := .search })
    else s
  | none => s

/-- A search ECHO came back or was lost, at this module's end or at its partner's: the bounds close in (R53). -/
def State.searchResult (s : State) (c dest : Nat) (e : RingEnd) (back : Bool) : State :=
  match (s.chain c).verify with
  | some v =>
    if v.phase != .search && v.phase != .ringEcho then s
    else
      let below := (e == .a) == back
      let v1 := if below then { v with lo := max v.lo dest } else { v with hi := min v.hi (dest - 1) }
      let s1 := s.setVerify c (some v1)
      if v1.phase == .search && v1.lo == v1.hi then s1.breakFound c v1.lo else s1
  | none => s

/-- The result of this module's own search ECHO; it is told to a partner that verifies. -/
def State.ownSearchResult (s : State) (c dest : Nat) (e : RingEnd) (back : Bool) : State :=
  let s1 := s.searchResult c dest e back
  if s.leadsVerify || !s.linkUp then s1
  else s1.emit (.agfin "ECHO_RESULTS" ([w32 c, w32 dest] ++ (if back then [1] else [])))

/-- The answer of READ_CMP: both maps clear and the supply good (R59, R121). -/
def cmpClear (d : List Half) : Bool :=
  (d.take 4).all (fun h => h == 0) && decide (4 < d.length) && (d.getD 4 0).getLsbD 0

/-- READ_CMP of position p has been answered OK with these data. -/
def State.readCmpAnswer (s : State) (c p : Nat) (d : List Half) : State :=
  match (s.chain c).verify with
  | some v =>
    if v.phase != .reading then s
    else if !cmpClear d then s.verifyOpen c 1
    else
      let cl := if v.clear.contains p then v.clear else p :: v.clear
      let s1 := s.setVerify c (some { v with clear := cl })
      if s.chPositions c ≤ cl.length then s1.verifyRead c else s1
  | none => s

/-- The running that answered SEGMENT commands leave the chain in: healed once both are answered,
whole once both ends were set back (R54, R56). A break before position 1 that leaves the B-end alone is reversed
running (R57). -/
def State.segmentOk (s : State) (c p v : Nat) : State :=
  let s1 := s.modChain c (fun x => { x with segments := x.segments.filter (fun e => e != (p, v)) })
  let x := s1.chain c
  if v = 0 then
    (if x.segments.isEmpty then s1.modChain c (fun x => { x with pendRun := some .whole }) else s1)
  else
    match x.state, x.running with
    | .healing, .whole =>
      if x.segments.isEmpty then
        let r : Running := if x.breakAfter = 0 && !s.holdsA && !s.linkUp then .reversed else .healed x.breakAfter
        s1.modChain c (fun x => { x with pendRun := some r })
      else s1
    | _, _ =>
      -- SEGMENT 1 to position N folds the chain, SEGMENT 2 to position 1 reverses it (R57, R249)
      if v = 1 ∧ p = s.chPositions c then s1.modChain c (fun x => { x with pendRun := some .folded })
      else if v = 2 ∧ p = 1 then s1.modChain c (fun x => { x with pendRun := some .reversed })
      else s1

/-- A SEGMENT that this module passed on for its partner is answered OK: the chain runs healed from the next tick on
this module too, or whole again (R54, R56, R58). -/
def State.relayedSegmentOk (s : State) (c p v : Nat) : State :=
  let k := if v = 2 then p - 1 else p
  s.modChain c (fun x =>
    if v = 0 then { x with pendRun := some .whole } else { x with pendRun := some (.healed k), breakAfter := k })

/-- Folding or reversing the chain is the verification: the string is held if the Croak returns (R250, R57). -/
def State.verifyByTurn (s : State) (c : Nat) : State :=
  let v : Verify :=
    match (s.chain c).verify with
    | some v => v
    | none => { startedAt := s.now, graceEnd := s.now + s.parN 0x12 c 1 * 1000000, hi := s.chPositions c }
  s.setVerify c (some { v with phase := .waitCroak, ringWhole := true })

/-- SEGMENT for folded running from the A-end, or reversed running from the B-end (R57, R249). -/
def State.turnChain (s : State) (c : Nat) : State :=
  if s.holdsA then s.sendSegment c (s.chPositions c) 1 else s.sendSegment c 1 2

/-- The module runs the plant from the B-ends, and the role of the A-end holder cannot be read: with the Croak gone it
counts as OFFLINE (R57, R239; log entry 211). -/
def State.silentA (s : State) : Bool := !s.single && !s.holdsA && s.runsPlant && !s.linkUp

/-- The Croak is lost on chain c (R22, R49, R120, R122). `own` says that this module's own end declared
the loss; it then opens in OPEN_NOW only while its partner is neither ACTIVE nor STANDBY (R49). The ring is looked
at in every case (R53); with the A-end holder gone the chain is turned instead (R57). -/
def State.actOnLoss (s : State) (c : Nat) (own : Bool) : State :=
  let x := s.chain c
  if !s.protects c || Chain.verifying x then s
  else if s.power.state == .hibernate then s.setCause c 0 true
  else
    match x.running with
    | .whole =>
      if !s.parB 0x12 c 0 || s.parN 0x12 c 1 = 0 then
        let s1 := if s.silentA then s.turnChain c else s.startVerify c false
        (if own && !s.partnerAway then s1 else s1.setCause c 0 true)
      else if s.silentA then (s.verifyByTurn c).turnChain c
      else s.startVerify c true
    | _ => s.setCause c 4 true

/-- CH_STATE of a chain in service in a running; another state stays. -/
def Chain.stateIn (x : Chain) (r : Running) : ChState :=
  match x.state with
  | .inService | .healing | .healed | .reversed =>
    (match r with
     | .whole => .inService
     | .healed _ => if Chain.verifying x then .healing else .healed
     | .folded => .healed
     | .reversed => .reversed)
  | st => st

/-- A new running begins at the tick edge: what is watched, and what CH_STATE shows (R54, R56, R57, R249). A loss
goes on at the end that is watched from here on, until a Croak comes there (R49). -/
def State.applyRunning (s : State) (c : Nat) : State :=
  match (s.chain c).pendRun with
  | none => s
  | some r =>
    let n := s.chPositions c
    let x := s.chain c
    let lost := match x.lostB with | some t => some t | none => x.lostA
    let s1 := s.modChain c (fun x => { x with running := r, pendRun := none, state := Chain.stateIn x r })
    match r with
    | .whole =>
      (s1.modChain c (fun x =>
        { x with breakAfter := 255, lostA := none, awaitA := false
                 lostB := if s.holdsB then lost else x.lostB
                 awaitB := !s.holdsB && (s.chain c).running == .folded
                 foldSince := none })).chFault c 2 false
    | .healed k =>
      s1.modChain c (fun x =>
        { x with
          lostA := if s.holdsA && k = n then lost else none
          lostB := if k = n then none else x.lostB
          awaitA := s.holdsA && decide (1 ≤ k) && !(k = n && lost.isSome)
          awaitB := s.holdsB && decide (k < n) && x.lostB.isNone })
    | .folded =>
      s1.modChain c (fun x =>
        { x with breakAfter := n, lostA := lost, lostB := none, awaitA := lost.isNone, awaitB := false
                 foldSince := some s.now })
    | .reversed =>
      s1.modChain c (fun x =>
        { x with lostA := none, lostB := lost, awaitA := false, awaitB := lost.isNone, foldSince := some s.now })

end Sys2Proof.Machine
end

