-- ==== Sys2Proof/Machine/Chain.lean ====
section
/-! DEFINITION. The Chain Masters: the tick on the wire, the Croak, ECHO, monitor CMDs, enumeration,
healing, and the opcodes of group 0x10 (R28 to R69, R397, R398, R467). -/

namespace Sys2Proof.Machine

/-! ## The tick on the wire -/

/-- Chain c carries the SYNC and SOLICIT of tick n: it is in service, or n is one of the three trains of its
adoption (R43, R398). -/
def State.trainRuns (s : State) (c n : Nat) : Bool :=
  s.inService c || match (s.chain c).adopt with | some a => decide (a.first ≤ n ∧ n < a.first + 3) | none => false

/-- The launching ends of a chain that are powered. -/
def State.poweredEnds (s : State) (c : Nat) : List RingEnd := (s.launchEnds c).filter s.bankUp

/-- The DELAY of the SYNC that leaves now: 0, unless a TRIP has ended it before its reference edge (R37, R51). -/
def State.delayNow (s : State) (c : Nat) (e : RingEnd) : Nat :=
  match (s.chain c).trip with
  | some r => if s.now ≤ r.startedAt + 80 ∧ (s.tripEnds c).contains e = true then s.syncDelay r.startedAt else 0
  | none => 0

/-- SYNC_LAUNCH (R37, R40): SYNC with SEQ = n mod 256 leaves each launching end 40 µs before edge n. -/
def execSyncLaunch (s : State) : Outcome :=
  evtOff s 960000 (fun s =>
    forEach (List.range 64) s (fun s c =>
      doIf (s.trainRuns c (s.tickNo + 1)) s (fun s =>
        forEach ((s.syncEnds c).filter s.bankUp) s (fun s e =>
          s.emit (chainOut c e .sync ((s.tickNo + 1) % 256) (s.delayNow c e))))))

/-- SOLICIT_LAUNCH (R37, R40): at +8 µs, with the SEQ of the tick. A new train begins. -/
def execSolicitLaunch (s : State) : Outcome :=
  evtOff s 8000 (fun s =>
    forEach (List.range 64) s (fun s c =>
      doIf (s.trainRuns c s.tickNo) s (fun s =>
        forEach (s.poweredEnds c) s (fun s e => s.emit (chainOut c e .solicit (s.tickNo % 256) 0)))))

/-- The next instant t0 + 5 µs + m × 10 µs. -/
def nextCroak (now : Nat) : Nat := (now + 4999) / 10000 * 10000 + 5000

/-- CROAK_INSERT (R42, R43): every launching end whose chain has been enumerated inserts a Croak. It goes on where
no firmware slot is bootable and the recovery service knows no configuration (R24). -/
def execCroakInsert (s : State) : Outcome :=
  evt s (nextCroak s.now) (fun s =>
    forEach (List.range 64) s (fun s c =>
      doIf (s.power.rail && (s.chEnabled c || s.inRecovery) && (s.chain c).croak) s (fun s =>
        forEach ((s.croakEnds c).filter s.bankUp) s (fun s e => s.emit (chainOut c e .croak 0 0)))))

/-! ## The Croak -/

/-- The half of the Croak map that holds chain c (R432; log entry 30). -/
def State.mapWordOf (s : State) (c : Nat) : Word :=
  w32 ((s.croakMap ||| s.pair.mapWord).toNat / 2 ^ (32 * (c / 32)))

/-- Note the loss at an end. -/
def Chain.setLost (x : Chain) (e : RingEnd) (t : Option Nat) : Chain :=
  match e with
  | .a => { x with lostA := t, awaitA := false }
  | .b => { x with lostB := t, awaitB := false }

/-- The loss at an end. -/
def Chain.lostAt (x : Chain) (e : RingEnd) : Option Nat := match e with | .a => x.lostA | .b => x.lostB

/-- The end awaits its first Croak. -/
def Chain.awaits (x : Chain) (e : RingEnd) : Bool := match e with | .a => x.awaitA | .b => x.awaitB

/-- The B-end holder does not act while the partner's pulse is present and the link is down, or the module is
OFFLINE: folding removes the Croak from its port (R249, R250). -/
def State.mayAct (s : State) (e : RingEnd) : Bool :=
  !(e == .b && !s.single && s.pair.partnerPulse && (!s.linkUp || s.role == .offline))

/-- CROAK_LOSS (R49): the watching end declares the loss; it is recorded, and the Matrix acts. -/
def execCroakLoss (c : Fin 64) (e : RingEnd) (time : Nat) (s : State) : Outcome :=
  evt s time (fun s =>
    if !s.power.rail || !s.bankUp e || !s.watches c e || (Chain.lostAt (s.chain c) e).isSome then s
    else
      let s1 := (s.modChain c (fun x => Chain.setLost x e (some s.now))).chFault c 4 true
      let s2 := s1.record 0x10 0x01 c [w32 c, s1.mapWordOf c]
      if s.mayAct e then s2.actOnLoss c true else s2)

/-- The end of a loss, at an end or by the map: causes end, and a verification may settle. -/
def State.lossEnds (s : State) (c : Nat) : State :=
  if Chain.croakLost (s.chain c) then s
  else (((s.chFault c 4 false).endCroakCauses c).verifySettle c).ringMended c

/-- CROAK_RESTORED (R49): a Croak reaches the watching end; a loss ends and is recorded. -/
def execCroakRestored (c : Fin 64) (e : RingEnd) (time : Nat) (s : State) : Outcome :=
  evt s time (fun s0 =>
    let s := if s0.power.rail && s0.bankUp e && s0.holds e then s0.lineActive c e else s0
    let x := s.chain c
    if !s.power.rail || !s.bankUp e || !s.watches c e then s
    else if (Chain.lostAt x e).isSome then
      let s1 := s.modChain c (fun x => Chain.setLost x e none)
      (s1.record 0x10 0x02 c [w32 c, s1.mapWordOf c]).lossEnds c
    else if Chain.awaits x e then (s.modChain c (fun x => Chain.setLost x e none)).lossEnds c
    else s)

/-- CROAK_MAP_SEND (R49): the B-end holder of a Pair sends its map. -/
def execCroakMapSend (time : Nat) (s : State) : Outcome :=
  evt s time (fun s =>
    if s.single || !s.holdsB || !s.linkUp || !s.bankUp .b then s
    else s.emit (.agfin "CROAK_MAP" [w32 (s.croakMap.toNat / 2 ^ 32), w32 s.croakMap.toNat]))

/-- The chain is turned at its far end: the map of the other end says nothing of it (R57, R249). -/
def Chain.turned (x : Chain) : Bool := x.running == .folded || x.running == .reversed

/-- One chain of a received map. A loss that folding left counts again once the map has been clear. -/
def State.takeMapBit (s : State) (c : Nat) (lost : Bool) : State :=
  if (s.chain c).serviceTick.isNone || Chain.turned (s.chain c) then s
  else if (s.chain c).awaitB && !s.holdsB then
    (if lost then s else (s.modChain c (fun x => { x with awaitB := false })).verifySettle c)
  else match (s.chain c).lostB, lost with
  | none, true =>
    ((s.modChain c (fun x => { x with lostB := some s.now })).chFault c 4 true).actOnLoss c false
  | some _, false => (s.modChain c (fun x => { x with lostB := none })).lossEnds c
  | _, _ => s

/-- CROAK_MAP_RECEIVED (R49): the A-end holder takes each set bit as a loss on that chain. -/
def execCroakMapReceived (map : BitVec 64) (time : Nat) (s : State) : Outcome :=
  evt s time (fun s =>
    if s.single || !s.holdsA || !s.linkUp || !s.power.rail then s
    else
      forEach (List.range 64) (s.modPair (fun p => { p with mapWord := map, mapAt := some s.now }))
        (fun s c => s.takeMapBit c (map.getLsbD c)))

/-- An absent map is a loss at the end that the map tells of (R250). -/
def State.mapLost (s : State) (c : Nat) : State :=
  (s.modChain c (fun x => { x with lostB := match x.lostB with | some t => some t | none => some s.now })).chFault c 4 true

/-- CROAK_MAP_TIMEOUT (R250): the running A-end holder takes every chain it holds as lost. Under VERIFY it folds a whole
chain; on a healed one the further loss is SEGMENT_LOSS (R122). A chain that is turned at its far end has no Croak that the map
tells of. -/
def execCroakMapTimeout (time : Nat) (s : State) : Outcome :=
  evt s time (fun s =>
    let due := match s.pair.mapAt with | some t => decide (t + 10000 ≤ s.now) | none => true
    if s.single || !s.holdsA || !s.runsPlant || !due || !s.power.rail then s
    else
      forEach (List.range 64) (s.modPair (fun p => { p with mapAt := none })) (fun s c =>
        if (s.chain c).serviceTick.isNone || Chain.turned (s.chain c) || (s.chain c).pendRun.isSome then s
        else if (s.chain c).running != .whole then (s.mapLost c).actOnLoss c false
        else
          let s1 := s.mapLost c
          if (s1.chain c).segments.contains (s1.chPositions c, 1) then s1
          else if !s1.parB 0x12 c 0 || s1.parN 0x12 c 1 = 0 then s1.setCause c 0 true
          else (s1.verifyByTurn c).turnChain c))

/-- TRIP_REPEAT (R51): every 100 µs until the head shows TRIPPED, for at most 10 ms. -/
def execTripRepeat (c : Fin 64) (time : Nat) (s : State) : Outcome :=
  evt s time (fun s =>
    match (s.chain c).trip with
    | none => s
    | some r =>
      if r.startedAt + 10000000 < s.now then s.modChain c (fun x => { x with trip := none })
      else if r.startedAt < s.now ∧ (s.now - r.startedAt) % 100000 = 0 then
        s.emitTrip c r.action r.reason r.origin
      else s)

/-! ## Silent monitors (R66, R114) -/

/-- SILENT_MONITOR (R66): a position missing for CH_SILENT_TICKS consecutive ticks. -/
def execSilentMonitor (c : Fin 64) (p : Nat) (s : State) : Outcome :=
  evt0 s (fun s =>
    let n := (s.chain c).missing.get p
    if n < s.parN 0x10 c 5 || (s.chain c).silent.contains p || n = 0 then s
    else
      (((s.modChain c (fun x => { x with silent := x.silent ++ [p] })).modStr c (fun x =>
        { x with silentSince := match x.silentSince with | some t => some t | none => some s.now })).chFault
          c 5 true).record 0x10 0x04 c [w32 p, w32 n])

/-- SILENT_MONITOR_TRIP (R114): SILENT_MONITOR has been present for PROT_SILENT_TRIP_S. -/
def execSilentMonitorTrip (c : Fin 64) (time : Nat) (s : State) : Outcome :=
  evt s time (fun s =>
    match (s.str c).silentSince with
    | some t =>
      if s.protects c && decide (t + s.parN 0x12 c 0x18 * 1000000000 ≤ s.now) then s.setCause c 14 true else s
    | none => s)

/-- BLIND_TIMEOUT (R114): no record for PROT_BLIND_MAX_MS while no partner is ACTIVE or STANDBY. -/
def execBlindTimeout (c : Fin 64) (time : Nat) (s : State) : Outcome :=
  evt s time (fun s =>
    let last := match (s.str c).lastRecord, (s.chain c).serviceTick with
      | some t, _ => t
      | none, some n => tickTime n
      | none, none => s.now
    if s.protects c && s.partnerAway && decide (last + s.parN 0x12 c 0x1C * 1000000 ≤ s.now) then
      s.setCause c 20 true
    else s)

/-! ## ECHO -/

/-- The positions an end's tracking reaches (R46, R54, R57, R249). -/
def State.trackRange (s : State) (c : Nat) (e : RingEnd) : Nat × Nat :=
  let n := s.chPositions c
  match (s.chain c).running, e with
  | .healed k, .a => (1, k)
  | .healed k, .b => (k + 1, n)
  | .reversed, .a => (1, 0)
  | .folded, .b => (1, 0)
  | _, _ => (1, n)

/-- TRACKING_ECHO (R40, R46): at +700 µs from the A-end, at +770 µs from the B-end. -/
def execTrackingEcho (e : RingEnd) (s : State) : Outcome :=
  evtOff s (match e with | .a => 700000 | .b => 770000) (fun s =>
    if !s.holds e || !s.bankUp e || s.role == .offline then s
    else
      forEach (List.range 64) s (fun s c =>
        if !s.inService c || !s.parB 0x10 c 4 then s
        else
          let (lo, hi) := s.trackRange c e
          let nx := match e with | .a => (s.chain c).nextTrackA | .b => (s.chain c).nextTrackB
          let p := if lo ≤ nx ∧ nx ≤ hi then nx else lo
          if hi < lo then s
          else
            (s.modChain c (fun x => match e with
              | .a => { x with nextTrackA := p + 1 }
              | .b => { x with nextTrackB := p + 1 })).sendEcho c p e .track))

/-! ## Enumeration (R43, R44, R45) -/

/-- The enumeration in progress. -/
def State.setEnum (s : State) (c : Nat) (e : Option EnumRun) : State := s.modChain c (fun x => { x with enum := e })

/-- fail(flag) of R44: the flag, TRIP with ACTION 0x2, out of service; the request that asked is answered. -/
def State.enumFail (s : State) (c bit : Nat) : State :=
  let asked := s.enumAsked c
  let s1 := (s.modChain c (fun x =>
    { x with enum := none, state := .outOfService, queue := [], sent := [], echoes := []
             fault := x.fault &&& 0x34 })).chFault c bit true
  let s2 := if (s.str c).state == .tripped then s1.sendTrip c 2 0x20 keeperOrigin else s1
  let s3 := s2.syncChainFault c
  match asked with
  | some (t, seq) => s3.finish t seq (stFault 0x21) [w32 (s3.chain c).fault.toNat]
  | none => s3

/-- Sixteen ECHOs to position k from each end the module holds (R44). -/
def State.measure (s : State) (c k : Nat) : State :=
  forEach s.heldEnds s (fun s e => forEach (List.range 16) s (fun s _ => s.sendEcho c k e .comp))

/-- The four setup CMDs of position k (R44). -/
def State.setupCmds (s : State) (c k : Nat) : State :=
  (((s.queueCmd c (cmdSetComp k ((s.chain c).comp.get k) .enumeration)).queueCmd c
    (s.cmdSetAbsent c k .enumeration)).queueCmd c (s.cmdSetFilters c k .enumeration)).queueCmd c
    (s.cmdSetThresh c k .enumeration)

/-- Position k has sixteen round trips from both ends: its compensation values are formed and sent. -/
def State.enumMeasured (s : State) (c : Nat) : State :=
  match (s.chain c).enum with
  | none => s
  | some e =>
    let a := (e.rtsA.get e.k).rts
    let b := (e.rtsB.get e.k).rts
    if e.phase != .echoA || a.length < 16 || b.length < 16 then s
    else
      let d := meanRt a
      let r := meanRt b
      if compOutOfRange d || compOutOfRange r then s.enumFail c 6
      else
        ((s.modChain c (fun x => { x with comp := x.comp.set e.k { fwd := compOf d, rev := compOf r } })).setEnum c
          (some { e with phase := .setup, left := 4 })).setupCmds c e.k

/-- A CMD of the enumeration was answered OK. -/
def State.enumCmdOk (s : State) (c p opc : Nat) (d : List Half) : State :=
  match (s.chain c).enum with
  | none => s
  | some e =>
    match e.phase with
    | .readId =>
      if opc = 0x01 ∧ ((d.getD 6 0).getLsbD 0) != decide (p = 1) then s.enumFail c 1
      else if e.left ≤ 1 then (s.setEnum c (some { e with phase := .echoA, k := 1 })).measure c 1
      else s.setEnum c (some { e with left := e.left - 1 })
    | .setup =>
      if 1 < e.left then s.setEnum c (some { e with left := e.left - 1 })
      else if e.k < s.chPositions c then
        (s.setEnum c (some { e with phase := .echoA, k := e.k + 1 })).measure c (e.k + 1)
      else s.setEnum c (some { e with phase := .waitEntry })
    | _ => s

/-- A round trip of the enumeration is in. The follower of a Pair sends its end's results (R58). -/
def State.enumRt (s : State) (c p : Nat) (e : RingEnd) (rt : Nat) : State :=
  match (s.chain c).enum with
  | none => s
  | some x =>
    let add := fun (m : Map Track) => m.set p (Track.add (m.get p) rt)
    let x1 : EnumRun := match e with | .a => { x with rtsA := add x.rtsA } | .b => { x with rtsB := add x.rtsB }
    let s1 := s.setEnum c (some x1)
    if x.phase == .echoB then
      -- this module follows: it returns its sixteen round trips and goes on to the next position
      let mine := ((match e with | .a => x1.rtsA | .b => x1.rtsB).get p).rts
      if mine.length < 16 then s1
      else
        let s2 := s1.emit (.agfin "ECHO_RESULTS" ([w32 c, w32 p] ++ mine.map w32))
        if p < s.chPositions c then
          (s2.setEnum c (some { x1 with k := p + 1 })).measure c (p + 1)
        else s2.setEnum c (if s.holdsA then some { x1 with phase := .waitEntry } else none)
    else s1.enumMeasured c

/-- The first train of an adoption that begins now: the tick whose SYNC is the next to leave (R398). -/
def State.newAdopt (s : State) : AdoptRun := { first := (s.now + 1039999) / 1000000 }

/-- The part of a Pair's module that does not lead an enumeration (R43, R44, R58): the B-end holder returns the count
and measures from its end; the A-end holder, which the leader asks over the link, sends ENUM and measures (log entry
183). -/
def State.followEnum (s : State) (c nextPos : Nat) : State :=
  let s1 := (s.dropCmds c).modChain c (fun x =>
    { x with
      state := .enumerating, enum := some { phase := .echoB }, echoes := [], trackA := [], trackB := [], comp := []
      running := .whole, pendRun := none, verify := none
      adopt := if s.holdsA then none else some s.newAdopt, serviceTick := none, croak := x.croak || s.holdsA })
  if s.holdsA then (s1.emit (chainOut c .a .enum 1 0)).measure c 1
  else (s1.emit (.agfin "ENUM_RESULT" [w32 c, w32 nextPos])).measure c 1

/-- ENUM_RECEIVED (R44): the count is checked, and READ_ID goes to every position. -/
def execEnumReceived (c : Fin 64) (nextPos : BitVec 8) (time : Nat) (s : State) : Outcome :=
  evt s time (fun s =>
    if !s.runsPlant then
      (if s.single || !s.linkUp || s.role == .offline then s else s.followEnum c nextPos.toNat)
    else
      match (s.chain c).enum with
      | none => s
      | some e =>
        if e.phase != .waitEnum then s
        else
          let n := nextPos.toNat - 1
          let s1 := s.modChain c (fun x => { x with countFound := n })
          if n ≠ s.chPositions c then s1.enumFail c 0
          else
            forEach (List.range n) (s1.setEnum c (some { e with phase := .readId, left := n })) (fun s p =>
              s.queueCmd c { dest := p + 1, opc := 0x01, why := .enumeration }))

/-- ENUM_TIMEOUT (R44): three attempts, then ENUM_TIMEOUT. -/
def execEnumTimeout (c : Fin 64) (time : Nat) (s : State) : Outcome :=
  evt s time (fun s =>
    match (s.chain c).enum with
    | none => s
    | some e =>
      if e.phase != .waitEnum then s
      else if e.attempt < 3 then
        (s.setEnum c (some { e with attempt := e.attempt + 1 })).emit
          (if s.holdsA then chainOut c .a .enum 1 0 else .agfin "ENUM" [w32 c, 1])
      else s.enumFail c 3)

/-- The condition of R397 under which an enumerated chain enters service. -/
def State.entryHolds (s : State) : Bool :=
  s.time.state == .locked || s.time.state == .following || s.time.waitOver

/-- The chain is in service from this tick: its tile initialises its cells, and the Croak is watched. What its
positions' slots hold of other cells of before starts anew where the cell was taken out (R94). -/
def State.enterService (s : State) (c : Nat) : State :=
  (((s.modChain c (fun x =>
    { x with
      state := .inService, serviceTick := some s.tickNo, enum := none, adopt := none, missing := [], silent := []
      gotNow := [], lastFrame := [], fault := 0, croak := true })).modTile c (fun x =>
    { x with tick := s.tickNo, base := s.tickNo, heads := [], waiting := [], nextTick := [], copies := []
             old := [], issued := false })).modStr c
    (fun x => { x with goodRecords := 0, lastRecord := some s.now, silentSince := none, tcHist := []
                       nOv := 0, nUv := 0, nOt := 0, nUt := 0, nPm := 0, nOcd := 0, nOcc := 0, nStale := 0, nFeedback := 0 })).setCause
    c 14 false

/-- CHAIN_ENTER_SERVICE (R43, R397): at the first tick edge after the entry condition holds. -/
def execChainEnterService (c : Fin 64) (s : State) : Outcome :=
  evtOff s 0 (fun s =>
    match (s.chain c).enum with
    | none => s
    | some e =>
      if e.phase != .waitEntry || !s.entryHolds then s
      else
        let s1 := (s.enterService c).syncChainFault c
        match e.asked with
        | some (t, seq) => s1.finish t seq stOk []
        | none => s1)

/-- START_TIME_WAIT_EXPIRY (R397): SYS_START_TIME_WAIT_S has passed since step 6. -/
def execStartTimeWaitExpiry (time : Nat) (s : State) : Outcome :=
  evt s time (fun s =>
    match s.time.waitFrom with
    | some t =>
      if t + s.parN 0x01 0 2 * 1000000000 ≤ s.now then s.modTime (fun x => { x with waitOver := true }) else s
    | none => s)

/-! ## ECHO returns -/

/-- The running of chain c is healed. -/
def Chain.isHealed (x : Chain) : Bool := match x.running with | .healed _ => true | _ => false

/-- SEGMENT 0 to both segment-end monitors: the ring passes again (R56). -/
def State.unheal (s : State) (c : Nat) : State :=
  match (s.chain c).running with
  | .healed k =>
    let s1 := if 1 ≤ k then s.sendSegment c k 0 else s
    if k < s.chPositions c then s1.sendSegment c (k + 1) 0 else s1
  | _ => s

/-- The break of the chain is being looked for. -/
def Chain.searching (x : Chain) : Bool :=
  match x.verify with | some v => v.phase == .search || v.phase == .ringEcho | none => false

/-- ECHO_RETURNED (R45, R46, R53, R56): the round trip is taken in whole 4 ns periods, truncated. An ECHO
with DEST 0xFF arrives at the other end, in a Pair as an ECHO of the partner. -/
def execEchoReturned (c : Fin 64) (e : RingEnd) (etag : BitVec 8) (rtNs : Nat) (time : Nat) (s : State) : Outcome :=
  evt s time (fun s =>
    if !s.bankUp e || !s.holds e then s
    else
      let rt := rtNs / 4
      match (s.chain c).echoes.find? (fun x => x.etag == etag.toNat && (x.dest == 0xFF || x.from_ == e)) with
      | none =>
        if s.single then s
        else if Chain.isHealed (s.chain c) then
          (if s.runsPlant then s.unheal c else s.emit (.agfin "ECHO_RESULTS" [w32 c, 0xFF]))
        else if s.leadsVerify then s.ringIsWhole c
        else s.emit (.agfin "ECHO_RESULTS" [w32 c, 0xFF])
      | some x =>
        let s1 := s.modChain c (fun y => { y with echoes := y.echoes.filter (fun z => z != x) })
        match x.why with
        | .comp => s1.enumRt c x.dest e rt
        | .track =>
          if s.runsPlant then s1.trackUpdate c x.dest e rt
          else s1.emit (.agfin "ECHO_RESULTS" [w32 c, w32 x.dest, w32 rt])
        | .ring => s1.ringIsWhole c
        | .search => s1.ownSearchResult c x.dest x.from_ true
        | .healCheck => if s.runsPlant then s1.unheal c else s1)

/-- ECHO_LOST (R53): the ring is broken, or a position is out of reach. A lost ECHO of an enumeration is
sent again (log entry 31). -/
def execEchoLost (c : Fin 64) (etag : BitVec 8) (time : Nat) (s : State) : Outcome :=
  evt s time (fun s =>
    match (s.chain c).echoes.find? (fun x => x.etag == etag.toNat) with
    | none => s
    | some x =>
      let s1 := s.modChain c (fun y => { y with echoes := y.echoes.filter (fun z => z != x) })
      match x.why with
      | .comp => if (s.chain c).enum.isSome then s1.sendEcho c x.dest x.from_ .comp else s1
      | .ring => s1.ringIsBroken c
      | .search => s1.ownSearchResult c x.dest x.from_ false
      | .track => s1
      | .healCheck => s1)

/-- ECHO_RESULTS_RECEIVED (R46, R58): round trips measured at the partner's end. Position 0xFF says that
a DEST 0xFF ECHO reached the partner's port; while the break is searched, a result says whether the A-end reaches
the position (R53; log entry 182). -/
def execEchoResultsReceived (c : Fin 64) (p : Nat) (rts : List Nat) (tracking : Bool) (time : Nat) (s : State) : Outcome :=
  evt s time (fun s =>
    if s.single || !s.runsPlant || !s.linkUp then s
    else
      let e : RingEnd := if s.holdsA then .b else .a
      if p = 0xFF then (if Chain.isHealed (s.chain c) then s.unheal c else s.ringIsWhole c)
      else if tracking then forEach rts s (fun s rt => s.trackUpdate c p e rt)
      else if Chain.searching (s.chain c) then s.searchResult c p e (!rts.isEmpty)
      else forEach rts s (fun s rt => s.enumRt c p e rt))

/-! ## CMD and RESP -/

/-- The opcodes of R62. -/
def r62Opcodes : List Nat := [0x07, 0x08, 0x0A, 0x0B]

/-- A sequence is to stop at the effective tick (R62). -/
def State.stopImped (s : State) (c p eff : Nat) : State :=
  s.modTile c (fun x => { x with imped := x.imped.modify p (fun r => r.map (fun i => { i with stopAt := some eff })) })

/-- Tick 0 of the sequence a PRBS_START sent at this time starts: the tick whose SEQ is the START_SEQ it
carried, 32 ticks after the tick of the sending, which is that of the RESP (R98; DEDUCED, log entry 169). -/
def startTick (sentAt : Nat) : Nat := sentAt / 1000000 + 32

/-- The effective tick of a CMD of R62, as two words: of a PRBS_START, tick 0 of its sequence (R62, R98, R107). -/
def effWords (m : MonCmd) (sentAt : Nat) : List Word :=
  let n := if m.opc = 0x0A then startTick sentAt else m.effTick
  [hiWord n, loWord n]

/-- The plant time at which the timer of a BLEED_SET has run out: the chip boundary after its last sample (R64). -/
def bleedEnd (m : MonCmd) : Nat := (m.effTick + 1000 * (m.params.getD 2 0).toNat) * 1000000 + 500000

/-- A CMD of R62 acts as the Keeper's own: the monitor leaves the policy, sequences start and end. The last
argument is when the CMD left. -/
def State.r62Effect (s : State) (c : Nat) (m : MonCmd) (sentAt : Nat) : State :=
  forEach (s.cmdPositions c m.dest) s (fun s p =>
    match m.opc with
    | 0x07 => s.modBal c (fun b =>
        { b with mons := b.mons.modify p (fun x =>
          { x with outUntil := bleedEnd m }) })
    | 0x08 => s.modBal c (fun b => { b with mons := b.mons.modify p (fun x => { x with outUntil := s.now }) })
    | 0x0A => s.modTile c (fun x =>
        { x with impedOld := if (x.imped.get p).isSome then x.impedOld.set p (x.imped.get p) else x.impedOld
                 imped := x.imped.set p (some
          { cell := (m.params.getD 0 0).toNat, tick0 := startTick sentAt, count := (m.params.getD 2 0).toNat,
            byOpcode := match m.why with | .impedance _ b _ _ => b | _ => false }) })
    | 0x0B => s.stopImped c p m.effTick
    | _ => s)

/-- CMD_WINDOW (R41): at +840 µs, the queued CMDs that leave by +955 µs are started. -/
def execCmdWindow (s : State) : Outcome :=
  evtOff s 840000 (fun s =>
    if s.role == .offline || !s.keeperUp then s
    else
      forEach (List.range 64) s (fun s c =>
        let (s1, bc) := State.sendQueued 64 0 ((s.searchStep c).retrySegments c) c []
        forEach bc s1 (fun s m =>
          match m.why with
          | .tenant t seq =>
            let s2 := if r62Opcodes.contains m.opc then s.r62Effect c { m with effTick := s.tickNo + 1 } s.now else s
            s2.finish t seq stOk ([0] ++ (if r62Opcodes.contains m.opc then effWords { m with effTick := s.tickNo + 1 } s.now else []))
          | _ => s)))

/-- A CMD was answered OK with these data. -/
def State.cmdOk (s : State) (c : Nat) (o : SentCmd) (d : List Half) : State :=
  let m := o.cmd
  match m.why with
  | .enumeration => s.enumCmdOk c m.dest m.opc d
  | .readCmp => s.readCmpAnswer c m.dest d
  | .segment v => s.segmentOk c m.dest v
  | .contactor _ => s
  | .setting =>
    if m.opc = 0x02 then
      s.modChain c (fun x =>
        { x with comp := x.comp.set m.dest { fwd := (m.params.getD 0 0).toNat, rev := (m.params.getD 1 0).toNat } })
    else s
  | .balance => s
  | .impedance _ byOpcode t seq =>
    let s1 := s.r62Effect c m o.sentAt
    if byOpcode then s1.finish t seq stOk [hiWord (startTick o.sentAt), loWord (startTick o.sentAt)] else s1
  | .tenant t seq =>
    let s1 := if r62Opcodes.contains m.opc then s.r62Effect c m o.sentAt else s
    s1.finish t seq stOk ([0] ++ d.map (fun h => w32 h.toNat) ++ (if r62Opcodes.contains m.opc then effWords m o.sentAt else []))
  | .diag t seq => s.finish t seq stOk (d.map (fun h => w32 h.toNat))
  | .relay => s

/-- A CMD was refused with an RCODE other than OK (R44, R53, R60, R62, R467). READ_DIAG of CHAIN_DIAG and PRBS_START of
EST_IMPED_START are then answered FAULT 0x20 with the RCODE (log entry 195). -/
def State.cmdRefused (s : State) (c : Nat) (o : SentCmd) (rcode : Nat) (d : List Half) : State :=
  let m := o.cmd
  let s0 := if (m.opc = 0x07 ∨ m.opc = 0x08) ∧ m.why ≠ .relay then s.unhandMask c m.dest m.effTick (bleedMaskOf m) else s
  match m.why with
  | .enumeration => s0.enumFail c 7
  | .readCmp => s0.verifyOpen c 2
  | .segment _ => s0.record 0x10 0x03 c [w32 m.dest, w32 m.opc, w32 o.ctag, w32 rcode]
  | .impedance _ byOpcode t seq => if byOpcode then s0.finish t seq (stFault 0x20) [w32 rcode] else s0
  | .tenant t seq =>
    s0.finish t seq stOk ([w32 rcode] ++ d.map (fun h => w32 h.toNat) ++ (if r62Opcodes.contains m.opc then effWords m o.sentAt else []))
  | .diag t seq => s0.finish t seq (stFault 0x20) [w32 rcode]
  | .contactor _ => s0
  | .setting => s0
  | .balance => s0
  | .relay => s0

/-- A bleed CMD failed twice: the tile takes the empty mask, and the monitor leaves the policy for one period (R133;
a CHAIN_CMD of these opcodes is the Keeper's own command, R62). -/
def State.bleedFailed (s : State) (c p : Nat) : State :=
  (s.handMask c p (s.tickNo + 1) 0 0).modBal c (fun b =>
    { b with mons := b.mons.modify p (fun x =>
      { x with outUntil := s.now + s.parN 0x12 c 0x2E * 1000000000 }) })

/-- A CMD failed twice: MONITOR_TIMEOUT is reported and recorded (R41, R133). EST_IMPED_START is answered FAULT 0x20
(log entry 195). -/
def State.cmdTimedOut (s : State) (c : Nat) (o : SentCmd) : State :=
  let m := o.cmd
  let s1 := s.record 0x10 0x03 c [w32 m.dest, w32 m.opc, w32 o.ctag, 0xFF]
  match m.why with
  | .enumeration => s1.enumFail c 7
  | .readCmp => s1.verifyOpen c 2
  | .balance => s1.bleedFailed c m.dest
  | .impedance _ byOpcode t seq => if byOpcode then s1.finish t seq (stFault 0x20) [] else s1
  | .tenant t seq =>
    (if m.opc = 0x07 ∨ m.opc = 0x08 then s1.bleedFailed c m.dest else s1).finish t seq (stFault 0x20) []
  | .diag t seq => s1.finish t seq (stFault 0x20) []
  | .segment _ => s1
  | .contactor _ => s1
  | .setting => s1
  | .relay => s1

/-- The bits of a RESP from bit 8 to the bit before its CRC (R33, R38). -/
def respBits (ctag src rcode : BitVec 8) (d : List Half) : List Bool :=
  bitsMsb 4 5 ++ bitsMsb 8 ctag.toNat ++ bitsMsb 8 src.toNat ++ bitsMsb 8 rcode.toNat ++ bitsMsb 4 d.length ++
    d.flatMap (fun (h : Half) => bitsMsb 16 h.toNat)

/-- RESP_RECEIVED (R38, R41): a RESP with a good CRC completes its CMD. A relayed CMD's RESP goes back to
the partner (R58); the module that relays sees the SEGMENT it passed on take effect. -/
def execRespReceived (c : Fin 64) (ctag src rcode : BitVec 8) (data : List Half) (crc : BitVec 32) (time : Nat)
    (s : State) : Outcome :=
  evt s time (fun s =>
    if crc32cBits (respBits ctag src rcode data) != crc then s
    else
      match (s.chain c).sent.find? (fun o => o.ctag == ctag.toNat && o.cmd.dest == src.toNat) with
      | none => s
      | some o =>
        let s1 := s.modChain c (fun x => { x with sent := x.sent.filter (fun y => y != o) })
        match o.cmd.why with
        | .relay =>
          let s2 := s1.emit (.agfin "RESP" ([w32 c, w32 ctag.toNat, w32 src.toNat, w32 rcode.toNat] ++
            data.map (fun (h : Half) => w32 h.toNat)))
          if rcode = 0 ∧ o.cmd.opc = 0x0C then s2.relayedSegmentOk c o.cmd.dest (o.cmd.params.getD 0 0).toNat else s2
        | _ => if rcode = 0 then s1.cmdOk c o data else s1.cmdRefused c o rcode.toNat data)

/-- RESP_TIMEOUT (R41): the RESP has not come when it is due. The CMD is sent once more in the next window; a second
failure is reported. A CONTACTOR of a string that has tripped meanwhile is discarded (R129). -/
def execRespTimeout (c : Fin 64) (ctag : BitVec 8) (time : Nat) (s : State) : Outcome :=
  evt s time (fun s =>
    match (s.chain c).sent.find? (fun o => o.ctag == ctag.toNat) with
    | none => s
    | some o =>
      if s.now < s.respDue c o then s
      else
        let s1 := s.modChain c (fun x => { x with sent := x.sent.filter (fun y => y != o) })
        match o.cmd.why with
        | .relay => s1
        | .contactor _ =>
          if (s.str c).state == .tripped then s1
          else if o.cmd.attempt = 0 then
            s1.modChain c (fun x => { x with queue := { o.cmd with attempt := 1 } :: x.queue })
          else s1.cmdTimedOut c o
        | _ =>
          if o.cmd.attempt = 0 then
            s1.modChain c (fun x => { x with queue := { o.cmd with attempt := 1 } :: x.queue })
          else s1.cmdTimedOut c o)

/-- The CMD window is open: how much of it has passed (R40, R41). -/
def State.windowUsed (s : State) : Option Nat :=
  if 840000 ≤ s.now % 1000000 ∧ s.now % 1000000 ≤ 955000 then some (s.now % 1000000 - 840000) else none

/-- RELAYED_CMD_RECEIVED (R58): the module sends its partner's CMD from its own end, in this CMD window or, where it
would not have left by +955 µs, in the next (R41). -/
def execRelayedCmdReceived (c : Fin 64) (ctag dest opc : BitVec 8) (params : List Half) (time : Nat) (s : State) : Outcome :=
  evt s time (fun s =>
    if s.single || !s.linkUp || s.runsPlant || s.role == .offline then s
    else
      let s1 := s.queueCmd c { dest := dest.toNat, opc := opc.toNat, params := params, why := .relay, ctag := ctag.toNat }
      match s.windowUsed with
      | some used => (State.sendQueued 64 used s1 c []).1
      | none => s1)

/-- KEEP_BROADCAST (R64): once per second on every in-service chain. -/
def execKeepBroadcast (time : Nat) (s : State) : Outcome :=
  evt s time (fun s =>
    if !s.runsPlant || !s.keeperUp then s
    else
      forEach (List.range 64) s (fun s c =>
        doIf (s.inService c) s (fun s => s.queueCmd c { dest := 0xFF, opc := 0x09 })))

/-! ## Verification's timers and the partner's decision (R121, R123) -/

/-- VERIFY_GRACE_END (R121): what has not been read or has no Croak opens the string. -/
def execVerifyGraceEnd (c : Fin 64) (time : Nat) (s : State) : Outcome :=
  evt s time (fun s =>
    match (s.chain c).verify with
    | none => s
    | some v =>
      if s.now < v.graceEnd || !s.leadsVerify || !v.decides then s
      else
        match v.phase with
        | .waitCroak => if Chain.croakBack (s.chain c) then s.verifyHold c else s.verifyOpen c 3
        | .healing =>
          if (s.chain c).running != .whole && Chain.croakBack (s.chain c) then s.verifyHold c else s.verifyOpen c 3
        | _ => s.verifyOpen c 2)

/-- VERIFY_STANDBY_TIMEOUT (R123): no hold decision by grace end + 10 ms. -/
def execVerifyStandbyTimeout (c : Fin 64) (time : Nat) (s : State) : Outcome :=
  evt s time (fun s =>
    match (s.chain c).verify with
    | none => s
    | some v =>
      if s.now < v.graceEnd + 10000000 || s.leadsVerify || !v.decides then s
      else (s.setVerify c none).croakCause c 3)

/-- The PROT_CAUSE bit of a comparator-layer REASON. -/
def reasonBit (r : Nat) : Nat := if 1 ≤ r ∧ r ≤ 5 then r - 1 else 3

/-- The follower takes the decision on a VERIFY: a hold ends it, an open decision trips from this end (R123). -/
def State.takeDecision (s : State) (c : Nat) (hold : Bool) (reason : Nat) : State :=
  if hold then
    let s1 := s.setVerify c none
    if Chain.isHealed (s1.chain c) then s1.modChain c (fun x => { x with state := .healed }) else s1
  else (s.setVerify c none).croakCause c (reasonBit reason)

/-- VERIFY_DECISION_RECEIVED (R123). -/
def execVerifyDecisionReceived (c : Fin 64) (hold : Bool) (reason : BitVec 8) (time : Nat) (s : State) : Outcome :=
  evt s time (fun s =>
    if s.single || !s.linkUp || s.runsPlant then s else s.takeDecision c hold reason.toNat)

/-- HEAL_CHECK_ECHO (R56): each second, ECHO with DEST 0xFF from the A-end over a healed chain. -/
def execHealCheckEcho (c : Fin 64) (time : Nat) (s : State) : Outcome :=
  evt s time (fun s =>
    if (s.chain c).state == .healed && Chain.isHealed (s.chain c) && s.holdsA && s.bankUp .a then
      s.sendEcho c 0xFF .a .healCheck
    else s)

/-! ## Adoption (R398) -/

/-- ADOPTION_END (R398): the three trains are in. A known ring is adopted; otherwise the chain is
enumerated by the module that runs the plant (R43), after TRIP with CHAIN_FAULT where a driver is on. -/
def execAdoptionEnd (c : Fin 64) (s : State) : Outcome :=
  evt0 s (fun s =>
    match (s.chain c).adopt with
    | none => s
    | some a =>
      if a.ticks < 3 then s
      else
        let n := s.chPositions c
        let known := !a.bad && (List.range n).all (fun p => a.good.contains (p + 1))
        let drv := a.drivers.getD 0
        let again := s.modChain c (fun x => { x with adopt := some s.newAdopt, gotNow := [] })
        if known then
          let s1 := s.modChain c (fun x =>
            { x with
              state := match x.running with
                | .whole => .inService
                | .reversed => .reversed
                | _ => .healed
              adopt := none, croak := true
              serviceTick := match x.serviceTick with | some t => some t | none => some s.tickNo
              comp := [], trackA := [], trackB := [], fault := x.fault &&& 0x14, lastFrame := [], missing := [], silent := [] })
          let s2 := s1.modTile c (fun x =>
            { x with tick := s.tickNo, base := s.tickNo, heads := [], waiting := [], nextTick := [], copies := []
                     old := [], issued := false })
          if drv = 6 then
            s2.modStr c (fun x =>
              { x with state := if x.state == .tripped then .tripped else .closed, lastContactor := some 6 })
          else if drv = 0 then
            s2.modStr c (fun x => { x with state := if x.state == .tripped then .tripped else .open_ })
          else s2.tripOnce c 17
        else if !s.runsPlant then again
        else if drv ≠ 0 then
          -- the enumeration begins once the drivers are clear
          again.tripOnce c 17
        else s.startEnum c none)

/-! ## Opcodes of group 0x10 (R69) -/

/-- CHAIN_ENUMERATE (R43, R69). With no good head frame in hand the head's drivers count as clear, and a chain with
CH_ENABLE = 0 is enumerated like another (log entry 196). -/
def execChainEnumerate (t : Fin 16) (r : Req) (s : State) : Outcome :=
  opcode s t r { opcode := 0x1001, role := 1, len := lenIs 1, active := true } (fun s =>
    let c := (r.w 2).toNat
    if 63 < c then (s, no stOutOfRange)
    else if (match s.headDrivers c with | some d => d != 0 | none => false) then (s, no (stRejected 0x12))
    else
      let s1 := match s.enumAsked c with
        | some (t0, q0) => s.finish t0 q0 (stFault 0x21) [w32 (s.chain c).fault.toNat]
        | none => s
      (s1.startEnum c (some (t, r.seq)), .later))

/-- The DEST column of R59: an opcode's broadcast and position forms. -/
def destAdmits (opc dest : Nat) : Bool :=
  match opc with
  | 0x01 | 0x02 | 0x05 | 0x06 | 0x07 | 0x0A | 0x0C | 0x0E => decide (dest ≠ 0xFF)
  | 0x09 => decide (dest = 0xFF)
  | 0x0D => decide (dest = 1)
  | _ => true

/-- A BLEED_SET or PRBS_START names a cell configured absent (R61). -/
def State.namesAbsent (s : State) (c p opc : Nat) (ps : List Nat) : Bool :=
  if opc = 0x07 then
    let m := ps.getD 0 0 + ps.getD 1 0 % 4 * 65536
    (List.range 18).any (fun k => m.testBit k && bitOf (s.par (paddr 0x10 c (0x100 + p - 1))) k)
  else if opc = 0x0A then
    let k := ps.getD 0 0
    decide (1 ≤ k ∧ k ≤ 18) && bitOf (s.par (paddr 0x10 c (0x100 + p - 1))) (k - 1)
  else false

/-- The chain is IN_SERVICE, HEALED or REVERSED (R69). -/
def State.chainServes (s : State) (c : Nat) : Bool :=
  match (s.chain c).state with
  | .inService | .healed | .reversed => true
  | _ => false

/-- CHAIN_CMD (R61, R62, R69). -/
def execChainCmd (t : Fin 16) (r : Req) (s : State) : Outcome :=
  opcode s t r
    { opcode := 0x1002, role := 1, len := fun ws => decide (1 ≤ ws.length ∧ ws.length ≤ 16), active := true } (fun s =>
    let c := fieldOf (r.w 2) 23 16
    let p := fieldOf (r.w 2) 15 8
    let opc := fieldOf (r.w 2) 7 0
    let ps := (r.payload.drop 1).map (fun w => w.toNat)
    if 63 < c || p = 0 || (128 < p && p ≠ 0xFF) then (s, no stOutOfRange)
    else if ps.any (fun n => decide (65535 < n)) then (s, no stOutOfRange)
    else if opc = 0x02 ∨ opc = 0x0C ∨ opc = 0x0D then (s, no (stRejected 0x11))
    else if !destAdmits opc p || (p ≠ 0xFF && s.namesAbsent c p opc ps) then (s, no stOutOfRange)
    else if !s.chainServes c || (p ≠ 0xFF && s.chPositions c < p) then (s, no (stRejected 0x10))
    else (s.queueCmd c { dest := p, opc := opc, params := ps.map half, why := .tenant t r.seq }, .later))

/-- The sixteen words of a DATA frame, bit 0 in bit 31 of the first (R69). -/
def frameWords (f : BitVec 512) : List Word :=
  (List.range 16).map (fun i => w32 (f.toNat / 2 ^ (480 - 32 * i)))

/-- CHAIN_FRAME_READ (R69). -/
def execChainFrameRead (t : Fin 16) (r : Req) (s : State) : Outcome :=
  opcode s t r { opcode := 0x1003, len := lenIs 1 } (fun s =>
    let c := fieldOf (r.w 2) 15 8
    let p := fieldOf (r.w 2) 7 0
    if 63 < c || p = 0 || 128 < p then (s, no stOutOfRange)
    else if !s.chainServes c || s.chPositions c < p then (s, no (stRejected 0x10))
    else match (s.chain c).lastFrame.get p with
      | none => (s, no (stRejected 0x13))
      | some f => (s, .reply stOk (frameWords f)))

/-- CHAIN_DIAG (R69). -/
def execChainDiag (t : Fin 16) (r : Req) (s : State) : Outcome :=
  opcode s t r { opcode := 0x1004, len := lenIs 1, active := true } (fun s =>
    let c := fieldOf (r.w 2) 15 8
    let p := fieldOf (r.w 2) 7 0
    if 63 < c || p = 0 || 128 < p then (s, no stOutOfRange)
    else if !s.chainServes c || s.chPositions c < p then (s, no (stRejected 0x10))
    else (s.queueCmd c { dest := p, opc := 0x0E, why := .diag t r.seq }, .later))

end Sys2Proof.Machine
end

