-- ==== Sys2Proof/Machine/Image.lean ====
section
/-! DEFINITION. The words of the stored images (R196, R390, R399, R466): a configuration copy and its
check word, a partition image and its CRC, the fields of a firmware image. -/

namespace Sys2Proof.Machine

/-! ## The configuration image (R399, R466) -/

/-- Put an entry into a list that rises by its first component. -/
def insertByKey (e : Nat × Word) : List (Nat × Word) → List (Nat × Word)
  | [] => [e]
  | x :: r => if e.1 ≤ x.1 then e :: x :: r else x :: insertByKey e r

/-- The parameters of a map that differ from their defaults, by rising address. Safety parameters are not
part of the image (R404). -/
def storedParams (m : ParamMap) : List (Nat × Word) :=
  m.foldl (fun acc e =>
    match e.2 with
    | none => acc
    | some v => if v = paramDefault e.1 ∨ isSafeParam e.1 = true then acc else insertByKey (e.1, v) acc) []

/-- Join values at consecutive addresses into one record, of at most 255 values (log entry 14). -/
def groupRecords (l : List (Nat × Word)) : List (Nat × List Word) :=
  match l with
  | [] => []
  | (a, v) :: r =>
    match groupRecords r with
    | (b, vs) :: q => if b = a + 1 ∧ vs.length < 255 then (a, v :: vs) :: q else (a, [v]) :: (b, vs) :: q
    | [] => [(a, [v])]

/-- The records of an image: an address, a count, the values. -/
def recordWords (m : ParamMap) : List Word :=
  (groupRecords (storedParams m)).flatMap (fun e => w32 e.1 :: w32 e.2.length :: e.2)

/-- The words of a configuration copy (R399). -/
def configWords (generation time tenant : Nat) (m : ParamMap) : List Word :=
  let body := recordWords m
  let head := [0x4B434647, 1, w32 generation, w32 (9 + body.length), hiWord time, loWord time, w32 (tenant % 16), 0]
  head ++ body ++ [crc32c (head ++ body)]

/-- The check word of a copy. -/
def configCrc (generation time tenant : Nat) (m : ParamMap) : Word :=
  (configWords generation time tenant m).getLastD 0

/-- The parameters of the configuration as last committed; they are in force from their effective tick (R107). -/
def State.committed (s : State) : ParamMap :=
  match s.cfg.due.getLast? with
  | some e => e.2
  | none => s.cfg.active

/-- The words of the active image. -/
def State.activeWords (s : State) : List Word :=
  configWords s.cfg.generation s.cfg.commitTime s.cfg.commitTenant s.committed

/-- CRC-32C of the active image (R186, R243). -/
def State.activeCrc (s : State) : Word :=
  configCrc s.cfg.generation s.cfg.commitTime s.cfg.commitTenant s.committed

/-- What the records of a written image give, or the first failure: its status and W2 (R466). -/
inductive ParseRes where
  | good (m : ParamMap)
  | bad (status : Nat) (w2 : Word)
deriving DecidableEq, Repr

/-- Take the values of one record: each address in turn, in word order (R466). -/
def takeValues (addr : Nat) (vs : List Word) (m : ParamMap) : ParseRes :=
  match vs with
  | [] => .good m
  | v :: r =>
    match paramRow addr with
    | none => .bad 0x0204 (w32 addr)
    | some row =>
      if isSafeParam addr then .bad 0x0204 (w32 addr)
      else if row.ro then .bad 0x0206 (w32 addr)
      else if !row.valueOk v then .bad 0x0205 (w32 addr)
      else takeValues (addr + 1) r (m.set addr (some v))

/-- The first undefined address of a range. -/
def firstUndefined (addr n : Nat) : Option Nat :=
  (List.range n).findSome? (fun i => if (paramRow (addr + i)).isNone then some (addr + i) else none)

/-- Parse the records in word order (R466). -/
def parseRecords (fuel : Nat) (ws : List Word) (m : ParamMap) : ParseRes :=
  match fuel, ws with
  | _, [] => .good m
  | 0, _ => .good m
  | k + 1, a :: rest =>
    match rest with
    | [] => .bad 0x0204 a
    | c :: vs =>
      let n := fieldOf c 7 0
      if vs.length < n ∨ (paramRow a.toNat).isNone then .bad 0x0204 a
      else
        match takeValues a.toNat (vs.take n) m with
        | .bad st w => .bad st w
        | .good m1 => parseRecords k (vs.drop n) m1

/-- Check the words of a written configuration copy (R466): header and check word first, each named by its
word offset, then the records. -/
def parseConfig (ws : List Word) : ParseRes :=
  let n := ws.length
  if ws.getD 0 0 ≠ 0x4B434647 then .bad 0x0228 0
  else if ws.getD 1 0 ≠ 1 then .bad 0x0228 1
  else if (ws.getD 3 0).toNat ≠ n ∨ n < 9 then .bad 0x0228 3
  else if ws.getLastD 0 ≠ crc32c ws.dropLast then .bad 0x0228 (w32 (n - 1))
  else parseRecords n ((ws.drop 8).dropLast) []

/-! ## Partition images (R196, R197) -/

/-- The image that its words give: header, program and initial data (R196). -/
def partImage (ws : List Word) : PartImage :=
  let pn := (ws.getD 2 0).toNat
  let dn := (ws.getD 3 0).toNat
  { header := ws.take 8, program := (ws.drop 8).take pn, data := ((ws.drop 8).drop pn).take dn }

/-- The words of an image. -/
def PartImage.words (im : PartImage) : List Word := im.header ++ im.program ++ im.data

/-- The image passes the checks of R197 under a PART_KIND and a PART_MEM_KIB. The words after the header
are those that PROG_WORDS and DATA_WORDS count. -/
def partImageOk (ws : List Word) (kind memKib : Nat) : Bool :=
  let pn := (ws.getD 2 0).toNat
  let dn := (ws.getD 3 0).toNat
  ws.getD 0 0 == 0x4B500001 && decide (fieldOf (ws.getD 1 0) 0 0 = kind) && decide (ws.length = 8 + pn + dn) &&
  ws.getD 7 0 == crc32c (ws.drop 8) && decide (pn * 4 + (ws.getD 4 0).toNat * 1024 ≤ memKib * 1024)

/-- One word that stands for a stored image in a control block: 0 where none is stored. -/
def imageMark (im : Option PartImage) : Word :=
  match im with
  | none => 0
  | some i => crc32c (PartImage.words i)

/-! ## Firmware images (R390, R391) -/

/-- RELEASE, ROLLBACK and HW_MIN of a slot; an EMPTY slot reads 0. -/
def FwSlot.release (x : FwSlot) : Word := x.words.getD 1 0
def FwSlot.rollback (x : FwSlot) : Nat := fieldOf (x.words.getD 2 0) 6 0
def FwSlot.hwMin (x : FwSlot) : Nat := (x.words.getD 3 0).toNat

/-- The slot's image is bootable (R391); `verify` says that HASH and SIGNATURE verify. -/
def State.bootable (s : State) (x : FwSlot) (verify : Bool) : Bool :=
  x.state != .empty && x.words.getD 0 0 == 0x4B460001 && decide (FwSlot.hwMin x ≤ s.ident.hwRev) &&
  decide (s.ident.antiRollback ≤ FwSlot.rollback x) && verify

/-- The slot with a number. -/
def State.fwSlot (s : State) (k : Nat) : FwSlot := if k = 0 then s.ident.slot0 else s.ident.slot1

/-- Set a slot. -/
def State.setFwSlot (s : State) (k : Nat) (x : FwSlot) : State :=
  if k = 0 then { s with ident := { s.ident with slot0 := x } } else { s with ident := { s.ident with slot1 := x } }

/-- The release of the booted firmware (SYS_IDENT W5). -/
def State.release (s : State) : Word := FwSlot.release (s.fwSlot s.ident.booted)

end Sys2Proof.Machine
end

