-- ==== Sys2Proof/Machine/KM12.lean ====
section
/-! DEFINITION. The KM-12 cell model: chemistry values (R85), tables (R91), the filter step of R86 with
its gates and clamps (R88), compensated pairs (R90), checks (R92), initialisation (R94, R95), rest and
SOH (R93, R96), impedance (R98 to R102) and output words (R84, R103). All arithmetic is binary32 (R89). -/

namespace Sys2Proof

open Sys2Proof.Machine

/-! ## Sums in the order of the model image (R72; log entry 3) -/

/-- The list in the order that number n names. -/
def permute {α : Type} (fuel n : Nat) (l : List α) : List α :=
  match fuel with
  | 0 => l
  | k + 1 =>
    match l[n % max 1 l.length]? with
    | none => []
    | some x => x :: permute k (n / max 1 l.length) (l.eraseIdx (n % max 1 l.length))

/-- One level of the tree over lanes: neighbours are added, and an idle lane adds nothing. -/
def laneLevel (l : List (Option Word)) : List (Option Word) :=
  match l with
  | a :: b :: r =>
    (match a, b with
      | some x, some y => some (fadd x y)
      | some x, none => some x
      | none, y => y) :: laneLevel r
  | l => l

/-- The sum over lanes 0 to 31 in the fixed binary tree (R72). -/
def laneSum (l : List (Option Word)) : Word :=
  ((laneLevel (laneLevel (laneLevel (laneLevel (laneLevel l))))).headD none).getD 0

/-- The terms of program point pt in their lanes: which lane takes which term is the image's (R72; log entry 3). -/
def lanesOf {α : Type} (pt : Nat) (l : List α) : List (Option α) :=
  permute 32 (Config.imageOrder pt) ((l.map some ++ List.replicate 32 none).take 32)

/-- A sum of products at program point pt: each lane forms its product, and the tree adds them. -/
def fdot (pt : Nat) (l : List (Word × Word)) : Word :=
  laneSum ((lanesOf pt l).map (fun t => t.map (fun ab => fmul ab.1 ab.2)))

/-- A sum at program point pt. -/
def fsum (pt : Nat) (l : List Word) : Word := laneSum (lanesOf pt l)

/-- The word 1.0. -/
def one : Word := 0x3F800000
/-- The word 0.5. -/
def halfOne : Word := 0x3F000000

/-! ## The exponential (R82, R83, R101) -/

/-- Bits of the fixed-point numbers in which an exponential is formed: far more than binary32 keeps. -/
def expBits : Nat := 160

/-- exp of q / 256 by its series, and then eight squarings, in fixed point. -/
def expFixed (q : Rat) : Int :=
  let x : Int := (q * 2 ^ expBits).floor / 256
  let sum := ((List.range 24).foldl (fun (acc : Int × Int) (i : Nat) =>
    let t := acc.2 * x / (2 ^ expBits * ((i : Int) + 1))
    (acc.1 + t, t)) ((2 ^ expBits : Int), (2 ^ expBits : Int))).1
  (List.range 8).foldl (fun (s : Int) (_ : Nat) => s * s / 2 ^ expBits) sum

/-- exp(q) to the nearest binary32 (R82, R83, R89, R101). -/
def expWord (q : Rat) : Word := fofRat ((expFixed q : Rat) / 2 ^ expBits)

/-! ## Chemistry (R85) -/

/-- The values of a chemistry code, in SI units; per-Ah values as they stand. The time constants and E_Ω and E_ct
enter exponentials as the table gives them. -/
structure Chem where
  thn0 : Word
  thn100 : Word
  thp0 : Word
  thp100 : Word
  taun : Rat
  taup : Rat
  tauel : Rat
  ke : Word
  rohmQ : Word
  rctQ : Word
  tauct : Rat
  eOhm : Rat
  eCt : Rat
  dudt : Word
  ccQ : Word
  csQ : Word
  rcsQ : Word
  rsaQ : Word
deriving DecidableEq, Repr

/-- LFP, NMC and LTO (R85). -/
def chemOf (code : Nat) : Chem :=
  match code with
  | 0 => { thn0 := fq 20 1000, thn100 := fq 800 1000, thp0 := fq 950 1000, thp100 := fq 50 1000,
           taun := 400, taup := 150, tauel := 20, ke := fq 2 1000, rohmQ := fq 45 1000,
           rctQ := fq 35 1000, tauct := 2 / 1000, eOhm := 20000, eCt := 50000, dudt := fq (-10) 100000, ccQ := fq 154 10, csQ := fq 39 10,
           rcsQ := fq 224 1, rsaQ := fq 560 1 }
  | 1 => { thn0 := fq 30 1000, thn100 := fq 880 1000, thp0 := fq 920 1000, thp100 := fq 300 1000,
           taun := 300, taup := 600, tauel := 15, ke := fq 3 1000, rohmQ := fq 60 1000,
           rctQ := fq 60 1000, tauct := 3 / 1000, eOhm := 18000, eCt := 55000, dudt := fq (-20) 100000, ccQ := fq 150 10, csQ := fq 38 10,
           rcsQ := fq 180 1, rsaQ := fq 500 1 }
  | _ => { thn0 := fq 50 1000, thn100 := fq 950 1000, thp0 := fq 920 1000, thp100 := fq 300 1000,
           taun := 60, taup := 600, tauel := 25, ke := fq 2 1000, rohmQ := fq 25 1000,
           rctQ := fq 20 1000, tauct := 1 / 1000, eOhm := 15000, eCt := 40000, dudt := fq (-5) 100000, ccQ := fq 200 10, csQ := fq 50 10,
           rcsQ := fq 250 1, rsaQ := fq 600 1 }

/-- The chain parameters of one tile (R110). -/
structure EstPar where
  model : Nat
  chem : Nat
  qNom : Word
  restC : Nat
  restTime : Nat
  sigmaV : Nat
  sigmaT : Nat
  gate : Nat
  cCore : Word
  cSurf : Word
  rCs : Word
  rSa : Word
  rBleed : Word
deriving DecidableEq, Repr

end Sys2Proof

namespace Sys2Proof.Machine

/-- The active estimation parameters of chain c. -/
def State.estPar (s : State) (c : Nat) : EstPar :=
  let w := fun i => s.par (paddr 0x11 c i)
  { model := (w 0).toNat, chem := (w 1).toNat, qNom := w 2, restC := (w 3).toNat, restTime := (w 4).toNat,
    sigmaV := (w 5).toNat, sigmaT := (w 6).toNat, gate := (w 7).toNat, cCore := w 9, cSurf := w 0xA,
    rCs := w 0xB, rSa := w 0xC, rBleed := w 0xD }

end Sys2Proof.Machine

namespace Sys2Proof

open Sys2Proof.Machine

/-! ## Tables (R91) -/

/-- The index of the segment of a 64-entry table for a position u in 0 … 63. -/
def segOf (u : Word) : Nat := min 62 (max 0 (frat u).floor).toNat

/-- Value and slope per table step along the segment in use. -/
def interp (tab : Nat → Word) (u : Word) : Word × Word :=
  let i := segOf u
  let d := fsub (tab (i + 1)) (tab i)
  (ffma (fsub u (fint i)) d (tab i), d)

/-- An electrode's potential and its slope per unit stoichiometry; beyond 0–1 along the end segment. -/
def ocv (chem : Nat) (up : Bool) (x : Word) : Word × Word :=
  let (v, d) := interp (Config.ocvTable chem up) (fmul x (fint 63))
  (v, fmul d (fint 63))

/-- Entry i of a temperature table (false = ohmic, true = charge transfer): f at −40 °C + 140 °C × i / 63 (R83, R91). -/
def tempEntry (chem : Nat) (ct : Bool) (i : Nat) : Word :=
  let ch := chemOf chem
  let tk : Rat := -40 + 140 * (i : Rat) / 63 + 27315 / 100
  expWord ((if ct then ch.eCt else ch.eOhm) / (8314 / 1000) * (1 / tk - 1 / (29815 / 100)))

/-- A temperature factor and its slope; −40 °C to +100 °C, with the end values held outside. -/
def tempFactor (chem : Nat) (ct : Bool) (t : Word) : Word × Word :=
  if flt t (fint (-40)) then (tempEntry chem ct 0, 0)
  else if flt (fint 100) t then (tempEntry chem ct 63, 0)
  else
    let k := fq 63 140
    let (v, d) := interp (tempEntry chem ct) (fmul (fadd t (fint 40)) k)
    (v, fmul d k)

/-- The stoichiometries at a SoC, linear between their 0 % and 100 % values. -/
def thetasAt (ch : Chem) (soc : Word) : Word × Word :=
  (ffma soc (fsub ch.thn100 ch.thn0) ch.thn0, ffma soc (fsub ch.thp100 ch.thp0) ch.thp0)

/-- OCV(s) at a core temperature (R105). -/
def ocvAt (chem : Nat) (soc tc : Word) : Word :=
  let ch := chemOf chem
  let (n, p) := thetasAt ch soc
  ffma ch.dudt (fsub tc (fint 25)) (fsub (ocv chem true p).1 (ocv chem false n).1)

/-- The OCV slope per unit SoC at a SoC (R96, R142). -/
def ocvSlope (chem : Nat) (soc : Word) : Word :=
  let ch := chemOf chem
  let (n, p) := thetasAt ch soc
  fsub (fmul (ocv chem true p).2 (fsub ch.thp100 ch.thp0)) (fmul (ocv chem false n).2 (fsub ch.thn100 ch.thn0))

/-! ## State access -/

/-- Compensated addition (R90). -/
def compAdd (hi lo d : Word) : Word × Word :=
  let s := fadd hi d
  let bp := fsub s hi
  let err := fadd (fsub hi (fsub s bp)) (fsub d bp)
  (s, fadd lo err)

/-- State i with the LO word of a pair added (R90: every read uses hi + lo). -/
def Slot.xv (z : Slot) (i : Nat) : Word :=
  let w := z.x.getD i 0
  if i = 0 then fadd w z.thnLo else if i = 4 then fadd w z.thpLo else w

/-- Add an increment to state i. -/
def Slot.xadd (z : Slot) (i : Nat) (d : Word) : Slot :=
  let w := z.x.getD i 0
  if i = 0 then let (h, l) := compAdd w z.thnLo d; { z with x := z.x.set 0 h, thnLo := l }
  else if i = 4 then let (h, l) := compAdd w z.thpLo d; { z with x := z.x.set 4 h, thpLo := l }
  else { z with x := z.x.set i (fadd w d) }

/-- Offset of row i in the upper triangle. -/
def triOff (i : Nat) : Nat := i * 12 - i * (i - 1) / 2

/-- Element i, j of a covariance held as its upper triangle. -/
def covAt (p : List Word) (i j : Nat) : Word :=
  if i ≤ j then p.getD (triOff i + (j - i)) 0 else p.getD (triOff j + (i - j)) 0

/-- The upper triangle of a function of i and j. -/
def triOf (f : Nat → Nat → Word) : List Word :=
  (List.range 12).flatMap (fun i => (List.range (12 - i)).map (fun k => f i (i + k)))

/-- Process noise variances per tick (R85). -/
def noiseVar (i : Nat) : Word :=
  match i with
  | 0 | 4 => fq 4 (10 ^ 16)
  | 1 | 2 | 3 | 5 | 6 | 7 => fq 1 (10 ^ 14)
  | 8 => fq 1 (10 ^ 12)
  | 9 | 10 => fq 1 (10 ^ 6)
  | _ => fq 9 (10 ^ 12)

/-- Initial variances (R85). -/
def initVar (i : Nat) : Word :=
  match i with
  | 0 | 4 => fq 4 10000
  | 1 | 2 | 3 | 5 | 6 | 7 => fq 25 1000000
  | 8 => fq 1 1000000
  | 9 | 10 => one
  | _ => fq 25 10000

/-- The initial covariance: off-diagonal terms 0. -/
def initCov : List Word := triOf (fun i j => if i = j then initVar i else 0)

/-- λ and w of the diffusion modes (R82). -/
def lamQ (i : Nat) : Rat := match i with | 0 => 201907 / 10000 | 1 => 596795 / 10000 | _ => 1189000 / 10000
def modeW (i : Nat) : Word := match i with | 0 => fq 33020 1000000 | 1 => fq 11171 1000000 | _ => fq 22476 1000000

/-- Δt = 1 ms. -/
def dt : Word := fq 1 1000

/-! ## One update -/

/-- What one update of a cell takes: I_str, the bleed states, the usable voltage and its code, the mapped
temperature, the ambient temperature, and the tick. -/
structure CellIn where
  tick : Nat
  istr : Word
  u1 : Bool
  u2 : Bool
  v : Option (Word × Nat)
  t : Option Word
  tamb : Word
deriving DecidableEq, Repr

/-- The quantities of one update that later steps read again. -/
structure Stepped where
  z : Slot
  p : List Word
  ik : Word
  im : Word
deriving DecidableEq, Repr

/-- Q = EST_Q_NOM × SOH. -/
def Slot.q (z : Slot) (e : EstPar) : Word := fmul e.qNom z.soh

/-- C_c, C_s, R_cs, R_sa: the parameter, or the chemistry's value with Q (R110). -/
def thermalOf (e : EstPar) (q : Word) : Word × Word × Word × Word :=
  let ch := chemOf e.chem
  let z := fun (w d : Word) => if fabs w = 0 then d else w
  (z e.cCore (fmul ch.ccQ q), z e.cSurf (fmul ch.csQ q), z e.rCs (fdiv ch.rcsQ q), z e.rSa (fdiv ch.rsaQ q))

/-- Steps 1 to 3 of R86: the currents of R81, the prediction of R82 and P⁻ = F P Fᵀ + Q. -/
def predict (e : EstPar) (z : Slot) (i : CellIn) : Stepped :=
  let ch := chemOf e.chem
  let q := z.q e
  let ib := fdiv (z.vLast.getD z.vhat) e.rBleed
  let ik := ffma (fmul halfOne (fint (b2n i.u1 + b2n i.u2))) ib i.istr
  let im := ffma (fint (b2n i.u1)) ib i.istr
  let k := fdiv dt (fmul (fint 3600) q)
  let dn := fneg (fmul (fmul ik k) (fsub ch.thn100 ch.thn0))
  let dp := fneg (fmul (fmul ik k) (fsub ch.thp100 ch.thp0))
  let z1 := (z.xadd 0 dn).xadd 4 dp
  let decay := fun (tau : Rat) (j : Nat) => expWord (-(lamQ j / 1000) / tau)
  let mode := fun (tau : Rat) (d : Word) (j : Nat) (m : Word) =>
    let a := decay tau j
    ffma a m (fdiv (fmul (fmul (fmul (fsub one a) (modeW j)) (fofRat tau)) d) dt)
  let ael := expWord (-(1 / 1000) / ch.tauel)
  let act := expWord (-(1 / 1000) / ch.tauct)
  let ue := ffma ael (z.x.getD 8 0) (fmul (fmul (fsub one ael) ch.ke) (fdiv ik q))
  let ict := ffma (fsub one act) (fsub im z.ict) z.ict
  let (up, sp) := ocv e.chem true (z1.xv 4)
  let (un, sn) := ocv e.chem false (z1.xv 0)
  let tc := z.x.getD 9 0
  let ts := z.x.getD 10 0
  let ubulk := ffma ch.dudt (fsub tc (fint 25)) (fsub up un)
  let pgen := fsub (fmul ik (fsub ubulk z.vhat)) (fmul (fmul ik (fadd tc (fq 27315 100))) ch.dudt)
  let (cc, cs, rcs, rsa) := thermalOf e q
  let kc := fdiv dt cc
  let ks := fdiv dt cs
  let tc1 := ffma kc (fsub pgen (fdiv (fsub tc ts) rcs)) tc
  let ts1 := ffma ks (fsub (fdiv (fsub tc1 ts) rcs) (fdiv (fsub ts i.tamb) rsa)) ts
  let x1 := (List.range 12).map (fun j =>
    if j = 1 ∨ j = 2 ∨ j = 3 then mode ch.taun dn (j - 1) (z.x.getD j 0)
    else if j = 5 ∨ j = 6 ∨ j = 7 then mode ch.taup dp (j - 5) (z.x.getD j 0)
    else if j = 8 then ue else if j = 9 then tc1 else if j = 10 then ts1 else z1.x.getD j 0)
  -- the rows of F
  let f90 := fneg (fmul (fmul kc ik) sn)
  let f94 := fmul (fmul kc ik) sp
  let f99 := fsub one (fdiv kc rcs)
  let f9a := fdiv kc rcs
  let g := fdiv ks rcs
  let row := fun (j : Nat) =>
    if j = 1 ∨ j = 2 ∨ j = 3 then [(j, decay ch.taun (j - 1))]
    else if j = 5 ∨ j = 6 ∨ j = 7 then [(j, decay ch.taup (j - 5))]
    else if j = 8 then [(8, ael)]
    else if j = 9 then [(0, f90), (4, f94), (9, f99), (10, f9a)]
    else if j = 10 then
      [(0, fmul g f90), (4, fmul g f94), (9, fmul g f99), (10, ffma g f9a (fsub (fsub one g) (fdiv ks rsa)))]
    else [(j, one)]
  let a := (List.range 12).map (fun r => (List.range 12).map (fun c =>
    fdot 1 ((row r).map (fun lf => (lf.2, covAt z.p lf.1 c)))))
  let p1 := triOf (fun r c =>
    let v := fdot 2 ((row c).map (fun lf => (lf.2, (a.getD r []).getD lf.1 0)))
    if r = c then fadd v (noiseVar r) else v)
  { z := { z1 with x := x1, ict := ict, ilast := ik }, p := p1, ik := ik, im := im }

/-- Surface stoichiometries, clamped to 0–1 where they are used (R83, R88). -/
def surfaceN (z : Slot) : Word := fclamp 0 one (fsum 3 [z.xv 0, z.x.getD 1 0, z.x.getD 2 0, z.x.getD 3 0])
def surfaceP (z : Slot) : Word := fclamp 0 one (fsum 4 [z.xv 4, z.x.getD 5 0, z.x.getD 6 0, z.x.getD 7 0])

/-- R_Ω and R_ct at the present core temperature (R83). -/
def rOhmOf (e : EstPar) (z : Slot) : Word := fmul (fmul z.rohm25 (z.x.getD 11 0)) (tempFactor e.chem false (z.x.getD 9 0)).1
def rCtOf (e : EstPar) (z : Slot) : Word := fmul (fmul z.rct25 (z.x.getD 11 0)) (tempFactor e.chem true (z.x.getD 9 0)).1

/-- V̂ for the two currents (R83, R100). -/
def vHatOf (e : EstPar) (z : Slot) (im ict : Word) : Word :=
  let ch := chemOf e.chem
  fsum 5 [(ocv e.chem true (surfaceP z)).1, fneg (ocv e.chem false (surfaceN z)).1,
          fmul ch.dudt (fsub (z.x.getD 9 0) (fint 25)), fneg (z.x.getD 8 0),
          fneg (fmul (rOhmOf e z) im), fneg (fmul (rCtOf e z) ict)]

/-- The row H of the voltage model (R83). -/
def hOf (e : EstPar) (z : Slot) (im : Word) : List (Nat × Word) :=
  let ch := chemOf e.chem
  let sn := fneg (ocv e.chem false (surfaceN z)).2
  let sp := (ocv e.chem true (surfaceP z)).2
  let r := z.x.getD 11 0
  let (fo, dfo) := tempFactor e.chem false (z.x.getD 9 0)
  let (fc, dfc) := tempFactor e.chem true (z.x.getD 9 0)
  let hT := fsub ch.dudt (fmul r (fadd (fmul (fmul z.rohm25 dfo) im) (fmul (fmul z.rct25 dfc) z.ict)))
  let hR := fneg (fadd (fmul (fmul z.rohm25 fo) im) (fmul (fmul z.rct25 fc) z.ict))
  [(0, sn), (1, sn), (2, sn), (3, sn), (4, sp), (5, sp), (6, sp), (7, sp), (8, fneg one), (9, hT), (11, hR)]

/-- S = H P⁻ Hᵀ + σ², and P⁻ Hᵀ. -/
def innovation (p : List Word) (h : List (Nat × Word)) (r2 : Word) : Word × List Word :=
  let ph := (List.range 12).map (fun i => fdot 6 (h.map (fun jv => (jv.2, covAt p i jv.1))))
  (fadd (fdot 7 (h.map (fun jv => (jv.2, ph.getD jv.1 0)))) r2, ph)

/-- |ν| > EST_GATE × √S (R88). -/
def gated (e : EstPar) (nu s : Word) : Bool := flt (fmul (fint e.gate) (fsqrt s)) (fabs nu)

/-- x + K ν and P⁻ − K H P⁻ with K = P⁻ Hᵀ / S (R86 steps 4 and 5). -/
def measure1 (z : Slot) (p : List Word) (s : Word) (ph : List Word) (nu : Word) : Slot × List Word :=
  let k := ph.map (fun w => fdiv w s)
  ((List.range 12).foldl (fun z i => Slot.xadd z i (fmul (k.getD i 0) nu)) z,
   triOf (fun i j => fsub (covAt p i j) (fmul (k.getD i 0) (ph.getD j 0))))

/-- A square in V² or K² of a noise parameter. -/
def sigmaV2 (e : EstPar) : Word := let s := fq e.sigmaV 1000000; fmul s s
def sigmaT2 (e : EstPar) : Word := let s := fq e.sigmaT 100; fmul s s

/-- Step 4: the voltage update; answers whether it was accepted. -/
def voltageStep (e : EstPar) (st : Stepped) (v : Option (Word × Nat)) : Slot × List Word × Bool :=
  let z := { st.z with vhat := vHatOf e st.z st.im st.z.ict }
  match v with
  | none => (z, st.p, false)
  | some (vm, code) =>
    let nu := fsub vm z.vhat
    let (s, ph) := innovation st.p (hOf e z st.im) (sigmaV2 e)
    let z1 := { z with nuV := nu, sV := s, vLast := some vm, vCode := code }
    if gated e nu s then ({ z1 with gateRun := min 65535 (z1.gateRun + 1) }, st.p, false)
    else
      let (z2, p2) := measure1 z1 st.p s ph nu
      ({ z2 with gateRun := 0 }, p2, true)

/-- Step 5: the temperature update against Ts, gated with its own innovation. -/
def temperatureStep (e : EstPar) (z : Slot) (p : List Word) (t : Option Word) : Slot × List Word :=
  match t with
  | none => (z, p)
  | some tm =>
    let nu := fsub tm (z.x.getD 10 0)
    let (s, ph) := innovation p [(10, one)] (sigmaT2 e)
    if gated e nu s then (z, p) else measure1 z p s ph nu

/-- Clamp a compensated pair to 0–1. -/
def clampPair (hi lo : Word) : Word × Word :=
  let v := fadd hi lo
  if flt v 0 then (0, 0) else if flt one v then (one, 0) else (hi, lo)

/-- Step 6: the clamps of R88. -/
def clampStep (z : Slot) (p : List Word) : Slot :=
  let (nh, nl) := clampPair (z.x.getD 0 0) z.thnLo
  let (ph, pl) := clampPair (z.x.getD 4 0) z.thpLo
  let x := ((((z.x.set 0 nh).set 4 ph).set 9 (fclamp (fint (-60)) (fint 150) (z.x.getD 9 0))).set 10
    (fclamp (fint (-60)) (fint 150) (z.x.getD 10 0))).set 11 (fclamp (fq 1 4) (fint 8) (z.x.getD 11 0))
  let floorVar := fun i => fmul (fq 1 (10 ^ 12)) (initVar i)
  { z with
    x := x, thnLo := nl, thpLo := pl
    p := triOf (fun i j => if i = j ∧ flt (covAt p i j) (floorVar i) then floorVar i else covAt p i j) }

/-! ## Outputs and checks -/

/-- SoC, clamped to 0–1 (R84). -/
def socOf (e : EstPar) (z : Slot) : Word :=
  let ch := chemOf e.chem
  fclamp 0 one (fdiv (fsub (z.xv 0) ch.thn0) (fsub ch.thn100 ch.thn0))

/-- Plating margin (R84). -/
def marginOf (e : EstPar) (z : Slot) : Word :=
  ffma halfOne (ffma (rCtOf e z) z.ict (z.x.getD 8 0)) (ocv e.chem false (surfaceN z)).1

/-- The six outputs in binary32: SoC, T_c, SOH, R_Ω, R_ct, plating margin. -/
def outputsOf (e : EstPar) (z : Slot) : List Word :=
  [socOf e z, z.x.getD 9 0, z.soh, rOhmOf e z, rCtOf e z, marginOf e z]

/-- A 16-bit code as the low or high half of a word. -/
def code16 (c : Int) : Nat := (BitVec.ofInt 16 c).toNat

/-- OUT0, OUT1, OUT2 (R103). -/
def codeOutputs (z : Slot) (o : List Word) : Slot :=
  let w := fun i => o.getD i 0
  { z with
    out0 := w32 (code16 (fcode (w 0) 10000 0 10000) * 65536 + code16 (fcode (w 1) 100 (-6000) 15000))
    out1 := w32 (code16 (fcode (w 2) 10000 5000 12000) * 65536 + code16 (fcode (w 3) 1000000 0 65535))
    out2 := w32 (code16 (fcode (w 4) 1000000 0 65535) * 65536 + code16 (fcode (w 5) 10000 (-32768) 32767)) }

/-- The state words of a slot in slot order, from offset 0x008. -/
def stateWords (z : Slot) : List Word :=
  [z.x.getD 0 0, z.thnLo, z.x.getD 1 0, z.x.getD 2 0, z.x.getD 3 0, z.x.getD 4 0, z.thpLo, z.x.getD 5 0,
   z.x.getD 6 0, z.x.getD 7 0, z.x.getD 8 0, z.x.getD 9 0, z.x.getD 10 0, z.x.getD 11 0]

/-- The offset of the first word that fails the check of R92. -/
def badWord (z : Slot) (o : List Word) : Option Nat :=
  let st := (stateWords z).mapIdx (fun i w => (0x008 + 4 * i, w))
  let dg := (List.range 12).map (fun i => (0x040 + 4 * triOff i, covAt z.p i i))
  let out := [(0x1F0, o.getD 0 0), (0x1F0, o.getD 1 0), (0x1F4, o.getD 2 0), (0x1F4, o.getD 3 0),
              (0x1F8, o.getD 4 0), (0x1F8, o.getD 5 0)]
  match (st ++ dg ++ [(0x1A4, z.sV)] ++ out).find? (fun (a : Nat × Word) => !ffinite a.2) with
  | some a => some a.1
  | none => (dg.find? (fun (a : Nat × Word) => flt a.2 0)).map (fun a => a.1)

/-! ## Rest and SOH (R93, R96) -/

/-- |I_str| ≤ EST_REST_C × Q in this tick. -/
def restCurrent (e : EstPar) (z : Slot) (istr : Word) : Bool :=
  !flt (fmul (fq e.restC 10000) (z.q e)) (fabs istr)

/-- The rest bookkeeping of a tick: since when the current is low, and whether the cell is at rest. -/
def restTick (e : EstPar) (z : Slot) (tick : Nat) (istr : Word) : Slot × Bool :=
  if restCurrent e z istr then
    let since := match z.restSince with | some t => t | none => tick
    ({ z with restSince := some since }, decide (since + 1000 * e.restTime ≤ tick))
  else ({ z with restSince := none }, false)

/-- Entry into rest: SOC_REST, SLOPE_REST, the net charge, and the update of SOH. -/
def enterRest (e : EstPar) (z : Slot) : Slot :=
  let soc := socOf e z
  let slope := ocvSlope e.chem soc
  let qc := fadd z.qthHi z.qthLo
  let ds := fsub soc z.socRest
  let steep := fun w => !flt (fabs w) (fq 5 100)
  let soh :=
    if ffinite z.socRest && steep slope && steep z.slopeRest && !flt (fabs ds) (fq 3 10) then
      let c := fdiv (fabs qc) (fabs ds)
      fclamp (fq 1 2) (fq 12 10) (ffma (fq 1 10) (fsub (fdiv c e.qNom) z.soh) z.soh)
    else z.soh
  { z with socRest := soc, slopeRest := slope, qthHi := 0, qthLo := 0, soh := soh }

/-- Step 9: the net charge, and the rest of this tick. -/
def restStep (e : EstPar) (z : Slot) (ik istr : Word) (tick : Nat) : Slot :=
  let (h, l) := compAdd z.qthHi z.qthLo (fdiv (fmul ik dt) (fint 3600))
  let (z1, rest) := restTick e { z with qthHi := h, qthLo := l } tick istr
  let z2 := if rest && !z1.rested then enterRest e z1 else z1
  { z2 with rested := rest }

/-! ## Impedance (R65, R98 to R102) -/

/-- The register of R65 after n shifts from 0b11_1111. -/
def lfsr6 (n : Nat) : Nat :=
  match n with
  | 0 => 0x3F
  | k + 1 =>
    let r := lfsr6 k
    r * 2 % 64 + (if Nat.testBit r 5 != Nat.testBit r 4 then 1 else 0)

/-- Chip c_k: s6 of the register, period 63. -/
def chip (k : Nat) : Bool := (lfsr6 (k % 63)).testBit 5

/-- b = 2c − 1. -/
def chipB (k : Nat) : Word := if chip k then one else fneg one

/-- Step 8: the correlation of sample k of a sequence with the residual e (R100). -/
def correlate (z : Slot) (r : ImpRun) (k : Nat) (e : Option Word) (v : Word) : Slot × ImpRun :=
  let r1 := { r with sumT := fadd r.sumT (z.x.getD 9 0) }
  match e with
  | none => ({ z with impStale := z.impStale + 1 }, r1)
  | some w =>
    ({ z with corr := z.corr.mapIdx (fun m c => ffma w (chipB (k - 1 - m)) c) },
     { r1 with sumE2 := ffma w w r1.sumE2, sumV := fadd r1.sumV v, n := r1.n + 1 })

/-- √ρ and ρ of a chemistry (R101). -/
def rhoOf (chem : Nat) : Word := expWord (-(1 / 1000) / (chemOf chem).tauct)

/-- g_j for j = 1 … 15 (R101). -/
def shapeG (rho : Word) : List Word :=
  let sq := fsqrt rho
  ((List.range 15).foldl (fun (acc : List Word × Word) _ =>
    (acc.1 ++ [fmul (fmul sq (fsub one rho)) acc.2], fmul acc.2 rho)) ([], one)).1

/-- The extraction of R101: h[0], R_Ω, R_ct and the rms of e over the window. -/
def extract (e : EstPar) (z : Slot) (r : ImpRun) : Word × Word × Word × Word :=
  let ib := fdiv (fdiv r.sumV (fint r.n)) e.rBleed
  let h := z.corr.map (fun c => fneg (fdiv c (fmul (fint 2016) ib)))
  let rho := rhoOf e.chem
  let g := shapeG rho
  let rct := fdiv (fdot 8 (g.zip (h.drop 1))) (fdot 9 (g.zip g))
  let ro := fsub (h.getD 0 0) (fmul rct (fsub one (fsqrt rho)))
  (h.getD 0 0, ro, rct, fsqrt (fdiv r.sumE2 (fint 3969)))

/-- The first condition of R102 that fails: 0 none, 1 stale, 2 noise, 3 sign. -/
def impVerdict (z : Slot) (ro rct rms : Word) : Nat :=
  if 20 < z.impStale then 1
  else if !flt (fq 200 1000000) rms && ffinite rms then
    (if flt 0 ro && !flt rct 0 then 0 else 3)
  else 2

/-- Acceptance of a measurement (R102). -/
def impAccept (e : EstPar) (z : Slot) (r : ImpRun) (ro rct : Word) : Slot :=
  let t := fdiv r.sumT (fint 3969)
  { z with
    rohm25 := fdiv ro (tempFactor e.chem false t).1
    rct25 := fdiv rct (tempFactor e.chem true t).1
    x := z.x.set 11 one
    p := triOf (fun i j => if i = 11 ∨ j = 11 then (if i = j then initVar 11 else 0) else covAt z.p i j) }

/-! ## Initialisation (R94, R95) -/

/-- The chemistry's ROHM25 and RCT25 with Q = EST_Q_NOM × SOH (R80, R85). -/
def chemResistances (e : EstPar) (soh : Word) : Word × Word :=
  let q := fmul e.qNom soh
  (fdiv (chemOf e.chem).rohmQ q, fdiv (chemOf e.chem).rctQ q)

/-- SOH, ROHM25 and RCT25 from the ledger, or the chemistry's defaults. -/
def baseValues (e : EstPar) (l : Option Ledger) : Word × Word × Word :=
  match l with
  | some x => (x.soh, x.rohm25, x.rct25)
  | none => let r := chemResistances e one; (one, r.1, r.2)

/-- The values a reinitialisation keeps where they are finite and within range; otherwise those of the ledger, or the
chemistry's (R95). -/
def keptValues (e : EstPar) (z : Slot) (l : Option Ledger) : Word × Word × Word :=
  let inR := fun w lo hi => ffinite w && !flt w lo && !flt hi w
  let soh := if inR z.soh (fq 1 2) (fq 12 10) then z.soh else (baseValues e l).1
  let r := match l with | some x => (x.rohm25, x.rct25) | none => chemResistances e soh
  (soh,
   if inR z.rohm25 0 (fq 65535 1000000) && flt 0 z.rohm25 then z.rohm25 else r.1,
   if inR z.rct25 0 (fq 65535 1000000) then z.rct25 else r.2)

/-- A slot as it is read: before a cell's first initialisation its resistances are the chemistry's (R79). -/
def Slot.shown (z : Slot) (e : EstPar) : Slot :=
  if !z.initialised && z.rohm25 == 0 && z.rct25 == 0 then
    let r := chemResistances e z.soh
    { z with rohm25 := r.1, rct25 := r.2 }
  else z

/-- A cell is set to a SoC: modes, u_e and I_ct 0, r 1.0, temperatures t, the initial variances. VHAT keeps what it
holds (log entry 186). -/
def initCell (e : EstPar) (z : Slot) (vals : Word × Word × Word) (soc t : Word) (v : Option (Word × Nat)) : Slot :=
  let (n, p) := thetasAt (chemOf e.chem) (fclamp 0 one soc)
  let z1 : Slot :=
    { z with
      x := [n, 0, 0, 0, p, 0, 0, 0, 0, t, t, one], thnLo := 0, thpLo := 0, p := initCov
      soh := vals.1, rohm25 := vals.2.1, rct25 := vals.2.2, ict := 0, staleRun := 1, gateRun := 0
      vLast := v.map (fun a => a.1), vCode := match v with | some a => a.2 | none => z.vCode
      initialised := true, reinit := false }
  codeOutputs { z1 with flags := 8 } (outputsOf e z1)

end Sys2Proof
end

