-- ==== Sys2Proof/Machine/Protect.lean ====
section
/-! DEFINITION. The string-head sequences, the balancing policy, the thermal zones and the opcodes of
group 0x12 (R124 to R139). -/

namespace Sys2Proof.Machine

/-! ## Sequences (R126 to R128) -/

/-- PRECHARGE_START (R126 step 2): 50 ms after acceptance, NEG and PRE on. -/
def execPrechargeStart (c : Fin 64) (time : Nat) (s : State) : Outcome :=
  evt s time (fun s =>
    let x := s.str c
    if x.seq == .negOn && s.runsPlant && decide (x.seqAt + 50000000 ≤ s.now) then
      (s.modStr c (fun x => { x with seq := .preOn, seqAt := s.now, preCount := 0 })).sendContactor c 3
    else s)

/-- PRECHARGE_FAIL (R127): precharge has not ended by PRE_TMAX_MS. -/
def execPrechargeFail (c : Fin 64) (time : Nat) (s : State) : Outcome :=
  evt s time (fun s =>
    let x := s.str c
    if x.seq == .preOn && decide (x.seqAt + s.parN 0x12 c 0x1E * 1000000 ≤ s.now) then s.tripOnce c 16 else s)

/-- CLOSE_PRE_OFF (R126 step 5): 20 ms after POS on, PRE off. -/
def execClosePreOff (c : Fin 64) (time : Nat) (s : State) : Outcome :=
  evt s time (fun s =>
    let x := s.str c
    if x.seq == .posOn && s.runsPlant && x.lastContactor == some 7 && decide (x.seqAt + 20000000 ≤ s.now) then
      (s.modStr c (fun x => { x with seq := .preOff })).sendContactor c 6
    else s)

/-- OPEN_TIMEOUT (R128): after 2 s the module opens under load, and records the current. -/
def execOpenTimeout (c : Fin 64) (time : Nat) (s : State) : Outcome :=
  evt s time (fun s =>
    let x := s.str c
    if x.seq == .waitCurrent && s.runsPlant && decide (x.openingAt + 2000000000 ≤ s.now) then
      let i := (s.tile c).istr
      (if s.openLevel c i then s else s.record 0x12 0x04 c [i32 i]).openPosOff c
    else s)

/-- OPEN_FINAL (R128 step 4): 20 ms after POS off, all drivers off; the string is OPEN. -/
def execOpenFinal (c : Fin 64) (time : Nat) (s : State) : Outcome :=
  evt s time (fun s =>
    let x := s.str c
    if x.seq == .posOff && s.runsPlant && x.lastContactor == some 2 && decide (x.seqAt + 20000000 ≤ s.now) then
      (s.modStr c (fun x => { x with seq := .none_, state := .open_ })).sendContactor c 0
    else s)

/-! ## Balancing (R132, R133) -/

/-- The SoC code of a slot, 0.01 %. -/
def Slot.socCode (x : Slot) : Nat := x.out0.toNat / 65536
/-- The core temperature code of a slot, 0.01 °C. -/
def Slot.tcCode (x : Slot) : Int := signedOf 16 (x.out0.toNat % 65536)

/-- A cell is a candidate of the policy (R132 step 2). -/
def State.balCandidate (s : State) (c p cell target : Nat) : Bool :=
  let x := s.slot c p cell
  let bleeding := (BleedMask.last ((s.tile c).bleed.get p) s.tickNo).testBit (cell - 1)
  s.cellPresent c p cell && x.flags.getLsbD 0 && !x.flags.getLsbD 4 &&
  decide (Slot.tcCode x ≤ s.parI 0x12 c 0x2B) &&
  (if bleeding then decide (2 * target + s.parN 0x12 c 0x29 < 2 * Slot.socCode x)
   else decide (target + s.parN 0x12 c 0x29 ≤ Slot.socCode x))

/-- The highest of a list of cells by SoC, the lowest cell on a tie. -/
def State.highestSoc (s : State) (c p : Nat) (l : List Nat) : Option Nat :=
  l.foldl (fun best k =>
    match best with
    | none => some k
    | some b => if Slot.socCode (s.slot c p b) < Slot.socCode (s.slot c p k) then some k else some b) none

/-- At most n cells, highest SoC first. -/
def State.pickCells (s : State) (c p : Nat) (n : Nat) (l : List Nat) : List Nat :=
  match n with
  | 0 => []
  | m + 1 =>
    match s.highestSoc c p l with
    | none => []
    | some k => k :: State.pickCells s c p m (l.filter (fun x => x != k))

/-- DIE_TEMP of a monitor's last frame, °C. -/
def State.dieTemp (s : State) (c p : Nat) : Int :=
  match (s.chain c).lastFrame.get p with
  | some f => (fieldOf (frameStatus f) 15 8 : Int) - 40
  | none => -40

/-- The mask the policy chooses for a monitor (R132 steps 2 to 4). -/
def State.balMask (s : State) (c p target : Nat) (blocked : Bool) : Nat :=
  if blocked then 0
  else
    let n0 := s.parN 0x12 c 0x2D
    let n := if (s.parN 0x12 c 0x30 : Int) ≤ s.dieTemp c p then max 1 (n0 / 2) else n0
    let cells := ((List.range 18).map (· + 1)).filter (fun k => s.balCandidate c p k target)
    (s.pickCells c p n cells).foldl (fun m k => m + 2 ^ (k - 1)) 0

/-- Nothing bleeds on the chain (R132 step 3). -/
def State.balBlocked (s : State) (c : Nat) (socMin : Word) : Bool :=
  !extHas socMin || decide (s.rateMa c 0x2A < ((s.tile c).istr : Rat)) ||
  decide (extVal socMin < s.parN 0x12 c 0x2C)

/-- One monitor of the policy (R132 step 5). -/
def State.balMonitor (s : State) (c p target : Nat) (blocked : Bool) : State :=
  let m := (s.bal c).mons.get p
  if s.now < m.outUntil then s
  else
    let old := BleedMask.last ((s.tile c).bleed.get p) s.tickNo
    let mask := s.balMask c p target blocked
    let timer := s.parN 0x12 c 0x2F
    let noted := fun (s : State) => s.modBal c (fun b => { b with mons := b.mons.set p { m with lastCmd := s.now } })
    if mask = 0 then
      (if old = 0 then s else (noted s).queueCmd c { dest := p, opc := 0x08, why := .balance })
    else if mask ≠ old ∨ m.lastCmd + timer * 500000000 < s.now then
      (noted s).queueCmd c { dest := p, opc := 0x07, params := maskParams mask ++ [half timer], why := .balance }
    else s

/-- The first tick after a sequence. -/
def ImpRun.endTick (r : ImpRun) : Nat :=
  match r.stopAt with
  | some t => min t (r.tick0 + 63 * r.count)
  | none => r.tick0 + 63 * r.count

/-- A sequence runs on a cell at tick j. -/
def ImpRun.runs (r : ImpRun) (cell j : Nat) : Bool := r.cell == cell && decide (r.tick0 ≤ j ∧ j < ImpRun.endTick r)

/-- The bleed state u_j of a cell (R64, R65, R81, R98). A sequence that is over still gave its last chips. -/
def State.bleedOn (s : State) (c p cell j : Nat) : Bool :=
  let run := fun (o : Option ImpRun) => match o with | some r => ImpRun.runs r cell j | none => false
  let chipOf := fun (o : Option ImpRun) => match o with | some r => chip (j - r.tick0) | none => false
  let x := s.tile c
  if run (x.imped.get p) then chipOf (x.imped.get p)
  else if run (x.impedOld.get p) then chipOf (x.impedOld.get p)
  else (BleedMask.at (x.bleed.get p) j).testBit (cell - 1)

/-- BAL_BLEEDING: the cells bleeding now. -/
def State.bleeding (s : State) (c : Nat) : Nat :=
  ((List.range (s.chPositions c)).map (fun p =>
    ((List.range 18).filter (fun k => s.bleedOn c (p + 1) (k + 1) s.tickNo)).length)).sum

/-- Start an impedance sequence of the Keeper on a cell (R98). -/
def State.startImped (s : State) (c p cell : Nat) (why : CmdFor) : State :=
  s.queueCmd c { dest := p, opc := 0x0A, params := [half cell, 0, 64], why := why }

/-- The next present cell after `from_` of position p, in the order 1 to 18. -/
def State.nextPresent (s : State) (c p from_ : Nat) : Option Nat :=
  ((List.range 18).map (fun i => (from_ + i) % 18 + 1)).find? (fun k => s.cellPresent c p k)

/-- The round robin: the next cell's sequence on a monitor that runs none (R99). -/
def State.roundRobin (s : State) (c p : Nat) : State :=
  let x := s.tile c
  if !s.parB 0x11 c 0xF || (x.imped.get p).isSome || !s.chainServes c || !s.runsPlant ||
     (s.chain c).queue.any (fun m => m.opc == 0x0A && m.dest == p) ||
     (s.chain c).sent.any (fun o => o.cmd.opc == 0x0A && o.cmd.dest == p) then s
  else
    match s.nextPresent c p (x.nextCell.get p) with
    | none => s
    | some k =>
      (s.modTile c (fun x => { x with nextCell := x.nextCell.set p k })).startImped c p k (.impedance k false 0 0)

/-- BAL_EVALUATE (R132): the policy of one chain, each BAL_PERIOD_S; the round robin takes up monitors
that run no sequence (R99). -/
def execBalEvaluate (c : Fin 64) (time : Nat) (s : State) : Outcome :=
  evt s time (fun s =>
    let b := s.bal c
    if s.power.keeper != .running || !s.runsPlant || !s.inService c then s
    else
      let s0 := forEach (List.range (s.chPositions c)) s (fun s p => s.roundRobin c (p + 1))
      if !s.parB 0x12 c 0x28 || (b.lastEval ≠ 0 && s.now < b.lastEval + s.parN 0x12 c 0x2E * 1000000000) then s0
      else
        let socMin := (s.readBuf.strings.get c).getD 3 0
        let target := extVal socMin
        let blocked := s.balBlocked c socMin
        let s1 := forEach (List.range (s.chPositions c)) s0 (fun s p => s.balMonitor c (p + 1) target blocked)
        s1.modBal c (fun b => { b with target := target, lastEval := s.now, bleeding := s1.bleeding c }))

/-! ## Thermal zones (R134 to R136) -/

/-- Zone z covers chain c. -/
def State.zoneCovers (s : State) (z c : Nat) : Bool := s.parBit64 0x12 (0x40 + z) 0 c

/-- The records of the zone's in-service chains that hold a temperature. -/
def State.zoneTemps (s : State) (z w : Nat) : List Int :=
  ((List.range 64).filter (fun c => s.zoneCovers z c && s.inService c && extHas ((s.tile c).record.getD w 0))).map
    (fun c => extInt ((s.tile c).record.getD w 0))

/-- The extreme of a list, a default where it is empty. -/
def maxOf (l : List Int) (d : Int) : Int := match l with | [] => d | a :: r => r.foldl max a
def minOf (l : List Int) (d : Int) : Int := match l with | [] => d | a :: r => r.foldl min a

/-- THERMAL_EVENT or EXT_TRIP on a chain of the zone that has not been reset since (R134 PURGE). -/
def State.zonePurge (s : State) (z : Nat) : Bool :=
  (List.range 64).any (fun c => s.zoneCovers z c && (s.str c).purge)

/-- One zone's evaluation (R134). The integral is held while D is clamped. -/
def State.evalZone (s : State) (z : Nat) : State :=
  let i := 0x40 + z
  let x := s.zone z
  let purge := s.zonePurge z
  if s.zoneTemps z 4 = [] then
    s.modZone z (fun x => { x with vent := if purge then 2 else b2n x.boost, evaluated := some s.now })
  else
    let hi := maxOf (s.zoneTemps z 4) x.tzMax
    let lo := minOf (s.zoneTemps z 5) x.tzMin
    let e : Rat := ((hi - s.parI 0x12 i 2 : Int) : Rat) / 100
    let ti : Rat := s.parN 0x12 i 4
    let int1 := x.integral + e / 10
    let d := (s.parN 0x12 i 3 : Rat) * (e + int1 / ti)
    let clamped := decide (d < 0) || decide (1000 < d)
    let dOut : Nat := if d < 0 then 0 else if 1000 < d then 1000 else (ratRoundAway d).toNat
    let boost := if s.parI 0x12 i 7 ≤ hi then true else if hi < s.parI 0x12 i 8 then false else x.boost
    let heat := if lo < s.parI 0x12 i 5 then true else if s.parI 0x12 i 6 < lo then false else x.heat
    let free := ti = 0
    let s1 := s.modZone z (fun x =>
      { x with
        tzMax := hi, tzMin := lo
        demand := if free then s.freeWord.toNat % 1001 else dOut
        integral := if clamped || free then x.integral else int1
        boost := boost, heat := heat
        vent := if purge then 2 else b2n boost
        evaluated := some s.now })
    if free then s1.tookFree else s1

/-- ZONE_EVALUATE (R134): every 100 ms the Matrix evaluates every zone. -/
def execZoneEvaluate (time : Nat) (s : State) : Outcome :=
  evt s time (fun s =>
    if !s.power.rail then s
    else
      forEach (List.range 16) s (fun s z =>
        match (s.zone z).evaluated with
        | some t => if t + 100000000 ≤ s.now then s.evalZone z else s
        | none => s.evalZone z))

/-- ZONE_TAMB_TIMEOUT (R136): no write for 10 s; the value counts as missing. -/
def execZoneTambTimeout (z : Fin 16) (time : Nat) (s : State) : Outcome :=
  evt s time (fun s =>
    match (s.zone z).tamb with
    | some (_, t) => if t + 10000000000 ≤ s.now then s.modZone z (fun x => { x with tamb := none }) else s
    | none => s)

/-! ## Opcodes of group 0x12 (R139) -/

/-- PROT_STR_STATE (R137). -/
def State.strWord (s : State) (c : Nat) : Word :=
  let x := s.str c
  packWord [(0, x.state.code), (3, b2n (Chain.verifying (s.chain c))), (4, b2n (x.warnHi || x.warnLo)), (5, b2n x.warnT),
            (8, x.firstCause % 256), (16, x.action % 4)]

/-- PROT_STATUS. -/
def execProtStatus (t : Fin 16) (r : Req) (s : State) : Outcome :=
  opcode s t r { opcode := 0x1201, len := lenIs 1 } (fun s =>
    let c := fieldOf (r.w 2) 7 0
    if 63 < c then (s, no stOutOfRange)
    else (s, .reply stOk [s.strWord c, w32 (s.str c).cause.toNat, w32 (s.chain c).breakAfter]))

/-- The first unmet condition of R125, numbered 2 to 5 (the state is checked apart). -/
def State.closeUnmet (s : State) (c : Nat) : Option Nat :=
  if !((s.chain c).state == .inService || (s.chain c).state == .healed) then some 2
  else if Chain.verifying (s.chain c) then some 3
  else if (s.str c).cause ≠ 0 then some 4
  else if (s.str c).goodRecords < s.parN 0x12 c 0xA then some 5
  else none

/-- STRING_CLOSE (R125, R126). -/
def execStringClose (t : Fin 16) (r : Req) (s : State) : Outcome :=
  opcode s t r { opcode := 0x1202, len := lenIs 1 } (fun s =>
    let c := fieldOf (r.w 2) 7 0
    if 63 < c then (s, no stOutOfRange)
    else if !s.runsPlant then (s, no (stRejected 0x43))
    else if (s.str c).state != .open_ then (s, no (stRejected 0x40))
    else match s.closeUnmet c with
      | some k => (s, .reply (stRejected 0x41) [w32 k])
      | none =>
        ((s.modStr c (fun x => { x with state := .closing, seq := .negOn, seqAt := s.now })).sendContactor c 2, ok))

/-- STRING_OPEN without the immediate bit (R128, R129). -/
def State.openString (s : State) (c : Nat) : State :=
  match (s.str c).state with
  | .closed => s.modStr c (fun x => { x with state := .opening, seq := .waitCurrent, openingAt := s.now })
  | .closing =>
    (((s.dropContactor c).modStr c (fun x => { x with state := .open_, seq := .none_ })).sendContactor c 0).stringLost c
  | _ => s

/-- The body of opcode 0x1203, with and without the immediate bit. -/
def stringOpenBody (r : Req) (s : State) : State × Answer :=
  let c := fieldOf (r.w 2) 7 0
  if 63 < c then (s, no stOutOfRange)
  else if !s.runsPlant then (s, no (stRejected 0x43))
  else if bitOf (r.w 3) 0 then (s.tripOnce c 22, ok)
  else (s.openString c, ok)

/-- STRING_OPEN. -/
def execStringOpen (t : Fin 16) (r : Req) (s : State) : Outcome :=
  opcode s t r { opcode := 0x1203, len := lenIs 2 } (stringOpenBody r)

/-- STRING_OPEN with the immediate bit: the string trips with OPERATOR. -/
def execStringOpenImmediate (t : Fin 16) (r : Req) (s : State) : Outcome :=
  opcode s t r { opcode := 0x1203, len := lenIs 2 } (fun s => stringOpenBody r s)

/-- PROT_RESET (R130). -/
def execProtReset (t : Fin 16) (r : Req) (s : State) : Outcome :=
  opcode s t r { opcode := 0x1204, len := lenIs 1 } (fun s =>
    let c := fieldOf (r.w 2) 7 0
    if 63 < c then (s, no stOutOfRange)
    else if !s.runsPlant then (s, no (stRejected 0x43))
    else if (s.str c).action = 2 && s.tntRole t < 1 then (s, no stRole)
    else if (s.str c).cause ≠ 0 then (s, no (stRejected 0x42))
    else if (s.str c).state != .tripped then (s, ok)
    else
      let s1 := if (s.str c).action = 2 then s.sendContactor c 0 else s
      ((s1.modStr c (fun x => { x with state := .open_, firstCause := 0, action := 0, purge := false })).unlatchPtos c, ok))

/-- PTO_STATUS. -/
def execPtoStatus (t : Fin 16) (r : Req) (s : State) : Outcome :=
  opcode s t r { opcode := 0x1205 } (fun s =>
    (s, .reply stOk
      (packWord ((List.range 8).map (fun k => (k, b2n (s.pto k).asserted))) ::
        (List.range 8).map (fun k => w32 (s.ptoCauses k)))))

/-- BAL_STATUS. -/
def execBalStatus (t : Fin 16) (r : Req) (s : State) : Outcome :=
  opcode s t r { opcode := 0x1206, len := lenIs 1 } (fun s =>
    let c := fieldOf (r.w 2) 7 0
    if 63 < c then (s, no stOutOfRange)
    else (s, .reply stOk [w32 (s.bal c).target, w32 (s.bleeding c), w32 ((s.bal c).lastEval / 1000000000)]))

/-- ZONE_READ. -/
def execZoneRead (t : Fin 16) (r : Req) (s : State) : Outcome :=
  opcode s t r { opcode := 0x1207, len := lenIs 1 } (fun s =>
    let z := (r.w 2).toNat
    if 15 < z then (s, no stOutOfRange)
    else
      let x := s.zone z
      (s, .reply stOk [w32 x.demand, packWord [(0, b2n x.heat), (8, x.vent)], i32 x.tzMax, i32 x.tzMin]))

/-- ZONE_TAMB_WRITE (R136). -/
def execZoneTambWrite (t : Fin 16) (r : Req) (s : State) : Outcome :=
  opcode s t r { opcode := 0x1208, len := lenIs 2 } (fun s =>
    let z := (r.w 2).toNat
    if 15 < z then (s, no stOutOfRange)
    else (s.modZone z (fun x => { x with tamb := some ((r.w 3).toInt, s.now) }), ok))

end Sys2Proof.Machine
end

