-- ==== Sys2Proof/Machine/Tile.lean ====
section
/-! DEFINITION. The Cell Estimation Array: frames, cell updates, the cutoff, worst-cell records,
summaries, digests, the ledger and the opcodes of group 0x11 (R70 to R111). -/

namespace Sys2Proof.Machine

/-! ## DATA frames (R33 to R36) -/

/-- SEQ of a DATA frame. -/
def frameSeq (f : BitVec 512) : Nat := frameField f 12 19
/-- The position, from 1. -/
def framePos (f : BitVec 512) : Nat := frameField f 20 26 + 1
/-- HEAD. -/
def frameHead (f : BitVec 512) : Bool := frameField f 27 27 == 1
/-- The voltage code of a cell, 25 µV. -/
def frameV (f : BitVec 512) (cell : Nat) : Nat := frameField f (28 + 18 * (cell - 1)) (28 + 18 * (cell - 1) + 17)
/-- The code of temperature sensor i (0 to 3). -/
def frameT (f : BitVec 512) (i : Nat) : Nat := frameField f (352 + 12 * i) (352 + 12 * i + 11)
/-- COMP_SET. -/
def frameComp (f : BitVec 512) : Bool := bitOf (frameStatus f) 18

/-- TYPE is DATA and the CRC over bits 8 to 479 is good. -/
def frameGood (f : BitVec 512) : Bool :=
  frameField f 8 11 == 3 &&
  crc32cBits ((List.range 472).map (fun i => f.getLsbD (503 - i))) == w32 (frameField f 480 511)

/-- The mean of temperature codes: LSB 0.0625 °C, code 0 = −40 °C. -/
def meanTemp (codes : List Nat) : Option Word :=
  if codes.isEmpty then none else some (fq ((codes.sum : Int) - 640 * codes.length) (16 * codes.length))

/-- The valid sensor codes of a frame (R35). -/
def validTemps (f : BitVec 512) : List Nat := ((List.range 4).map (frameT f)).filter (fun k => k != 0xFFF)

/-- The reading mapped to a cell by EST_TMAP: the mean of its valid sensors (R83). -/
def State.cellTemp (s : State) (c cell : Nat) (f : BitVec 512) : Option Word :=
  let map := s.parN 0x11 c 8
  meanTemp (((List.range 4).filter (fun i => map / 2 ^ (5 * i) % 32 == cell && frameT f i != 0xFFF)).map (frameT f))

/-! ## Ambient temperature (R110, R136) -/

/-- The room temperature that thermal control supplies to chain c: the lowest zone that has one. -/
def State.roomTemp (s : State) (c : Nat) : Option Int :=
  ((List.range 16).filter (fun z => s.zoneCovers z c)).findSome? (fun z => ((s.zone z).tamb).map (fun v => v.1))

/-- The valid sensor codes of the chain's frames of tick n in hand (R110). -/
def State.codesOf (s : State) (c n : Nat) : List Nat :=
  ((s.tile c).sensors.filter (fun e => e.1 == n)).flatMap (fun e => e.2.2)

/-- T_amb for a monitor, and whether TAMB_MISSING holds for it (R110). -/
def State.tambFor (s : State) (c p n : Nat) (f : Option (BitVec 512)) : Word × Bool :=
  let src1 : Option Word :=
    match f.bind (fun f => meanTemp (validTemps f)) with
    | some t => some t
    | none => meanTemp (s.codesOf c n)
  let (v, missing) :=
    match src1 with
    | some t => (t, false)
    | none => (((s.tile c).tambLast.get p).getD (fint 25), true)
  if s.parB 0x11 c 0xE then (v, missing)
  else match s.roomTemp c with
    | some t => (fq t 100, false)
    | none => (v, true)

/-! ## One cell of one tick (R86, R92, R94, R95, R100) -/

/-- The ledger entry of a cell. -/
def ledgerKey (c p cell : Nat) : Nat := c * 2304 + (p - 1) * 18 + (cell - 1)

/-- The measured voltage of a cell: usable unless the code is saturated (R35). -/
def usableV (f : BitVec 512) (cell : Nat) : Option (Word × Nat) :=
  if frameV f cell = 0x3FFFF then none else some (fq (frameV f cell) 40000, frameV f cell)

/-- FLAGS of a slot, from its parts. -/
def flagsOf (valid invalid rest stale busy : Bool) : BitVec 16 :=
  BitVec.ofNat 16 (b2n valid + 2 * b2n invalid + 4 * b2n rest + 8 * b2n stale + 16 * b2n busy)

/-- Initialise a cell that has never been (R94): from a young ledger SoC or through the inverse OCV. -/
def State.tryInit (s : State) (c p cell : Nat) (e : EstPar) (z : Slot) (t : Word) (v : Option (Word × Nat)) : Slot :=
  let l := s.ledger.get (ledgerKey c p cell)
  match l with
  | some x =>
    if s.now < x.time + e.restTime * 1000000000 then initCell e z (baseValues e l) x.soc t v
    else match v with
      | some a => initCell e z (baseValues e l) (Config.inverseOcv e.chem a.1 t) t v
      | none => { z with flags := 2 }
  | none =>
    match v with
    | some a => initCell e z (baseValues e l) (Config.inverseOcv e.chem a.1 t) t v
    | none => { z with flags := 2 }

/-- Reinitialise at rest (R95). -/
def State.reinitCell (s : State) (c p cell : Nat) (e : EstPar) (z : Slot) (t : Word) (a : Word × Nat) : Slot :=
  initCell e z (keptValues e z (s.ledger.get (ledgerKey c p cell))) (Config.inverseOcv e.chem a.1 t) t (some a)

/-- The impedance bookkeeping of a tick: at tick 0 the sums are cleared; from sample 63 on they grow. A tick without a
measurement update, that of an initialisation and those of an INVALID cell among them, counts as STALE (R100). V̂_I is
formed from the updated state (log entry 187). -/
def impStep (e : EstPar) (z : Slot) (run : Option ImpRun) (cell tick : Nat) (istr : Word) (v : Option (Word × Nat))
    (valid : Bool) : Slot × Option ImpRun :=
  match run with
  | none => (z, none)
  | some r =>
    if !ImpRun.runs r cell tick then (z, some r)
    else
      let k := tick - r.tick0
      let z1 := if k = 0 then { z with corr := List.replicate 16 0, impStale := 0 } else z
      let z2 := { z1 with impK := k, impSeq := r.tick0 % 256, impLfsr := lfsr6 (k % 63) }
      if r.count = 64 ∧ 63 ≤ k then
        let res := match v with
          | some a => if valid then some (fsub a.1 (vHatOf e z2 istr istr)) else none
          | none => none
        let (z3, r1) := correlate z2 r k res (match v with | some a => a.1 | none => 0)
        (z3, some r1)
      else (z2, some r)

/-- Steps 1 to 10 of R86 on an initialised cell. -/
def State.cellFilter (s : State) (e : EstPar) (z : Slot) (c p cell tick : Nat) (istr : Word) (v : Option (Word × Nat))
    (mapped : Option Word) (tamb : Word) (busy : Bool) (run : Option ImpRun) : Slot × Option ImpRun × Option Nat :=
  let i : CellIn :=
    { tick := tick, istr := istr, u1 := s.bleedOn c p cell (tick - 1), u2 := s.bleedOn c p cell (tick - 2),
      v := v, t := mapped, tamb := tamb }
  let st := predict e z i
  let (z1, p1, acc) := voltageStep e st v
  let (z2, p2) := temperatureStep e z1 p1 mapped
  let z3 := clampStep z2 p2
  match (if 1000 ≤ z3.gateRun then some 0xFFFF else badWord z3 (outputsOf e z3)) with
  | some off =>
    let (zb, rest) := restTick e z3 tick istr
    let (zi, run1) := impStep e zb run cell tick istr v false
    ({ zi with flags := flagsOf false true rest false busy, out0 := z.out0, out1 := z.out1, out2 := z.out2, rested := rest },
     run1, some off)
  | none =>
    let (z4, run1) := impStep e z3 run cell tick istr v acc
    let z5 := restStep e z4 st.ik istr tick
    let z6 := { z5 with staleRun := if acc then 0 else min 65535 (z5.staleRun + 1) }
    ({ codeOutputs z6 (outputsOf e z6) with flags := flagsOf acc false z6.rested (!acc) busy }, run1, none)

/-- What one update of a cell leaves: the slot, the sequence's sums, the word offset of a cell that became INVALID,
and a reinitialisation to do (R78). -/
structure CellOut where
  slot : Slot
  run : Option ImpRun
  bad : Option Nat := none
  work : Option Work := none

/-- A reinitialisation is due at a tick at rest that brings a usable voltage (R95). -/
def reinitDue (p cell : Nat) (rest entered : Bool) (t : Word) (v : Option (Word × Nat)) : Option Work :=
  if rest then v.map (fun a => .reinit p cell t a.1 a.2 (!entered)) else none

/-- One cell of one tick with a head frame. -/
def State.cellUpdate (s : State) (c p cell tick : Nat) (f : Option (BitVec 512)) (hd : BitVec 512) (tamb : Word)
    (z0 : Slot) (run : Option ImpRun) : CellOut :=
  let e := s.estPar c
  let z := { z0 with model := e.model, chem := e.chem, present := true }
  let istr := fq (frameIstr hd) 1000
  let v := f.bind (fun f => usableV f cell)
  let mapped := f.bind (fun f => s.cellTemp c cell f)
  let t := mapped.getD tamb
  let busy := match run with | some r => ImpRun.runs r cell tick | none => false
  if !z.initialised then
    let (z1, rest) := restTick e (s.tryInit c p cell e z t v) tick istr
    let z2 := if z1.initialised && rest && !z.rested then enterRest e z1 else z1
    let (z3, run1) := impStep e z2 run cell tick istr v false
    { slot := { z3 with rested := rest, flags := flagsOf false (!z3.initialised) rest z3.initialised busy }, run := run1 }
  else if z.flags.getLsbD 1 then
    let (z1, rest) := restTick e z tick istr
    let (z2, run1) := impStep e z1 run cell tick istr v false
    { slot := { z2 with rested := rest, flags := flagsOf false true rest false busy }, run := run1,
      work := reinitDue p cell rest z.rested t v }
  else
    let (z1, run1, bad) := s.cellFilter e z c p cell tick istr v mapped tamb busy run
    { slot := z1, run := run1, bad := bad
      work := if z.reinit && bad.isNone then reinitDue p cell z1.rested true t v else none }

/-- A tick without a head frame (R75): the states stay, Q is added to the covariance, the cell is STALE. I_str is not
known: the run of low current stands as it was (log entry 188). A cell that was never initialised still is, where its
ledger entry or its voltage admits it (R94); a voltage of the cell's own frame is its most recent one (R81). -/
def State.cellHold (s : State) (c p cell tick : Nat) (f : Option (BitVec 512)) (tamb : Word) (z0 : Slot)
    (run : Option ImpRun) : CellOut :=
  let e := s.estPar c
  let z := { z0 with model := e.model, chem := e.chem, present := true }
  let v := f.bind (fun f => usableV f cell)
  let t := (f.bind (fun f => s.cellTemp c cell f)).getD tamb
  let busy := match run with | some r => ImpRun.runs r cell tick | none => false
  let z1 :=
    if !z.initialised then
      let z1 := s.tryInit c p cell e z t v
      { z1 with flags := flagsOf false (!z1.initialised) z.rested z1.initialised busy }
    else if z.flags.getLsbD 1 then { z with flags := flagsOf false true z.rested false busy }
    else
      { z with
        p := triOf (fun i j => if i = j then fadd (covAt z.p i j) (noiseVar i) else covAt z.p i j)
        staleRun := min 65535 (z.staleRun + 1)
        vLast := match v with | some a => some a.1 | none => z.vLast
        vCode := match v with | some a => a.2 | none => z.vCode
        flags := flagsOf false false z.rested true busy }
  let (z2, run1) := impStep e z1 run cell tick 0 none false
  { slot := z2, run := run1 }

/-! ## One position (R74 to R76, R108) -/

/-- The 128 words of a slot (R79). -/
def slotWords (z : Slot) : List Word :=
  [packWord [(24, z.model % 256), (20, z.chem % 16), (17, b2n z.present), (0, z.flags.toNat)],
   packWord [(16, z.staleRun % 65536), (0, z.gateRun % 65536)]] ++ stateWords z ++ z.p.take 78 ++
  [z.rohm25, z.rct25, z.soh, z.ict, z.vhat, z.ilast, z.qthHi, z.qthLo, z.socRest, z.slopeRest, z.nuV, z.sV] ++
  z.corr.take 16 ++
  [packWord [(16, z.impK % 65536), (8, z.impSeq % 256), (0, z.impLfsr % 64)], packWord [(16, z.impStale % 65536)],
   z.out0, z.out1, z.out2, 0]

/-- The digest of a position (R108). -/
def State.positionDigest (s : State) (c p : Nat) : Word :=
  crc32c (w32 p :: (List.range 18).flatMap (fun k => slotWords (Slot.shown (s.slot c p (k + 1)) (s.estPar c))))

/-- ∫ OCV(s) ds from 0 to a SoC by the trapezoid rule in steps of 0.01, the last step partial (R105). -/
def ocvIntegral (chem : Nat) (soc tc : Word) : Word :=
  let n := (frat soc * 100).floor.toNat
  let at_ := fun (i : Nat) => ocvAt chem (fq i 100) tc
  let whole := (List.range n).foldl (fun acc i => ffma (fq 1 200) (fadd (at_ i) (at_ (i + 1))) acc) 0
  ffma (fmul halfOne (fsub soc (fq n 100))) (fadd (at_ n) (ocvAt chem soc tc)) whole

/-- The position's partial sums of words 10 to 12: Σ Q, Σ Q SoC and Σ energy over its cells that count, in cell order,
and how many they are (R86, R105). -/
def State.partSums (s : State) (c p : Nat) : List Word :=
  let e := s.estPar c
  let l := ((List.range 18).filter (fun k => s.cellPresent c p (k + 1))).map (fun k => s.slot c p (k + 1))
  let l := l.filter (fun z => z.initialised && !z.flags.getLsbD 1)
  [l.foldl (fun acc z => fadd acc (Slot.q z e)) 0,
   l.foldl (fun acc z => ffma (Slot.q z e) (socOf e z) acc) 0,
   l.foldl (fun acc z => ffma (Slot.q z e) (ocvIntegral e.chem (socOf e z) (z.x.getD 9 0)) acc) 0,
   w32 l.length]

/-- Form a position's partial sums anew. -/
def State.formPart (s : State) (c p n : Nat) : State :=
  let v := (s.asOf n).partSums c p
  s.modTile c (fun x => { x with sums := x.sums.set p v })

/-! ### Deferred work (R70, R78) -/

/-- The extraction of the sequence of position p that is over, if one is: the tile extracts, accepts or rejects; a
stopped sequence or one of another length forms no result (R62, R101). The round robin goes on (R99). The tick of
completion is the sequence's last one, or the first after it where no measurement was formed, and the other words then
keep their values (log entry 189). -/
def State.extractEnded (s : State) (c p : Nat) : State :=
  let x := s.tile c
  match x.imped.get p with
  | none => s
  | some r =>
    if Tile.nextOf x p < ImpRun.endTick r then s
    else
      let e := (s.asOf (ImpRun.endTick r - 1)).estPar c
      let key := slotKey p r.cell
      let z := x.slots.get key
      let done := fun (z : Slot) => { z with flags := z.flags &&& ~~~(16#16) }
      let fin := fun (z : Slot) =>
        (s.modTile c (fun x =>
          { x with slots := x.slots.set key (done z), imped := x.imped.set p none, impedOld := x.impedOld.set p (some r) })).roundRobin c p
      if r.stopAt.isSome && decide (ImpRun.endTick r < r.tick0 + 63 * r.count) then
        fin { z with imp := { z.imp with result := 4, tick := ImpRun.endTick r } }
      else if r.count ≠ 64 then fin { z with imp := { z.imp with result := 5, tick := ImpRun.endTick r } }
      else
        let (h0, ro, rct, rms) := extract e z r
        let verdict := impVerdict z ro rct rms
        let res : ImpResult :=
          { rOhm := ro, rCt := rct, h0 := h0, rms := w32 (ratRoundAway (frat rms * 1000000)).toNat, result := verdict,
            tick := r.tick0 + 4031 }
        fin { (if verdict = 0 then impAccept e z r ro rct else z) with imp := res }

/-- The reinitialisation of a cell that is still INVALID or marked (R95); one that comes to rest with it enters its
rest (R96). -/
def State.reinitNow (s : State) (c p cell : Nat) (t : Word) (v : Word × Nat) (enters : Bool) : State :=
  let n := Tile.nextOf (s.tile c) p - 1
  let z := s.slot c p cell
  if !z.initialised || !(z.flags.getLsbD 1 || z.reinit) then s
  else
    let e := (s.asOf n).estPar c
    let z1 := s.reinitCell c p cell e z t v
    let z2 := if enters then enterRest e z1 else z1
    (s.modTile c (fun x => { x with
      slots := x.slots.set (slotKey p cell) { z2 with rested := true, flags := flagsOf false false true true (z.flags.getLsbD 4) } })).formPart
      c p n

/-- One item of deferred work. -/
def State.doWork (s : State) (c : Nat) (w : Work) : State :=
  match w with
  | .extract p => s.extractEnded c p
  | .reinit p cell t v code enters => s.reinitNow c p cell t (v, code) enters

/-- An extraction comes before every reinitialisation (R78). -/
def Work.isExtract : Work → Bool
  | .extract _ => true
  | _ => false

/-- The position of an item. -/
def Work.position : Work → Nat
  | .extract p => p
  | .reinit p _ _ _ _ _ => p

/-- The deferred work that a condition selects is done, extractions first. -/
def State.runWork (s : State) (c : Nat) (sel : Work → Bool) : State :=
  let now_ := (s.tile c).work.filter sel
  forEach (now_.filter Work.isExtract ++ now_.filter (fun w => !Work.isExtract w))
    (s.modTile c (fun x => { x with work := x.work.filter (fun w => !sel w) })) (fun s w => s.doWork c w)

/-- Put an item into the queue of 16 entries. With the queue full the items in it are done first (log entry 190). -/
def State.pushWork (s : State) (c : Nat) (w : Work) : State :=
  let s1 := if 16 ≤ (s.tile c).work.length then s.runWork c (fun _ => true) else s
  s1.modTile c (fun x => { x with work := x.work ++ [w] })

/-! ### The update of a position -/

/-- An absent cell: no flag, no output; it starts anew when it is present again (R94, R104). -/
def Slot.absent (z : Slot) : Slot :=
  { z with present := false, flags := 0, out0 := 0, out1 := 0, out2 := 0, initialised := false, reinit := false }

/-- One cell of a position for tick n. A cell that became INVALID is recorded (R92). -/
def State.updateCell (s : State) (c p n cell : Nat) (f : Option (BitVec 512)) (hd : Option (BitVec 512)) (tamb : Word) :
    State :=
  let x := s.tile c
  let z := x.slots.get (slotKey p cell)
  let put := fun (o : CellOut) =>
    let s1 := s.modTile c (fun x => { x with slots := x.slots.set (slotKey p cell) o.slot, imped := x.imped.set p o.run })
    let s2 := match o.bad with
      | some off => s1.record 0x11 0x01 c [packWord [(16, c), (8, p), (0, cell)], w32 off]
      | none => s1
    match o.work with
    | some w => s2.pushWork c w
    | none => s2
  if !(s.asOf n).cellPresent c p cell then
    s.modTile c (fun x => { x with slots := x.slots.set (slotKey p cell) (Slot.absent z) })
  else match hd with
    | some h => put ((s.asOf n).cellUpdate c p cell n f h tamb z (x.imped.get p))
    | none => put ((s.asOf n).cellHold c p cell n f tamb z (x.imped.get p))

/-- Update every present cell of a position for tick n; absent cells read 0. What the tick before left to be done for
the position is done first. -/
def State.updatePosition (s : State) (c p n : Nat) (f : Option (BitVec 512)) (hd : Option (BitVec 512)) : State :=
  let s := s.runWork c (fun w => Work.position w == p)
  let (tamb, missing) := (s.asOf n).tambFor c p n f
  let keepOld := decide (n = (s.tile c).tick + 1)
  let s0 := s.modTile c (fun x =>
    { x with
      old := if keepOld then (List.range 18).foldl (fun m k => m.set (slotKey p (k + 1)) (x.slots.get (slotKey p (k + 1)))) x.old
             else x.old
      oldSums := if keepOld then x.oldSums.set p (x.sums.get p) else x.oldSums
      tambLast := x.tambLast.set p (some tamb)
      tambMiss := if missing then (if x.tambMiss.contains p then x.tambMiss else x.tambMiss ++ [p])
                  else x.tambMiss.filter (fun q => q != p) })
  let s1 := forEach (List.range 18) s0 (fun s k => s.updateCell c p n (k + 1) f hd tamb)
  let s2 := (s1.modTile c (fun x =>
    { x with
      nextTick := x.nextTick.set p (n + 1)
      waiting := x.waiting.filter (fun w => !(w.1 == p && decide (w.2.1 ≤ n))) })).formPart c p n
  let s3 := match (s2.tile c).imped.get p with
    | some r => if ImpRun.endTick r ≤ n + 1 then s2.pushWork c (.extract p) else s2
    | none => s2
  if n % 1000 = 0 then s3.modTile c (fun x => { x with digestParts := x.digestParts.set p ((s3.asOf n).positionDigest c p) })
  else s3

/-- Slots of the active module take the place of position p's own (R254). -/
def State.installSlots (s : State) (c p : Nat) (zs : List Slot) : State :=
  let rest := match (s.tile c).resync with
    | some (m, ps) => (match ps.filter (fun q => q != p) with | [] => none | l => some (m, l))
    | none => none
  let s1 := s.modTile c (fun x =>
    { x with
      slots := (List.range 18).foldl (fun m k => m.set (slotKey p (k + 1)) (zs.getD k {})) x.slots
      resync := rest, resyncWait := x.resyncWait.filter (fun w => w.1 != p) })
  if (s.tile c).resync.isSome && rest.isNone then
    s1.modPair (fun q => { q with resynced := if q.resynced.contains c then q.resynced else q.resynced ++ [c] })
  else s1

/-- The position's update for tick n is part of a resynchronisation (R254): the running module sends its
slots, and the other one installs those that have come. -/
def State.resyncHook (s : State) (c p n : Nat) : State :=
  match (s.tile c).resync with
  | none => s
  | some (m, ps) =>
    if n ≠ m ∨ ps.contains p = false then s
    else if s.runsPlant then
      let left := ps.filter (fun q => q != p)
      let ws := (List.range 18).flatMap (fun k => slotWords ((s.tile c).slots.get (slotKey p (k + 1))))
      (s.modTile c (fun x => { x with resync := if left.isEmpty then none else some (m, left) })).emit
        (.agfin "RESYNC_SLOTS" ([w32 c, w32 p, hiWord m, loWord m] ++ ws))
    else
      match (s.tile c).resyncWait.find? (fun w => w.1 == p && w.2.1 == m) with
      | some w => s.installSlots c p w.2.2
      | none => s

/-- The position holds its later frames until the slots of tick m have come (R76, R254). -/
def State.resyncHolds (s : State) (c p n : Nat) : Bool :=
  match (s.tile c).resync with
  | none => false
  | some (m, ps) => !s.runsPlant && ps.contains p && decide (m < n)

/-- A position goes on as far as its frames and the head frames in hand allow (R74, R76). -/
def State.advance (fuel : Nat) (s : State) (c p : Nat) : State :=
  match fuel with
  | 0 => s
  | k + 1 =>
    let x := s.tile c
    let n := Tile.nextOf x p
    match x.heads.find? (fun h => h.1 == n), x.waiting.find? (fun w => w.1 == p && w.2.1 == n) with
    | some h, some w => if n ≤ x.tick + 1 ∧ s.resyncHolds c p n = false then State.advance k ((s.updatePosition c p n (some w.2.2) (some h.2)).resyncHook c p n) c p else s
    | _, _ => s

/-- A position catches up with the ticks that passed while it held (R76, R254). -/
def State.catchUp (s : State) (c p : Nat) : State :=
  let x := s.tile c
  let n0 := Tile.nextOf x p
  let s1 := forEach ((List.range (x.tick - n0)).map (· + n0)) s (fun s n =>
    let y := s.tile c
    s.updatePosition c p n ((y.waiting.find? (fun w => w.1 == p && w.2.1 == n)).map (fun w => w.2.2))
      ((y.heads.find? (fun h => h.1 == n)).map (fun h => h.2)))
  State.advance 2 s1 c p

/-- A resynchronisation of the chain's tile ends where it stands: the positions it held go on (R254). -/
def State.endResync (s : State) (c : Nat) : State :=
  match (s.tile c).resync with
  | none => s
  | some (_, ps) => forEach ps (s.modTile c (fun x => { x with resync := none, resyncWait := [] })) (fun s p => s.catchUp c p)

/-- Every resynchronisation ends where it stands. -/
def State.endResyncs (s : State) : State := forEach (List.range 64) s (fun s c => s.endResync c)

/-- Every position of the chain goes on. -/
def State.advanceAll (s : State) (c : Nat) : State :=
  forEach (List.range ((s.asOf (s.tile c).tick).chPositions c)) s (fun s p => State.advance 2 s c (p + 1))

/-! ## The worst-cell record and the string summary (R77, R105) -/

/-- The present cells of the chain, in slot order. -/
def State.presentCells (s : State) (c : Nat) : List (Nat × Nat) :=
  (List.range (s.chPositions c)).flatMap (fun p =>
    ((List.range 18).filter (fun k => s.cellPresent c (p + 1) (k + 1))).map (fun k => (p + 1, k + 1)))

/-- The cells that count: present and not INVALID. -/
def State.countedCells (s : State) (c : Nat) : List (Nat × Nat × Slot) :=
  ((s.presentCells c).map (fun a => (a.1, a.2, Tile.slotNow (s.tile c) a.1 a.2))).filter
    (fun a => a.2.2.initialised && !a.2.2.flags.getLsbD 1)

/-- An extreme word: value, position, cell; the first cell in slot order on a tie. -/
def extreme (max_ : Bool) (l : List (Nat × Nat × Int)) : Word :=
  match l with
  | [] => 0
  | a :: r =>
    let b := r.foldl (fun b x => if (if max_ then decide (b.2.2 < x.2.2) else decide (x.2.2 < b.2.2)) then x else b) a
    packWord [(16, code16 b.2.2), (8, b.1), (0, b.2.1)]

/-- Words 0 to 9 of R105. -/
def State.formRecord (s : State) (c : Nat) : List Word :=
  let x := s.tile c
  let l := s.countedCells c
  let ex := fun (m : Bool) (g : Slot → Int) => extreme m (l.map (fun a => (a.1, a.2.1, g a.2.2)))
  let lv := (l.filter (fun a => a.2.2.vLast.isSome)).map (fun a => (a.1, a.2.1, (((a.2.2.vCode + 2) / 4 : Nat) : Int)))
  let hi := fun (w : Word) => w.toNat / 65536
  let pending := ((List.range (s.chPositions c)).filter (fun p => decide (Tile.nextOf x (p + 1) ≤ x.tick))).length
  let all := (s.presentCells c).map (fun a => Tile.slotNow x a.1 a.2)
  let stale := (all.filter (fun z => z.flags.getLsbD 3)).length
  let invalid := (all.filter (fun z => !z.initialised || z.flags.getLsbD 1)).length
  [extreme true lv, extreme false lv, ex true (fun z => hi z.out0), ex false (fun z => hi z.out0),
   ex true Slot.tcCode, ex false Slot.tcCode, ex false (fun z => signedOf 16 (z.out2.toNat % 65536)),
   ex true (fun z => (z.out1.toNat % 65536 : Nat)), ex false (fun z => hi z.out1),
   packWord [(24, pending), (12, stale), (0, invalid)]]

/-- The partial sums of a position as the tick being worked on left them. -/
def Tile.sumsNow (x : Tile) (p : Nat) : List Word :=
  if x.tick + 1 < Tile.nextOf x p then x.oldSums.get p else x.sums.get p

/-- Words 10 to 12: the partial sums in position order (R105). -/
def State.formSums (s : State) (c : Nat) : List Word :=
  let x := s.tile c
  let l := (List.range (s.chPositions c)).map (fun p => Tile.sumsNow x (p + 1))
  let l := l.filter (fun w => w.getD 3 0 != 0)
  let sum := fun (i : Nat) => l.foldl (fun acc w => fadd acc (w.getD i 0)) 0
  if l.isEmpty then [0, 0, 0] else [fdiv (sum 1) (sum 0), fdiv (sum 2) (fint 1000), sum 0]

/-- Words 0 to 15 of R105 for the tick being worked on. Without its head frame STR_I and STR_V keep their values (log
entry 191). -/
def State.formSummary (s : State) (c : Nat) : List Word :=
  let x := s.tile c
  let iv := match x.heads.find? (fun h => h.1 == x.tick) with
    | some h => [i32 (frameIstr h.2), w32 (frameVstr h.2)]
    | none => [x.summary.getD 13 0, x.summary.getD 14 0]
  s.formRecord c ++ s.formSums c ++ iv ++ [w32 x.tick]

/-- Issue the worst-cell record; with no position pending the deferred work of the tick follows (R77, R78). -/
def State.issueRecord (s : State) (c : Nat) : State :=
  let r := (s.asOf (s.tile c).tick).formRecord c
  let s1 := (s.modTile c (fun x => { x with record := r, issued := true })).takeRecord c r
  if countsPending (r.getD 9 0) = 0 then s1.runWork c (fun _ => true) else s1

/-- A tile domain whose two tiles have issued their records, or carry no chain in service, asks for IDLE
until the next tick edge (R20, R412). -/
def State.tileIdle (s : State) (c : Nat) : State :=
  let o := if c % 2 = 0 then c + 1 else c - 1
  if !s.inService o || (s.tile o).issued then s.askIdle (tileDomain c) (tickTime (s.tickNo + 1)) else s

/-- WORST_CELL_RECORD (R77): at +704 µs. -/
def execWorstCellRecord (c : Fin 64) (s : State) : Outcome :=
  evtOff s 704000 (fun s =>
    if s.inService c && s.tileWorks c && (s.tile c).tick == s.tickNo then (s.issueRecord c).tileIdle c else s)

/-! ## Frames arrive (R39, R45, R58, R66, R74) -/

/-- A good copy of a position's frame for tick n. The tile's input buffer holds 256 frames (R70). A copy of either
module counts for CHAIN_FRAME_READ (log entry 192). -/
def State.takeCopy (s : State) (c p n : Nat) (f : BitVec 512) : State :=
  let x := s.tile c
  let s1 := (s.awake (tileDomain c)).modChain c (fun y => { y with lastFrame := y.lastFrame.set p (some f) })
  let s2 :=
    if p = 1 && !x.heads.any (fun h => h.1 == n) then
      ((s1.modTile c (fun x => { x with heads := (n, f) :: x.heads.take 3, istr := frameIstr f, vstr := frameVstr f })).headFrame c f)
    else s1
  if !s.tileWorks c || decide (n < Tile.nextOf x p) || x.waiting.any (fun w => w.1 == p && w.2.1 == n) ||
      decide (256 ≤ x.waiting.length) then s2
  else
    let pendBefore := countsPending ((s2.tile c).record.getD 9 0)
    let s3 := s2.modTile c (fun x =>
      { x with waiting := x.waiting ++ [(p, n, f)], sensors := x.sensors ++ [(n, p, validTemps f)]
               copies := if n = x.tick && !x.copies.contains p then x.copies ++ [p] else x.copies })
    let s4 := if p = 1 then s3.advanceAll c else State.advance 2 s3 c p
    -- the last pending position completes after the record was issued: a revised record (R77)
    let y := s4.tile c
    if y.issued && pendBefore ≠ 0 && (List.range (s4.chPositions c)).all (fun q => decide (y.tick < Tile.nextOf y (q + 1))) then
      s4.issueRecord c
    else s4

/-- A frame with COMP_SET clear: SET_COMP goes to the position in the next window (R45). Before its values are known
after an adoption, tracking sends it (R398). -/
def State.resendComp (s : State) (c p : Nat) : State :=
  let v := (s.chain c).comp.get p
  if !s.runsPlant || Chain.compOnWay (s.chain c) p || v.fwd = 0 || v.rev = 0 then s
  else s.queueCmd c (cmdSetComp p v .setting)

/-- A frame of a chain in service: missing unless it carries the tick's SEQ and COMP_SET (R39, R45). The tile needs
every chain bank of the module (R26). -/
def State.takeFrame (s : State) (c : Nat) (f : BitVec 512) : State :=
  let p := framePos f
  let k := (s.tile c).tick
  if !s.banksUp || s.chPositions c < p then s
  else if !frameComp f then s.resendComp c p
  else if frameSeq f = k % 256 then s.takeCopy c p k f
  else if frameSeq f = (k + 1) % 256 ∧ tickTime (k + 1) ≤ s.now then s.takeCopy c p (k + 1) f
  else s

/-- A frame during adoption (R398). -/
def State.adoptFrame (s : State) (c : Nat) (f : BitVec 512) : State :=
  let p := framePos f
  s.modChain c (fun x =>
    { x with
      gotNow := if frameComp f && !x.gotNow.contains (s.tickNo, p) then x.gotNow ++ [(s.tickNo, p)] else x.gotNow
      lastFrame := x.lastFrame.set p (some f)
      trip := if p = 1 && bitOf (frameStatus f) 23 then none else x.trip
      adopt := x.adopt.map (fun a =>
        { a with
          bad := a.bad || decide (s.chPositions c < p) || (frameHead f != decide (p = 1))
          drivers := if p = 1 then some (driverBits (frameStatus f)) else a.drivers }) })

/-- A frame failed its CRC at a port of this module: it counts in its tick's train (R68). -/
def State.countCrc (s : State) (c : Nat) : State :=
  s.modChain c (fun x =>
    { x with crcBy := match x.crcBy with
        | (n, k) :: r => if n = s.tickNo then (n, k + 1) :: r else (s.tickNo, 1) :: [(n, k)]
        | [] => [(s.tickNo, 1)] })

/-- DATA_FRAME_RECEIVED (R33, R66, R74): a frame at a port of this module. In a Pair every good frame is
forwarded to the partner. -/
def execDataFrameReceived (c : Fin 64) (e : RingEnd) (frame : BitVec 512) (time : Nat) (s : State) : Outcome :=
  evt s time (fun s0 =>
    let s := if s0.holds e && s0.bankUp e then s0.lineActive c e else s0
    if !s.holds e || !s.bankUp e then s
    else if !frameGood frame then s.countCrc c
    else if (s.chain c).adopt.isSome then s.adoptFrame c frame
    else if !s.inService c then s
    else
      let s1 := if s.single || !s.linkUp then s else s.emit (.agfin "DATA" (w32 c :: frameWords frame))
      s1.takeFrame c frame)

/-- AGFIN_FRAME_RECEIVED (R58, R66): a copy the partner forwards. -/
def execAgfinFrameReceived (c : Fin 64) (frame : BitVec 512) (time : Nat) (s : State) : Outcome :=
  evt s time (fun s =>
    if s.single || !s.linkUp || !frameGood frame || !s.inService c then s else s.takeFrame c frame)

/-! ## The cutoff (R66, R75, R108) -/

/-- Positions without a good copy are predicted only, or held where the head frame is missing (R75). -/
def State.finishTick (s : State) (c n : Nat) : State :=
  forEach (List.range ((s.asOf n).chPositions c)) s (fun s p =>
    let x := s.tile c
    if n < Tile.nextOf x (p + 1) ∨ s.resyncHolds c (p + 1) n = true then s
    else
      let f := (x.waiting.find? (fun w => w.1 == p + 1 && w.2.1 == n)).map (fun w => w.2.2)
      (s.updatePosition c (p + 1) n f ((x.heads.find? (fun h => h.1 == n)).map (fun h => h.2))).resyncHook c (p + 1) n)

/-- CH_MISSING_LAST, CH_CRC_LAST, and the runs of missing ticks (R66, R68). -/
def State.countMissing (s : State) (c : Nat) : State :=
  let got := (s.tile c).copies
  let ps := (List.range ((s.asOf (s.tile c).tick).chPositions c)).map (· + 1)
  let s1 := s.modChain c (fun x =>
    { x with
      missingLast := (ps.filter (fun p => !got.contains p)).length
      crcLast := ((x.crcBy.find? (fun e => e.1 + 1 == s.tickNo)).map (fun e => e.2)).getD 0
      missing := ps.foldl (fun m p => m.set p (if got.contains p then 0 else m.get p + 1)) x.missing
      silent := x.silent.filter (fun p => !got.contains p) })
  if (s1.chain c).silent.isEmpty && s1.chFaultBit c 5 then
    ((s1.chFault c 5 false).modStr c (fun x => { x with silentSince := none })).setCause c 14 false
  else s1

/-- The counts of the tick, the summary, and the digest of a digest tick. What positions that are no longer configured
hold starts anew where they come back (R94). -/
def State.closeTick (s : State) (c n : Nat) : State :=
  let g := s.asOf n
  let x := s.tile c
  let all := (g.presentCells c).map (fun a => Tile.slotNow x a.1 a.2)
  let sum := g.formSummary c
  s.modTile c (fun x =>
    { x with
      summary := sum
      validCount := (all.filter (fun z => z.flags.getLsbD 0)).length
      staleCount := (all.filter (fun z => z.flags.getLsbD 3)).length
      digest := if n % 1000 = 0 then
          (List.range (g.chPositions c)).foldl (fun acc p => acc + x.digestParts.get (p + 1)) 0 else x.digest
      digestParts := if n % 1000 = 0 then [] else x.digestParts
      slots := x.slots.map (fun e => if g.chPositions c * 18 ≤ e.1 then (e.1, Slot.absent e.2) else e)
      sensors := x.sensors.filter (fun e => decide (n < e.1))
      tick := n + 1, old := [], oldSums := [], issued := false
      heads := x.heads.filter (fun h => decide (n < h.1) || x.resync.isSome)
      copies := (x.waiting.filter (fun w => w.2.1 == n + 1)).map (fun w => w.1) ++
        ((List.range (s.chPositions c)).map (· + 1)).filter (fun p => decide (n + 1 < Tile.nextOf x p)) })

/-- The end of a train of an adoption: the train of the tick before this one. -/
def State.adoptTick (s : State) (c : Nat) : State :=
  let n := s.tickNo - 1
  s.modChain c (fun x =>
    let got := (x.gotNow.filter (fun e => e.1 == n)).map (fun e => e.2)
    { x with
      adopt := x.adopt.map (fun a =>
        if n < a.first then a
        else { a with ticks := a.ticks + 1
                      good := if a.ticks = 0 then got else a.good.filter (fun p => got.contains p) })
      gotNow := x.gotNow.filter (fun e => decide (n < e.1)) })

/-- TILE_CUTOFF (R75, R77, R78): at +1.496 ms the tick's copies end, a record with pending positions is revised, and the
deferred work that is left is done before the digest is combined. -/
def execTileCutoff (c : Fin 64) (s : State) : Outcome :=
  evtOff s 496000 (fun s =>
    if (s.chain c).adopt.isSome then s.adoptTick c
    else
      let n := (s.tile c).tick
      if !s.inService c || s.tickNo ≤ n then s
      else
        let s1 := s.countMissing c
        if !s.tileWorks c then s1.modTile c (fun x => { x with tick := n + 1, base := max x.base (n + 1), copies := [] })
        else
          let s2 := s1.finishTick c n
          let s3 := if (s2.tile c).issued && countsPending ((s2.tile c).record.getD 9 0) = 0 then s2 else s2.issueRecord c
          ((s3.runWork c (fun _ => true)).closeTick c n).advanceAll c)

/-! ## The tick summary buffers (R16, R17, R106) -/

/-- The words of a chain in the summary: those of the tick, or the last ones marked STALE (R17, R104). -/
def State.stringWords (s : State) (c n : Nat) : List Word :=
  let w := (s.tile c).summary
  if s.inService c && s.tileWorks c && w.getD 15 0 == w32 n && !w.isEmpty then w
  else
    let present := s.presentCount c
    let base := if w.isEmpty then List.replicate 16 0 else w
    base.set 9 (packWord [(24, countsPending (base.getD 9 0)), (12, present)])

/-- An extreme over strings with a counted cell, the lowest chain on a tie, and its chain word (R106). -/
def plantExtreme (l : List (Nat × List Word)) (j : Nat) : List Word :=
  let max_ := j == 0 || j == 2 || j == 4 || j == 7
  let val := fun (ws : List Word) => if 4 ≤ j ∧ j ≤ 6 then extInt (ws.getD j 0) else (extVal (ws.getD j 0) : Int)
  let cand := l.filter (fun a => extHas (a.2.getD j 0))
  match cand with
  | [] => [0, 0xFF]
  | a :: r =>
    let b := r.foldl (fun b x => if (if max_ then decide (val b.2 < val x.2) else decide (val x.2 < val b.2)) then x else b) a
    [b.2.getD j 0, w32 b.1]

/-- The plant summary of R106 over the in-service chains. -/
def plantWords (l : List (Nat × List Word)) (n : Nat) : List Word :=
  let counted := l.filter (fun a => extHas (a.2.getD 3 0))
  let cap := counted.foldl (fun acc a => fadd acc (a.2.getD 12 0)) 0
  let soc := counted.foldl (fun acc a => ffma (a.2.getD 12 0) (a.2.getD 10 0) acc) 0
  let en := counted.foldl (fun acc a => fadd acc (a.2.getD 11 0)) 0
  let sum := fun (g : Word → Nat) => w32 ((l.map (fun a => g (a.2.getD 9 0))).sum)
  (List.range 9).flatMap (plantExtreme l) ++
  [if counted.isEmpty then 0 else fdiv soc cap, en, cap, sum countsPending, sum countsStale, sum countsInvalid,
   w32 l.length, hiWord n, loWord n, hiWord (tickTime n), loWord (tickTime n)]

/-- Fill the writable buffer with tick n and make it the readable one (R16). -/
def State.flipBuffers (s : State) (n : Nat) : State :=
  let strings := (List.range 64).filterMap (fun c => if s.chEnabled c then some (c, s.stringWords c n) else none)
  let buf : TickBuf :=
    { since := s.now, tick := n, sample := tickTime n, strings := strings
      plant := plantWords (strings.filter (fun a => s.inService a.1)) n }
  if s.readB then { s with bufA := buf, readB := false } else { s with bufB := buf, readB := true }

/-- The ledger entries of one position, from cells that have a trusted state; the entry of an INVALID cell, or of one
never initialised, stays as it was (R97; log entry 193). -/
def State.stagePosition (s : State) (c p : Nat) : State :=
  let x := s.tile c
  let e := s.estPar c
  forEach (List.range 18) s (fun s k =>
    let z := x.slots.get (slotKey p (k + 1))
    if s.cellPresent c p (k + 1) && z.initialised && !z.flags.getLsbD 1 then
      let l : Ledger := { soc := socOf e z, soh := z.soh, rohm25 := z.rohm25, rct25 := z.rct25, time := s.now }
      { s with ledger := s.ledger.set (ledgerKey c p (k + 1)) (some l) }
    else s)

/-- Ledger staging: one position per chain every 468 ms (R97). -/
def State.stageLedger (s : State) (c : Nat) : State :=
  let x := s.tile c
  if !s.inService c || s.now < x.stageAt + 468000000 then s
  else
    let p := if x.stagePos ≤ s.chPositions c then x.stagePos else 1
    (s.stagePosition c p).modTile c (fun x => { x with stagePos := p + 1, stageAt := s.now })

/-! ## Impedance sequences end (R62, R101, R102) -/

/-- IMPED_SEQUENCE_END (R101): the extraction of a sequence that is over and has not been extracted yet. -/
def execImpedSequenceEnd (c : Fin 64) (p : Nat) (s : State) : Outcome :=
  evt0 s (fun s => s.extractEnded c p)

/-! ## Opcodes of group 0x11 (R111) -/

/-- FLAGS as read: STALE alone on a chain that is not in service or whose tile is lost, 0 for an absent cell (R26,
R104). -/
def State.flagsRead (s : State) (c p cell : Nat) : Word :=
  if !s.cellPresent c p cell then 0
  else if !s.inService c || !s.tileWorks c then w32 (((s.slot c p cell).flags &&& 0x14#16).toNat + 8)
  else if !(s.slot c p cell).initialised then w32 (((s.slot c p cell).flags &&& 0x14#16).toNat + 2)
  else w32 (s.slot c p cell).flags.toNat

/-- A slot as EST_SLOT_READ shows it: its FLAGS as read (R104), its resistances (R79). -/
def State.slotRead (s : State) (c p cell : Nat) : Slot :=
  { (Slot.shown (s.slot c p cell) (s.estPar c)) with flags := (s.flagsRead c p cell).truncate 16 }

/-- OUT0 to OUT2 as read: 0 for an absent cell. -/
def State.outsRead (s : State) (c p cell : Nat) : List Word :=
  if s.cellPresent c p cell then
    let z := s.slot c p cell
    [z.out0, z.out1, z.out2]
  else [0, 0, 0]

/-- The status of a cell address (R111): none where it is good. -/
def State.cellAddr (s : State) (w : Word) : Option Nat :=
  let c := fieldOf w 23 16
  let p := fieldOf w 15 8
  let k := fieldOf w 7 0
  if 63 < c || p = 0 || 128 < p || k = 0 || 18 < k then some stOutOfRange
  else if !s.chEnabled c || !s.cellPresent c p k then some (stRejected 0x10)
  else none

/-- EST_CELL_READ. -/
def execEstCellRead (t : Fin 16) (r : Req) (s : State) : Outcome :=
  opcode s t r { opcode := 0x1101, len := lenIs 1 } (fun s =>
    match s.cellAddr (r.w 2) with
    | some st => (s, no st)
    | none =>
      let c := fieldOf (r.w 2) 23 16
      let p := fieldOf (r.w 2) 15 8
      let k := fieldOf (r.w 2) 7 0
      (s, .reply stOk (s.outsRead c p k ++ [s.flagsRead c p k, hiWord s.readBuf.tick, loWord s.readBuf.tick])))

/-- EST_CHAIN_READ. -/
def execEstChainRead (t : Fin 16) (r : Req) (s : State) : Outcome :=
  opcode s t r { opcode := 0x1102, len := lenIs 1 } (fun s =>
    let c := fieldOf (r.w 2) 7 0
    if 63 < c then (s, no stOutOfRange)
    else if !s.chEnabled c then (s, no (stRejected 0x10))
    else (s, .bulk 0x102 ((List.range (s.chPositions c)).flatMap (fun p =>
      (List.range 18).flatMap (fun k => s.outsRead c (p + 1) (k + 1) ++ [s.flagsRead c (p + 1) (k + 1)])))))

/-- EST_STRING_SUMMARY. -/
def execEstStringSummary (t : Fin 16) (r : Req) (s : State) : Outcome :=
  opcode s t r { opcode := 0x1103, len := lenIs 1 } (fun s =>
    let c := fieldOf (r.w 2) 7 0
    if 63 < c then (s, no stOutOfRange)
    else if !s.chEnabled c then (s, no (stRejected 0x10))
    else
      let w := s.readBuf.strings.get c
      (s, .reply stOk ((List.range 16).map (fun i => w.getD i 0))))

/-- EST_PLANT_SUMMARY. -/
def execEstPlantSummary (t : Fin 16) (r : Req) (s : State) : Outcome :=
  opcode s t r { opcode := 0x1104 } (fun s =>
    (s, .reply stOk ((List.range 29).map (fun i => s.readBuf.plant.getD i 0))))

/-- EST_IMPED_START (R99, R111): the reply follows the monitor's RESP. A round-robin sequence of the
monitor is stopped first (log entry 33). One that was asked for before and has not been answered counts as running (log
entry 194). -/
def execEstImpedStart (t : Fin 16) (r : Req) (s : State) : Outcome :=
  opcode s t r { opcode := 0x1105, role := 1, len := lenIs 1, active := true } (fun s =>
    match s.cellAddr (r.w 2) with
    | some st => (s, no st)
    | none =>
      let c := fieldOf (r.w 2) 23 16
      let p := fieldOf (r.w 2) 15 8
      let k := fieldOf (r.w 2) 7 0
      let byOpcode := fun (m : MonCmd) => match m.why with | .impedance _ b _ _ => b && m.dest == p | _ => false
      let asked := (s.chain c).queue.any byOpcode || (s.chain c).sent.any (fun o => byOpcode o.cmd)
      match (s.tile c).imped.get p with
      | some run =>
        if run.byOpcode || asked then (s, no (stRejected 0x30))
        else
          (((s.queueCmd c { dest := p, opc := 0x0B }).stopImped c p (s.tickNo + 1)).startImped c p k
            (.impedance k true t r.seq), .later)
      | none =>
        if asked then (s, no (stRejected 0x30))
        else (s.startImped c p k (.impedance k true t r.seq), .later))

/-- EST_IMPED_RESULT. -/
def execEstImpedResult (t : Fin 16) (r : Req) (s : State) : Outcome :=
  opcode s t r { opcode := 0x1106, len := lenIs 1 } (fun s =>
    match s.cellAddr (r.w 2) with
    | some st => (s, no st)
    | none =>
      let z := (s.slot (fieldOf (r.w 2) 23 16) (fieldOf (r.w 2) 15 8) (fieldOf (r.w 2) 7 0)).imp
      (s, .reply stOk [z.rOhm, z.rCt, z.h0, z.rms, w32 z.result, hiWord z.tick, loWord z.tick]))

/-- EST_REINIT (R95): marks the cell. -/
def execEstReinit (t : Fin 16) (r : Req) (s : State) : Outcome :=
  opcode s t r { opcode := 0x1107, role := 1, len := lenIs 1 } (fun s =>
    match s.cellAddr (r.w 2) with
    | some st => (s, no st)
    | none =>
      let key := slotKey (fieldOf (r.w 2) 15 8) (fieldOf (r.w 2) 7 0)
      (s.modTile (fieldOf (r.w 2) 23 16) (fun x => { x with slots := x.slots.modify key (fun z => { z with reinit := true }) }), ok))

/-- EST_SLOT_READ. -/
def execEstSlotRead (t : Fin 16) (r : Req) (s : State) : Outcome :=
  opcode s t r { opcode := 0x1108, role := 1, len := lenIs 1 } (fun s =>
    match s.cellAddr (r.w 2) with
    | some st => (s, no st)
    | none =>
      (s, .bulk 0x108 (slotWords (s.slotRead (fieldOf (r.w 2) 23 16) (fieldOf (r.w 2) 15 8) (fieldOf (r.w 2) 7 0)))))

end Sys2Proof.Machine
end

