-- ==== Sys2Proof/Machine/Limits.lean ====
section
/-! DEFINITION. Dispatch: string and group limits, ramps, grants, the emergency override, and the opcodes
of group 0x13 (R140 to R154). Limits are exact and become FP32 words when they leave the Keeper. -/

namespace Sys2Proof.Machine

/-- A quotient; an open value where the divisor is 0 (log entry 6). -/
def ratDiv (pt : Nat) (a b : Rat) : Rat := if b = 0 then Config.zeroDivide pt a else a / b

/-- The lesser and the greater of two rationals, and the clamp to 0–1. -/
def rmin (a b : Rat) : Rat := if b < a then b else a
def rmax (a b : Rat) : Rat := if a < b then b else a
def clamp01 (a : Rat) : Rat := rmax 0 (rmin 1 a)

/-! ## Strings (R141 to R143, R152) -/

/-- The group a chain belongs to (R140). -/
def State.groupOf (s : State) (c : Nat) : Option Nat :=
  (List.range 8).find? (fun g => s.parBit64 0x13 (0x10 + g) 0 c)

/-- The chains of a group. -/
def State.groupChains (s : State) (g : Nat) : List Nat :=
  (List.range 64).filter (fun c => s.parBit64 0x13 (0x10 + g) 0 c)

/-- A group is configured. -/
def State.groupSet (s : State) (g : Nat) : Bool :=
  s.parN 0x13 (0x10 + g) 0 != 0 || s.parN 0x13 (0x10 + g) 1 != 0

/-- The horizons, s. -/
def horizons : List Rat := [1, 10, 60, 600]

/-- ln((1 + x) / (1 − x)) / 2 for 0 ≤ x ≤ 1/3, by its series in fixed point. -/
def atanhFixed (x : Rat) : Int :=
  let x0 : Int := (x * 2 ^ expBits).floor
  let sq : Int := x0 * x0 / 2 ^ expBits
  ((List.range 60).foldl (fun (acc : Int × Int) (i : Nat) =>
    (acc.1 + acc.2 / (2 * (i : Int) + 1), acc.2 * sq / 2 ^ expBits)) ((0 : Int), x0)).1

/-- The natural logarithm of a value of at least 1, to far more digits than binary32 keeps (R142; log entry 6). -/
def ratLn (q : Rat) : Rat :=
  let e := Nat.log2 q.floor.toNat
  let m := q / 2 ^ e
  (2 * (atanhFixed ((m - 1) / (m + 1)) + (e : Int) * atanhFixed (1 / 3)) : Rat) / 2 ^ expBits

/-- DSP_RMULT of a duration: linear in log h between the horizons, held at the ends (R142). -/
def State.rMult (s : State) (h : Rat) : Rat :=
  let m := fun i => (s.parN 0x13 0 (8 + i) : Rat) / 100
  let mid := fun (a b : Rat) (i : Nat) =>
    m i + (m (i + 1) - m i) * ratLn (h / a) / ratLn (b / a)
  if h ≤ 1 then m 0 else if h < 10 then mid 1 10 0 else if h = 10 then m 1 else if h < 60 then mid 10 60 1
  else if h = 60 then m 2 else if h < 600 then mid 60 600 2 else m 3

/-- A value of a word of the string summary. -/
def sw (ws : List Word) (i : Nat) : Rat := (extVal (ws.getD i 0) : Rat)

/-- The string's record gives no cell, or counts every present cell STALE (R142 code 5). -/
def State.stringBlind (s : State) (c : Nat) (ws : List Word) : Bool :=
  !extHas (ws.getD 3 0) || s.presentCount c == countsStale (ws.getD 9 0)

/-- The bounds 1 to 4 of a string for a duration h: the least and its code, at least 0 (R142, R152). -/
def State.boundOf (s : State) (c g : Nat) (ws : List Word) (chg : Bool) (h : Rat) : Rat × Nat :=
  let ov := s.disp.ovr == .inForce
  let gi := 0x10 + g
  let qn := s.qNom c
  let q := qn * (sw ws 8 / 10000)
  let i : Rat := ((ws.getD 13 0).toInt : Rat) / 1000
  let rh := sw ws 7 / 1000000 * s.rMult h
  let slope := fun (j : Nat) => frat (ocvSlope (s.chem c) (fq (extVal (ws.getD j 0)) 10000))
  let v := fun (idx : Nat) => (s.vThresh c idx : Rat) / 10000
  let floor_ : Rat := if ov then 0 else (s.parN 0x13 gi 2 : Rat) / 10000
  let ceil_ : Rat := if ov then 1 else (s.parN 0x13 gi 3 : Rat) / 10000
  let volt :=
    if chg then ratDiv 1 (v (if ov then 8 else 6) - sw ws 0 / 10000 - i * rh) (rh + ratDiv 2 (slope 2 * h) (3600 * q))
    else ratDiv 3 (sw ws 1 / 10000 + i * rh - v (if ov then 9 else 7)) (rh + ratDiv 4 (slope 3 * h) (3600 * q))
  let soc :=
    if chg then (ceil_ - sw ws 2 / 10000) * (3600 * q) / h else (sw ws 3 / 10000 - floor_) * (3600 * q) / h
  let tLim : Rat := (s.tcThresh c (if ov then 0xD else 0xC) : Rat)
  let fT := clamp01 (ratDiv 5 (tLim - (extInt (ws.getD 4 0) : Rat)) (s.parN 0x13 gi 6 : Rat))
  let rate : Rat :=
    if ov then (95 : Rat) / 100 * ((s.parN 0x12 c (if chg then 0x13 else 0x12) : Rat) / 100)
    else (s.parN 0x13 gi (if chg then 5 else 4) : Rat) / 100
  let rating := rate * qn * fT
  let b2 := if soc < volt then (soc, 2) else (volt, 1)
  let b3 := if rating < b2.1 then (rating, 3) else b2
  let fP := clamp01 (ratDiv 6 (extInt (ws.getD 6 0) : Rat) (s.parN 0x13 gi 7 : Rat))
  let b4 := if chg && decide (b3.1 * fP < b3.1) then (b3.1 * fP, 4) else b3
  (rmax 0 b4.1, b4.2)

/-- The limit of a string as it stands: 0 with code 5 where it is not usable. -/
def State.stringLimit (s : State) (c g : Nat) (chg : Bool) (h : Rat) : Rat × Nat :=
  let ws := s.readBuf.strings.get c
  if (s.str c).state != .closed || s.stringBlind c ws then (0, 5) else s.boundOf c g ws chg h

/-- The limit of an OPENING string, ramped to 0 over 500 ms from acceptance (R128, R144). -/
def State.openingLimit (s : State) (c g : Nat) (chg : Bool) (h : Rat) : Rat :=
  let ws := s.readBuf.strings.get c
  let t := s.now - (s.str c).openingAt
  if (s.str c).state != .opening || s.stringBlind c ws || 500000000 ≤ t then 0
  else (s.boundOf c g ws chg h).1 * (500000000 - t : Nat) / 500000000

/-! ## Groups (R144) -/

/-- The CLOSED strings of a group. -/
def State.closedStrings (s : State) (g : Nat) : List Nat :=
  (s.groupChains g).filter (fun c => (s.str c).state == .closed)

/-- The mean |STR_I| of a string over the last 1,000 ticks, A. -/
def State.meanCurrent (s : State) (c : Nat) : Rat :=
  let w := (s.strLimits.get c).window
  if w.isEmpty then 0 else (w.sum : Rat) / w.length / 1000

/-- Σ EST_Q_NOM of the CLOSED strings. -/
def State.groupQ (s : State) (g : Nat) : Rat := ((s.closedStrings g).map s.qNom).foldl (· + ·) 0

/-- The share of a CLOSED string (R144). -/
def State.shareOf (s : State) (g c : Nat) : Rat :=
  let l := s.closedStrings g
  let sum := (l.map s.meanCurrent).foldl (· + ·) 0
  if sum < 5 / 100 * s.groupQ g then 1 / l.length else s.meanCurrent c / sum

/-- The computed current limit of a group for a duration, and the code that bounds it (R144). -/
def State.groupLimit (s : State) (g : Nat) (chg : Bool) (h : Rat) : Rat × Nat :=
  let opening := ((s.groupChains g).map (fun c => s.openingLimit c g chg h)).foldl (· + ·) 0
  let each := (s.closedStrings g).filterMap (fun c =>
    let sh := s.shareOf g c
    let l := s.stringLimit c g chg h
    if sh = 0 then none else some (l.1 / sh, l.2))
  match each with
  | [] => (opening, 5)
  | a :: r =>
    let b := r.foldl (fun b x => if x.1 < b.1 then x else b) a
    (b.1 + opening, b.2)

/-- STR_V for the power of a group: the least of the CLOSED strings for discharge, the greatest for charge, V. -/
def State.groupV (s : State) (g : Nat) (chg : Bool) : Rat :=
  let l := (s.closedStrings g).map (fun c => ((((s.readBuf.strings.get c).getD 14 0).toNat : Nat) : Rat) / 20)
  match l with
  | [] => 0
  | a :: r => r.foldl (fun b x => if chg then rmax b x else rmin b x) a

/-! ## Grants (R149, R150) -/

/-- A grant ends by a cut: GRANT_CUT for the ramp that follows, and an entry (R150). -/
def State.cutGrant (s : State) (g cause : Nat) : State :=
  match (s.group g).grant with
  | none => s
  | some x =>
    (s.modGroup g (fun y => { y with grant := none, grantCut := true })).record 0x13 0x02 g
      [w32 x.id, x.valueBits, w32 cause]

/-- Every grant ends on entry into ENDING. -/
def State.cutAll (s : State) : State := forEach (List.range 8) s (fun s g => s.cutGrant g 1)

/-- A running grant whose value the computed limit no longer carries is cut (R150). -/
def State.checkGrant (s : State) (g n : Nat) : State :=
  match (s.group g).grant with
  | none => s
  | some x =>
    if x.endTick ≤ n then s
    else if (s.groupLimit g x.chg ((x.endTick - n : Nat) / 1000 : Rat)).1 < x.value then s.cutGrant g 2 else s

/-! ## Ramps (R145) -/

/-- The value that a running grant holds a published value at: horizon k (0 to 3) of a direction. -/
def grantFloor (gr : Option Grant) (chg : Bool) (k n : Nat) : Rat :=
  match gr with
  | none => 0
  | some x =>
    if x.chg == chg && decide (n < x.endTick) && (k == 0 || decide (horizons.getD k 0 * 1000 ≤ ((x.endTick - n : Nat) : Rat)))
    then x.value else 0

/-- One published value follows its computed one: value and ramp (R145). -/
def follow (pub comp rise floor_ : Rat) (ramp : Option Rat) (step : Bool) : Rat × Option Rat :=
  let target := rmax comp floor_
  if step then (target, none)
  else if target < pub then
    let rate := ramp.getD (pub / 500)
    let p := rmax target (pub - rate)
    (p, if p = target then none else some rate)
  else (rmax floor_ (rmin target (pub + rise)), none)

/-- The published currents of a group for tick n. -/
def State.updateGroup (s : State) (g n : Nat) : State :=
  let lim := fun (i : Nat) => s.groupLimit g (decide (4 ≤ i)) (horizons.getD (i % 4) 1)
  let x := s.group g
  let rise := (s.parN 0x13 0 0xC : Rat) / 100 * s.groupQ g / 1000
  let res := (List.range 8).map (fun i =>
    follow (x.pub.getD i 0) (lim i).1 rise (grantFloor x.grant (decide (4 ≤ i)) (i % 4) n) (x.ramp.getD i none) x.stepNow)
  s.modGroup g (fun y =>
    { y with
      comp := (List.range 8).map (fun i => (lim i).1)
      codes := (List.range 8).map (fun i => (lim i).2)
      pub := res.map (fun a => a.1)
      ramp := res.map (fun a => a.2)
      grantCut := y.grantCut && res.any (fun a => a.2.isSome)
      stepNow := false })

/-- RAMPING: a ramp lasts. -/
def Group.ramping (x : Group) : Bool := x.ramp.any (fun a => a.isSome)

/-- FP32 of a limit: the nearest binary32 (log entry 6). -/
def limWord (q : Rat) : Word := fofRat q

/-- The group block of R147: 20 words. -/
def State.groupBlock (s : State) (g : Nat) : List Word :=
  let x := s.group g
  let p := fun (i : Nat) => limWord (x.pub.getD i 0 * s.groupV g (decide (4 ≤ i)) / 1000)
  [packWord [(24, g), (20, x.codes.getD 0 0), (16, x.codes.getD 4 0), (2, b2n x.grantCut), (1, b2n x.grant.isSome),
             (0, b2n (Group.ramping x))]] ++
  (List.range 8).map p ++ (List.range 8).map (fun i => limWord (x.pub.getD i 0)) ++
  (match x.grant with
   | some y => [packWord [(16, y.id), (0, b2n y.chg)], y.valueBits, w32 y.endTick]
   | none => [0, 0, 0])

/-- The unramped limits of a string (R154 DSP_STRING_READ), and its window of |STR_I| (R144). -/
def State.updateString (s : State) (c : Nat) : State :=
  let g := (s.groupOf c).getD 0
  let lim := fun (i : Nat) => s.stringLimit c g (decide (4 ≤ i)) (horizons.getD (i % 4) 1)
  let i := ((s.readBuf.strings.get c).getD 13 0).toInt.natAbs
  { s with strLimits := s.strLimits.modify c (fun x =>
      { x with
        amps := (List.range 8).map (fun i => (lim i).1)
        codes := (List.range 8).map (fun i => (lim i).2)
        window := (i :: x.window).take 1000 }) }

/-! ## Burst requests (R149) -/

/-- D_ALT: the longest duration in 0.1 s steps of at least 1 s at which the limit is at least the value, or 0. -/
def State.longestAt (s : State) (g : Nat) (chg : Bool) (value : Rat) : Nat :=
  (((List.range 5991).map (fun (i : Nat) => 6000 - i)).find?
    (fun (d : Nat) => decide (value ≤ (s.groupLimit g chg (((d : Nat) : Rat) / 10)).1))).getD 0

/-- Evaluate one request with the tick-n buffer. -/
def State.evalBurst (s : State) (n : Nat) (a : BurstAsk) : State :=
  let scale : Rat := if a.kw then s.groupV a.group a.chg / 1000 else 1
  let value := ratDiv 7 (frat a.value) scale
  let lim := s.groupLimit a.group a.chg ((a.dur : Rat) / 10)
  let busy := match (s.group a.group).grant with | some x => x.tenant != a.tenant | none => false
  let pct : Rat := (s.parN 0x13 0 0xD : Rat) / 100
  if (s.closedStrings a.group).isEmpty then s.finish a.tenant a.seq stOk [2, 5]
  else if busy then s.finish a.tenant a.seq stOk [2, 6]
  else if value ≤ lim.1 then
    let id := s.disp.nextGrant
    let gr : Grant :=
      { id := id, tenant := a.tenant, chg := a.chg, value := value
        valueBits := if a.kw then limWord value else a.value, endTick := n + 100 * a.dur }
    ((s.modGroup a.group (fun x => { x with grant := some gr, grantCut := false })).modDisp (fun d =>
      { d with nextGrant := if id = 65535 then 1 else id + 1 })).finish a.tenant a.seq stOk [0, w32 id, w32 gr.endTick]
  else
    let dAlt := s.longestAt a.group a.chg value
    if lim.1 < pct * value && decide ((dAlt : Rat) < pct * a.dur) then s.finish a.tenant a.seq stOk [2, w32 lim.2]
    else s.finish a.tenant a.seq stOk [1, 0, limWord (lim.1 * scale), w32 dAlt]

/-! ## The tick's computation (R14, R141) -/

/-- Grants, limits, ramps and blocks of tick n, from its buffer. -/
def State.computeDispatch (s : State) (n : Nat) : State :=
  let s1 := forEach (List.range 64) s (fun s c => if s.chEnabled c then s.updateString c else s)
  let s2 := forEach (List.range 8) s1 (fun s g => s.checkGrant g n)
  let s3 := (forEach s2.disp.asks s2 (fun s a => s.evalBurst n a)).modDisp (fun d => { d with asks := [] })
  let s4 := forEach (List.range 8) s3 (fun s g =>
    let s1 := s.updateGroup g n
    s1.modGroup g (fun x => { x with ready := s1.groupBlock g }))
  s4.modDisp (fun d => { d with doneTick := some n })

/-- The digests of a digest tick go to the partner (R108). -/
def State.sendDigests (s : State) (n : Nat) : State :=
  if n % 1000 = 0 && !s.single && s.linkUp then
    s.emit (.agfin "DIGESTS" ([hiWord n, loWord n] ++ (List.range 64).map (fun c => (s.tile c).digest)))
  else s

/-- TICK_SUMMARY_FLIP (R16, R17, R97, R141): at +1.500 ms the buffers exchange; the Keeper computes the limits. -/
def execTickSummaryFlip (s : State) : Outcome :=
  evtOff s 500000 (fun s =>
    if !s.up 41 || s.tickNo = 0 then s
    else
      let n := s.tickNo - 1
      let s1 := (forEach (List.range 64) (s.flipBuffers n) (fun s c => s.stageLedger c)).sendDigests n
      if s1.keeperUp then s1.computeDispatch n else s1)

/-- GRANT_END (R150): a grant reaches its end tick. -/
def execGrantEnd (g : Fin 8) (s : State) : Outcome :=
  evt0 s (fun s =>
    match (s.group g).grant with
    | some x => if x.endTick ≤ s.tickNo then s.modGroup g (fun y => { y with grant := none }) else s
    | none => s)

/-! ## The emergency override (R151, R152) -/

/-- An OVERRIDE entry: the state, the plant SOC_MIN word and the plant V_MIN word. -/
def State.ovrRecord (s : State) : State :=
  s.record 0x13 0x01 127 [w32 s.disp.ovr.code, s.readBuf.plant.getD 6 0, s.readBuf.plant.getD 2 0]

/-- Enter an override state. IN_FORCE and ENDING make an entry; ENDING cuts every grant. -/
def State.enterOvr (s : State) (o : OvrState) : State :=
  let s1 := s.modDisp (fun d => { d with ovr := o, ovrAt := s.now, lastOvrRecord := if o == .inForce then s.now else d.lastOvrRecord })
  match o with
  | .inForce => s1.ovrRecord
  | .ending => s1.ovrRecord.cutAll
  | _ => s1

/-- The state that X36.EOV as it stands now leads to on a module that runs the plant (R151): at its edges, and where
the module comes to run the plant. -/
def State.meetEov (s : State) : State :=
  if !s.runsPlant || !s.keeperUp then s
  else match s.disp.ovr, s.disp.eov with
    | .normal, true => s.enterOvr .armedInput
    | .armedCommand, true => s.enterOvr .inForce
    | .armedInput, false => s.enterOvr .normal
    | .inForce, false => s.enterOvr .ending
    | _, _ => s

/-- EOV_ASSERT: the filtered input is energised. -/
def execEovAssert (time : Nat) (s : State) : Outcome :=
  evt s time (fun s => (s.modDisp (fun d => { d with eov := true })).meetEov)

/-- EOV_RELEASE: the filtered input is released. -/
def execEovRelease (time : Nat) (s : State) : Outcome :=
  evt s time (fun s => (s.modDisp (fun d => { d with eov := false })).meetEov)

/-- OVERRIDE_LAPSE: ARMED_COMMAND lapses after 10 s without EOV. -/
def execOverrideLapse (time : Nat) (s : State) : Outcome :=
  evt s time (fun s =>
    if s.disp.ovr == .armedCommand && decide (s.disp.ovrAt + 10000000000 ≤ s.now) then s.enterOvr .normal else s)

/-- OVERRIDE_ENDING_END: 500 ms after entry into ENDING. -/
def execOverrideEndingEnd (time : Nat) (s : State) : Outcome :=
  evt s time (fun s =>
    if s.disp.ovr == .ending && decide (s.disp.ovrAt + 500000000 ≤ s.now) then
      s.enterOvr (if s.disp.eov then .armedInput else .normal)
    else s)

/-- OVERRIDE_RECORD: every 60 s in IN_FORCE. -/
def execOverrideRecord (time : Nat) (s : State) : Outcome :=
  evt s time (fun s =>
    if s.disp.ovr == .inForce && decide (s.disp.lastOvrRecord + 60000000000 ≤ s.now) then
      (s.modDisp (fun d => { d with lastOvrRecord := s.now })).ovrRecord
    else s)

/-! ## Opcodes of group 0x13 (R154) -/

/-- The refusal of a group number: above 7, or not configured. -/
def State.groupBad (s : State) (g : Nat) : Option Nat :=
  if 7 < g then some stOutOfRange else if !s.groupSet g then some (stRejected 0x50) else none

/-- DSP_READ. -/
def execDspRead (t : Fin 16) (r : Req) (s : State) : Outcome :=
  opcode s t r { opcode := 0x1301, len := lenIs 1 } (fun s =>
    let g := fieldOf (r.w 2) 7 0
    match s.groupBad g with
    | some st => (s, no st)
    | none => (s, .reply stOk (s.group g).block))

/-- BURST_REQUEST (R149): evaluated at the next tick. -/
def execBurstRequest (t : Fin 16) (r : Req) (s : State) : Outcome :=
  opcode s t r { opcode := 0x1302, len := lenIs 3 } (fun s =>
    let g := fieldOf (r.w 2) 7 0
    let d := fieldOf (r.w 4) 15 0
    if 7 < g then (s, no stOutOfRange)
    else if !s.runsPlant then (s, no (stRejected 0x53))
    else if !s.groupSet g then (s, no (stRejected 0x50))
    else if d < 10 ∨ 6000 < d then (s, no (stRejected 0x51))
    else if !flt 0 (r.w 3) || !ffinite (r.w 3) then (s, no (stRejected 0x52))
    else
      (s.modDisp (fun x =>
        { x with asks := x.asks ++ [{ tenant := t, seq := r.seq, group := g, chg := bitOf (r.w 2) 8,
                                      kw := bitOf (r.w 2) 9, value := r.w 3, dur := d }] }), .later))

/-- BURST_CANCEL. -/
def execBurstCancel (t : Fin 16) (r : Req) (s : State) : Outcome :=
  opcode s t r { opcode := 0x1303, len := lenIs 1 } (fun s =>
    let g := fieldOf (r.w 2) 7 0
    if 7 < g then (s, no stOutOfRange)
    else if !s.runsPlant then (s, no (stRejected 0x53))
    else if !s.groupSet g then (s, no (stRejected 0x50))
    else match (s.group g).grant with
      | some x => if x.tenant = t then (s.modGroup g (fun y => { y with grant := none }), ok) else (s, no (stRejected 0x54))
      | none => (s, no (stRejected 0x54)))

/-- OVERRIDE start or end (R151). -/
def overrideBody (r : Req) (s : State) : State × Answer :=
  if !s.runsPlant then (s, no (stRejected 0x53))
  else
    let s1 :=
      if bitOf (r.w 2) 0 then
        match s.disp.ovr with
        | .normal => s.enterOvr .armedCommand
        | .armedInput => s.enterOvr .inForce
        | .armedCommand => s.modDisp (fun d => { d with ovrAt := s.now })
        | _ => s
      else
        match s.disp.ovr with
        | .armedCommand => s.enterOvr .normal
        | .inForce => s.enterOvr .ending
        | _ => s
    (s1, .reply stOk [w32 s1.disp.ovr.code])

/-- OVERRIDE with W2[0] = 1. -/
def execOverrideStart (t : Fin 16) (r : Req) (s : State) : Outcome :=
  opcode s t r { opcode := 0x1304, len := lenIs 1 } (overrideBody r)

/-- OVERRIDE with W2[0] = 0. -/
def execOverrideEnd (t : Fin 16) (r : Req) (s : State) : Outcome :=
  opcode s t r { opcode := 0x1304, len := lenIs 1 } (fun s => overrideBody r s)

/-- DSP_KEY_WRITE (R147, R422): on the module that runs the plant the key also goes to the partner. -/
def execDspKeyWrite (t : Fin 16) (r : Req) (s : State) : Outcome :=
  opcode s t r { opcode := 0x1305, role := 1, len := fun ws => ws.length == 5 || ws.length == 9 } (fun s =>
    let k := (r.w 2).toNat
    let key := r.payload.drop 1
    if k ≠ 1 ∧ k ≠ 2 then (s, no stOutOfRange)
    else if key.length ≠ 4 * k then (s, no stBadLength)
    else
      let s1 := s.modDisp (fun d => { d with keyKind := k, key := key })
      (if !s.single && s.runsPlant && s.linkUp then s1.emit (.agfin "DSP_KEY" (w32 k :: key)) else s1, ok))

/-- DSP_KEY_RECEIVED (R422): the partner's key arrives over the Agfin link. -/
def execDspKeyReceived (kind : Nat) (key : List Word) (s : State) : Outcome :=
  evt0 s (fun s =>
    if s.single || !s.linkUp || s.runsPlant then s else s.modDisp (fun d => { d with keyKind := kind, key := key }))

/-- DSP_STRING_READ: unramped limits in the order of R147, and eight bound codes, four bits each from bit 0. -/
def execDspStringRead (t : Fin 16) (r : Req) (s : State) : Outcome :=
  opcode s t r { opcode := 0x1306, len := lenIs 1 } (fun s =>
    let c := fieldOf (r.w 2) 7 0
    if 63 < c then (s, no stOutOfRange)
    else
      let l := s.strLimits.get c
      let v : Rat := ((((s.readBuf.strings.get c).getD 14 0).toNat : Nat) : Rat) / 20
      (s, .reply stOk ((List.range 8).map (fun i => limWord (l.amps.getD i 0 * v / 1000)) ++
        (List.range 8).map (fun i => limWord (l.amps.getD i 0)) ++
        [packWord ((List.range 8).map (fun i => (4 * i, l.codes.getD i 0)))])))

end Sys2Proof.Machine
end

