-- ==== Sys2Proof/Machine/Mirror.lean ====
section
/-! DEFINITION. What the module that runs the plant sends to its partner's mirror (R251, R252, R256). -/

namespace Sys2Proof.Machine

/-- The base addresses of R193. -/
def baseData : Nat := 0x10000000
def baseRetain : Nat := 0x20000000
def baseImage : Nat := 0x30000000
def baseOut : Nat := 0x30008000

/-- The bytes of a region. -/
def Memory.region (m : Memory) (lo size : Nat) : Memory := m.restrict (fun a => decide (lo ≤ a ∧ a < lo + size))

/-- Bytes of the retained region of partition p. -/
def State.retainBytes (s : State) (p : Nat) : Nat := s.parN 0x03 p 7 * 1024

/-- The mirror set of partition p (R252). -/
def State.partMirror (s : State) (p : Nat) : PartMirror :=
  let x := s.part p
  { retained := Memory.region x.mem baseRetain (s.retainBytes p)
    data := Memory.region x.mem baseData (s.parN 0x40 (0x10 + p) 0 * 1024)
    output := Memory.region x.mem baseOut 0x2000
    forces := x.forces, state := x.state, cycle := x.sysCycle }

/-! ### Blocks (R251) -/

/-- The three memories of a partition set as one, by native address. -/
def PartMirror.memory (m : PartMirror) : Memory := m.data ++ m.retained ++ m.output

/-- The partition set with the memories that one holds; `rest` gives everything else. -/
def PartMirror.ofMemory (m : Memory) (rest : PartMirror) : PartMirror :=
  { rest with
    data := m.restrict (fun a => decide (a < baseRetain))
    retained := m.restrict (fun a => decide (baseRetain ≤ a ∧ a < baseImage))
    output := m.restrict (fun a => decide (baseImage ≤ a)) }

/-- The bytes of block b. -/
def blockBytes (m : Memory) (b : Nat) : List Byte := (List.range 64).map (fun i => m.read (64 * b + i))

/-- The 64-byte blocks in which two memories differ, with the bytes of the new one. -/
def changedBlocks (old new : Memory) : List (Nat × List Byte) :=
  (((old ++ new).map (fun c => c.1 / 64)).eraseDups.filter (fun b => blockBytes old b != blockBytes new b)).map
    (fun b => (b, blockBytes new b))

/-- A memory with blocks laid over it. -/
def layBlocks (m : Memory) (l : List (Nat × List Byte)) : Memory :=
  l.foldl (fun m b => (List.range 64).foldl (fun m i => m.write (64 * b.1 + i) (b.2.getD i 0)) m) m

/-- The CRC-32C of the blocks' bytes, in their order (log entry 96). -/
def blocksCrc (l : List (Nat × List Byte)) : Word := crc32cBits (l.flatMap (fun b => b.2.flatMap (fun v => bitsMsb 8 v.toNat)))

/-- A set without its memories. -/
def MirrorBody.bare : MirrorBody → MirrorBody
  | .part p m => .part p (PartMirror.ofMemory [] m)
  | b => b

/-- The memories of a set; those of a set that is none of a partition, and of no set, are empty. -/
def memoryOf : Option MirrorBody → Memory
  | some (.part _ m) => PartMirror.memory m
  | _ => []

/-- The delta from a set's content before to its content now (R251). -/
def deltaOf (num base : Nat) (old : Option MirrorBody) (new : MirrorBody) : Delta :=
  let blocks := changedBlocks (memoryOf old) (memoryOf (some new))
  { num := num, base := base, body := MirrorBody.bare new, blocks := blocks, crc := blocksCrc blocks }

/-- The content of a set with a delta applied (R251). -/
def Delta.apply (d : Delta) (old : Option MirrorBody) : MirrorBody :=
  match d.body with
  | .part p m => .part p (PartMirror.ofMemory (layBlocks (memoryOf old) d.blocks) m)
  | b => b

/-- A snapshot of a set: the whole of it. -/
def snapshotOf (num : Nat) (body : MirrorBody) : Delta := { num := num, base := num, body := body }

/-- The chains and positions of the configuration. -/
def State.allPositions (s : State) : List (Nat × Nat) :=
  (List.range 64).flatMap (fun c => (List.range (s.chPositions c)).map (fun p => (c, p + 1)))

/-- The Keeper mirror set (R252). -/
def State.keeperMirror (s : State) : KeeperMirror :=
  { strings := (List.range 64).map (fun c =>
      { chain := c, state := (s.str c).state, firstCause := (s.str c).firstCause, action := (s.str c).action
        contactor := (s.str c).lastContactor, openingAt := (s.str c).openingAt })
    grants := (List.range 8).filterMap (fun g => (s.group g).grant.map (fun x => (g, x)))
    nextGrant := s.disp.nextGrant
    ovr := s.disp.ovr
    groups := (List.range 8).map (fun g => (g, (s.group g).pub))
    ramps := (List.range 8).map (fun g => (g, (s.group g).ramp))
    ptoLatches := (List.range 8).map (fun k => (k, (s.pto k).latched))
    masks := s.allPositions.filterMap (fun cp =>
      match (((s.tile cp.1).bleed.get cp.2).hist).head? with
      | some (e, m, stop) => some (cp.1, cp.2, e, m, stop)
      | none => none)
    imped := s.allPositions.filterMap (fun cp => ((s.tile cp.1).imped.get cp.2).map (fun i => (cp.1, cp.2, i)))
    lockHeld := s.cfg.lock.isSome
    decisions := (List.range 64).filterMap (fun c => (s.chain c).decided.map (fun d => (c, d.1, d.2))) }

/-- The loop and valve records (R252): owned slots that are not OFF, and owned ports. -/
def State.loopMirror (s : State) : LoopMirror :=
  { slots := ((List.range 64).filter (fun i => decide (s.ownLoop i < 12) && (s.loop i).state != .off)).map (fun i =>
      let x := s.loop i
      { slot := i, integ := x.i, d := x.d, notch := x.notch, r := x.r, v := x.v, a := x.a, sample := x.at_ })
    valves := ((List.range 16).filter (fun v => decide (s.ownValve (v + 1) < 12))).map (fun v =>
      (v + 1, (s.valve (v + 1)).phase)) }

/-- The body of a mirror set: 0 to 11 partitions, 12 the Keeper set, 13 loop and valve records. -/
def State.mirrorBody (s : State) (set : Nat) : MirrorBody :=
  if set < 12 then .part set (s.partMirror set)
  else if set = 12 then .keeper s.keeperMirror else .loops s.loopMirror

/-- The module sends to a partner that follows, over a link that is up. -/
def State.mirrors (s : State) : Bool := !s.single && s.runsPlant && s.linkUp && s.partnerFollows

/-- A point of consistency of a set: the next delta leaves, with what changed since the one before (R251). In Newt mode
partition sets have none (R256). -/
def State.sendDelta (s : State) (set : Nat) : State :=
  if s.mirrors && (decide (12 ≤ set) || s.pair.mode != 2) then
    let m := s.pair.sets.get set
    let body := s.mirrorBody set
    let num := (m.last + 1) % 2 ^ 32
    ({ s with pair := { s.pair with sets := s.pair.sets.set set { m with last := num, sent := some body } } }).emit
      (.mirror (deltaOf num m.last m.sent body) false)
  else s

/-- A snapshot of a set leaves (R251, R256). -/
def State.sendSnapshot (s : State) (set : Nat) : State :=
  if s.mirrors then
    let m := s.pair.sets.get set
    s.emit (.mirror (snapshotOf m.last (s.mirrorBody set)) true)
  else s

/-- A snapshot of Newt mode that waited for the end of the cycle leaves (R256). -/
def State.newtAtEnd (s : State) (p : Nat) : State :=
  if (s.part p).newtDue then (s.modPart p (fun x => { x with newtDue := false })).sendSnapshot p else s

end Sys2Proof.Machine
end

