-- ==== Sys2Proof/Machine/Can.lean ====
section
/-! DEFINITION. The CAN FD controllers (R345 to R362). Controllers are numbered 0 to 7 here, as their pages
and parameter instances are. -/

namespace Sys2Proof.Machine

/-- Field f of object o (R361). -/
def State.objPar (s : State) (k o f : Nat) : Word := s.par (paddr 0x22 k (0x100 + 16 * o + f))

def State.objOn (s : State) (k o : Nat) : Bool := bitOf (s.objPar k o 0) 31
def State.objKind (s : State) (k o : Nat) : Nat := (s.objPar k o 1).toNat
def State.objLen (s : State) (k o : Nat) : Nat := (s.objPar k o 2).toNat
def State.objFdf (s : State) (k o : Nat) : Bool := bitOf (s.objPar k o 3) 0
def State.objOwner (s : State) (k o : Nat) : Nat := (s.objPar k o 8).toNat

/-- The controller is on the bus: ERROR_ACTIVE or ERROR_PASSIVE, and D46 is up. -/
def State.canLive (s : State) (k : Nat) : Bool := decide ((s.can k).state ≤ 1) && s.unitUp 46

/-- Bus monitoring mode (R359): on a module of a Pair that does not run the plant. -/
def State.canMonitor (s : State) (k : Nat) : Bool := decide ((s.can k).state ≠ 3) && !s.runsPlant

/-- CAN_PG_STATE, which is also CAN_STATE (R350). -/
def State.canStateWord (s : State) (k : Nat) : Word :=
  let x := s.can k
  packWord [(0, x.state), (2, b2n x.recovering), (3, b2n (s.canMonitor k)), (8, min 255 x.tec), (16, min 255 x.recCnt)]

/-- Configured objects and pending frames: the cells the controller holds (R360). -/
def State.canCells (s : State) (k : Nat) : Nat :=
  ((List.range 64).map (fun o => b2n (s.objOn k o) + b2n ((s.can k).objs.get o).pend.isSome)).sum + (s.can k).dispatch.length

/-- The controller's pool channel holds what it uses. -/
def State.syncCells (s : State) (k : Nat) : State := { s with pool := s.pool.setHeld k (s.canCells k) }

/-- Change object o. -/
def State.modObj (s : State) (k o : Nat) (f : CanObj → CanObj) : State :=
  s.modCan k (fun x => { x with objs := x.objs.modify o f })

/-! ## Error confinement (R357, R358) -/

/-- Every pending frame is discarded. -/
def State.canDrop (s : State) (k : Nat) : State :=
  (s.modCan k (fun x =>
    { x with objs := x.objs.map (fun e => (e.1, { e.2 with pend := none })), dispatch := [] })).syncCells k

/-- A change of state sets source 104 + c of every view and is recorded (R357). -/
def State.canTo (s : State) (k st : Nat) : State :=
  if (s.can k).state = st then s
  else
    let s1 := s.modCan k (fun x =>
      { x with state := st, busOff := if st = 2 then (x.busOff + 1) % 2 ^ 32 else x.busOff })
    let x := s1.can k
    let s2 := (s1.eventAll (104 + k)).record 0x22 0x01 k [w32 st, w32 (min 255 x.tec), w32 (min 255 x.recCnt)]
    doIf (st == 2) s2 (fun s => s.canDrop k)

/-- The state that the counters give (R357). -/
def State.canCount (s : State) (k : Nat) : State :=
  let x := s.can k
  s.canTo k (if 255 < x.tec then 2 else if 127 < x.tec ∨ 127 < x.recCnt then 1 else 0)

/-- CAN_BUS_ERROR (R357): the counters rise as ISO 11898-1 counts (PRESUMED: +1 or +8); in bus monitoring
mode both stay at 0 (R359). -/
def execCanBusError (k : Fin 8) (err : CanErr) (time : Nat) (s : State) : Outcome :=
  evt s time (fun s =>
    if s.canLive k && !s.canMonitor k then
      (s.modCan k (fun x =>
        match err with
        | .rxError => { x with recCnt := x.recCnt + 1 }
        | .rxDominantAfterFlag => { x with recCnt := x.recCnt + 8 }
        | .txError | .txDominantRun => { x with tec := x.tec + 8 })).canCount k
    else s)

/-- A good reception lowers the receive counter; above 127 it becomes a value from 119 to 127 that ISO
11898-1 leaves open (log entry 2). -/
def State.canRxGood (s : State) (k : Nat) : State :=
  let n := (s.can k).recCnt
  if n = 0 then s
  else if n ≤ 127 then (s.modCan k (fun x => { x with recCnt := n - 1 })).canCount k
  else ((s.modCan k (fun x => { x with recCnt := 119 + s.freeWord.toNat % 9 })).tookFree).canCount k

/-! ## Reception (R348, R349, R360) -/

/-- The receive object of a frame: its identifier, IDE and FDF, and a length of at most OBJ_LEN. -/
def State.rxObject (s : State) (k : Nat) (f : CanFrame) : Option Nat :=
  (List.range 64).find? (fun o =>
    let w := s.objPar k o 0
    bitOf w 31 && s.objKind k o == 0 && fieldOf w 28 0 == f.id && bitOf w 29 == f.ide &&
      s.objFdf k o == f.fdf && decide (f.data.length ≤ s.objLen k o))

/-- A store counts in every view (R349). -/
def countUnread (m : Map Nat) (o : Nat) : Map Nat :=
  (List.range 12).foldl (fun m p => m.modify (p * 64 + o) (fun n => min 255 (n + 1))) m

/-- Store a frame in object o. -/
def State.canStore (s : State) (k o : Nat) (f : CanFrame) : State :=
  let s1 := s.modObj k o (fun x =>
    { x with data := f.data, esi := f.esi, brs := f.brs, fdf := f.fdf, ts := w32 (f.sof / 1000) })
  let s2 := s1.modCan k (fun x => { x with unread := countUnread x.unread o })
  doIf (bitOf (s.objPar k o 4) 0) s2 (fun s => s.eventAll (96 + k))

/-- CAN_FRAME_RECEIVED (R348): stored in its object, or discarded and counted; a remote frame is discarded
(R345). A frame for which the pool refuses a cell is not stored (R360). -/
def execCanFrameReceived (k : Fin 8) (f : CanFrame) (time : Nat) (s : State) : Outcome :=
  evt s time (fun s =>
    if !s.canLive k then s
    else
      let s1 := if s.canMonitor k then s else s.canRxGood k
      if f.remote then s1
      else if !s1.poolCan k 1 then
        (s1.modCan k (fun x => { x with poolRefused := (x.poolRefused + 1) % 2 ^ 32 })).poolRefuse k
      else
        match s1.rxObject k f with
        | some o => s1.canStore k o f
        | none => s1.modCan k (fun x => { x with rxUnmatched := (x.rxUnmatched + 1) % 2 ^ 32 }))

/-- The page offset of a receive object's data divided by 16 (R350); transmit objects read 0. -/
def State.objOffset (s : State) (k o : Nat) : Nat :=
  if s.objKind k o = 0 then
    0x40 + ((List.range o).map (fun j =>
      if s.objOn k j && s.objKind k j == 0 then (s.objLen k j + 15) / 16 else 0)).sum
  else 0

/-- OBJ_INFO with an unread count (R350). -/
def State.objInfo (s : State) (k o unread : Nat) : Word :=
  let x := (s.can k).objs.get o
  if !s.objOn k o then 0
  else
    packWord [(0, x.data.length % 128), (8, b2n (decide (1 ≤ unread))), (9, b2n (decide (2 ≤ unread))), (10, b2n x.esi),
      (11, b2n x.brs), (12, b2n x.fdf), (13, b2n (s.objKind k o == 0)), (16, unread), (24, s.objOffset k o % 256)]

/-- Byte a of the data area (R350): of a receive object's frame, 0 beyond its length. -/
def State.canByte (s : State) (k a : Nat) : Byte :=
  match (List.range 64).find? (fun o =>
    let lo := 16 * s.objOffset k o - 0x400
    s.objOn k o && s.objKind k o == 0 && decide (lo ≤ a ∧ a < lo + (s.objLen k o + 15) / 16 * 16)) with
  | some o => ((s.can k).objs.get o).data.getD (a - (16 * s.objOffset k o - 0x400)) 0
  | none => 0

/-- 32 bits of the UNREAD counts of partition p from object lo: those of at least n. -/
def State.unreadWord (s : State) (p k lo n : Nat) : Word :=
  packWord ((List.range 32).map (fun i => (i, b2n (decide (n ≤ (s.can k).unread.get (p * 64 + lo + i))))))

/-- What a read of partition p's page of controller k returns at a word offset, other than OBJ_ACK, whose read acknowledges
(OBJ_ACK_READ); a word of the data area has its first byte in [7:0], as the partition's memory has (R350). -/
def State.canRead (s : State) (p k off : Nat) : Word :=
  if off = 0x000 then packWord [(16, 0x4346), (8, 1), (0, k + 1)]
  else if off = 0x004 then s.canStateWord k
  else if off = 0x008 then s.unreadWord p k 0 1
  else if off = 0x00C then s.unreadWord p k 32 1
  else if off = 0x010 then s.unreadWord p k 0 2
  else if off = 0x014 then s.unreadWord p k 32 2
  else if off = 0x018 then w32 (s.now / 1000)
  else if off = 0x01C then w32 ((s.can k).lostTotal.get p)
  else if 0x100 ≤ off ∧ off < 0x300 then
    let o := (off - 0x100) / 8
    if off % 8 = 0 then s.objInfo k o ((s.can k).unread.get (p * 64 + o)) else ((s.can k).objs.get o).ts
  else if 0x400 ≤ off ∧ off < 0x1000 then
    packWord ((List.range 4).map (fun i => (8 * i, (s.canByte k (off - 0x400 + i)).toNat)))
  else 0

/-- OBJ_ACK_READ (R349): OBJ_INFO as it stood, and the object is acknowledged in this view. -/
def execObjAckRead (p : Fin 12) (k : Fin 8) (o : Fin 64) (s : State) : Outcome :=
  evt0 s (fun s =>
    let n := (s.can k).unread.get (p * 64 + o)
    (s.emit (.read (s.objInfo k o n))).modCan k (fun x =>
      { x with
        lostTotal := if 2 ≤ n then x.lostTotal.modify p (fun m => (m + n - 1) % 2 ^ 32) else x.lostTotal
        unread := x.unread.set (p * 64 + o) 0 }))

/-! ## Transmission (R354, R355) -/

/-- The data of a transmit object: the first OBJ_LEN bytes of its output image entry (R354). -/
def State.txData (s : State) (k o : Nat) : List Byte :=
  let base := 0x30009000 + 64 * (s.objPar k o 7).toNat
  (List.range (s.objLen k o)).map (fun i => (s.part (s.objOwner k o)).mem.read (base + i))

/-- The object is due in this bus cycle of its owner (R354). -/
def State.txDue (s : State) (k o : Nat) (data : List Byte) : Bool :=
  let x := (s.can k).objs.get o
  if s.objKind k o = 1 then decide ((s.part (s.objOwner k o)).busCount % (s.objPar k o 5).toNat = 0)
  else
    let rf := (s.objPar k o 6).toNat
    x.lastData != some data || decide (rf ≠ 0 ∧ x.lastAt + rf * 1000000 ≤ s.now)

/-- Queue a transmit object: the data of a pending frame are replaced, a new frame takes a cell (R355, R360). -/
def State.txQueue (s : State) (k o : Nat) (data : List Byte) : State :=
  let put := fun (x : CanObj) =>
    { x with
      data := data, lastData := some data, lastAt := s.now
      fdf := s.objFdf k o, brs := bitOf (s.objPar k o 3) 1
      pend := match x.pend with
        | some (t0, vs) => some (t0, (data, s.now) :: vs)
        | none => some (s.now, [(data, s.now)]) }
  if ((s.can k).objs.get o).pend.isSome then s.modObj k o put
  else if s.poolCan k 1 then (s.modObj k o put).syncCells k
  else (s.modCan k (fun x => { x with txLate := (x.txLate + 1) % 2 ^ 32 })).poolRefuse k

/-- Step 2 of partition p's bus cycle: its time-triggered frames are queued (R19, R354). -/
def State.canBusCycle (s : State) (p : Nat) : State :=
  forEach (List.range 8) s (fun s k =>
    if !s.canLive k || s.canMonitor k then s
    else
      forEach (List.range 64) s (fun s o =>
        if s.objOn k o && s.objKind k o != 0 && s.objOwner k o == p then
          let d := s.txData k o
          if s.txDue k o d then s.txQueue k o d else s
        else s))

/-- The frame that a transmission which started at `sof` carried, and what stays queued behind it (R355). -/
def splitPend (sof : Nat) (vs : List (List Byte × Nat)) : Option (List Byte) × Option (Nat × List (List Byte × Nat)) :=
  let later := vs.filter (fun e => decide (sof < e.2))
  ((vs.find? (fun e => decide (e.2 ≤ sof))).map (fun e => e.1),
   match later.getLast? with
   | some e => some (e.2, later)
   | none => none)

/-- A good transmission lowers the transmit counter (ISO 11898-1, PRESUMED). -/
def State.canTxGood (s : State) (k : Nat) : State :=
  (s.modCan k (fun x => { x with tec := x.tec - 1 })).canCount k

/-- A frame that was in transmission when bus monitoring began is completed (R359). -/
def State.canComplete (s : State) (k : Nat) (o : Option (Fin 64)) (sof : Nat) : State :=
  match o with
  | none =>
    match (s.can k).leaving with
    | some (a, f :: _) => if sof < a then (s.modCan k (fun x => { x with leaving := none })).emit (.can k { f with sof := sof }) else s
    | _ => s
  | some o =>
    match ((s.can k).objs.get o).leaving with
    | none => s
    | some (a, vs) =>
      match vs.find? (fun e => decide (e.2 ≤ sof)) with
      | none => s
      | some (d, _) =>
        let w := s.objPar k o 0
        let f : CanFrame :=
          { id := fieldOf w 28 0, ide := bitOf w 29, fdf := s.objFdf k o, brs := bitOf (s.objPar k o 3) 1, data := d, sof := sof }
        if sof < a then (s.modObj k o (fun x => { x with leaving := none, ts := w32 (sof / 1000) })).emit (.can k f) else s

/-- CAN_TX_DONE (R353): of an object, or of the dispatch frame at the front (none). CAN_TDC_NS takes the
measured loop delay of a frame with bit-rate switching (R347). -/
def execCanTxDone (k : Fin 8) (o : Option (Fin 64)) (sof : Nat) (tdcNs : Option Nat) (time : Nat) (s : State) : Outcome :=
  evt s time (fun s =>
    if !s.canLive k then s
    else if s.canMonitor k then s.canComplete k o sof
    else
      let s0 := match tdcNs with
        | some n => if s.parB 0x22 k 0xA then s.modCan k (fun x => { x with tdcNs := n % 1024 }) else s
        | none => s
      match o with
      | none =>
        match (s.can k).dispatch with
        | [] => s
        | f :: rest =>
          (((s0.modCan k (fun x => { x with dispatch := rest })).syncCells k).emit (.can k { f with sof := sof })).canTxGood k
      | some o =>
        match ((s.can k).objs.get o).pend with
        | none => s
        | some (_, vs) =>
          match splitPend sof vs with
          | (none, _) => s
          | (some d, rest) =>
            let w := s.objPar k o 0
            let f : CanFrame :=
              { id := fieldOf w 28 0, ide := bitOf w 29, fdf := s.objFdf k o, brs := bitOf (s.objPar k o 3) 1
                data := d, sof := sof }
            (((s0.modObj k o (fun x => { x with pend := rest, ts := w32 (sof / 1000) })).syncCells k).emit
              (.can k f)).canTxGood k)

/-- The frame of an object is not sent within CAN_TX_TMO_MS of being queued. -/
def State.canLate (s : State) (k o : Nat) : State :=
  match ((s.can k).objs.get o).pend with
  | none => s
  | some (t0, _) =>
    if t0 + s.parN 0x22 k 0xD * 1000000 ≤ s.now then
      ((s.modObj k o (fun x => { x with pend := none })).modCan k (fun x =>
        { x with txLate := (x.txLate + 1) % 2 ^ 32 })).syncCells k
    else s

/-- The dispatch frames that have waited as long. -/
def State.canDispLate (s : State) (k : Nat) : State :=
  let x := s.can k
  let late := fun (f : CanFrame) => decide (x.dispAt.get f.id + s.parN 0x22 k 0xD * 1000000 ≤ s.now)
  (s.modCan k (fun x =>
    { x with
      dispatch := x.dispatch.filter (fun f => !late f)
      txLate := (x.txLate + (x.dispatch.filter late).length) % 2 ^ 32 })).syncCells k

/-- CAN_TX_TIMEOUT (R355): of an object, or of the dispatch frames (none). -/
def execCanTxTimeout (k : Fin 8) (o : Option (Fin 64)) (time : Nat) (s : State) : Outcome :=
  evt s time (fun s => match o with | some o => s.canLate k o | none => s.canDispLate k)

/-- CAN_RECOVERY_DONE (R358). -/
def execCanRecoveryDone (k : Fin 8) (time : Nat) (s : State) : Outcome :=
  evt s time (fun s =>
    if (s.can k).recovering && s.unitUp 46 then
      (s.modCan k (fun x => { x with recovering := false, tec := 0, recCnt := 0 })).canTo k 0
    else s)

/-- The controller takes its configuration up: on the bus while CAN_ENABLE = 1 and D46 is up, otherwise OFF. -/
def State.canConfigure (s : State) (k : Nat) : State :=
  let on := s.parB 0x22 k 0 && s.unitUp 46
  let s1 :=
    if on && (s.can k).state == 3 then
      s.modCan k (fun x => { x with state := 0, tec := 0, recCnt := 0, recovering := false })
    else if !on && (s.can k).state != 3 then
      (s.canDrop k).modCan k (fun x => { x with state := 3, recovering := false, tec := 0, recCnt := 0 })
    else s
  s1.syncCells k

/-- Bus monitoring begins: pending frames are discarded and both counters stay at 0, so that a controller on the bus
is ERROR_ACTIVE; a frame in transmission is completed (R357, R359). -/
def State.canToMonitor (s : State) (k : Nat) : State :=
  if (s.can k).state = 3 then s
  else
    let s0 := s.modCan k (fun x =>
      { x with
        leaving := some (s.now, x.dispatch)
        objs := x.objs.map (fun (e : Nat × CanObj) => (e.1, { e.2 with leaving := e.2.pend.map (fun q => (s.now, q.2)) })) })
    let s1 := (s0.canDrop k).modCan k (fun x => { x with tec := 0, recCnt := 0 })
    doIf ((s1.can k).state == 1) s1 (fun s => s.canTo k 0)

/-! ## Opcodes (R362) -/

/-- The controller of a payload, W2[3:0], 1 to 8, as its index. -/
def canOf (r : Req) : Option Nat :=
  let k := fieldOf (r.w 2) 3 0
  if 1 ≤ k ∧ k ≤ 8 then some (k - 1) else none

/-- CAN_STATUS. -/
def execCanStatus (t : Fin 16) (r : Req) (s : State) : Outcome :=
  opcode s t r { opcode := 0x2201, len := lenIs 1 } (fun s =>
    match canOf r with
    | none => (s, no stOutOfRange)
    | some k =>
      let x := s.can k
      (s, .reply stOk [s.canStateWord k, w32 x.rxUnmatched, w32 x.poolRefused, w32 x.txLate, w32 x.busOff, w32 x.tdcNs]))

/-- CAN_RECOVER (R358). -/
def execCanRecover (t : Fin 16) (r : Req) (s : State) : Outcome :=
  opcode s t r { opcode := 0x2202, role := 1, len := lenIs 1, active := true } (fun s =>
    match canOf r with
    | none => (s, no stOutOfRange)
    | some k =>
      if (s.can k).state = 2 then (s.modCan k (fun x => { x with recovering := true }), ok)
      else (s, no (stRejected 0x10)))

/-- CAN_OBJ_READ: as seen by no view; no view is changed. -/
def execCanObjRead (t : Fin 16) (r : Req) (s : State) : Outcome :=
  opcode s t r { opcode := 0x2203, len := lenIs 1 } (fun s =>
    match canOf r with
    | none => (s, no stOutOfRange)
    | some k =>
      let o := fieldOf (r.w 2) 13 8
      let x := (s.can k).objs.get o
      (s, .reply stOk ([s.objInfo k o 0, x.ts] ++ packBytes x.data.length x.data)))

end Sys2Proof.Machine
end

