-- ==== Sys2Proof/Machine/Arith.lean ====
section
/-! DEFINITION. The arithmetic of partition programs (R229, R230): for every operation its result and
its flag. Bit 0 of a flag word is ARITH_OVF, bit 1 ARITH_DIV0, as SYS_CAUSE has them (R224). -/

namespace Sys2Proof

/-- A result (integers by value, REAL and LREAL by their bits) and its flags. -/
structure ArithRes where
  val : Int
  flags : Nat := 0
deriving DecidableEq, Repr

/-- MIN of a type. -/
def IntTy.min (ty : IntTy) : Int := if ty.signed then -(2 ^ (ty.width - 1) : Nat) else 0

/-- MAX of a type. -/
def IntTy.max (ty : IntTy) : Int := if ty.signed then (2 ^ (ty.width - 1) : Nat) - 1 else (2 ^ ty.width : Nat) - 1

/-- The w low bits of a value. -/
def IntTy.bits (ty : IntTy) (x : Int) : Nat := (x % (2 ^ ty.width : Nat)).toNat

/-- The value of a type that w bits stand for. -/
def IntTy.ofBits (ty : IntTy) (n : Nat) : Int :=
  if ty.signed && decide (2 ^ ty.width ≤ 2 * (n % 2 ^ ty.width)) then (n % 2 ^ ty.width : Int) - (2 ^ ty.width : Nat)
  else (n % 2 ^ ty.width : Nat)

/-- The result modulo 2^w, signed or unsigned as the type. -/
def IntTy.wrap (ty : IntTy) (x : Int) : Int := ty.ofBits (ty.bits x)

/-- ARITH_OVF. -/
def flagOvf : Nat := 1
/-- ARITH_DIV0. -/
def flagDiv0 : Nat := 2

/-- x / y for operands of the type (R230). -/
def arithDiv (ty : IntTy) (x y : Int) : ArithRes :=
  if y = 0 then { val := 0, flags := flagDiv0 }
  else if ty.signed = true ∧ x = ty.min ∧ y = -1 then { val := ty.min, flags := flagOvf }
  else { val := Int.tdiv x y }

/-- x MOD y (R230): the sign of x; MIN MOD −1 = 0. -/
def arithMod (x y : Int) : ArithRes :=
  if y = 0 then { val := 0, flags := flagDiv0 } else { val := Int.tmod x y }

/-- Negation (R230). -/
def arithNeg (ty : IntTy) (x : Int) : ArithRes :=
  if ty.signed = true ∧ x = ty.min then { val := ty.min, flags := flagOvf } else { val := ty.wrap (-x) }

/-- ABS (R230). -/
def arithAbs (ty : IntTy) (x : Int) : ArithRes := if x < 0 then arithNeg ty x else { val := x }

/-- SHRA (R230): the sign bit of the bit string fills. -/
def arithShra (ty : IntTy) (x : Int) (n : Nat) : ArithRes :=
  let v := IntTy.ofBits { ty with signed := true } (ty.bits x)
  { val := ty.wrap (if ty.width ≤ n then (if v < 0 then -1 else 0) else v / (2 ^ n : Nat)) }

/-- Rotation to the left by n modulo w (R230). -/
def arithRol (ty : IntTy) (x : Int) (n : Nat) : ArithRes :=
  let b := ty.bits x
  let k := n % ty.width
  { val := ty.ofBits (b * 2 ^ k + b / 2 ^ (ty.width - k)) }

/-- The format of REAL or LREAL. -/
def realFmt (wide : Bool) : Fmt := if wide then fLreal else fReal

/-- A signalling NaN, whose use is an invalid operation (IEEE 754). -/
def isSignalling (f : Fmt) (v : Nat) : Bool :=
  v / 2 ^ f.mb % 2 ^ f.eb == 2 ^ f.eb - 1 && v % 2 ^ f.mb != 0 && !Nat.testBit v (f.mb - 1)

/-- The value is an infinity. -/
def Fl.isInf : Fl → Bool
  | .inf _ => true
  | _ => false

/-- The value is a NaN. -/
def Fl.isNan : Fl → Bool
  | .nan => true
  | _ => false

/-- A REAL operation: the rounded result; ARITH_OVF on overflow to infinity or an invalid operation (R230). -/
def realOp (wide : Bool) (op : Fl → Fl → Fl) (x y : Nat) : ArithRes :=
  let f := realFmt wide
  let a := f.decode x
  let b := f.decode y
  let exact := op a b
  let bits := f.encode exact
  let invalid := (exact.isNan && !a.isNan && !b.isNan) || isSignalling f x || isSignalling f y
  let tooBig := (f.decode bits).isInf && !exact.isInf
  { val := bits, flags := if invalid || tooBig then flagOvf else 0 }

/-- REAL division: a divisor of 0.0 gives ±infinity, or NaN for 0.0 / 0.0, with ARITH_DIV0 (R230). -/
def realDivide (wide : Bool) (x y : Nat) : ArithRes :=
  let f := realFmt wide
  match f.decode y with
  | .num _ 0 _ => { val := f.encode (Fl.div (f.decode x) (f.decode y)), flags := flagDiv0 }
  | _ => realOp wide Fl.div x y

/-- REAL to integer (R230): to nearest even, or toward 0 with TRUNC; out of range MAX or MIN by sign, 0 for NaN. -/
def realToInteger (wide : Bool) (ty : IntTy) (trunc : Bool) (x : Nat) : ArithRes :=
  match (realFmt wide).decode x with
  | .nan => { val := 0, flags := flagOvf }
  | .inf neg => { val := if neg then ty.min else ty.max, flags := flagOvf }
  | .num neg n d =>
    let m : Nat := if trunc then n / d else roundNE n d
    let v : Int := if neg then -(m : Int) else m
    if v < ty.min then { val := ty.min, flags := flagOvf }
    else if ty.max < v then { val := ty.max, flags := flagOvf }
    else { val := v }

/-- A REAL operation of one operand, from one format into another: ARITH_OVF on overflow to infinity or an invalid
operation (R230). -/
def realUnary (src dst : Fmt) (op : Fl → Fl) (x : Nat) : ArithRes :=
  let a := src.decode x
  let exact := op a
  let bits := dst.encode exact
  let invalid := (exact.isNan && !a.isNan) || isSignalling src x
  let tooBig := (dst.decode bits).isInf && !exact.isInf
  { val := bits, flags := if invalid || tooBig then flagOvf else 0 }

/-- The sign bit of a REAL or an LREAL. -/
def realSign (wide : Bool) : Nat := 2 ^ (if wide then 63 else 31)

/-- Negation of a REAL or an LREAL: the sign alone changes (IEEE 754). -/
def realNegate (wide : Bool) (x : Nat) : ArithRes :=
  { val := if realSign wide ≤ x then ((x - realSign wide : Nat) : Int) else ((x + realSign wide : Nat) : Int) }

/-- ABS of a REAL or an LREAL: the sign is cleared (IEEE 754). -/
def realAbsolute (wide : Bool) (x : Nat) : ArithRes := { val := ((x % realSign wide : Nat) : Int) }

/-- An integer as a REAL or an LREAL, rounded to nearest even (R229). -/
def integerToReal (wide : Bool) (x : Int) : ArithRes :=
  { val := (realFmt wide).encode (.num (decide (x < 0)) x.natAbs 1) }

/-- SHL, SHR, SHRA and rotations take the unsigned bit pattern of their count (R230). -/
def IntTy.count (cty : IntTy) (n : Int) : Nat := cty.bits n

/-- SHL by n (R230). -/
def arithShl (ty : IntTy) (x : Int) (n : Nat) : ArithRes := { val := if ty.width ≤ n then 0 else ty.wrap (x * (2 ^ n : Nat)) }

/-- SHR by n (R230). -/
def arithShr (ty : IntTy) (x : Int) (n : Nat) : ArithRes := { val := if ty.width ≤ n then 0 else ty.ofBits (ty.bits x / 2 ^ n) }

/-- The result of an operation; integer operands are first taken in their type (R230). -/
def ArithOp.result : ArithOp → ArithRes
  | .add ty x y => { val := ty.wrap (x + y) }
  | .sub ty x y => { val := ty.wrap (x - y) }
  | .mul ty x y => { val := ty.wrap (x * y) }
  | .div ty x y => arithDiv ty (ty.wrap x) (ty.wrap y)
  | .mod ty x y => arithMod (ty.wrap x) (ty.wrap y)
  | .neg ty x => arithNeg ty (ty.wrap x)
  | .abs ty x => arithAbs ty (ty.wrap x)
  | .shl ty x cty n => arithShl ty x (cty.count n)
  | .shr ty x cty n => arithShr ty x (cty.count n)
  | .shra ty x cty n => arithShra ty x (cty.count n)
  | .rol ty x cty n => arithRol ty x (cty.count n)
  | .ror ty x cty n => arithRol ty x (ty.width - cty.count n % ty.width)
  | .narrow ty x => { val := ty.wrap x }
  | .realAdd wide x y => realOp wide Fl.add x y
  | .realSub wide x y => realOp wide (fun a b => Fl.add a b.neg) x y
  | .realMul wide x y => realOp wide Fl.mul x y
  | .realDiv wide x y => realDivide wide x y
  | .realToInt wide ty trunc x => realToInteger wide ty trunc x
  | .realSqrt wide x => realUnary (realFmt wide) (realFmt wide) Fl.sqrt x
  | .realNeg wide x => realNegate wide x
  | .realAbs wide x => realAbsolute wide x
  | .realConvert wide x => realUnary (realFmt wide) (realFmt (!wide)) id x
  | .intToReal wide ty x => integerToReal wide (ty.wrap x)

/-- The flags that a sequence of operations raises. -/
def arithFlags (ops : List ArithOp) : Nat := ops.foldl (fun acc o => acc ||| o.result.flags) 0

end Sys2Proof
end

