-- ==== Sys2Proof/Machine/Digital.lean ====
section
/-! DEFINITION. The field digital ports (R333 to R344). Inputs are numbered 1 to 64, outputs 1 to 32. -/

namespace Sys2Proof.Machine

/-! ## Outputs (R338 to R342) -/

/-- The supply group of an output, 0 to 3. -/
def doGroup (k : Nat) : Nat := (k - 1) / 8

/-- The driver of output k follows its transferred command: on only where the module drives its outputs
or holds them frozen, D45 is up, VSUP is good and no overload has switched it off (R338, R341). The pin
follows the driver (R340). -/
def State.driveDo (s : State) (k : Nat) : State :=
  let x := s.dout k
  let on := x.cmd && (s.runsPlant || s.isFrozen) && s.unitUp 45 && !s.vsupLow.get (doGroup k) && x.shutAt.isNone
  if on = x.on then s
  else s.modDo k (fun x => { x with on := on, readback := on, mismatch := x.mismatch && on != x.cmd })

/-- FDP_FAULT now (R342). -/
def State.fdpNow (s : State) : Bool :=
  (List.range 4).any (fun g => s.vsupLow.get g) ||
  (List.range 32).any (fun i =>
    let x := s.dout (i + 1)
    (x.shutAt.isSome && x.cmd) || (x.mismatch && s.runsPlant))

/-- FDP_FAULT shows present conditions; FDP_FAULT_TIME takes the second at which it became 1 (R342, R343). -/
def State.syncFdp (s : State) : State :=
  let now_ := s.fdpNow
  { s with
    fdpFault := s.fdpFault.set 0 now_
    fdpTime := if now_ && !s.fdpFault.get 0 then s.fdpTime.set 0 (w32 (s.now / 1000000000)) else s.fdpTime }

/-- A bus cycle transfers a command to output k. A change restarts the 5 ms of the readback (R342). -/
def State.setDo (s : State) (k : Nat) (cmd : Bool) : State :=
  let s1 := if (s.dout k).cmd = cmd then s
    else s.modDo k (fun x => { x with cmd := cmd, changedAt := s.now, mismatch := false, readback := x.on })
  s1.driveDo k

/-- Output k goes to its safe state: off (R338). -/
def State.doSafe (s : State) (k : Nat) : State := s.setDo k false

/-- DO_OVERLOAD (R341): an output that is on switches itself off. -/
def execDoOverload (k : Fin 32) (time : Nat) (s : State) : Outcome :=
  evt s time (fun s =>
    if (s.dout (k.val + 1)).on then
      ((s.modDo (k.val + 1) (fun x => { x with shutAt := some s.now })).driveDo (k.val + 1)).syncFdp
    else s)

/-- DO_RETRY (R341): FDO_RETRY_MS after the shutdown, on again if still commanded on. -/
def execDoRetry (k : Fin 32) (time : Nat) (s : State) : Outcome :=
  evt s time (fun s =>
    match (s.dout (k.val + 1)).shutAt with
    | none => s
    | some a =>
      if a + s.parN 0x21 (0x40 + k.val) 0 * 1000000 ≤ s.now then
        ((s.modDo (k.val + 1) (fun x => { x with shutAt := none })).driveDo (k.val + 1)).syncFdp
      else s)

/-- DO_READBACK_MISMATCH (R342): for more than 5 ms since the last change of command. On a module that
does not run the plant the readback is not compared. -/
def execDoReadbackMismatch (k : Fin 32) (time : Nat) (s : State) : Outcome :=
  evt s time (fun s =>
    let x := s.dout (k.val + 1)
    if s.runsPlant && s.unitUp 45 && decide (x.changedAt + 5000000 < s.now) then
      (s.modDo (k.val + 1) (fun x => { x with mismatch := true, readback := !x.cmd })).syncFdp
    else s)

/-- The outputs of a supply group take up its present condition. -/
def State.driveGroup (s : State) (g : Nat) : State :=
  (forEach (List.range 8) s (fun s i => s.driveDo (8 * g + i + 1))).syncFdp

/-- VSUP_LOW (R338): below 16.0 V the group's outputs go safe. -/
def execVsupLow (g : Fin 4) (time : Nat) (s : State) : Outcome :=
  evt s time (fun s => { s with vsupLow := s.vsupLow.set g true }.driveGroup g)

/-- VSUP_RESTORED (R338): above 17.0 V commanded outputs switch on again. -/
def execVsupRestored (g : Fin 4) (time : Nat) (s : State) : Outcome :=
  evt s time (fun s => { s with vsupLow := s.vsupLow.set g false }.driveGroup g)

/-- Every output takes up a change of role, freeze or domain. -/
def State.driveAllDo (s : State) : State :=
  (forEach (List.range 32) s (fun s i => s.driveDo (i + 1))).syncFdp

/-! ## Inputs (R334 to R336) -/

/-- FDI_EDGE of input k selects this change (R335). -/
def State.edgeSelected (s : State) (k : Nat) (level : Bool) : Bool :=
  match s.parN 0x21 (k - 1) 1 with
  | 1 => level
  | 2 => !level
  | 3 => true
  | _ => false

/-- DI_CHANGE (R334): the pin has held this level for the filter time. The value, inverted by FDI_INVERT,
is valid from then on; a change sets the input's source where FDI_EDGE selects it, and drives EXT_TRIP. -/
def execDiChange (k : Fin 64) (level : Bool) (time : Nat) (s : State) : Outcome :=
  evt s time (fun s =>
    if s.unitUp 45 then
      let v := level != s.parB 0x21 k 2
      let old := (s.di (k.val + 1)).value
      let s1 := s.modDi (k.val + 1) (fun x => { x with value := v, valid := true })
      let s2 := doIf (v != old && s1.edgeSelected (k.val + 1) v) s1 (fun s => s.eventAll k)
      s2.syncExt
    else s)

/-- 32 bits of a predicate on unit numbers from `lo`. -/
def bits32 (lo : Nat) (f : Nat → Bool) : Word := packWord ((List.range 32).map (fun i => (i, b2n (f (lo + i)))))

/-- DI_LO and DI_HI. -/
def State.diWord (s : State) (lo : Nat) : Word := bits32 lo (fun k => (s.di k).value)

/-- The output word last transferred by the bus cycles (R344). -/
def State.doWord (s : State) : Word := bits32 1 (fun k => (s.dout k).cmd)

/-- DO_RB: the pin levels (R340). On a module that does not run the plant, the partner drives the pins and
the word is not known here (log entry 2). -/
def State.rbWord (s : State) : Word × Bool :=
  if s.single || s.runsPlant || s.isFrozen then (bits32 1 (fun k => (s.dout k).readback), false)
  else (s.freeWord, true)

/-- DIG_READ (R344). -/
def execDigRead (t : Fin 16) (r : Req) (s : State) : Outcome :=
  opcode s t r { opcode := 0x2101 } (fun s =>
    let (rb, free) := s.rbWord
    (doIf free s State.tookFree,
     .reply stOk [s.diWord 1, s.diWord 33, s.doWord, rb, w32 (b2n (s.fdpFault.get 0))]))

end Sys2Proof.Machine
end

