-- ==== Sys2Proof/Machine/Feedback.lean ====
section
/-! DEFINITION. The motion feedback ports (R299 to R314). Ports are numbered 1 to 8. -/

namespace Sys2Proof.Machine

/-- FB_MODE: 0 OFF, 1 QUAD, 2 HALL, 3 SERIAL (R299). -/
def State.fbMode (s : State) (p : Nat) : Nat := s.parN 0x23 (p - 1) 0

/-- FB_DIR = 1 negates every count and every speed (R299). -/
def State.fbSign (s : State) (p : Nat) (n : Int) : Int := if s.parB 0x23 (p - 1) 3 then -n else n

/-- D45 is up and the port is not OFF. -/
def State.fbLive (s : State) (p : Nat) : Bool := s.unitUp 45 && s.fbMode p != 0

/-- VALID of the latest sample (R302). -/
def Fb.valid (x : Fb) : Bool := x.stat.getLsbD 3

/-- The sector of a HALL code W·4 + V·2 + U; 0 = none (R301). -/
def hallSector (code : Nat) : Nat :=
  match code with
  | 1 => 1 | 3 => 2 | 2 => 3 | 6 => 4 | 4 => 5 | 5 => 6
  | _ => 0

/-! ## The Leapfrog (R309 to R311) -/

/-- The armed compare's condition: (position − N) as a signed value is 0 or more, or 0 or less (R309). -/
def leapMeets (back : Bool) (pos n : Word) : Bool :=
  if back then decide ((pos - n).toInt ≤ 0) else decide (0 ≤ (pos - n).toInt)

/-- LFO goes high at a fire while the LEAP bit is 1, the owner runs and the module runs the plant (R311). -/
def State.leapPulse (s : State) (p : Nat) : State :=
  if (s.fb p).leapOn && s.ownerDrives (s.ownLeap p) && s.runsPlant && s.unitUp 45 then
    (s.modFb p (fun x => { x with leapEnd := some (s.now + s.parN 0x23 (p - 1) 0x10 * 1000) })).emit (.lfo p true)
  else s

/-- One fire: the owner's source, the next target, and the pulse; with S = 0 the compare disarms (R310). -/
def State.leapFire (s : State) (p : Nat) : State :=
  let step := s.par (paddr 0x23 (p - 1) 0xE)
  let s1 := s.modFb p (fun x => { x with leapNext := x.leapNext + step, leapArmed := step != 0 })
  let s2 := if s.ownLeap p < 12 then s1.event (s.ownLeap p) (119 + p) else s1
  s2.leapPulse p

/-- Fire while the condition holds, at most `fuel` times; LEAP_OVR shows if it still holds then (R310). -/
def State.leapLoop (fuel : Nat) (s : State) (p : Nat) : State :=
  let x := s.fb p
  let meets := x.leapArmed && leapMeets (s.parB 0x23 (p - 1) 0xF) x.count x.leapNext
  match fuel with
  | 0 => s.modFb p (fun x => { x with leapOvr := meets })
  | n + 1 => if meets then State.leapLoop n (s.leapFire p) p else s.modFb p (fun x => { x with leapOvr := false })

/-- The compare acts at a change of position (R310). -/
def State.leapCheck (s : State) (p : Nat) : State := State.leapLoop 256 s p

/-- Load the target and arm or disarm. A target already reached fires at once (R314). -/
def State.leapLoad (s : State) (p : Nat) (target : Word) (arm : Bool) : State :=
  let s1 := s.modFb p (fun x =>
    { x with leapNext := if arm then target else x.leapNext, leapArmed := arm, leapOvr := false })
  doIf arm s1 (fun s => s.leapCheck p)

/-- The safe state of LFO: low (R311). -/
def State.leapSafe (s : State) (p : Nat) : State :=
  let s1 := s.modFb p (fun x => { x with leapOn := false, leapEnd := none })
  doIf (s.fb p).leapEnd.isSome s1 (fun s => s.emit (.lfo p false))

/-! ## Edges -/

/-- The count of a change of A and B in QUAD mode; none where both change (R300). -/
def quadCount (old new : BitVec 3) : Option Int :=
  let da := old.getLsbD 0 != new.getLsbD 0
  let db := old.getLsbD 1 != new.getLsbD 1
  let same := new.getLsbD 0 == new.getLsbD 1
  if da && db then none
  else if da then some (if same then -1 else 1)
  else if db then some (if same then 1 else -1)
  else some 0

/-- The count of a change from the last valid sector to a new one; none where it is not adjacent (R301). -/
def hallCount (old new : Nat) : Option Int :=
  if old = 0 ∨ old = new then some 0
  else if new = old % 6 + 1 then some 1
  else if old = new % 6 + 1 then some (-1)
  else none

/-- The edges of one instant count (R300, R301). -/
def State.fbCount (s : State) (p : Nat) (levels : BitVec 3) : State :=
  let x := s.fb p
  if s.fbMode p = 1 then
    match quadCount x.levels levels with
    | none => s.modFb p (fun x => { x with levels := levels, quadNow := true })
    | some n => s.modFb p (fun x => { x with levels := levels, count := x.count + i32 (s.fbSign p n) })
  else
    let sec := hallSector levels.toNat
    if sec = 0 then s.modFb p (fun x => { x with levels := levels })
    else
      match hallCount x.lastSector sec with
      | none => s.modFb p (fun x => { x with levels := levels, lastSector := sec, seqNow := true })
      | some n =>
        s.modFb p (fun x =>
          { x with levels := levels, lastSector := sec, count := x.count + i32 (s.fbSign p n) })

/-- Do f, and let the compare act if the position has changed. -/
def State.fbMove (s : State) (p : Nat) (f : State → State) : State :=
  let s1 := f s
  doIf ((s1.fb p).count != (s.fb p).count) s1 (fun s => s.leapCheck p)

/-- FB_EDGE (R300, R301): a rising Z is no edge of this command, and waits for its capture (R308). -/
def execFbEdge (port : Fin 8) (levels : BitVec 3) (time : Nat) (s : State) : Outcome :=
  evt s time (fun s =>
    let p := port.val + 1
    if s.unitUp 45 && s.fbMode p == 1 then
      s.fbMove p (fun s => s.fbCount p (if (s.fb p).levels.getLsbD 2 then levels else levels &&& 3))
    else if s.unitUp 45 && s.fbMode p == 2 then s.fbMove p (fun s => s.fbCount p levels)
    else s)

/-- The index difference d of R308: modulo FB_TURN, in −FB_TURN/2 to +FB_TURN/2 − 1. -/
def indexDiff (cap expv : Word) (turn : Nat) : Int :=
  let m := (cap - expv).toInt % (turn : Int)
  if (turn : Int) ≤ 2 * m then m - turn else m

/-- INDEX_MISMATCH is recorded at most once per second per port (R308). -/
def State.indexRecord (s : State) (p : Nat) (cap : Word) (d : Int) : State :=
  let due := match (s.fb p).mismatchAt with | none => true | some t => decide (t + 1000000000 ≤ s.now)
  if due then
    (s.record 0x23 0x01 (p - 1) [cap, i32 d]).modFb p (fun x => { x with mismatchAt := some s.now })
  else s

/-- The index check and correction (R308). -/
def State.indexCheck (s : State) (p : Nat) : State :=
  let turn := s.parN 0x23 (p - 1) 4
  if turn = 0 then s
  else
    let cap := (s.fb p).indexCap
    let d := indexDiff cap (s.par (paddr 0x23 (p - 1) 5)) turn
    let off := decide (s.parN 0x23 (p - 1) 6 < d.natAbs)
    let s1 := s.modFb p (fun x => { x with indexDiff := i32 d, mismatch := off })
    let s2 := doIf off s1 (fun s => s.indexRecord p cap d)
    if s.parB 0x23 (p - 1) 7 then
      s2.fbMove p (fun s => s.modFb p (fun x => { x with count := x.count - i32 d }))
    else s2

/-- FB_INDEX_CAPTURE (R308): a rising edge of Z; an edge of A or B of the same instant counts first. -/
def execFbIndexCapture (port : Fin 8) (levels : BitVec 3) (time : Nat) (s : State) : Outcome :=
  evt s time (fun s =>
    let p := port.val + 1
    if s.unitUp 45 && s.fbMode p == 1 && levels.getLsbD 2 && !(s.fb p).levels.getLsbD 2 then
      let s1 := s.fbMove p (fun s => s.fbCount p levels)
      let s2 := s1.modFb p (fun x =>
        { x with indexCap := x.count, indexCount := (x.indexCount + 1) % 256 })
      (s2.eventAll (111 + p)).indexCheck p
    else s)

/-! ## Samples (R302 to R306) -/

/-- The clock period of FB_SER_CLK in ns. -/
def serPeriodNs (code : Nat) : Nat := ([1000, 400, 200, 100] : List Nat).getD code 1000

/-- The clock of a serial read, which only the module that runs the plant drives (R305, R307): a whole frame, until FB_SER_TMO where no
HEADER begins, and none where the data line is not high at the instant. -/
def State.serialClock (s : State) (p : Nat) (rd : Option SerialRead) : State :=
  let ns := serPeriodNs (s.parN 0x23 (p - 1) 0xA)
  if !s.runsPlant then s
  else
    match rd with
    | some (.frame _ _ _ _ _) => s.emit (.serialClk p (s.parN 0x23 (p - 1) 9 + 11) ns)
    | some .noHeader => s.emit (.serialClk p (s.parN 0x23 (p - 1) 0xB * 1000 / ns) ns)
    | _ => s

/-- What a serial read gives: the new position if the frame is good, and SER_CRC, SER_ERR, SER_TIMEOUT. -/
def State.serialRead (s : State) (p : Nat) (rd : Option SerialRead) : Option Nat × Bool × Bool × Bool :=
  match rd with
  | some (.frame header err pos crc _) =>
    let n := s.parN 0x23 (p - 1) 9
    let bad := header != 5 || crc6 (err :: bitsLsb n pos) != crc % 64
    (if bad || err then none else some (pos % 2 ^ n), bad, err, false)
  | _ => (none, false, false, true)

/-- A good frame moves the position (R306): the first one to POS + FB_OFFSET, each later one by the
difference from the last good POS. -/
def State.serialMove (s : State) (p pos : Nat) : State :=
  let n := s.parN 0x23 (p - 1) 9
  s.modFb p (fun x =>
    { x with
      count := match x.serLast with
        | none => w32 pos + s.par (paddr 0x23 (p - 1) 0xD)
        | some was => x.count + i32 (s.fbSign p (signedOf n ((pos + 2 ^ n - was) % 2 ^ n)))
      serLast := some pos })

/-- What a position load or a Leapfrog command sets at the sample instant (R304, R307). -/
def State.fbLoads (s : State) (p : Nat) : State :=
  let x := s.fb p
  let s1 := match x.posSet with
    | none => s
    | some v => s.fbMove p (fun s => s.modFb p (fun x => { x with count := v }))
  let s2 := match x.leapSet with
    | none => s1
    | some (n, arm) => s1.leapLoad p n arm
  s2.modFb p (fun x => { x with posSet := none, leapSet := none })

/-- FB_SPEED (R303): the position change over the last 2^FB_SPEED_AVG samples, in Q16.16 per sample; a
value beyond 32 bits is not stated (log entry 2). -/
def State.fbSpeed (s : State) (p : Nat) (hist : List Int) : Word × Bool :=
  let a := s.parN 0x23 (p - 1) 8
  let v := (hist.take (2 ^ a)).sum * 2 ^ (16 - a)
  if -2147483648 ≤ v ∧ v ≤ 2147483647 then (i32 v, false) else (s.freeWord, true)

/-- Latch the sample: position, speed and status (R302, R303, R312). -/
def State.fbLatch (s : State) (p : Nat) (valid crcBad serErr timeout : Bool) : State :=
  let x := s.fb p
  let hall := s.fbMode p == 2
  let sec := if hall then hallSector x.levels.toNat else 0
  let hist := ((if valid then (x.count - x.pos).toInt else 0) :: x.hist).take 128
  let (speed, free) := s.fbSpeed p hist
  let bad := (hall && sec == 0) || x.seqNow || x.quadNow || crcBad || serErr || timeout
  let stat := packWord
    [(0, sec), (3, b2n valid), (4, b2n (hall && sec == 0)), (5, b2n x.seqNow), (6, b2n x.quadNow),
     (7, b2n crcBad), (8, b2n serErr), (9, b2n timeout), (10, b2n x.mismatch), (11, b2n x.leapArmed),
     (12, b2n x.leapEnd.isSome), (13, b2n x.leapOvr)]
  let s1 := s.modFb p (fun x =>
    { x with
      pos := x.count
      captured := if s.fbMode p = 0 then x.captured else x.count
      hist := hist
      speed := speed
      stat := stat.truncate 14
      errCount := if bad then (x.errCount + 1) % 256 else x.errCount
      quadNow := false
      seqNow := false })
  doIf free s1 State.tookFree

/-- FB_SAMPLE (R302): at every multiple of 62.5 µs. -/
def execFbSample (port : Fin 8) (serial : Option SerialRead) (time : Nat) (s : State) : Outcome :=
  evt s time (fun s =>
    let p := port.val + 1
    if s.now % 62500 ≠ 0 ∨ s.unitUp 45 = false then s
    else if s.fbMode p = 0 then s.fbLatch p false false false false
    else
      let s1 := s.fbLoads p
      if s.fbMode p = 3 then
        let (good, crcBad, serErr, timeout) := s1.serialRead p serial
        let s2 := match serial with
          | some (.frame _ _ _ _ d) => (s1.serialClock p serial).modFb p (fun x => { x with serDelay := d % 2048 })
          | _ => s1.serialClock p serial
        match good with
        | some pos => (s2.fbMove p (fun s => s.serialMove p pos)).fbLatch p true false false false
        | none => s2.fbLatch p false crcBad serErr timeout
      else
        s1.fbLatch p (s.fbMode p == 1 || hallSector (s1.fb p).levels.toNat != 0) false false false)

/-- LEAP_PULSE_END (R311): FB_LEAP_PULSE_US after the last fire. -/
def execLeapPulseEnd (port : Fin 8) (time : Nat) (s : State) : Outcome :=
  evt s time (fun s =>
    match (s.fb (port.val + 1)).leapEnd with
    | none => s
    | some e =>
      if e ≤ s.now then
        (s.modFb (port.val + 1) (fun x => { x with leapEnd := none })).emit (.lfo (port.val + 1) false)
      else s)

/-- FB_FORWARD_RECEIVED (R307): it applies at the next sample instant, as on the running module. -/
def execFbForwardReceived (port : Fin 8) (pos : Option Word) (leap : Option Word) (arm : Bool) (time : Nat)
    (s : State) : Outcome :=
  evt s time (fun s =>
    if s.runsPlant then s
    else s.modFb (port.val + 1) (fun x =>
      { x with
        posSet := match pos with | some v => some v | none => x.posSet
        leapSet := match leap with | some n => some (n, arm) | none => x.leapSet }))

/-! ## Status and opcodes (R312 to R314) -/

/-- FB_STATUS (R312). -/
def Fb.status (x : Fb) : Word :=
  packWord [(0, x.stat.toNat), (16, x.indexCount), (24, x.errCount)]

/-- Indices 0x0020 to 0x0025 (R313). -/
def Fb.words (x : Fb) : List Word := [x.pos, Fb.status x, x.speed, x.indexCap, x.indexDiff, x.leapNext]

/-- A port number of a payload, 1 to 8. -/
def portOk (w : Word) : Bool := decide (1 ≤ w.toNat ∧ w.toNat ≤ 8)

/-- FB_READ (R314). -/
def execFbRead (t : Fin 16) (r : Req) (s : State) : Outcome :=
  opcode s t r { opcode := 0x2301, len := lenIs 1 } (fun s =>
    if portOk (r.w 2) then (s, .reply stOk (Fb.words (s.fb (r.w 2).toNat))) else (s, no stOutOfRange))

/-- In a Pair the command goes to the partner too (R307). -/
def State.fbForward (s : State) (p : Nat) (kind : String) (ws : List Word) : State :=
  doIf (!s.single && s.linkUp) s (fun s => s.emit (.agfin kind (w32 p :: ws)))

/-- FB_POS_SET (R304): loads the position at the next sample instant. -/
def execFbPosSet (t : Fin 16) (r : Req) (s : State) : Outcome :=
  opcode s t r { opcode := 0x2302, role := 1, len := lenIs 2, active := true } (fun s =>
    let p := (r.w 2).toNat
    if !portOk (r.w 2) then (s, no stOutOfRange)
    else if s.fbMode p = 0 ∨ s.fbMode p = 3 then (s, no (stRejected 0x10))
    else ((s.modFb p (fun x => { x with posSet := some (r.w 3) })).fbForward p "FB_POS_SET" [r.w 3], ok))

/-- The role FB_LEAP_ARM needs: OPERATE from the owner's tenant, otherwise ENGINEER (R314). -/
def State.leapRole (s : State) (t : Nat) (r : Req) : Nat :=
  if portOk (r.w 2) && s.isOwnerTenant t (s.ownLeap (r.w 2).toNat) then 0 else 1

/-- FB_LEAP_ARM arms with W4[0] = 1 and disarms with 0; in a Pair it applies at the next sample instant on
both modules (R307, R314). -/
def leapBody (r : Req) (s : State) : State × Answer :=
  let p := (r.w 2).toNat
  if !portOk (r.w 2) then (s, no stOutOfRange)
  else if s.fbMode p = 0 then (s, no (stRejected 0x11))
  else if s.single then (s.leapLoad p (r.w 3) (bitOf (r.w 4) 0), ok)
  else
    ((s.modFb p (fun x => { x with leapSet := some (r.w 3, bitOf (r.w 4) 0) })).fbForward p "FB_LEAP_ARM"
      [r.w 3, r.w 4], ok)

/-- FB_LEAP_ARM with W4[0] = 1 (R314). -/
def execFbLeapArm (t : Fin 16) (r : Req) (s : State) : Outcome :=
  opcode s t r { opcode := 0x2303, role := s.leapRole t r, len := lenIs 3, active := true } (leapBody r)

/-- FB_LEAP_ARM with W4[0] = 0 (R314). -/
def execFbLeapDisarm (t : Fin 16) (r : Req) (s : State) : Outcome :=
  opcode s t r { opcode := 0x2303, role := s.leapRole t r, len := lenIs 3, active := true } (leapBody r)

end Sys2Proof.Machine
end

