-- ==== Sys2Proof/Machine/Profile.lean ====
section
/-! DEFINITION. The profiles of the Loop and Profile Engine (R278, R279): motions of limited speed, acceleration and jerk in
exact rational arithmetic, with square roots, sines and circle constants taken to 2^-96. Lengths are in units of r, times in
seconds. -/

namespace Sys2Proof

/-! ## Numbers -/

/-- The value to 2^-96 below. -/
def chop (q : Rat) : Rat := ((q * 2 ^ 96).floor : Rat) / 2 ^ 96

/-- |q|. -/
def ratAbs (q : Rat) : Rat := if q < 0 then -q else q

/-- π to 40 digits. -/
def piRat : Rat := 31415926535897932384626433832795028841971 / 10 ^ 40

/-- The square root of q to 2^-96 below; 0 for q ≤ 0. -/
def sqrtRat (q : Rat) : Rat := if q ≤ 0 then 0 else (Nat.sqrt (q * 2 ^ 192).floor.toNat : Rat) / 2 ^ 96

/-- The sum of the series of the sine from term k on: t is that term, y the square of the angle. -/
def sinSeries : Nat → Rat → Rat → Rat → Rat
  | 0, _, _, _ => 0
  | n + 1, k, t, y => t + sinSeries n (k + 1) (chop (-(t * y) / ((2 * k + 2) * (2 * k + 3)))) y

/-- The sine of a number of turns. -/
def sinTurns (q : Rat) : Rat :=
  let f := q - (q.floor : Rat)
  let (neg, g) : Bool × Rat := if f < 1 / 2 then (false, f) else (true, f - 1 / 2)
  let x := chop (2 * piRat * (if g ≤ 1 / 4 then g else 1 / 2 - g))
  let v := sinSeries 24 0 x (chop (x * x))
  if neg then -v else v

/-- The cosine of a number of turns. -/
def cosTurns (q : Rat) : Rat := sinTurns (q + 1 / 4)

/-- A value that the manual rounds without saying how: the integer below or above it (log entry 8). -/
def roundQ (q : Rat) : Int := if q.den = 1 then q.num else q.floor + (if Config.roundUp q then 1 else 0)

/-! ## S_CURVE and SINE (R278) -/

/-- VMAX, AMAX and JMAX. -/
structure Limits where
  vmax : Rat
  amax : Rat
  jmax : Rat

/-- A segment: its duration and the acceleration at its begin and end. -/
structure Seg where
  time : Rat
  from_ : Rat
  to_ : Rat

/-- The factor of a ramp's duration: 1 with constant jerk, π/2 as a half-cosine. -/
def rampFactor (cosine : Bool) : Rat := if cosine then piRat / 2 else 1

/-- Displacement, speed and acceleration at a time within a segment that begins at speed v. -/
def Seg.at_ (cosine : Bool) (x : Seg) (v t : Rat) : Rat × Rat × Rat :=
  let d := x.to_ - x.from_
  if cosine then
    let c := cosTurns (t / (2 * x.time))
    let w := x.time / piRat
    (v * t + x.from_ * t * t / 2 + d / 2 * (t * t / 2 + w * w * (c - 1)),
     v + x.from_ * t + d / 2 * (t - w * sinTurns (t / (2 * x.time))), x.from_ + d * (1 - c) / 2)
  else
    (v * t + x.from_ * t * t / 2 + d * t * t * t / (6 * x.time), v + x.from_ * t + d * t * t / (2 * x.time),
     x.from_ + d * t / x.time)

/-- Displacement, speed and acceleration at a time within a row of segments that ends at rest; none after its end. -/
def ride (cosine : Bool) : List Seg → Rat → Rat → Option (Rat × Rat × Rat)
  | [], _, _ => none
  | x :: l, v, t =>
    if t < x.time then some (x.at_ cosine v t)
    else
      let (p, w, _) := if x.time = 0 then (0, v, 0) else x.at_ cosine v x.time
      (ride cosine l w (t - x.time)).map (fun e => (p + e.1, e.2))

/-- The displacement over a whole row of segments that begins at speed v. -/
def rideAll (cosine : Bool) : List Seg → Rat → Rat
  | [], _ => 0
  | x :: l, v =>
    let (p, w, _) := if x.time = 0 then (0, v, 0) else x.at_ cosine v x.time
    p + rideAll cosine l w

/-- The shortest change of speed from v0 with acceleration a0 to v1 without: a ramp to a peak acceleration, a hold, a ramp to
0, each left out where it is not needed. -/
def speedChange (cosine : Bool) (l : Limits) (v0 a0 v1 : Rat) : List Seg :=
  let k := rampFactor cosine
  let up := decide (v0 + a0 * ratAbs a0 * k / (2 * l.jmax) ≤ v1)
  let a := if up then a0 else -a0
  let dv := if up then v1 - v0 else v0 - v1
  let peak := min l.amax (sqrtRat (l.jmax * dv / k + a * a / 2))
  let t1 := k * ratAbs (peak - a) / l.jmax
  let t3 := k * peak / l.jmax
  let hold := max 0 ((dv - t1 * (a + peak) / 2 - t3 * peak / 2) / peak)
  let p := if up then peak else -peak
  [{ time := t1, from_ := a0, to_ := p }, { time := hold, from_ := p, to_ := p }, { time := t3, from_ := p, to_ := 0 }]

/-- The displacement of a motion that goes to speed vp and from there to rest. -/
def viaSpeed (cosine : Bool) (l : Limits) (v0 a0 vp : Rat) : Rat :=
  rideAll cosine (speedChange cosine l v0 a0 vp) v0 + rideAll cosine (speedChange cosine l vp 0 0) vp

/-- The speed between lo and hi through which the motion of displacement d goes. -/
def peakSpeed (cosine : Bool) (l : Limits) (d v0 a0 : Rat) : Nat → Rat → Rat → Rat
  | 0, lo, _ => lo
  | n + 1, lo, hi =>
    let m := (lo + hi) / 2
    if viaSpeed cosine l v0 a0 m ≤ d then peakSpeed cosine l d v0 a0 n m hi else peakSpeed cosine l d v0 a0 n lo m

/-- The seven segments of the motion of displacement d to rest, from v0 and a0: with constant velocity where the limit of speed is
reached, and past the target and back where there is no other way (R278, R279). -/
def moveSegs (cosine : Bool) (l : Limits) (d v0 a0 : Rat) : List Seg :=
  let cruise := fun (v : Rat) =>
    speedChange cosine l v0 a0 v ++ { time := (d - viaSpeed cosine l v0 a0 v) / v, from_ := 0, to_ := 0 } ::
      speedChange cosine l v 0 0
  if viaSpeed cosine l v0 a0 l.vmax ≤ d then cruise l.vmax
  else if d ≤ viaSpeed cosine l v0 a0 (-l.vmax) then cruise (-l.vmax)
  else
    let v := peakSpeed cosine l d v0 a0 128 (-l.vmax) l.vmax
    speedChange cosine l v0 a0 v ++ speedChange cosine l v 0 0

/-! ## POLY5 (R278) -/

/-- The coefficients of the displacement of the fifth-order polynomial of duration T, lowest first. -/
def poly5 (d v0 a0 T : Rat) : List Rat :=
  [0, v0, a0 / 2, (20 * d - 12 * v0 * T - 3 * a0 * T ^ 2) / (2 * T ^ 3), (-30 * d + 16 * v0 * T + 3 * a0 * T ^ 2) / (2 * T ^ 4),
   (12 * d - 6 * v0 * T - a0 * T ^ 2) / (2 * T ^ 5)]

/-- The value of a polynomial. -/
def polyAt (c : List Rat) (t : Rat) : Rat := c.foldr (fun x acc => x + t * acc) 0

/-- Its derivative. -/
def polyDeriv (c : List Rat) : List Rat := (c.zipIdx.map (fun e => e.1 * (e.2 : Rat))).drop 1

/-- The binomial coefficient. -/
def binom : Nat → Nat → Nat
  | _, 0 => 1
  | 0, _ + 1 => 0
  | n + 1, k + 1 => binom n k + binom n (k + 1)

/-- The coefficients on the Bernstein basis of the interval from 0 to T. -/
def bernstein (c : List Rat) (T : Rat) : List Rat :=
  let n := c.length - 1
  (List.range c.length).map (fun i =>
    ((List.range (i + 1)).map (fun j => (binom i j : Rat) / (binom n j : Rat) * (c.getD j 0 * T ^ j))).sum)

/-- The coefficients on the two halves of the interval. -/
def halves : Nat → List Rat → List Rat × List Rat
  | 0, _ => ([], [])
  | n + 1, l =>
    let (a, b) := halves n (List.zipWith (fun x y => (x + y) / 2) l l.tail)
    (l.headD 0 :: a, b ++ [l.getLastD 0])

/-- The polynomial is nowhere below 0 on its interval; one that only touches 0 at a point is taken so. -/
def nonneg : Nat → List Rat → Bool
  | 0, _ => true
  | n + 1, l =>
    if l.all (fun x => decide (0 ≤ x)) then true
    else if l.headD 0 < 0 ∨ l.getLastD 0 < 0 then false
    else
      let (a, b) := halves l.length l
      nonneg n a && nonneg n b

/-- |polynomial| ≤ m from 0 to T. -/
def polyWithin (m : Rat) (c : List Rat) (T : Rat) : Bool :=
  let b := bernstein c T
  nonneg 48 (b.map (fun x => m - x)) && nonneg 48 (b.map (fun x => m + x))

/-- All three limits hold for the polynomial of duration T. -/
def poly5Fits (l : Limits) (d v0 a0 T : Rat) : Bool :=
  let v := polyDeriv (poly5 d v0 a0 T)
  let a := polyDeriv v
  polyWithin l.vmax v T && polyWithin l.amax a T && polyWithin l.jmax (polyDeriv a) T

/-- The first number from n on that fits, among as many as there is fuel. -/
def firstFit : Nat → Nat → (Nat → Bool) → Option Nat
  | 0, _, _ => none
  | k + 1, n, f => if f n then some n else firstFit k (n + 1) f

/-- A number of samples beyond which no motion needs to last: a bound on T_m of R278 with room for a motion that begins in
motion. -/
def poly5Most (l : Limits) (d h : Rat) : Nat := (16 * (ratAbs d / l.vmax + l.vmax / l.amax + l.amax / l.jmax) / h).ceil.toNat + 1

/-- The shortest whole number of samples of period h for which all three limits hold. -/
def poly5Samples (l : Limits) (d v0 a0 h : Rat) : Option Nat :=
  firstFit (poly5Most l d h) 1 (fun n => poly5Fits l d v0 a0 (n * h))

end Sys2Proof
end

