-- ==== Sys2Proof/Machine/Loop.lean ====
section
/-! DEFINITION. The Loop and Profile Engine (R275 to R290, R298). Slots are numbered 0 to 63, generators 0
to 3. Every operation answers its value with the flags SAT and LOOP_ARITH it raises. -/

namespace Sys2Proof.Machine

/-! ## Fixed-point arithmetic (R282, R283) -/

/-- A result with the flags SAT and LOOP_ARITH. -/
structure Fx where
  val : Int := 0
  sat : Bool := false
  arith : Bool := false
deriving DecidableEq, Repr, Inhabited

def fxMax : Int := 2147483647
def fxMin : Int := -2147483648

/-- Saturation to Q16.16. -/
def sat32 (n : Int) : Fx :=
  if fxMax < n then { val := fxMax, sat := true } else if n < fxMin then { val := fxMin, sat := true } else { val := n }

/-- Saturation at the limits of the 64-bit accumulator. -/
def sat64 (n : Int) : Fx :=
  if 9223372036854775807 < n then { val := 9223372036854775807, sat := true }
  else if n < -9223372036854775808 then { val := -9223372036854775808, sat := true }
  else { val := n }

/-- The flags of both, and a new value. -/
def Fx.join (a b : Fx) : Fx := { b with sat := a.sat || b.sat, arith := a.arith || b.arith }

/-- The sum of terms in the accumulator, saturating after each (R282). -/
def accSum (ts : List Int) : Fx := ts.foldl (fun acc t => Fx.join acc (sat64 (acc.val + t))) {}

/-- Narrowing: add 2^29, shift right arithmetically by 30, saturate (R282). -/
def narrow (a : Fx) : Fx := Fx.join a (sat32 ((a.val + 536870912) / 1073741824))

/-- The division of R283 on two values of one format. -/
def fxDiv (x y : Int) : Fx :=
  if y = 0 then
    { val := if 0 < x then fxMax else if x < 0 then -fxMax else 0, arith := true }
  else
    let q := sat32 ((x * 65536).tdiv y)
    { q with arith := x == fxMin && y == -65536 }

/-- The shift by LOOP_SHIFT, positive = left (R280, R283). -/
def fxShift (x n : Int) : Fx :=
  if 32 ≤ n then { val := if 0 < x then fxMax else if x < 0 then fxMin else 0, arith := true }
  else if 0 ≤ n then sat32 (x * 2 ^ n.toNat)
  else if n ≤ -32 then { val := if 0 ≤ x then 0 else -1, arith := true }
  else { val := x / 2 ^ (-n).toNat }

/-- The clamp to the output limits: the value, and whether it met LOOP_UMAX or LOOP_UMIN. -/
def fxClamp (lo hi x : Int) : Int × Bool × Bool :=
  if hi < x then (hi, true, false) else if x < lo then (lo, false, true) else (x, false, false)

/-- A value with 32 fraction bits in Q16.16; the rounding of one that does not fit is not stated (R278). -/
def q16 (n : Int) : Int := if n % 65536 = 0 then n / 65536 else roundQ ((n : Rat) / 65536)

/-- Negation: MAX for MIN (R283). -/
def fxNeg (x : Int) : Fx := if x = fxMin then { val := fxMax, arith := true } else { val := -x }

/-! ## Parameters of a slot -/

def State.lp (s : State) (i idx : Nat) : Int := s.parI32 0x24 i idx

/-- The period of a rate code n: 62.5 µs × 2^n (R275). -/
def ratePeriod (n : Nat) : Nat := 62500 * 2 ^ n

/-- The sample period of a slot. -/
def State.loopPeriod (s : State) (i : Nat) : Nat := ratePeriod (s.parN 0x24 i 0)

/-- LOOP_DEST: kind and number. -/
def State.loopDest (s : State) (i : Nat) : Nat × Nat := (s.parN 0x24 i 7 / 256, s.parN 0x24 i 7 % 256)

/-- The destination is a valve port in FAULT (R284). -/
def State.destFaulted (s : State) (i : Nat) : Bool :=
  (s.loopDest i).1 == 1 && (s.valve (s.loopDest i).2).state == .fault

/-! ## Feedback (R277) -/

/-- A source's raw value and whether it is valid, as slot i reads it at time t. -/
def State.rawOf (s : State) (i kind num t : Nat) : Int × Bool :=
  match kind with
  | 1 => ((s.fb num).pos.toInt, Fb.valid (s.fb num))
  | 2 => ((s.fb num).speed.toInt, Fb.valid (s.fb num))
  | 3 => ((s.ana num).code, (s.ana num).flags.getLsbD 0)
  | 4 =>
    let x := s.loop num
    (if i ≤ num ∧ x.at_ = t then x.uPrev else x.u, x.state != .off)
  | _ => (0, true)

/-- The raw value of LOOP_FB_SRC, and whether it is valid. -/
def State.fbRaw (s : State) (i t : Nat) : Fx × Bool :=
  let w := s.parN 0x24 i 1
  if w / 256 = 5 then
    let r := s.parN 0x24 i 2
    let (n, nv) := s.rawOf i (r / 2 ^ 24) (r / 2 ^ 16 % 256) t
    let (d, dv) := s.rawOf i (r / 2 ^ 8 % 256) (r % 256) t
    (fxDiv n d, nv && dv)
  else
    let (v, ok) := s.rawOf i (w / 256) (w % 256) t
    ({ val := v }, ok)

/-- The scaled feedback y, and whether its source is valid (R277). Kind 0 gives y = 0. -/
def State.feedback (s : State) (i t : Nat) : Fx × Bool :=
  if s.parN 0x24 i 1 / 256 = 0 then ({ val := 0 }, true)
  else
    let (raw, ok) := s.fbRaw i t
    let q := s.parN 0x24 i 4
    let p := raw.val * s.lp i 3
    let scaled := Fx.join raw (sat32 (if q = 0 then p else (p + 2 ^ (q - 1)) / 2 ^ q))
    (Fx.join scaled (sat32 (scaled.val + s.lp i 5)), ok)

/-! ## Profile (R278, R279) -/

/-- The target of a slot, with 32 fraction bits: the output of the slot whose destination it is, or LOOP_SP; while STOPPING, the
point at which the profile comes to rest (R278, R284, R286). -/
def State.loopTarget (s : State) (i : Nat) : Int :=
  match (s.loop i).stopTarget with
  | some n => n
  | none =>
    match s.slotOfDest 3 i with
    | some j => (s.loop j).u * 65536
    | none => (s.loop i).sp * 65536

/-- Within ±m. -/
def within (m x : Int) : Int := if m < x then m else if x < -m then -m else x

/-- A value with 32 fraction bits, and one in Q16.16, as rationals. -/
def ofQ32 (n : Int) : Rat := (n : Rat) / 2 ^ 32
def ofQ16 (n : Int) : Rat := (n : Rat) / 2 ^ 16

/-- The shape, the limits and the period of a slot's motions. -/
def State.moveTerms (s : State) (i : Nat) : List Int :=
  [s.parN 0x24 i 8, s.lp i 9, s.lp i 0xA, s.lp i 0xB, s.loopPeriod i]

/-- The limits in the terms of a motion. -/
def limitsOf (terms : List Int) : Limits :=
  { vmax := ofQ16 (terms.getD 1 0), amax := ofQ16 (terms.getD 2 0), jmax := ofQ16 (terms.getD 3 0) }

/-- The period in the terms of a motion, in seconds. -/
def periodOf (terms : List Int) : Rat := (terms.getD 4 0 : Rat) / 1000000000

/-- A motion planned from the present r, v and a, at its first sample (R279). -/
def planMove (terms : List Int) (target : Int) (x : Loop) : Move :=
  { terms := terms, target := target, r := x.r, v := x.v, a := x.a, done := 1
    samples := if terms.getD 0 0 = 3
      then (poly5Samples (limitsOf terms) (ofQ32 (target - x.r)) (ofQ32 x.v) (ofQ32 x.a) (periodOf terms)).getD 0 else 0 }

/-- The motion as it stands at the next sample: the one in progress, or a new one where the target or its terms have changed; none
where r follows the target at once or rests on it (R278, R279). -/
def State.nextMove (s : State) (i : Nat) : Option Move :=
  let x := s.loop i
  let target := s.loopTarget i
  let terms := s.moveTerms i
  if s.parN 0x24 i 8 = 0 ∨ (x.r = target ∧ x.v = 0 ∧ x.a = 0) then none
  else
    match x.move with
    | some m =>
      if m.terms = terms ∧ m.target = target ∧ (terms.getD 0 0 ≠ 3 ∨ m.samples ≠ 0) then some { m with done := m.done + 1 }
      else some (planMove terms target x)
    | none => some (planMove terms target x)

end Sys2Proof.Machine

namespace Sys2Proof
open Sys2Proof.Machine

/-- r, v and a of a motion at its present sample, with 32 fraction bits: on the target at its end (R278). -/
def Move.sample (m : Move) : Int × Int × Int :=
  let t := (m.done : Rat) * periodOf m.terms
  let d := ofQ32 (m.target - m.r)
  let at_ : Option (Rat × Rat × Rat) :=
    if m.terms.getD 0 0 = 3 then
      (if m.samples ≤ m.done then none
       else
        let c := poly5 d (ofQ32 m.v) (ofQ32 m.a) ((m.samples : Rat) * periodOf m.terms)
        some (polyAt c t, polyAt (polyDeriv c) t, polyAt (polyDeriv (polyDeriv c)) t))
    else
      let cosine := m.terms.getD 0 0 == 2
      ride cosine (moveSegs cosine (limitsOf m.terms) d (ofQ32 m.v) (ofQ32 m.a)) (ofQ32 m.v) t
  match at_ with
  | none => (m.target, 0, 0)
  | some (p, v, a) => (m.r + roundQ (p * 2 ^ 32), roundQ (v * 2 ^ 32), roundQ (a * 2 ^ 32))

end Sys2Proof

namespace Sys2Proof.Machine

/-- A step within the limits towards the target, where no polynomial keeps them (log entry 8). -/
def State.freeProfile (s : State) (i : Nat) : Int × Int × Int :=
  let x := s.loop i
  let vmax := s.lp i 9 * 65536
  let amax := s.lp i 0xA * 65536
  let jmax := s.lp i 0xB * 65536
  let (r, v, a) := Config.profileStep (s.loopTarget i) x.r x.v x.a vmax amax jmax (s.loopPeriod i)
  let da := jmax * s.loopPeriod i / 1000000000
  (r, within vmax v, within amax (x.a + within da (a - x.a)))

/-- The next r, v and a, with 32 fraction bits (R278): NONE follows the target, as does a profile that rests on it. -/
def State.profile (s : State) (i : Nat) : Int × Int × Int :=
  match s.nextMove i with
  | none => (s.loopTarget i, 0, 0)
  | some m => if m.terms.getD 0 0 = 3 ∧ m.samples = 0 then s.freeProfile i else Move.sample m

/-! ## Injection (R288) -/

/-- The generator attached to a point of slot i that runs. -/
def State.injAt (s : State) (i point : Nat) : Option Nat :=
  (List.range 4).find? (fun g =>
    let w := s.parN 0x24 (0x40 + g) 0
    (s.inj g).running && w % 64 == i && w / 256 % 4 == point)

/-- The injected value at a point; 0 without a generator. -/
def State.injVal (s : State) (i point : Nat) : Int :=
  match s.injAt i point with
  | none => 0
  | some g => (s.inj g).value

/-- A generator of slot i runs. -/
def State.injecting (s : State) (i : Nat) : Bool :=
  (List.range 4).any (fun g => (s.inj g).running && s.parN 0x24 (0x40 + g) 0 % 64 == i)

/-- The phase of a sine, in turns, t ns after its start: at a frequency in Q16.16 Hz that sweeps to f1 over dur ns where it
is a chirp (R288). -/
def injPhase (f0 f1 : Int) (dur t : Nat) : Rat :=
  let sec := (t : Rat) / 1000000000
  ofQ16 f0 * sec + (if dur = 0 then 0 else ofQ16 (f1 - f0) * sec * sec / (2 * ((dur : Rat) / 1000000000)))

/-- The value of a generator at a sample at time t (R288): the sine as a Q2.30 coefficient of INJ_AMP. -/
def State.injSignal (s : State) (g t : Nat) : Int :=
  let amp := s.lp (0x40 + g) 2
  let x := s.inj g
  match s.parN 0x24 (0x40 + g) 1 with
  | 0 => if Config.prbsChip x.lfsr then amp else (fxNeg amp).val
  | k =>
    let f1 := if k = 1 then s.lp (0x40 + g) 4 else s.lp (0x40 + g) 3
    let dur := if k = 1 then s.parN 0x24 (0x40 + g) 5 * 1000000 else 0
    let ph := injPhase (s.lp (0x40 + g) 3) f1 dur (t - x.startAt)
    (narrow (accSum [amp * (sinTurns ph * 2 ^ 30 + 1 / 2).floor])).val

/-- The 11-bit register after one chip: feedback x^11 + x^9 + 1 (R288). -/
def lfsr11 (r : Nat) : Nat := (r * 2 + (r / 1024 + r / 256) % 2) % 2048

/-- Records of an injection: generator, slot, plant time of the sample (R432). -/
def State.injRecord (s : State) (type g t : Nat) : State :=
  s.record 0x24 type 127 [w32 g, w32 (s.parN 0x24 (0x40 + g) 0 % 64), hiWord t, loWord t]

/-- A generator ends; a start that has not yet come is dropped. -/
def State.injEnd (s : State) (g t : Nat) : State :=
  let was := (s.inj g).running
  let s1 := s.modInj g (fun _ => {})
  doIf was s1 (fun s => s.injRecord 2 g t)

/-- Every generator of slot i ends (R288). -/
def State.injEndAll (s : State) (i : Nat) : State :=
  forEach (List.range 4) s (fun s g =>
    if s.parN 0x24 (0x40 + g) 0 % 64 = i && ((s.inj g).running || (s.inj g).armed) then
      s.injEnd g (s.loop i).at_
    else s)

/-- The generators of slot i at a sample at time t: an armed one starts, a running one gives its next value. -/
def State.injSample (s : State) (i t : Nat) : State :=
  forEach (List.range 4) s (fun s g =>
    if s.parN 0x24 (0x40 + g) 0 % 64 ≠ i then s
    else
      let x := s.inj g
      let s1 :=
        if x.armed && decide (x.startAt ≤ t) then
          (({ s with trace := { s.trace with injStarted := true } }).modInj g (fun _ =>
            { running := true, startAt := t })).injRecord 1 g t
        else if x.running then
          s.modInj g (fun x =>
            if x.chip + 1 < s.parN 0x24 (0x40 + g) 6 then { x with chip := x.chip + 1 }
            else { x with chip := 0, lfsr := lfsr11 x.lfsr })
        else s
      if (s1.inj g).running then s1.modInj g (fun x => { x with value := s1.injSignal g t }) else s1)

/-! ## Status (R287) -/

/-- Bits [9:0] of LOOP_ST. -/
def State.loopBits (s : State) (i : Nat) : Nat :=
  let x := s.loop i
  (packWord [(0, x.state.code), (3, b2n x.profileDone), (4, b2n (x.clampHi || x.clampLo)), (5, b2n x.sat),
    (6, b2n x.arith), (7, b2n x.fbInvalid), (8, b2n x.injecting), (9, b2n x.destFault)]).toNat

/-- LOOP_ST. -/
def State.loopSt (s : State) (i : Nat) : Word :=
  packWord [(0, s.loopBits i), (16, (s.loop i).arithCount), (24, (s.loop i).satCount)]

/-- Do f, and set the slot's source in the owner's view if bits [9:0] have changed. -/
def State.loopChange (s : State) (i : Nat) (f : State → State) : State :=
  let s1 := f s
  if s1.loopBits i ≠ s.loopBits i ∧ s1.ownLoop i < 12 then s1.event (s1.ownLoop i) (128 + i) else s1

/-! ## Destinations (R286) -/

/-- The destination takes the output u: a valve's speed within ±128, or a code of 0.5 µA within 0 to 48,000. -/
def State.loopDrive (s : State) (i : Nat) : State :=
  let u := (s.loop i).u
  match s.loopDest i with
  | (1, v) => s.modValve v (fun x => { x with loopSpeed := within 8388608 u })
  | (2, ch) =>
    if s.anaMode ch = 3 then s.anaSet ch (max 0 (min 48000 (roundQ (ofQ16 u * 2000)))).toNat else s
  | _ => s

/-- The destination goes to its safe state (R284). -/
def State.loopDestSafe (s : State) (i : Nat) : State :=
  match s.loopDest i with
  | (1, v) =>
    let s1 := s.modValve v (fun x => { x with loopSpeed := 0 })
    if (s1.valve v).state == .fault then s1 else s1.setValve v .standstill 0 (some 0)
  | (2, ch) => s.anaSafe ch
  | _ => s

/-- The present value of the destination, in the units of u (R285). -/
def State.loopDestValue (s : State) (i : Nat) : Int :=
  match s.loopDest i with
  | (1, v) => if s.parB 0x25 (v - 1) 6 then -(s.valve v).speed else (s.valve v).speed
  | (2, ch) => roundQ (((s.ana ch).out * 65536 : Nat) / 2000)
  | (3, j) => q16 (s.loopTarget j)
  | _ => (s.loop i).u

/-! ## Slot states (R284, R285) -/

/-- OFF: output 0, states cleared, the destination safe, generators ended. The counts run on. -/
def State.loopOff (s : State) (i : Nat) : State :=
  if (s.loop i).state == .off then s
  else
    s.loopChange i (fun s =>
      let s1 := s.injEndAll i
      (s1.modLoop i (fun x =>
        { sp := x.sp, satCount := x.satCount, arithCount := x.arithCount, at_ := x.at_, uPrev := x.u })).loopDestSafe i)

/-- RUN from OFF: r at y with v = a = 0, d at 0, i at the present value of the destination (R285), or at 0
where this is the first start after a cold takeover (R248). -/
def State.loopStart (s : State) (i : Nat) : State :=
  s.loopChange i (fun s =>
    let (y, ok) := s.feedback i s.now
    let yv := if ok then y.val else (s.loop i).y
    let u0 := s.loopDestValue i
    s.modLoop i (fun x =>
      { x with
        state := .run, r := yv * 65536, rOut := yv, v := 0, a := 0, d := 0, y := yv, i := if x.cold then 0 else u0 * 1073741824, u := u0
        fbInvalid := !ok, fbSince := if ok then none else some s.now, stopTarget := none, move := none, cold := false }))

/-- RUN from TRACK: from the present u (R284). -/
def State.loopResume (s : State) (i : Nat) : State :=
  s.loopChange i (fun s => s.modLoop i (fun x => { x with state := .run, stopTarget := none }))

/-- The slots of a partition that enters RUN with LOOP_AUTORUN = 1 (R284). -/
def State.loopsAutorun (s : State) (p : Nat) : State :=
  forEach (List.range 64) s (fun s i =>
    if s.ownLoop i = p ∧ s.parB 0x24 i 0x17 = true ∧ (s.loop i).state = .off ∧ s.unitUp 47 = true then s.loopStart i else s)

/-! ## One sample (R276) -/

/-- A notch in direct form I: its output and new states from x1 x2 w1 w2 (R281). -/
def State.notch (s : State) (i base : Nat) (st : List Int) (x : Int) : Fx × List Int :=
  let x1 := st.getD 0 0
  let x2 := st.getD 1 0
  let w1 := st.getD 2 0
  let w2 := st.getD 3 0
  let w := narrow (accSum [s.lp i base * x, s.lp i (base + 1) * x1, s.lp i (base + 2) * x2,
    -(s.lp i (base + 3) * w1), -(s.lp i (base + 4) * w2)])
  (w, [x, x1, w.val, w1])

/-- The integrator (R280): conditional integration, then the clamp to ±LOOP_ILIM. -/
def State.integrate (s : State) (i : Nat) (kie : Int) : Fx :=
  let x := s.loop i
  if (x.clampHi && decide (0 < kie)) || (x.clampLo && decide (kie < 0)) then { val := x.i }
  else
    let n := sat64 (x.i + kie)
    { n with val := within (s.lp i 0x15 * 1073741824) n.val }

/-- The control law of one sample, from the error, the derivative and the profile: u, and the slot's new
states (R276, R280, R281). -/
def State.control (s : State) (i : Nat) (e d : Int) (v a : Int) : Loop × Fx :=
  let x := s.loop i
  let int := s.integrate i (s.lp i 0xD * e)
  let sum := narrow (Fx.join int (accSum [s.lp i 0xC * e, int.val, s.lp i 0xE * d, s.lp i 0x10 * v, s.lp i 0x11 * a]))
  let pre := Fx.join sum (fxShift sum.val (signedOf 8 (s.parN 0x24 i 0x12)))
  let (n1, st1) := s.notch i 0x20 (x.notch.take 4) pre.val
  let (n2, st2) := s.notch i 0x28 (x.notch.drop 4) n1.val
  let injd := s.injVal i 2
  let u := Fx.join pre (Fx.join n1 (Fx.join n2 (sat32 (n2.val + injd))))
  let (uc, hi, lo) := fxClamp (s.lp i 0x14) (s.lp i 0x13) u.val
  ({ x with i := int.val, uPre := pre.val, notch := st1 ++ st2, u := uc, clampHi := hi, clampLo := lo }, u)

/-- One sample of a slot in RUN or STOPPING at time t. -/
def State.runSample (s : State) (i t : Nat) : State :=
  let x := s.loop i
  let (y, ok) := s.feedback i t
  let (r, v, a) := s.profile i
  let target := s.loopTarget i
  let done := decide (r = target ∧ v = 0 ∧ a = 0)
  let fault := s.destFaulted i
  let y1 := if ok then y.val else x.y
  let rOut := sat32 (q16 r + s.injVal i 0)
  let e0 := sat32 (if s.parB 0x24 i 0x16 then y1 - rOut.val else rOut.val - y1)
  let e := Fx.join rOut (Fx.join e0 (sat32 (e0.val + s.injVal i 1)))
  let dy := sat32 (x.y - y1)
  let dd := Fx.join dy (sat32 (dy.val - x.d))
  let dn := narrow (accSum [s.lp i 0xF * dd.val])
  let d := Fx.join dd (Fx.join dn (sat32 (x.d + dn.val)))
  let base := { x with
    r := r, v := v, a := a, y := y1, rOut := rOut.val, profileDone := done, fbInvalid := !ok, destFault := fault
    fbSince := if ok then none else (match x.fbSince with | some b => some b | none => some t)
    injected := s.injVal i 0 + s.injVal i 1 + s.injVal i 2, uPrev := x.u, at_ := t, injecting := s.injecting i
    move := s.nextMove i }
  let (next, fl) : Loop × Fx :=
    if !ok || fault then (base, y)
    else
      let (c, u) := s.control i e.val d.val (q16 v) (q16 a)
      ({ base with i := c.i, uPre := c.uPre, notch := c.notch, u := c.u, clampHi := c.clampHi, clampLo := c.clampLo
                   e := e.val, d := d.val },
       Fx.join y (Fx.join e (Fx.join d u)))
  s.modLoop i (fun _ =>
    { next with
      sat := fl.sat, arith := fl.arith
      satCount := (x.satCount + b2n fl.sat) % 256
      arithCount := (x.arithCount + b2n fl.arith) % 256 })

/-- One sample of a slot in TRACK: u is the track value, and r follows y (R284). -/
def State.trackSample (s : State) (i t : Nat) : State :=
  let x := s.loop i
  let (y, ok) := s.feedback i t
  let y1 := if ok then y.val else x.y
  let fault := s.destFaulted i
  s.modLoop i (fun x =>
    { x with
      r := y1 * 65536, rOut := y1, v := 0, a := 0, y := y1
      u := if fault then x.u else x.track
      i := if fault then x.i else x.track * 1073741824
      profileDone := y1 * 65536 == s.loopTarget i, move := none, injecting := s.injecting i
      fbInvalid := !ok, fbSince := none, destFault := fault, clampHi := false, clampLo := false
      sat := y.sat, arith := y.arith, injected := 0, uPrev := x.u, at_ := t
      satCount := (x.satCount + b2n y.sat) % 256
      arithCount := (x.arithCount + b2n y.arith) % 256 })

/-- One sample of a slot by its state. A STOPPING slot goes OFF once PROFILE_DONE shows (R284). -/
def State.loopStep (s : State) (i t : Nat) : State :=
  match (s.loop i).state with
  | .off => s
  | .run =>
    ((s.injSample i t).loopChange i (fun s => s.runSample i t)).loopDrive i
  | .track => (s.loopChange i (fun s => s.trackSample i t)).loopDrive i
  | .stopping =>
    let s1 := (s.loopChange i (fun s => s.runSample i t)).loopDrive i
    if (s1.loop i).profileDone then s1.loopOff i else s1

/-! ## The trace (R289, R290) -/

/-- TRC_CH k, where it is enabled: slot or port, and code. -/
def State.trcCh (s : State) (k : Nat) : Option (Nat × Nat) :=
  let w := s.par (paddr 0x24 0x50 (0x10 + k))
  if bitOf w 31 then some (fieldOf w 13 8, fieldOf w 7 0) else none

/-- The signal of a channel word (R289). -/
def State.trcSignal (s : State) (n code : Nat) : Word :=
  let x := s.loop n
  let v := s.valve n
  match code with
  | 0x00 => i32 x.rOut
  | 0x01 => i32 (q16 x.v)
  | 0x02 => i32 (q16 x.a)
  | 0x03 => i32 x.y
  | 0x04 => i32 x.e
  | 0x05 => i32 (narrow { val := x.i }).val
  | 0x06 => i32 x.uPre
  | 0x07 => i32 x.u
  | 0x08 => i32 x.injected
  | 0x09 => s.loopSt n
  | 0x10 => i32 v.speed
  | 0x11 => w32 (valveIndex v.phase)
  | 0x12 => w32 v.imeas
  | _ => Valve.status v

/-- The enabled channels in ascending number. -/
def State.trcChans (s : State) : List (Nat × Nat) := (List.range 16).filterMap s.trcCh

/-- The depth: floor(262,144 / c) samples (R289). -/
def State.trcDepth (s : State) : Nat := if s.trcChans.length = 0 then 0 else 262144 / s.trcChans.length

/-- A word crosses a level upward, as signed values. -/
def risesThrough (level was now_ : Int) : Bool := decide (was < level ∧ level ≤ now_)

/-- The trigger holds at this sample (R290). -/
def State.trcTriggers (s : State) (c0 : Option Word) (st : Option Nat) : Bool :=
  let tr := s.trace
  let level := (s.par (paddr 0x24 0x50 2)).toInt
  tr.forced ||
  (match s.parN 0x24 0x50 1, tr.prev0, c0 with
   | 1, some p, some n => risesThrough level p.toInt n.toInt
   | 2, some p, some n => risesThrough (-level) (-p.toInt) (-n.toInt)
   | 3, _, _ => tr.injStarted
   | 4, _, _ => tr.prevSt.isSome && tr.prevSt != st
   | _, _, _ => false)

/-- The trace takes a sample at time t: an ARMED one fills TRC_PRE samples before it looks at the trigger, a
TRIGGERED one fills the depth (R289, R290). -/
def State.traceSample (s : State) (t : Nat) : State :=
  let tr := s.trace
  let smp := (t, s.trcChans.map (fun c => s.trcSignal c.1 c.2))
  let c0 := (s.trcCh 0).map (fun c => s.trcSignal c.1 c.2)
  let st := (s.trcCh 0).map (fun c => s.loopBits c.1)
  let pre := s.parN 0x24 0x50 3
  let depth := s.trcDepth
  match tr.state with
  | .armed =>
    let ready := decide (pre ≤ tr.samples.length)
    if ready && s.trcTriggers c0 st then
      let all := (tr.samples.drop (tr.samples.length - pre)) ++ [smp]
      s.modTrace (fun x =>
        { x with
          samples := all.take depth, trigIndex := pre, state := if depth ≤ all.length then .done else .triggered
          forced := false, injStarted := false })
    else
      let all := tr.samples ++ [smp]
      s.modTrace (fun x =>
        { x with samples := all.drop (all.length - pre), prev0 := c0, prevSt := st, injStarted := x.injStarted && !ready })
  | .triggered =>
    let all := tr.samples ++ [smp]
    s.modTrace (fun x => { x with samples := all, state := if depth ≤ all.length then .done else .triggered })
  | _ => s

/-- The highest slot that has a sample instant at time t: the trace follows it (R289). -/
def State.lastSlotAt (s : State) (t : Nat) : Nat :=
  ((List.range 64).filter (fun i => t % s.loopPeriod i == 0)).foldl max 0

/-- LOOP_SAMPLE (R276): a sample instant of a slot, on the module that runs the plant. The loop and valve
records leave at the last slot of the instant (R252). An instant of the trace at which no slot samples is one of slot 0. -/
def execLoopSample (slot : Fin 64) (time : Nat) (s : State) : Outcome :=
  evt s time (fun s =>
    let t := s.now
    let own := decide (t % s.loopPeriod slot = 0)
    if s.unitUp 47 = false ∨ s.runsPlant = false then s
    else
      let s1 := if own then s.loopStep slot t else s
      if slot.val = s.lastSlotAt t then
        let s2 := if t % ratePeriod (s.parN 0x24 0x50 0) = 0 then s1.traceSample t else s1
        if own then s2.sendDelta 13 else s2
      else s1)

/-- LOOP_FB_TIMEOUT (R277): FB_INVALID has held for LOOP_FB_TMO_MS. -/
def execLoopFbTimeout (slot : Fin 64) (time : Nat) (s : State) : Outcome :=
  evt s time (fun s =>
    match (s.loop slot).fbSince with
    | none => s
    | some a =>
      if (s.loop slot).state == .run && decide (a + s.parN 0x24 slot 6 * 1000000 ≤ s.now) then
        (s.loopOff slot).record 0x24 0x03 127 [w32 slot]
      else s)

/-- INJ_DURATION_END (R288): INJ_DUR_MS after the first sample; 0 = until INJ_STOP. -/
def execInjDurationEnd (g : Fin 4) (time : Nat) (s : State) : Outcome :=
  evt s time (fun s =>
    let dur := s.parN 0x24 (0x40 + g) 5
    let x := s.inj g
    if x.running && decide (dur ≠ 0 ∧ x.startAt + dur * 1000000 ≤ s.now) then
      s.injEnd g (s.loop (s.parN 0x24 (0x40 + g) 0 % 64)).at_
    else s)

/-! ## Opcodes (R298) -/

/-- LOOP_READ. -/
def execLoopRead (t : Fin 16) (r : Req) (s : State) : Outcome :=
  opcode s t r { opcode := 0x2401, len := lenIs 1 } (fun s =>
    let i := (r.w 2).toNat
    let x := s.loop i
    if 64 ≤ i then (s, no stOutOfRange)
    else (s, .reply stOk [s.loopSt i, i32 x.rOut, i32 x.y, i32 x.u, i32 (narrow { val := x.i }).val, i32 (q16 x.v),
                          i32 (q16 x.a)]))

/-- STOP: the target becomes the nearest point at which the profile can come to rest (R284). -/
def State.loopStop (s : State) (i : Nat) : State :=
  let x := s.loop i
  let shape := s.parN 0x24 i 8
  let l := limitsOf (s.moveTerms i)
  let rest := if shape = 0 ∨ (x.v = 0 ∧ x.a = 0) then x.r
    else if shape = 3 then Config.restPoint x.r x.v x.a (s.lp i 9 * 65536) (s.lp i 0xA * 65536) (s.lp i 0xB * 65536)
    else x.r + roundQ (rideAll (shape == 2) (speedChange (shape == 2) l (ofQ32 x.v) (ofQ32 x.a) 0) (ofQ32 x.v) * 2 ^ 32)
  (s.injEndAll i).loopChange i (fun s =>
    s.modLoop i (fun x => { x with state := .stopping, stopTarget := some rest }))

/-- LOOP_CTRL (R284, R298): a command that the slot's state does not allow changes nothing. -/
def loopCtrl (t : Nat) (r : Req) (s : State) : State × Answer :=
  let i := fieldOf (r.w 2) 5 0
  let st := (s.loop i).state
  if fieldOf (r.w 2) 9 8 = 3 then (s, no stOutOfRange)
  else if !s.ownerRuns (s.ownLoop i) then (s, no (stRejected 0x10))
  else if s.tntRole t = 0 ∧ s.isOwnerTenant t (s.ownLoop i) = false then (s, no (stRejected 0x14))
  else if fieldOf (r.w 2) 9 8 = 0 then
    (match st with
     | .off => s.loopStart i
     | .track => s.loopResume i
     | _ => s, ok)
  else if fieldOf (r.w 2) 9 8 = 1 then
    (match st with
     | .run | .track =>
       (s.injEndAll i).loopChange i (fun s => s.modLoop i (fun x => { x with state := .track, track := (r.w 3).toInt }))
     | _ => s, ok)
  else
    (match st with
     | .run | .track => s.loopStop i
     | _ => s, ok)

/-- LOOP_CTRL with RUN. -/
def execLoopCtrlRun (t : Fin 16) (r : Req) (s : State) : Outcome :=
  opcode s t r { opcode := 0x2402, len := lenIs 2, active := true } (loopCtrl t r)

/-- LOOP_CTRL with TRACK. -/
def execLoopCtrlTrack (t : Fin 16) (r : Req) (s : State) : Outcome :=
  opcode s t r { opcode := 0x2402, len := lenIs 2, active := true } (loopCtrl t r)

/-- LOOP_CTRL with STOP. -/
def execLoopCtrlStop (t : Fin 16) (r : Req) (s : State) : Outcome :=
  opcode s t r { opcode := 0x2402, len := lenIs 2, active := true } (loopCtrl t r)

/-- A frequency in Q16.16 Hz exceeds half the rate of slot i (R288). -/
def State.tooFast (s : State) (i : Nat) (f : Int) : Bool :=
  decide (1000000000 * 65536 < 2 * f.natAbs * s.loopPeriod i)

/-- INJ_START: the generator starts at the slot's first sample after the command (R288). -/
def execInjStart (t : Fin 16) (r : Req) (s : State) : Outcome :=
  opcode s t r { opcode := 0x2403, role := 1, len := lenIs 1, active := true } (fun s =>
    let g := (r.w 2).toNat
    let i := s.parN 0x24 (0x40 + g) 0 % 64
    let kind := s.parN 0x24 (0x40 + g) 1
    if 4 ≤ g then (s, no stOutOfRange)
    else if (s.loop i).state ≠ .run then (s, no (stRejected 0x11))
    else if (s.inj g).running || (s.inj g).armed then (s, no (stRejected 0x12))
    else if (kind != 0 && s.tooFast i (s.lp (0x40 + g) 3)) || (kind == 1 && s.tooFast i (s.lp (0x40 + g) 4)) then
      (s, no (stRejected 0x15))
    else
      let at_ := (s.now / s.loopPeriod i + 1) * s.loopPeriod i
      (s.modInj g (fun _ => { armed := true, startAt := at_ }), .reply stOk [hiWord at_, loWord at_]))

/-- INJ_STOP. -/
def execInjStop (t : Fin 16) (r : Req) (s : State) : Outcome :=
  opcode s t r { opcode := 0x2404, role := 1, len := lenIs 1, active := true } (fun s =>
    let g := (r.w 2).toNat
    if 4 ≤ g then (s, no stOutOfRange)
    else (s.injEnd g (s.loop (s.parN 0x24 (0x40 + g) 0 % 64)).at_, ok))

/-- A read stream of object 0x05 runs (R290). -/
def State.traceStreams (s : State) : Bool :=
  (List.range 16).any (fun t =>
    match (s.tenant t).outStream with
    | some st => st.object == 0x05
    | none => false)

/-- TRACE_ARM (R290). -/
def execTraceArm (t : Fin 16) (r : Req) (s : State) : Outcome :=
  opcode s t r { opcode := 0x2405, role := 1, active := true } (fun s =>
    if s.trcChans.isEmpty then (s, no (stRejected 0x13))
    else if s.traceStreams then (s, no stResource)
    else ({ s with trace := { state := .armed } }, ok))

/-- TRACE_TRIGGER (R290): looked at once TRC_PRE samples are in. -/
def execTraceTrigger (t : Fin 16) (r : Req) (s : State) : Outcome :=
  opcode s t r { opcode := 0x2406 } (fun s =>
    if s.trace.state == .armed then (s.modTrace (fun x => { x with forced := true }), ok)
    else (s, no (stRejected 0x16)))

/-- TRACE_STATUS. -/
def execTraceStatus (t : Fin 16) (r : Req) (s : State) : Outcome :=
  opcode s t r { opcode := 0x2407 } (fun s =>
    let old := match s.trace.samples with | [] => 0 | x :: _ => x.1
    (s, .reply stOk [w32 s.trace.state.code, w32 s.trcDepth, hiWord old, loWord old, w32 s.trace.trigIndex]))

/-- The trace memory as object 0x05: the samples, then zeros, 262,144 words in all (R290). -/
def State.traceWords (s : State) : List Word :=
  let ws := s.trace.samples.flatMap (fun x => x.2)
  ws ++ List.replicate (262144 - ws.length) 0

end Sys2Proof.Machine
end

