-- ==== Sys2Proof/Machine/Packets.lean ====
section
/-! DEFINITION. The command window, external sessions, replies and the commands of group 0x01 and 0x02
that need no other unit (R159 to R181, R185, R186). -/

namespace Sys2Proof.Machine

/-! ## The command window (R159 to R163) -/

/-- The tenant that the window of partition p serves, while the module is powered (R159). -/
def State.windowTenant (s : State) (p : Nat) : Option Nat :=
  if s.power.state == .run then s.partTenant p else none

/-- Do f for the window's tenant. -/
def State.onWindow (s : State) (p : Nat) (f : State → Nat → State) : State :=
  match s.windowTenant p with
  | none => s
  | some t => f s t

/-- CW_TXDATA_WRITE (R160): ignored while a packet is held. -/
def execCwTxdataWrite (p : Fin 12) (w : Word) (s : State) : Outcome :=
  evt0 s (fun s => s.onWindow p (fun s t =>
    if (s.tenant t).txHeld then s
    else s.modTenant t (fun x => { x with assembly := x.assembly ++ [w], noHeader := false })))

/-- CW_TXCOMMIT_SUBMIT (R160): a commit with no credit free keeps the packet and shows TX_HELD. A
commit while a packet is held has no effect. -/
def execCwTxcommitSubmit (p : Fin 12) (time : Nat) (s : State) : Outcome :=
  evt s time (fun s => s.onWindow p (fun s t =>
    let x := s.tenant t
    if x.txHeld then s
    else if x.credits = 0 then
      s.modTenant t (fun x => { x with txHeld := true, noHeader := decide (x.assembly.length < 2) })
    else
      ((s.modTenant t (fun x => { x with assembly := [], noHeader := false })).enqueue t (packetOf s.now x.assembly)).drain 32 t))

/-- CW_TXCOMMIT_DISCARD (R159): the assembled packet is discarded, held or not. -/
def execCwTxcommitDiscard (p : Fin 12) (s : State) : Outcome :=
  evt0 s (fun s => s.onWindow p (fun s t =>
    s.modTenant t (fun x => { x with assembly := [], txHeld := false, noHeader := false })))

/-- The head reply is gone: its credit returns, and RX_READY stays set for the next one (R161, R162). -/
def State.headDone (s : State) (t : Nat) : State :=
  if (s.tenant t).unread.isEmpty then s else (s.modTenant t (fun x => { x with unread := x.unread.tail })).creditBack t

/-- CW_RXDATA_READ (R159, R161): a read without a reply returns 0 and has no effect. -/
def execCwRxdataRead (p : Fin 12) (s : State) : Outcome :=
  evt0 s (fun s => s.onWindow p (fun s t =>
    match (s.tenant t).unread with
    | [] => s.emit (.read 0)
    | u :: rest =>
      let s1 := s.emit (.read (u.words.headD 0))
      match u.words.tail with
      | [] => s1.headDone t
      | ws => s1.modTenant t (fun x => { x with unread := { words := ws } :: rest })))

/-- CW_RESET_WRITE (R163): a tenant reset; a lock it holds breaks with OWNER_RESET (R178). -/
def execCwResetWrite (p : Fin 12) (time : Nat) (s : State) : Outcome :=
  evt s time (fun s => s.onWindow p (fun s t => s.tenantReset t 1))

/-- CW_STATUS (R159). -/
def cwStatus (s : State) (t : Nat) : Word :=
  let x := s.tenant t
  packWord [(0, b2n (!x.unread.isEmpty)), (1, b2n (!x.assembly.isEmpty)), (2, b2n x.txHeld),
    (3, b2n (s.cfg.lock == some t)), (4, b2n s.cfg.broken.isSome), (5, b2n x.outStream.isSome),
    (6, b2n x.inStream.isSome)]

/-- CW_CREDIT (R159). -/
def cwCredit (x : Tenant) : Word :=
  packWord [(0, x.credits % 256), (8, x.queued.length % 256), (16, x.executing.length % 256), (24, x.unread.length % 256)]

/-- CW_FAULT (R159, R160): TX_OVERRUN once W0 says fewer words than have been written. -/
def cwFault (x : Tenant) : Word :=
  packWord [(0, b2n (decide (2 + fieldOf (x.assembly.headD 0) 23 16 < x.assembly.length))), (1, b2n x.noHeader)]

/-- What a read of a window register other than CW_RXDATA returns; WO registers read 0 (R159). -/
def cwRead (s : State) (t off : Nat) : Word :=
  let x := s.tenant t
  if off = 0x000 then packWord [(16, 0x4B43), (8, 1), (4, s.tntRole t), (0, t)]
  else if off = 0x004 then cwStatus s t
  else if off = 0x024 then w32 ((x.unread.map (fun u => u.words.length)).headD 0)
  else if off = 0x028 then cwCredit x
  else if off = 0x034 then cwFault x
  else 0

/-! ## Replies -/

/-- BULK_REPLY_PACKET (R166): each further packet of the running stream takes a free credit. -/
def execBulkReplyPacket (t : Fin 16) (s : State) : Outcome :=
  evt0 s (fun s =>
    let x := s.tenant t
    match x.outStream with
    | none => s
    | some st =>
      if x.credits = 0 || !s.takesPackets then s
      else
        let (r, next) := streamPacket (s.fillStream st)
        ((s.modTenant t (fun x => { x with credits := x.credits - 1, outStream := next })).toUnread t r).nextStream t)

/-- REPLY_ACKED (R162): an external master's TCP has acknowledged the oldest reply. -/
def execReplyAcked (t : Fin 16) (s : State) : Outcome :=
  evt0 s (fun s =>
    if (s.tenant t).session.isNone || (s.tenant t).unread.isEmpty then s else s.headDone t)

/-! ## TLS sessions (R179 to R181) -/

/-- SYS_TLS_PORTS has the port (R184): bit 0 = ports 1 and 2, bit 1 = port 3, bit 3 = port 4. -/
def State.listens (s : State) (port : Nat) : Bool :=
  let w := s.par (paddr 0x01 0 0)
  (decide (port = 1 ∨ port = 2) && bitOf w 0) || (port == 3 && bitOf w 1) || (port == 4 && bitOf w 3)

/-- The terms of a session: the operator certificate is presented if one is installed, otherwise the device certificate
(R179); in the recovery service the device certificate (R394). -/
def State.tlsTerms (s : State) : TlsTerms :=
  { certificate := if s.inRecovery then s.ident.deviceCert else s.ident.operatorCert.getD s.ident.deviceCert }

/-- TNT_CERT_FP of a tenant. -/
def State.tntFp (s : State) (t : Nat) : List Word :=
  (List.range 12).map (fun i => s.par (paddr 0x01 (0x10 + t) (0x10 + i)))

/-- The tenant a client certificate belongs to (R180); in factory defaults and in the recovery service
(R394), tenant 0 on port 4 by the issuer alone. -/
def State.sessionTenant (s : State) (port : Nat) (fp : List Word) (issuerOk : Bool) : Option Nat :=
  if s.inRecovery || s.cfg.defaulted then
    if port == 4 && issuerOk then some 0 else none
  else (List.range 16).find? (fun t => s.tntKind t == 1 && s.tntFp t == fp)

/-- Open sessions. -/
def State.sessions (s : State) : Nat :=
  ((List.range 16).filter (fun t => (s.tenant t).session.isSome)).length

/-- A session ends: a tenant reset with OWNER_RESET (R163, R178). -/
def State.closeSession (s : State) (t : Nat) : State :=
  if (s.tenant t).session.isSome then
    (s.modTenant t (fun x => { x with session := none })).tenantReset t 1
  else s

/-- TLS_SESSION_OPEN (R180). -/
def execTlsSessionOpen (port : Nat) (fp : List Word) (issuerOk : Bool) (time : Nat) (s : State) : Outcome :=
  evt s time (fun s =>
    if !s.takesPackets || !((s.inRecovery && port == 4) || s.listens port) then s
    else
      match s.sessionTenant port fp issuerOk with
      | none => s.emit (.tls "access_denied")
      | some t =>
        let s1 := s.closeSession t
        if 8 ≤ s1.sessions then s1
        else
          (s1.modTenant t (fun x => { x with session := some { port := port, lastPacket := s1.now } })).emit
            (.session port t s1.tlsTerms))

/-- TLS_SESSION_END (R163). -/
def execTlsSessionEnd (t : Fin 16) (s : State) : Outcome :=
  evt0 s (fun s => s.closeSession t)

/-- TLS_IDLE_TIMEOUT (R181): SYS_TLS_IDLE_S seconds without a packet; 0 = never. -/
def execTlsIdleTimeout (t : Fin 16) (time : Nat) (s : State) : Outcome :=
  evt s time (fun s =>
    let lim := s.parN 0x01 0 1
    match (s.tenant t).session with
    | none => s
    | some w =>
      if lim ≠ 0 ∧ w.lastPacket + lim * 1000000000 ≤ s.now then
        (s.closeSession t).emit (.tls "close_notify")
      else s)

/-! ## Group 0x01 -/

/-- The tenant is in use (R171). -/
def State.inUse (s : State) (t : Nat) : Bool := s.tntKind t != 0

/-- Cells that channels hold in all. -/
def Pool.heldSum (q : Pool) : Nat := ((List.range 32).map (fun c => q.held.get c)).sum

/-- POOL_AUDIT (R173). -/
def execPoolAudit (t : Fin 16) (r : Req) (s : State) : Outcome :=
  opcode s t r { opcode := 0x0104 } (fun s =>
    (s, .reply stOk
      ([w32 s.pool.free, w32 s.pool.transit, w32 (Pool.heldSum s.pool),
        w32 (s.pool.free + s.pool.transit + Pool.heldSum s.pool)] ++
       (List.range 32).map (fun c => w32 (s.pool.held.get c)) ++
       (List.range 16).map (fun k => if s.inUse k then cwCredit (s.tenant k) else 0x20))))

/-- TENANT_LIST (R185); a tenant is in reset while requests it no longer waits for still execute (R163). -/
def execTenantList (t : Fin 16) (r : Req) (s : State) : Outcome :=
  opcode s t r { opcode := 0x0131 } (fun s =>
    (s, .reply stOk ((List.range 16).map (fun k =>
      let x := s.tenant k
      packWord [(0, s.tntKind k), (4, s.tntRole k), (8, b2n x.session.isSome),
                (9, b2n (x.executing.any (fun e => e.discard)))]))))

/-- An open write stream is discarded without writing (R185). -/
def State.cancelWrite (s : State) (t : Nat) : State :=
  match (s.tenant t).inStream with
  | none => s
  | some w =>
    (s.modTenant t (fun x => { (Tenant.addEnded x w.pkt.req.seq) with inStream := none })).finish t
      w.pkt.req.seq stStreamAborted []

/-- What BULK_CANCEL does by W2 (R185). -/
def cancelBody (t : Nat) (r : Req) (s : State) : State × Answer :=
  if r.w 2 = 0 then (s.abortStream t, ok)
  else if r.w 2 = 1 then (s.cancelWrite t, ok)
  else (s, no stOutOfRange)

/-- BULK_CANCEL_REPLY (R185). -/
def execBulkCancelReply (t : Fin 16) (r : Req) (s : State) : Outcome :=
  opcode s t r { opcode := 0x0112, len := lenIs 1 } (cancelBody t r)

/-- BULK_CANCEL_WRITE (R185). -/
def execBulkCancelWrite (t : Fin 16) (r : Req) (s : State) : Outcome :=
  opcode s t r { opcode := 0x0112, len := lenIs 1 } (cancelBody t r)

/-! ## The configuration lock (R174, R175) -/

/-- CFG_BEGIN (R174). -/
def execCfgBegin (t : Fin 16) (r : Req) (s : State) : Outcome :=
  opcode s t r { opcode := 0x0201, role := 1, config := true, takes := true } (fun s =>
    let s1 := if s.cfg.lock.isSome then s
      else { s with cfg := { (Cfg.clearStaged s.cfg) with lock := some t.val }
                    ident := { s.ident with lockRecord := some t.val } }
    (s1, .reply stOk [w32 s.cfg.generation]))

/-- The lock is released. -/
def State.unlock (s : State) : State :=
  { s with cfg := { (Cfg.clearStaged s.cfg) with lock := none }, ident := { s.ident with lockRecord := none } }

/-- CFG_ABORT (R175). -/
def execCfgAbort (t : Fin 16) (r : Req) (s : State) : Outcome :=
  opcode s t r { opcode := 0x0203, role := 1, config := true } (fun s => (s.unlock, ok))

end Sys2Proof.Machine
end

