-- ==== Sys2Proof/Machine/Parts.lean ====
section
/-! DEFINITION. Partitions (R187 to R204, R211 to R213): their faults, resets and restarts, the safe
states of what they own, and the commands about them. -/

namespace Sys2Proof.Machine

/-! ## What a partition owns -/

/-- Output and loop units that partition p owns go to their safe states (R199, R203, R226). -/
def State.outputsSafe (s : State) (p : Nat) : State :=
  let s1 := forEach (List.range 64) s (fun s i => if s.ownLoop i = p then s.loopOff i else s)
  let s2 := forEach (List.range 32) s1 (fun s i => if s.ownDo (i + 1) = p then s.doSafe (i + 1) else s)
  let s3 := forEach (List.range 32) s2 (fun s i =>
    if s.ownAo (i + 1) = p ∧ s.anaMode (i + 1) = 3 then s.anaSafe (i + 1) else s)
  let s4 := forEach (List.range 16) s3 (fun s i => if s.ownValve (i + 1) = p then s.valveSafe (i + 1) else s)
  let s5 := forEach (List.range 8) s4 (fun s i => if s.ownLeap (i + 1) = p then s.leapSafe (i + 1) else s)
  (s5.modPart p (fun x => { x with outSafe := true })).syncFdp

/-- The partition is configured, and this module could run it: its core pair is up and the module runs the plant. -/
def State.partLive (s : State) (p : Nat) : Bool :=
  s.power.state == .run && s.pairUp p && s.runsPlant && s.parB 0x03 p 0

/-- The partition's program executes: RUN or STARTING, or a stepped cycle while HELD (R226, R227). -/
def State.partExec (s : State) (p : Nat) : Bool :=
  s.partLive p &&
  match (s.part p).state with
  | .run | .starting => true
  | .held => (s.part p).inCycle
  | _ => false

/-- The program's core runs it now: it executes, within its slice (R189). -/
def State.partNow (s : State) (p : Nat) : Bool := s.partExec p && s.inSlice p

/-- PART_KIND. -/
def State.partKind (s : State) (p : Nat) : Nat := s.parN 0x03 p 1

/-! ## Faults (R198 to R200) -/

/-- The mode requests that a fault overtakes are answered as in FAULTED (R226). -/
def State.refuseAsks (s : State) (p : Nat) : State :=
  let asks := (s.part p).asks
  forEach asks (s.modPart p (fun x => { x with asks := [] })) (fun s a =>
    match a with
    | .stop t q => s.finish t q (stRejected 0x21) []
    | .hold t q => s.finish t q (stRejected 0x21) []
    | .step t q => s.finish t q (stRejected 0x21) [])

/-- The tenant reset of partition p's tenant (R163). -/
def State.partTenantReset (s : State) (p detail : Nat) : State :=
  match s.partTenant p with
  | none => s
  | some t => s.tenantReset t detail

/-- A partition fault of a class of R198 at an address (R199). -/
def State.partFault (s : State) (p cls addr : Nat) : State :=
  let cycle := (s.part p).sysCycle
  let s1 := (s.outputsSafe p).modPart p (fun x =>
    { x with
      state := .faulted, fault := cls, faultPc := addr, inCycle := false
      restartAt := if s.parN 0x03 p 8 = 1 then some (s.now + 10000000) else none })
  ((s1.refuseAsks p).partTenantReset p 2).record 0x03 0x01 p [w32 cls, w32 addr, w32 cycle]

/-- A cycle of the partition takes core time now: one runs, or its step 6, in which event tasks count toward it (R191). -/
def State.cycleCounts (s : State) (p : Nat) : Bool :=
  s.partNow p && ((s.part p).inCycle || (s.part p).state == .run) && (s.part p).state != .held

/-- BUDGET_FAULT (R191): a cycle reaches its budget; it is suspended while HELD (R192). -/
def execBudgetFault (p : Fin 12) (pc : Word) (time : Nat) (s : State) : Outcome :=
  evt s time (fun s => if s.cycleCounts p then s.partFault p 1 pc.toNat else s)

/-- GECKO_EXPIRY (R192): PART_GECKO_MS without a cycle end, while not HELD. -/
def execGeckoExpiry (p : Fin 12) (pc : Word) (time : Nat) (s : State) : Outcome :=
  evt s time (fun s =>
    if s.partExec p && (s.part p).state != .held &&
        decide ((s.part p).feedAt + s.parN 0x03 p 5 * 1000000 ≤ s.now) then
      s.partFault p 2 pc.toNat
    else s)

/-- MEM_FAULT (R193): an access that the address map does not allow. -/
def execMemFault (p : Fin 12) (addr : Word) (time : Nat) (s : State) : Outcome :=
  evt s time (fun s => if s.partNow p then s.partFault p 3 addr.toNat else s)

/-- ARITH flags fault partition p (R225). -/
def State.arithTraps (s : State) (p : Nat) : Bool := s.partKind p == 0 && s.parN 0x03 p 9 == 1

/-- ARITH_FAULT (R225): an operation raises an ARITH flag while PART_ARITH_TRAP = 1. -/
def execArithFault (p : Fin 12) (pc : Word) (op : ArithOp) (time : Nat) (s : State) : Outcome :=
  evt s time (fun s =>
    if s.partNow p && s.arithTraps p && decide (op.result.flags ≠ 0) then
      (s.emit (.arith op.result.val op.result.flags)).partFault p 5 pc.toNat
    else s)

/-- ECC_FAULT (R195): an error that cannot be corrected, in memory the partition reads. -/
def execEccFault (p : Fin 12) (pc : Word) (time : Nat) (s : State) : Outcome :=
  evt s time (fun s => if s.partNow p then s.partFault p 6 pc.toNat else s)

/-- ECC_CORRECTED (R195): the correction is counted; the entry of its second follows at a tick edge. -/
def execEccCorrected (p : Fin 12) (time : Nat) (s : State) : Outcome :=
  evt s time (fun s =>
    if s.up 41 && s.parB 0x03 p 0 then
      s.modPart p (fun x =>
        { x with eccCount := x.eccCount + 1, eccAt := if x.eccCount = 0 then s.now else x.eccAt })
    else s)

/-! ## Resets and starts (R201, R226, R422) -/

/-- The view of a PART_KIND 0 partition as the Scan Engine sets it up (R222): PRIGROUP 3, the bound
sources' priorities and enables. -/
def State.setupView (s : State) (p : Nat) : State :=
  if s.partKind p = 0 then
    let s1 := s.modView p (fun v => { v with prigroup := 3, effGroup := 3, enable := 0 })
    forEach (List.range 16) s1 (fun s k =>
      match s.evtBind p k with
      | none => s
      | some (n, pr) =>
        s.modView p (fun v =>
          { v with
            enable := setBit v.enable n true
            srcs := v.srcs.modify n (fun x => { x with prio := pr * 16 + k }) }))
  else s

/-- The non-volatile buffer of the retained region that is current (R231). -/
def Part.retained (x : Part) : Memory := if x.retCurB then x.retB else x.retA

/-- The memory of partition p as its image and its retained buffer give it (R201): the rest reads 0. -/
def Part.loaded (x : Part) : Memory :=
  match x.image with
  | none => Part.retained x
  | some im => Memory.writeWords (Memory.writeWords (Part.retained x) 0 im.program) baseData im.data

/-- The partition's record after a partition reset: its image, its retained buffers, its force list, its
restart history, its cycle statistics and its counts for the recorder stay (R201, R228, R422). -/
def Part.afterReset (x : Part) : Part :=
  { image := x.image, mem := Part.loaded x, retA := x.retA, retB := x.retB, retCurB := x.retCurB, retAt := x.retAt
    restarts := x.restarts, forces := x.forces, stats := x.stats
    eccCount := x.eccCount, eccAt := x.eccAt, errAt := x.errAt, errBits := x.errBits, errCount := x.errCount }

/-- A partition reset (R201): tenant reset, load, view, compare units and display zone at their reset
values, outputs safe. -/
def State.partReset (s : State) (p : Nat) : State :=
  let s1 := ((s.outputsSafe p).refuseAsks p).partTenantReset p 1
  let s2 := (s1.modPart p Part.afterReset).resetView p
  let s3 := { s2 with
    cmps := s2.cmps.map (fun (e : Nat × Cmp) => if e.1 / 32 = p then (e.1, {}) else e)
    display := { s2.display with zones := s2.display.zones.set p {} } }
  s3.setupView p

/-- The partition starts: STARTING now, its grid from this instant, its Gecko fed (R215, R226). On a core pair that
is down none starts (R25, R26). -/
def State.partStart (s : State) (p : Nat) : State :=
  if s.pairUp p then
    s.modPart p (fun x =>
      { x with state := .starting, tRun := s.now, nextGrid := s.now, feedAt := s.now, skipped := false, busCount := 0
               outSafe := true })
  else s

/-- Restarts of a partition within the last 60 s (R199, R211). -/
def State.recentRestarts (s : State) (p : Nat) : Nat :=
  ((s.part p).restarts.filter (fun t => decide (s.now < t + 60000000000))).length

/-- PART_RESTART (R199 step 5): 10 ms after the fault, unless 3 restarts fell in the last 60 s. -/
def execPartRestart (p : Fin 12) (time : Nat) (s : State) : Outcome :=
  evt s time (fun s =>
    match (s.part p).restartAt with
    | none => s
    | some a =>
      if s.now < a ∨ (s.part p).state ≠ .faulted ∨ s.partLive p = false then s
      else if 3 ≤ s.recentRestarts p then s.modPart p (fun x => { x with restartAt := none })
      else
        ((s.partReset p).partStart p).modPart p (fun x => { x with restarts := (s.now :: x.restarts).take 3 }))

/-! ## Opcodes (R213) -/

/-- The partition of a payload, in W2[3:0]. -/
def partOf (r : Req) : Nat := fieldOf (r.w 2) 3 0

/-- Do f for the partition of the payload; 12 to 15 name none. -/
def onPart (r : Req) (s : State) (f : Nat → State × Answer) : State × Answer :=
  if partOf r < 12 then f (partOf r) else (s, no stOutOfRange)

/-- PART_FAULT and PART_FAULT_PC (R211): 0 outside FAULTED. -/
def Part.faultShown (x : Part) : Nat := if x.state = .faulted then x.fault else 0
def Part.pcShown (x : Part) : Nat := if x.state = .faulted then x.faultPc else 0

/-- PART_STATUS (R213). -/
def execPartStatus (t : Fin 16) (r : Req) (s : State) : Outcome :=
  opcode s t r { opcode := 0x0301, len := lenIs 1 } (fun s => onPart r s (fun p =>
    let x := s.part p
    (s, .reply stOk [w32 x.state.code, w32 (Part.faultShown x), w32 (Part.pcShown x), w32 x.execUs, w32 (s.recentRestarts p)])))

/-- PART_RESET (R213). -/
def execPartReset (t : Fin 16) (r : Req) (s : State) : Outcome :=
  opcode s t r { opcode := 0x0302, role := 1, len := lenIs 1, active := true } (fun s => onPart r s (fun p =>
    if !s.parB 0x03 p 0 then (s, no (stRejected 0x10))
    else if (s.part p).image.isNone then (s, no (stRejected 0x11))
    else (doIf (bitOf (r.w 2) 8) (s.partReset p) (fun s => s.partStart p), ok)))

/-- PART_IMAGE_INFO (R213). -/
def execPartImageInfo (t : Fin 16) (r : Req) (s : State) : Outcome :=
  opcode s t r { opcode := 0x0303, len := lenIs 1 } (fun s => onPart r s (fun p =>
    match (s.part p).image with
    | none => (s, .reply stOk (List.replicate 7 0))
    | some im => (s, .reply stOk ((List.range 6).map (fun i => im.header.getD (i + 2) 0) ++ [1]))))

end Sys2Proof.Machine
end

