-- ==== Sys2Proof/Machine/EventFabric.lean ====
section
/-! DEFINITION. The Event Fabric views and the register pages of a partition (R190, R193, R205 to R210,
R269 to R271): events, claims, completions, the set and clear words, compare units, plain registers. -/

namespace Sys2Proof.Machine

/-! ## Events and claims (R206 to R210) -/

/-- The program behind a view runs and can reach it: a partition's core now, or the Keeper for view 12. -/
def State.viewLive (s : State) (v : Nat) : Bool :=
  if v = 12 then s.power.state == .run && s.keeperUp else s.partNow v

/-- EVF_SOURCE_EVENT (R209, R210): software sources are set only through EVF_SETPEND (R206). -/
def execEvfSourceEvent (v : Fin 13) (src : Fin 1024) (time : Nat) (s : State) : Outcome :=
  evt s time (fun s => if src.val < 512 ∧ s.power.state = .run then s.event v src else s)

/-- The view's core is told of what may pre-empt now: event tasks run, or the view signals (R209, R223). -/
def State.viewServe (s : State) (v : Nat) : State :=
  if v < 12 then (s.runTasks v).signal v else s.signal v

/-- EVF_CLAIM_READ (R209): the source that may pre-empt, or 0x3FF without any effect. -/
def execEvfClaimRead (v : Fin 13) (s : State) : Outcome :=
  evt0 s (fun s =>
    if s.viewLive v then
      match s.highest v with
      | none => s.emit (.read 0x3FF)
      | some n => ((s.modView v (fun w => w.claim n)).emit (.read ((s.view v).claimWord n))).signal v
    else s)

/-- A completion with a number that is not on top: the partition faults with EVENT_ORDER (R209). The
address of that fault is not given (log entry 2). The Keeper's view belongs to no partition. -/
def State.eventOrder (s : State) (v : Nat) : State :=
  if v < 12 then (s.partFault v 4 s.freeWord.toNat).tookFree else s

/-- EVF_COMPLETE_WRITE (R209): the top of the stack is removed; 0x3FF is ignored. -/
def execEvfCompleteWrite (v : Fin 13) (w : Word) (time : Nat) (s : State) : Outcome :=
  evt s time (fun s =>
    if s.viewLive v then
      let n := fieldOf w 9 0
      if n = 0x3FF then s
      else
        match (s.view v).stack with
        | [] => s.eventOrder v
        | (top, _) :: _ => if top = n then (s.modView v View.complete).viewServe v else s.eventOrder v
    else s)

/-- The sources of a bank that a word names and that are assigned to the view (R206). -/
def State.bankSources (s : State) (v b : Nat) (w : Word) : List Nat :=
  ((List.range 32).filter (fun i => bitOf w i && s.srcAssigned v (32 * b + i))).map (fun i => 32 * b + i)

/-- EVF_SETEN_WRITE (R207): a source that is pending is delivered once it is enabled (R210). -/
def execEvfSetenWrite (v : Fin 13) (bank : Fin 32) (w : Word) (s : State) : Outcome :=
  evt0 s (fun s =>
    if s.viewLive v then
      (forEach (s.bankSources v bank w) s
        (fun s n => s.modView v (fun x => { x with enable := setBit x.enable n true }))).viewServe v
    else s)

/-- EVF_CLREN_WRITE (R207). -/
def execEvfClrenWrite (v : Fin 13) (bank : Fin 32) (w : Word) (s : State) : Outcome :=
  evt0 s (fun s =>
    if s.viewLive v then
      forEach (s.bankSources v bank w) s
        (fun s n => s.modView v (fun x => { x with enable := setBit x.enable n false }))
    else s)

/-- EVF_SETPEND_WRITE (R207): each named source takes an event, a forced input's too, since the program raises it. -/
def execEvfSetpendWrite (v : Fin 13) (bank : Fin 32) (w : Word) (s : State) : Outcome :=
  evt0 s (fun s =>
    if s.viewLive v then forEach (s.bankSources v bank w) s (fun s n => s.raise v n) else s)

/-- EVF_CLRPEND_WRITE (R207): pending bits and counts are cleared. -/
def execEvfClrpendWrite (v : Fin 13) (bank : Fin 32) (w : Word) (s : State) : Outcome :=
  evt0 s (fun s =>
    if s.viewLive v then
      forEach (s.bankSources v bank w) s (fun s n =>
        s.modView v (fun x =>
          { x with
            pending := setBit x.pending n false
            srcs := x.srcs.modify n (fun y => { y with count := 0, sat := false }) }))
    else s)

/-! ## What a read of the page returns (R206, R207) -/

/-- A bit word of bank b; a source that is not assigned to the view reads 0. -/
def State.bankWord (s : State) (v b : Nat) (bit : Nat → Bool) : Word :=
  packWord ((List.range 32).map (fun i => (i, b2n (s.srcAssigned v (32 * b + i) && bit (32 * b + i)))))

/-- A register of bank b at an offset within its 64 bytes. -/
def State.bankRead (s : State) (v b off : Nat) : Word :=
  let x := s.view v
  if off = 0x00 ∨ off = 0x04 then s.bankWord v b x.enable.getLsbD
  else if off = 0x08 ∨ off = 0x0C then s.bankWord v b x.pending.getLsbD
  else if off = 0x10 then s.bankWord v b (fun n => x.stack.any (fun e => e.1 == n))
  else if 0x20 ≤ off then
    packWord ((List.range 4).map (fun j =>
      let n := 32 * b + 4 * ((off - 0x20) / 4) + j
      (8 * j, if s.srcAssigned v n then (x.srcs.get n).prio else 0)))
  else 0

/-- What a read of view v's page returns at a word offset, other than EVF_CLAIM, whose read claims (EVF_CLAIM_READ): a WO register
and whatever the map does not list read 0. The Keeper's view shows 12 as its partition (log entry 200). -/
def State.evfRead (s : State) (v off : Nat) : Word :=
  let x := s.view v
  if off = 0x000 then packWord [(16, 0x4556), (8, 1), (0, v)]
  else if off = 0x004 then packWord [(0, x.prigroup), (8, b2n x.deliver)]
  else if off = 0x018 then (match x.stack with | [] => 0x3FF | (n, p) :: _ => packWord [(0, n), (16, p)])
  else if off = 0x01C then w32 x.stack.length
  else if off = 0x020 then w32 ((s.highest v).getD 0x3FF)
  else if 0x200 ≤ off ∧ off < 0xA00 then s.bankRead v ((off - 0x200) / 0x40) ((off - 0x200) % 0x40)
  else 0

/-! ## Slices (R189, R190) -/

/-- SLICE_BEGIN (R189): the slice of partition p begins on its shared pair, and its waiting events are served. A partition
that is alone on its pair has no slices. -/
def execSliceBegin (pair : Fin 8) (p : Fin 12) (time : Nat) (s : State) : Outcome :=
  evt s time (fun s =>
    if s.power.state = .run ∧ s.sliceDue pair p = true then
      ({ s with slices := s.slices.set pair (some (s.newSlice pair p)) }).viewServe p
    else s)

/-! ## Compare units (R269 to R271) -/

/-- The unit's target is reached: a signed 32-bit difference in short mode, the 64-bit time in long mode. -/
def Cmp.reached (u : Cmp) (now : Nat) : Bool :=
  if u.long then decide (ofHiLo u.tgtHi u.tgtLo ≤ now) else decide (0 ≤ (loWord now - u.tgtLo).toInt)

/-- The unit after a fire: disarmed, or its target later by CMP_PERIOD. -/
def Cmp.fired (u : Cmp) : Cmp :=
  if u.periodic then
    if u.long then
      let n := ofHiLo u.tgtHi u.tgtLo + u.period.toNat
      { u with tgtLo := loWord n, tgtHi := hiWord n }
    else { u with tgtLo := u.tgtLo + u.period }
  else { u with armed := false }

/-- An armed unit that has reached its target fires once: its source in its partition's view is set. -/
def State.cmpFire (s : State) (p u : Nat) : State :=
  if (s.cmp p u).armed && Cmp.reached (s.cmp p u) s.now then (s.modCmp p u Cmp.fired).event p (256 + u) else s

/-- COMPARE_FIRE (R269). -/
def execCompareFire (p : Fin 12) (u : Fin 32) (time : Nat) (s : State) : Outcome :=
  evt s time (fun s => if s.power.state = .run ∧ s.up 41 = true then s.cmpFire p u else s)

/-- CMP_NOW_LO_READ (R270): the low word of plant time; the high word is latched. -/
def execCmpNowLoRead (p : Fin 12) (time : Nat) (s : State) : Outcome :=
  evt s time (fun s =>
    if s.partNow p then
      (s.modPart p (fun x => { x with cmpHi := hiWord s.now })).emit (.read (loWord s.now))
    else s)

/-- What a read of partition p's compare page returns at a word offset, other than CMP_NOW_LO, whose read latches
(CMP_NOW_LO_READ): CMP_CTRL returns the armed state in bit 0 (R270). -/
def State.cmpRead (s : State) (p off : Nat) : Word :=
  if off = 0x004 then (s.part p).cmpHi
  else if off = 0x008 then packWord ((List.range 32).map (fun u => (u, b2n (s.cmp p u).armed)))
  else if 0x100 ≤ off ∧ off < 0x300 then
    let x := s.cmp p ((off - 0x100) / 16)
    if off % 16 = 0 then x.tgtLo
    else if off % 16 = 4 then x.tgtHi
    else if off % 16 = 8 then x.period
    else if off % 16 = 12 then packWord [(0, b2n x.armed), (1, b2n x.periodic), (2, b2n x.long)]
    else 0
  else 0

/-- CMP_CTRL_ARM (R270): a period below 1,000 ns arms as one-shot; a target already past fires at once (R271). -/
def execCmpCtrlArm (p : Fin 12) (u : Fin 32) (periodic long : Bool) (time : Nat) (s : State) : Outcome :=
  evt s time (fun s =>
    if s.partNow p then
      (s.modCmp p u (fun x =>
        { x with armed := true, periodic := periodic && decide (1000 ≤ x.period.toNat), long := long })).cmpFire p u
    else s)

/-- CMP_CTRL_DISARM (R270). -/
def execCmpCtrlDisarm (p : Fin 12) (u : Fin 32) (periodic long : Bool) (s : State) : Outcome :=
  evt0 s (fun s =>
    if s.partNow p then s.modCmp p u (fun x => { x with armed := false, periodic := periodic, long := long }) else s)

/-! ## Plain registers and memory (R193, R207, R219, R270, R438) -/

/-- Bytes of the program region: the image's PROG_WORDS. -/
def State.programBytes (s : State) (p : Nat) : Nat :=
  match (s.part p).image with
  | none => 0
  | some im => 4 * im.program.length

/-- Bytes of the data region: the rest of PART_MEM_KIB (R193). -/
def State.dataBytes (s : State) (p : Nat) : Nat := s.parN 0x03 p 6 * 1024 - s.programBytes p

/-- A memory byte that the partition may write: data, retained region or output image (R193, R219). -/
def State.byteWritable (s : State) (p a : Nat) : Bool :=
  decide (baseData ≤ a ∧ a < baseData + s.dataBytes p) ||
  decide (baseRetain ≤ a ∧ a < baseRetain + s.retainBytes p) ||
  decide (baseOut ≤ a ∧ a < baseOut + 0x2000)

/-- Write the low bytes of a word, the first at the lowest address. -/
def Memory.writeBytes (m : Memory) (a n : Nat) (w : Word) : Memory :=
  (List.range n).foldl (fun m i => m.write (a + i) (byteOf w i)) m

/-- The source of a priority byte at a page offset; none outside the priority words (R207). -/
def prioSource (off : Nat) : Option Nat :=
  if 0x200 ≤ off ∧ off < 0xA00 ∧ 0x20 ≤ (off - 0x200) % 0x40 then
    some ((off - 0x200) / 0x40 * 32 + ((off - 0x200) % 0x40 - 0x20))
  else none

/-- The Scan Engine owns the view of a PART_KIND 0 partition (R222): a program cannot change its PRIGROUP and priorities
(log entry 200). -/
def State.engineOwns (s : State) (v : Nat) : Bool := decide (v < 12) && s.partKind v == 0

/-- A write to the Event Fabric page: EVF_CTRL and the priorities; other registers have rows of their own
or are read only (R207, R208). -/
def State.writeView (s : State) (v off bytes : Nat) (w : Word) : State :=
  if off = 0x004 ∧ bytes = 4 then
    (s.modView v (fun x =>
      { x with
        prigroup := if s.engineOwns v then x.prigroup else fieldOf w 2 0
        effGroup := if x.stack.isEmpty && !s.engineOwns v then fieldOf w 2 0 else x.effGroup
        deliver := bitOf w 8 })).viewServe v
  else
    (forEach (List.range bytes) s (fun s i =>
      match prioSource (off + i) with
      | none => s
      | some n =>
        if s.srcAssigned v n && !s.engineOwns v then
          s.modView v (fun x => { x with srcs := x.srcs.modify n (fun y => { y with prio := (byteOf w i).toNat }) })
        else s)).viewServe v

/-- A write to the compare page: targets and periods (R270). -/
def State.writeCmp (s : State) (p off : Nat) (w : Word) : State :=
  if 0x100 ≤ off ∧ off < 0x300 then
    let u := (off - 0x100) / 16
    if off % 16 = 0 then s.modCmp p u (fun x => { x with tgtLo := w })
    else if off % 16 = 4 then s.modCmp p u (fun x => { x with tgtHi := w })
    else if off % 16 = 8 then s.modCmp p u (fun x => { x with period := w })
    else s
  else s

/-- A write to the display user zone: the shadow segment words (R438). -/
def State.writeZone (s : State) (p off : Nat) (w : Word) : State :=
  let z := s.display.zones.get p
  if off = 4 then { s with display := { s.display with zones := s.display.zones.set p { z with segLo := w } } }
  else if off = 8 then { s with display := { s.display with zones := s.display.zones.set p { z with segHi := w } } }
  else s

/-- A write of a partition's program (R193): memory, or a page; anything else faults with MEM. -/
def State.partWrite (s : State) (p a bytes : Nat) (w : Word) : State :=
  if (List.range bytes).all (fun i => s.byteWritable p (a + i)) then
    s.modPart p (fun x => { x with mem := Memory.writeBytes x.mem a bytes w })
  else if 0x40000000 ≤ a ∧ a + bytes ≤ 0x40001000 then s
  else if 0x40010000 ≤ a ∧ a + bytes ≤ 0x40011000 then s.writeView p (a - 0x40010000) bytes w
  else if 0x40030000 ≤ a ∧ a + bytes ≤ 0x40031000 then
    (if bytes = 4 then s.writeCmp p (a - 0x40030000) w else s)
  else if 0x40040000 ≤ a ∧ a + bytes ≤ 0x40041000 then
    (if bytes = 4 then s.writeZone p (a - 0x40040000) w else s)
  else s.partFault p 3 a

/-- REGISTER_WRITE (R207): a write of 1, 2 or 4 bytes by the program behind a view; the Keeper writes
its own view. -/
def execRegisterWrite (v : Fin 13) (addr : Word) (bytes : Nat) (w : Word) (time : Nat) (s : State) : Outcome :=
  evt s time (fun s =>
    let a := addr.toNat
    if !s.viewLive v || !(bytes == 1 || bytes == 2 || bytes == 4) then s
    else if v.val = 12 then
      (if 0x40010000 ≤ a ∧ a + bytes ≤ 0x40011000 then s.writeView 12 (a - 0x40010000) bytes w else s)
    else s.partWrite v a bytes w)

end Sys2Proof.Machine
end

