-- ==== Sys2Proof/Machine/Scan.lean ====
section
/-! DEFINITION. The Scan Engine (R214 to R234): the cycle, the images, substitution, event and error
tasks, the operating modes, forcing and the retained region. -/

namespace Sys2Proof.Machine

/-- A count shown in a field of `bits` bits; one that does not fit is not stated (log entry 2). -/
def State.fit (s : State) (bits n : Nat) : Nat := if n < 2 ^ bits then n else s.freeWord.toNat % 2 ^ bits

/-- A free value has been used if the count did not fit. -/
def State.fitUsed (s : State) (bits n : Nat) : State := if n < 2 ^ bits then s else s.tookFree

/-! ## Forcing (R228) -/

/-- The bit of a force at absolute bit position b of the images; none outside its field. -/
def Force.bitAt (f : Force) (b : Nat) : Option Bool :=
  if 8 * f.addr + f.bit ≤ b ∧ b < 8 * f.addr + f.bit + f.width then
    some (Nat.testBit f.value (b - (8 * f.addr + f.bit)))
  else none

/-- A word at an image offset with the forces applied. -/
def forceWord (fs : List Force) (off : Nat) (w : Word) : Word :=
  fs.foldl (fun w f =>
    packWord ((List.range 32).map (fun i => (i, b2n ((Force.bitAt f (8 * off + i)).getD (bitOf w i)))))) w

/-- The bytes of the images that a force touches. -/
def Force.bytes (f : Force) : List Nat :=
  (List.range ((f.bit + f.width + 7) / 8)).map (fun i => f.addr + i)

/-- A byte at an image offset with one force applied. -/
def Force.onByte (f : Force) (off : Nat) (v : Byte) : Byte :=
  (List.range 8).foldl
    (fun v i => match Force.bitAt f (8 * off + i) with
      | none => v
      | some b => (v &&& ~~~(BitVec.ofNat 8 (2 ^ i))) ||| BitVec.ofNat 8 (b2n b * 2 ^ i)) v

/-- Output forces are written into the output image. -/
def forceOutputs (fs : List Force) (m : Memory) : Memory :=
  fs.foldl (fun m f =>
    (Force.bytes f).foldl (fun m off =>
      if 0x8000 ≤ off ∧ off < 0xA000 then m.write (baseImage + off) (Force.onByte f off (m.read (baseImage + off))) else m) m) m

/-- Offsets that R218 lists. -/
def inputListed (off : Nat) : Bool :=
  decide (off < 0x1C ∨ (0x20 ≤ off ∧ off < 0x34) ∨ (0x40 ≤ off ∧ off < 0x54) ∨ (0x80 ≤ off ∧ off < 0x140) ∨
    (0x200 ≤ off ∧ off < 0x340) ∨ (0x1000 ≤ off ∧ off < 0x1100) ∨ (0x2000 ≤ off ∧ off < 0x3000))

/-- Offsets that R219 lists, from 0x3000_0000. -/
def outputListed (off : Nat) : Bool :=
  decide ((0x8000 ≤ off ∧ off < 0x8004) ∨ (0x8080 ≤ off ∧ off < 0x8100) ∨ (0x8200 ≤ off ∧ off < 0x8340) ∨
    (0x8400 ≤ off ∧ off < 0x8404) ∨ (0x9000 ≤ off ∧ off < 0xA000))

/-! ## The bus cycle (R19, R219) -/

/-- A word of partition p's output image. -/
def State.outWord (s : State) (p off : Nat) : Word := (s.part p).mem.readWord (baseOut + off)

/-- The bus cycle of partition p: digital outputs, time-triggered CAN frames, valve links, analog
outputs, and the set-points and enables of the slots and feedback ports that p owns (R19, R203, R219). -/
def State.busCycle (s : State) (p : Nat) (frames : Bool) : State :=
  let s1 := (forEach (List.range 32) s (fun s i =>
    if s.ownDo (i + 1) = p then s.setDo (i + 1) (bitOf (s.outWord p 0) i) else s)).syncFdp
  let s2 := doIf frames (s1.modPart p (fun x => { x with busCount := x.busCount + 1 })) (fun s => s.canBusCycle p)
  let s3 := forEach (List.range 16) s2 (fun s i =>
    if s.ownValve (i + 1) = p then s.valveSet (i + 1) (s.outWord p (0x300 + 4 * i)) else s)
  let s4 := forEach (List.range 32) s3 (fun s i =>
    let slot := match s.slotOfDest 2 (i + 1) with
      | none => false
      | some k => (s.loop k).state != .off
    if s.ownAo (i + 1) = p ∧ s.anaMode (i + 1) = 3 ∧ slot = false then
      s.anaSet (i + 1) (fieldOf (s.outWord p (0x80 + 4 * i)) 15 0)
    else s)
  let s5 := forEach (List.range 64) s4 (fun s i =>
    if s.ownLoop i = p then s.modLoop i (fun x => { x with sp := (s.outWord p (0x200 + 4 * i)).toInt }) else s)
  forEach (List.range 8) s5 (fun s i =>
    if s.ownLeap (i + 1) = p then s.modFb (i + 1) (fun x => { x with leapOn := bitOf (s.outWord p 0x400) i }) else s)

/-! ## The input image (R218, R220, R221) -/

/-- An input item that can be substituted: its key, whether its source has a valid value, that value,
and its safe input value. -/
structure Item where
  key : Nat
  valid : Bool
  val : Word
  safe : Word
deriving DecidableEq, Repr

/-- The items of R220: digital inputs, analog channels and feedback ports. A channel or port that is OFF has no valid value
(R302, R315). -/
def State.items (s : State) : List Item :=
  (List.range 64).map (fun i =>
    { key := i + 1, valid := s.unitUp 45 && (s.di (i + 1)).valid, val := w32 (b2n (s.di (i + 1)).value), safe := 0 }) ++
  (List.range 32).map (fun i =>
    { key := 0x80 + 4 * i, valid := s.unitUp 44 && s.anaMode (i + 1) != 0 && (s.ana (i + 1)).flags.getLsbD 0, val := w32 (s.ana (i + 1)).code, safe := 0 }) ++
  (List.range 8).map (fun i =>
    { key := 0x100 + 8 * i, valid := s.unitUp 45 && s.fbMode (i + 1) != 0 && Fb.valid (s.fb (i + 1)), val := (s.fb (i + 1)).pos,
      safe := (s.fb (i + 1)).captured })

/-- The value an item takes: its own, the last valid one, or the safe one (R220). -/
def Item.value (x : Item) (safeFirst : Bool) (last : Map (Option Word)) : Word :=
  if x.valid then x.val
  else if safeFirst then x.safe
  else match last.get x.key with
    | some v => v
    | none => x.safe

/-- The value of the item with a key, 0 where none has it. -/
def itemValue (vs : List (Item × Word)) (key : Nat) : Word :=
  match vs.find? (fun e => e.1.key == key) with
  | some e => e.2
  | none => 0

/-- The item with a key is there and valid. -/
def itemValid (vs : List (Item × Word)) (key : Nat) : Bool := vs.any (fun e => e.1.key == key && e.1.valid)

/-- DI words and validity words. -/
def diWords (vs : List (Item × Word)) : List (Nat × Word) :=
  [(0x40, bits32 1 (fun k => itemValue vs k == 1)), (0x44, bits32 33 (fun k => itemValue vs k == 1)),
   (0x48, bits32 1 (itemValid vs)), (0x4C, bits32 33 (itemValid vs))]

/-- AI words: code, and the channel's flags with VALID only where it is valid (R319). -/
def State.aiWords (s : State) (vs : List (Item × Word)) : List (Nat × Word) :=
  (List.range 32).map (fun i =>
    let key := 0x80 + 4 * i
    let x := s.ana (i + 1)
    (key, packWord [(0, (itemValue vs key).toNat % 65536), (16, x.flags.toNat / 2 * 2), (16, b2n (itemValid vs key))]))

/-- FB words: position and status (R312). -/
def State.fbWords (s : State) (vs : List (Item × Word)) : List (Nat × Word) :=
  (List.range 8).flatMap (fun i =>
    let key := 0x100 + 8 * i
    let x := s.fb (i + 1)
    [(key, itemValue vs key), (key + 4, (Fb.status x &&& ~~~8#32) ||| w32 (8 * b2n (itemValid vs key)))])

/-- The words that have no validity of their own: DO_RB, slots, valves and the latched tick summary. The status of a slot or a
valve port that another partition owns reads 0 (R206, R218). -/
def State.plainWords (s : State) (p : Nat) (rb : Word) (buf : TickBuf) : List (Nat × Word) :=
  [(0x50, rb)] ++ (List.range 64).map (fun i => (0x200 + 4 * i, if s.ownLoop i = p then s.loopSt i else 0)) ++
  (List.range 16).map (fun i => (0x300 + 4 * i, if s.ownValve (i + 1) = p then Valve.status (s.valve (i + 1)) else 0)) ++
  (List.range 29).map (fun i => (0x1000 + 4 * i, buf.plant.getD i 0)) ++
  (List.range 64).flatMap (fun c => (List.range 16).map (fun i => (0x2000 + 0x40 * c + 4 * i, (buf.strings.get c).getD i 0)))

/-- The summary buffer that a latch now takes: the readable one, and the older one if the flip falls in this fabric
cycle of 1.25 ns (R18). -/
def State.latchBuf (s : State) : TickBuf :=
  if s.readBuf.since = s.now ∧ s.now ≠ 0 then (if s.readB then s.bufA else s.bufB) else s.readBuf

/-- Step 1 of R216: latch the input image and the readable summary, substitute, apply the forces. -/
def State.latch (s : State) (p : Nat) : State :=
  let x := s.part p
  let items := s.items
  let vs := items.map (fun i => (i, Item.value i (s.parB 0x03 p 0x23) x.lastValid))
  let subst := (items.filter (fun i => !i.valid)).length
  let (rb, free) := s.rbWord
  let flags := packWord [(0, b2n x.first), (1, b2n x.takeover), (2, b2n (!x.forces.isEmpty)), (4, s.role.code)]
  let sys : List (Nat × Word) :=
    [(0, w32 x.sysCycle), (8, hiWord s.now), (0xC, loWord s.now), (0x10, w32 x.lastUs), (0x14, flags), (0x18, w32 subst)]
  let words := sys ++ diWords vs ++ s.aiWords vs ++ s.fbWords vs ++ s.plainWords p rb s.latchBuf
  (s.modPart p (fun x =>
    { x with
      subst := subst
      latched := s.latchBuf
      input := words.map (fun e => (e.1, forceWord x.forces e.1 e.2))
      lastValid := items.map (fun i => (i.key, if i.valid then some i.val else x.lastValid.get i.key))
      cycleForces := x.forces
      mem := forceOutputs x.forces x.mem })) |> fun s => doIf free s State.tookFree

/-- A word of the input image as a program reads it: SYS_CAUSE and the event words change within the
cycle (R218, R224), and a force on one of them holds for the whole cycle (R228, log entry 85). -/
def Part.inputWord (x : Part) (off : Nat) : Word :=
  if off = 4 then forceWord x.cycleForces off (w32 x.sysCause)
  else if 0x20 ≤ off ∧ off < 0x30 then
    forceWord x.cycleForces off (packWord ((List.range 4).map (fun i => (8 * i, x.evtCount.get (off - 0x20 + i)))))
  else if off = 0x30 then forceWord x.cycleForces off (w32 x.evtSat)
  else x.input.get off

/-! ## The cycle (R215, R216) -/

/-- The results of operations leave as the program's. -/
def State.emitArith (s : State) (ops : List ArithOp) : State :=
  forEach ops s (fun s o => s.emit (.arith o.result.val o.result.flags))

/-- The partition faults at an address that is not given (log entry 2). -/
def State.partFaultFree (s : State) (p cls : Nat) : State := (s.partFault p cls s.freeWord.toNat).tookFree

/-- A cycle may start: the grid's instant has come, or a step waits while HELD; the core runs p (R215, R226). -/
def State.cycleDue (s : State) (p : Nat) : Bool :=
  let x := s.part p
  s.partLive p && s.inSlice p && !x.inCycle &&
  match x.state with
  | .run | .starting => decide (x.nextGrid ≤ s.now)
  | .held => x.asks.any (fun a => match a with | .step _ _ => true | _ => false)
  | _ => false

/-- SCAN_CYCLE_START (R216 steps 1 and 2). `ops` are the operations of the event tasks that ran in step 6
of the cycle before, whose flags belong to this cycle (R224). -/
def execScanCycleStart (p : Fin 12) (ops : List ArithOp) (time : Nat) (s : State) : Outcome :=
  evt s time (fun s =>
    if s.cycleDue p then
      let flags := if s.partKind p = 0 then arithFlags ops else 0
      if s.arithTraps p && flags != 0 then (s.emitArith ops).partFaultFree p 5
      else
        let x := s.part p
        let grid := if x.state == .held then s.now else x.nextGrid
        let late := (s.now - grid) / 1000
        let s1 := ((s.emitArith ops).fitUsed 16 late).modPart p (fun x =>
          { x with
            inCycle := true, cycleStart := s.now, nextGrid := grid, lateUs := s.fit 16 late
            evtCount := [], evtSat := 0, evtRan := [], resumed := false })
        let s2 := (s1.awake (33 + s.parN 0x03 p 2)).latch p
        (s2.modPart p (fun x =>
          { x with
            sysCause := x.nextCause ||| flags ||| (if x.subst = 0 then 0 else 4) ||| (if x.skipped then 8 else 0)
            nextCause := 0, skipped := false })).viewServe p
    else s)

/-- The retained copy is committed to the older buffer if SCAN_RETAIN_MS has passed and it has changed (R231). -/
def State.retainCommit (s : State) (p : Nat) (force : Bool) : State :=
  let x := s.part p
  let copy := Memory.region x.mem baseRetain (s.retainBytes p)
  if (force || decide (x.retAt + s.parN 0x03 p 0x22 * 1000000 ≤ s.now)) && copy != Part.retained x then
    s.modPart p (fun x =>
      { x with
        retA := if x.retCurB then copy else x.retA
        retB := if x.retCurB then x.retB else copy
        retCurB := !x.retCurB, retAt := s.now })
  else s

/-- The partition stops: outputs safe (R226). -/
def State.partStop (s : State) (p : Nat) : State :=
  (s.outputsSafe p).modPart p (fun x => { x with state := .stopped, inCycle := false, restartAt := none })

/-- A mode request is carried out once the bus cycle has started (R226). `stepped` says that a step has
already been answered in this cycle. -/
def State.doAsk (s : State) (p : Nat) (a : ModeAsk) : State :=
  match a with
  | .stop t q =>
    match (s.part p).state with
    | .run | .starting | .held => (s.partStop p).finish t q stOk []
    | _ => s.finish t q (stRejected 0x21) []
  | .hold t q =>
    if (s.part p).state == .run then (s.modPart p (fun x => { x with state := .held })).finish t q stOk []
    else s.finish t q (stRejected 0x21) []
  | .step t q =>
    if (s.part p).state == .held then s.finish t q stOk [w32 (s.part p).scanCount]
    else s.finish t q (stRejected 0x21) []

/-- The requests that the end of this cycle answers: all, but of several steps only the first while HELD. -/
def asksNow (held : Bool) (l : List ModeAsk) : List ModeAsk × List ModeAsk :=
  match l with
  | [] => ([], [])
  | a :: r =>
    match a with
    | .step _ _ => if held then ([a], r) else let (x, y) := asksNow held r; (a :: x, y)
    | _ => let (x, y) := asksNow held r; (a :: x, y)

/-- Requests are carried out at the end of a cycle. -/
def State.doAsks (s : State) (p : Nat) : State :=
  let (now_, later) := asksNow ((s.part p).state == .held) (s.part p).asks
  forEach now_ (s.modPart p (fun x => { x with asks := later })) (fun s a => s.doAsk p a)

/-- Instants before t of a grid that runs from an instant on (R215). -/
def gridBefore (run cyc t : Nat) : Nat := if cyc = 0 then 0 else (t - run + cyc - 1) / cyc

/-- The figures of a cycle that ends now, whose body ended at `bodyEnd`: elapsed time, the instants skipped before the body's
end, the next instant of the grid (R215, R218, R234). A stepped cycle has no grid (R226). -/
def State.endFigures (s : State) (p execUs bodyEnd : Nat) : State :=
  let x := s.part p
  let elapsed := (s.now - x.cycleStart) / 1000
  let cyc := s.parN 0x03 p 0x20 * 1000
  let own := gridBefore x.tRun cyc (x.nextGrid + 1)
  let gone := if x.state = .held then 0 else gridBefore x.tRun cyc bodyEnd - own
  let e := s.fit 20 elapsed
  let u := s.fit 16 execUs
  ((s.fitUsed 20 elapsed).fitUsed 16 execUs).modPart p (fun x =>
    { x with
      inCycle := false, first := false, takeover := false
      elapsedUs := e, lastUs := e, execUs := u
      scanCount := x.sysCycle
      sysCycle := (x.sysCycle + 1) % 2 ^ 32
      overruns := (x.overruns + gone) % 2 ^ 32
      skipped := decide (gone ≠ 0)
      nextGrid := x.tRun + (own + gone) * cyc
      feedAt := s.now
      stats := ({ elapsed := e, late := x.lateUs, exec := u, overrun := decide (gone ≠ 0) } :: x.stats).take 1000 })

/-- The core pair of partition p asks for IDLE until the next grid instant of a partition it hosts, unless a
cycle of another runs on it (R20, R412). Pair 0 is the Keeper's. -/
def State.coreIdle (s : State) (p : Nat) : State :=
  let pr := s.parN 0x03 p 2
  let hosted := (List.range 12).filter (fun q => s.parB 0x03 q 0 && s.parN 0x03 q 2 == pr)
  if hosted.any (fun q => (s.part q).inCycle) then s
  else
    let next := (hosted.filter (fun q => (s.part q).state == .run)).map (fun q => (s.part q).nextGrid)
    match next with
    | [] => s
    | a :: r => s.askIdle (33 + pr) (r.foldl min a)

/-- Steps 4 to 6 of R216 after the error task: forces, Gecko, mode, bus cycle, retained copy, delta, requests. -/
def State.endCycle (s : State) (p execUs bodyEnd : Nat) : State :=
  let s1 := (s.modPart p (fun x => { x with mem := forceOutputs x.cycleForces x.mem })).endFigures p execUs bodyEnd
  let s2 := if (s1.part p).state == .starting then
      (s1.modPart p (fun x => { x with state := .run, outSafe := false })).loopsAutorun p
    else s1
  (((((s2.busCycle p true).retainCommit p false).sendDelta p).newtAtEnd p).doAsks p).coreIdle p

/-- The error task runs in this cycle (R225). -/
def State.errTaskRuns (s : State) (p : Nat) : Bool :=
  s.partKind p == 0 && s.parB 0x03 p 0x21 && (s.part p).sysCause != 0

/-- SCAN_CYCLE_END (R216 steps 4 to 6): `ops` are the operations of the body and of the event tasks before
step 4, `err` is the error task, which ends now where it runs, `execUs` the core time. A cycle
that reaches its budget faults (R191); of a cycle in which the partition resumed, the core time since is not in the command,
and BUDGET_FAULT alone says so (R192, log entry 199). -/
def execScanCycleEnd (p : Fin 12) (ops : List ArithOp) (err : ErrorTask) (execUs : Nat) (time : Nat) (s : State) : Outcome :=
  evt s time (fun s =>
    if !(s.partNow p && (s.part p).inCycle) then s
    else
      let flags := if s.partKind p = 0 then arithFlags ops else 0
      let s1 := (s.emitArith ops).modPart p (fun x => { x with sysCause := x.sysCause ||| flags })
      if s.arithTraps p && flags != 0 then s1.partFaultFree p 5
      else if (s.part p).state != .held && !(s.part p).resumed && decide (s.parN 0x03 p 4 ≤ execUs) then s1.partFaultFree p 1
      else if s1.errTaskRuns p then
        let ef := arithFlags err.ops
        let n := (err.ops.filter (fun o => decide (o.result.flags ≠ 0))).length
        let s2 := (s1.emitArith err.ops).modPart p (fun x =>
          { x with
            sysCause := x.sysCause ||| ef, errBits := x.errBits ||| ef, errCount := x.errCount + n
            errAt := if ef = 0 then x.errAt else (match x.errAt with | some a => some a | none => some s.now) })
        if s.arithTraps p && ef != 0 then s2.partFaultFree p 5 else s2.endCycle p execUs (s.now - err.ns)
      else s1.endCycle p execUs s.now)

/-! ## Mode opcodes (R226, R234) -/

/-- SCAN_RUN, with the cold bit or without. A partition whose core pair is down is refused as one that is not
enabled (log entry 185). -/
def scanRunBody (r : Req) (s : State) : State × Answer :=
  onPart r s (fun p =>
    match (s.part p).state with
    | .run | .starting => (s, ok)
    | .held | .faulted => (s, no (stRejected 0x21))
    | .stopped =>
      if !s.parB 0x03 p 0 || !s.pairUp p then (s, no (stRejected 0x10))
      else if (s.part p).image.isNone then (s, no (stRejected 0x11))
      else
        let s1 := if bitOf (r.w 2) 8 then
            s.modPart p (fun x => { x with
              mem := x.mem.restrict (fun a => decide (a < baseRetain ∨ baseRetain + s.retainBytes p ≤ a)) })
          else s
        (s1.partStart p, ok))

/-- SCAN_RUN (R226). -/
def execScanRun (t : Fin 16) (r : Req) (s : State) : Outcome :=
  opcode s t r { opcode := 0x0310, len := lenIs 1, active := true } (scanRunBody r)

/-- SCAN_RUN_COLD (R226): the retained region is filled with zeros first. -/
def execScanRunCold (t : Fin 16) (r : Req) (s : State) : Outcome :=
  opcode s t r { opcode := 0x0310, len := lenIs 1, active := true } (scanRunBody r)

/-- Queue a request for the end of the cycle. -/
def State.ask (s : State) (p : Nat) (a : ModeAsk) : State := s.modPart p (fun x => { x with asks := x.asks ++ [a] })

/-- SCAN_STOP (R226): a cycle is never cut in half. -/
def execScanStop (t : Fin 16) (r : Req) (s : State) : Outcome :=
  opcode s t r { opcode := 0x0311, len := lenIs 1, active := true } (fun s => onPart r s (fun p =>
    match (s.part p).state with
    | .run | .starting | .held =>
      if (s.part p).inCycle then (s.ask p (.stop t r.seq), .later) else ((s.partStop p).refuseAsks p, ok)
    | _ => (s, no (stRejected 0x21))))

/-- SCAN_HOLD (R226): in Single only. -/
def execScanHold (t : Fin 16) (r : Req) (s : State) : Outcome :=
  opcode s t r { opcode := 0x0312, role := 1, len := lenIs 1, active := true } (fun s => onPart r s (fun p =>
    if (s.part p).state != .run then (s, no (stRejected 0x21))
    else if !s.single then (s, no (stRejected 0x20))
    else if (s.part p).inCycle then (s.ask p (.hold t r.seq), .later)
    else (s.modPart p (fun x => { x with state := .held }), ok)))

/-- SCAN_STEP (R226): one full cycle, answered at its end. -/
def execScanStep (t : Fin 16) (r : Req) (s : State) : Outcome :=
  opcode s t r { opcode := 0x0313, role := 1, len := lenIs 1, active := true } (fun s => onPart r s (fun p =>
    if (s.part p).state != .held then (s, no (stRejected 0x21))
    else (s.ask p (.step t r.seq), .later)))

/-- SCAN_RESUME (R226): the grid, the Gecko and the budget restart (R192). Steps that still wait are answered
as in RUN. -/
def execScanResume (t : Fin 16) (r : Req) (s : State) : Outcome :=
  opcode s t r { opcode := 0x0314, role := 1, len := lenIs 1, active := true } (fun s => onPart r s (fun p =>
    if (s.part p).state != .held then (s, no (stRejected 0x21))
    else
      let s1 := if (s.part p).inCycle then s else s.refuseAsks p
      ((s1.modPart p (fun x =>
        { x with state := .run, tRun := s.now, nextGrid := s.now, feedAt := s.now, skipped := false,
                  resumed := x.inCycle })).loopsAutorun p, ok)))

/-! ## Force opcodes (R228, R234) -/

/-- While HELD, one bus cycle without any task follows a change of the list; no CAN frame is queued (R227, R228). -/
def State.forceHeld (s : State) (p : Nat) : State :=
  if (s.part p).state == .held && s.partLive p && !(s.part p).inCycle then
    (s.modPart p (fun x => { x with mem := forceOutputs x.forces x.mem })).busCycle p false
  else s

/-- FORCE_SET (R228): an entry on the same field is replaced. -/
def execForceSet (t : Fin 16) (r : Req) (s : State) : Outcome :=
  opcode s t r { opcode := 0x0315, role := 1, len := lenIs 5 } (fun s => onPart r s (fun p =>
    let f : Force := { addr := (r.w 3).toNat, bit := fieldOf (r.w 4) 5 0, width := fieldOf (r.w 4) 14 8,
                       value := ofHiLo (r.w 5) (r.w 6) }
    let rest := (s.part p).forces.filter (fun e => !(e.addr == f.addr && e.bit == f.bit && e.width == f.width))
    if f.width = 0 ∨ 64 < f.width then (s, no stOutOfRange)
    else if !(inputListed f.addr || outputListed f.addr) then (s, no (stRejected 0x23))
    else if 64 ≤ rest.length then (s, no (stRejected 0x22))
    else
      let s1 := (s.modPart p (fun x => { x with forces := rest ++ [f] })).forceHeld p
      (s1, .reply stOk [w32 (rest.length + 1)])))

/-- FORCE_CLEAR (R234): the entries at the address, or all. -/
def execForceClear (t : Fin 16) (r : Req) (s : State) : Outcome :=
  opcode s t r { opcode := 0x0316, role := 1, len := lenIs 2 } (fun s => onPart r s (fun p =>
    let rest := if r.w 3 = 0xFFFFFFFF then [] else (s.part p).forces.filter (fun e => e.addr != (r.w 3).toNat)
    ((s.modPart p (fun x => { x with forces := rest })).forceHeld p, .reply stOk [w32 rest.length])))

/-- The words of a force entry, in the layout of W3 to W6. -/
def Force.words (f : Force) : List Word :=
  [w32 f.addr, packWord [(0, f.bit), (8, f.width)], hiWord f.value, loWord f.value]

/-- FORCE_LIST (R234). -/
def execForceList (t : Fin 16) (r : Req) (s : State) : Outcome :=
  opcode s t r { opcode := 0x0317, len := lenIs 1 } (fun s => onPart r s (fun p =>
    let ws := (s.part p).forces.flatMap Force.words
    (s, if ws.length ≤ 255 then .reply stOk ws else .bulk 0x317 ws)))

/-- SCAN_STAT (R234): over the last 1,000 completed cycles; with none, the extremes are not stated (log entry 2). -/
def execScanStat (t : Fin 16) (r : Req) (s : State) : Outcome :=
  opcode s t r { opcode := 0x0318, len := lenIs 1 } (fun s => onPart r s (fun p =>
    match (s.part p).stats with
    | [] => (s.tookFree, .reply stOk [s.freeWord, s.freeWord, s.freeWord, s.freeWord, 0])
    | c :: rest =>
      let l := c :: rest
      (s, .reply stOk
        [w32 (rest.foldl (fun m x => min m x.elapsed) c.elapsed), w32 (l.foldl (fun m x => max m x.elapsed) 0),
         w32 (l.foldl (fun m x => max m x.late) 0), w32 (l.foldl (fun m x => max m x.exec) 0),
         w32 (l.filter (fun x => x.overrun)).length])))

end Sys2Proof.Machine
end

