-- ==== Sys2Proof/Machine/Lifecycle.lean ====
section
/-! DEFINITION. How the module goes down and comes up: domains in use and lost (R26, R409), what a reset
keeps (R422), the choice of the firmware slot (R393), resets and stops (R417, R420), roles taken, and the
start from step 6 (R395 to R402). -/

namespace Sys2Proof.Machine

/-! ## Domains (R408 to R410) -/

/-- Domain d is in use (R409). In factory defaults both chain banks are, since every chain port sends TRIP (R402). -/
def State.domInUse (s : State) (d : Nat) : Bool :=
  let chains := (List.range 64).any s.chEnabled || s.cfg.defaulted
  if d = 0 ∨ d = 33 ∨ d = 41 ∨ d = 45 ∨ d = 48 then true
  else if d ≤ 32 then s.chEnabled (2 * (d - 1)) || s.chEnabled (2 * (d - 1) + 1)
  else if d ≤ 40 then (List.range 12).any (fun p => s.parB 0x03 p 0 && s.parN 0x03 p 2 == d - 33)
  else if d = 42 then chains && s.holdsA
  else if d = 43 then chains && s.holdsB
  else if d = 44 then (List.range 32).any (fun i => s.anaMode (i + 1) != 0)
  else if d = 46 then
    (List.range 8).any (fun k => s.parB 0x22 k 0) || (List.range 32).any (fun i => s.parB 0x20 i 4)
  else if d = 47 then
    (List.range 64).any (fun i => decide (s.ownLoop i < 12)) || (List.range 16).any (fun v => s.parB 0x25 v 0)
  else !s.single

/-- The link has gone down: the partner's role can no longer be read (R239), and a resynchronisation under way ends; after
the link is back every tile is resynchronised anew (R254). -/
def State.linkLost (s : State) : State :=
  (s.modPair (fun p =>
    { p with lane1 := false, lane2 := false, partner := none, linkUpAt := none, mapAt := none, takeupAsked := false })).endResyncs

/-- The Keeper runs no longer: it confirms no pulse, and the Matrix takes it as not running (R237, R420). -/
def State.keeperDown (s : State) : State :=
  let s1 := s.modPower (fun p => { p with keeper := .down, keeperOk := false })
  (s1.modPair (fun p => { p with driving := false })).syncPtos

/-- The partitions of core pair k stop, and their outputs go safe (R26). With the Keeper down no request is answered. -/
def State.corePairLost (s : State) (k : Nat) : State :=
  forEach (List.range 12) s (fun s p =>
    if s.parB 0x03 p 0 && s.pairOf p == k && (s.part p).state != .faulted then
      (if s.keeperUp then (s.partStop p).refuseAsks p else (s.partStop p).modPart p (fun x => { x with asks := [] }))
    else s)

/-- A chain bank is lost: its chains lose data, and what the bank watched counts as lost (R24, R26). -/
def State.bankLost (s : State) (e : RingEnd) : State :=
  forEach (List.range 64) s (fun s c =>
    if s.watches c e && (Chain.lostAt (s.chain c) e).isNone then
      let s1 := (s.modChain c (fun x => Chain.setLost x e (some s.now))).chFault c 4 true
      let s2 := s1.record 0x10 0x01 c [w32 c, s1.mapWordOf c]
      if s.mayAct e then s2.actOnLoss c true else s2
    else s)

/-- A tile's content is lost. Its cells start anew at the next tick with a usable voltage (R94, R408). The bleed
commands that the Keeper gave the monitors stay as they are (R133). -/
def State.tileLost (s : State) (c : Nat) : State :=
  if c < 64 then
    s.modTile c (fun x => { tick := x.tick, base := s.tickNo + 1, bleed := x.bleed, imped := x.imped, impedOld := x.impedOld })
  else s

/-- What the loss of the units of domain d does, of those that depend on no other switched domain than D41 (R26, R408). -/
def State.unitsLost (s : State) (d : Nat) : State :=
  if 1 ≤ d ∧ d ≤ 32 then (s.tileLost (2 * (d - 1))).tileLost (2 * (d - 1) + 1)
  else if 34 ≤ d ∧ d ≤ 40 then s.corePairLost (d - 33)
  else if d = 42 then s.bankLost .a
  else if d = 43 then s.bankLost .b
  else if d = 44 then
    forEach (List.range 32) s (fun s i =>
      let s1 := s.setAnaFlags (i + 1) ((s.ana (i + 1)).flags &&& 0x200)
      (s1.modAna (i + 1) (fun x => { test := x.test, hart := x.hart, flags := x.flags, miswire := x.miswire, hartErr := x.hartErr })).anaSafe
        (i + 1))
  else if d = 45 then
    (({ s with dis := [], fbs := s.fbs.map (fun (e : Nat × Fb) => (e.1, { leapOn := e.2.leapOn, captured := e.2.captured })) }).driveAllDo).syncExt
  else if d = 46 then forEach (List.range 8) s (fun s k => s.canConfigure k)
  else if d = 47 then
    let s1 := forEach (List.range 64) s (fun s i => s.loopOff i)
    forEach (List.range 16) s1 (fun s v => s.modValve (v + 1) (fun _ => ({} : Valve)))
  else if d = 48 then
    (forEach [1, 2, 3]
      (s.modNet (fun n =>
        { n with
          ports := n.ports.map (fun (e : Nat × NetPort) => (e.1, { e.2 with link := false })), queues := [], prp := []
          nodes := [] }))
      (fun s k => s.syncNet k)).modTime
      (fun t =>
        { t with
          state := if t.state == .locked || t.state == .acquiring then .holdover else t.state
          selected := none, good := 0, lockedAt := none, slew := 0, ports := [] })
  else if d = 49 then s.linkLost
  else s

/-- The loss of core pair 0: the Keeper, and every core pair, which needs it (R26). -/
def State.keeperLost (s : State) : State := forEach (List.range 8) s.keeperDown (fun s k => s.corePairLost k)

/-- What the loss of domain d does to the units it feeds and to those that need them (R26). The tiles need D41 but
keep what they hold. -/
def State.domEffects (s : State) (d : Nat) : State :=
  if d = 33 then s.keeperLost
  else if d = 41 then forEach [44, 45, 46, 47, 48, 49] s.keeperLost (fun s d => s.unitsLost d)
  else s.unitsLost d

/-- Domain d goes down. -/
def State.domDown (s : State) (d : Nat) : State :=
  if s.up d then
    let s1 := s.setDom d .down
    (s1.modPower (fun p => { p with doms := p.doms.modify d (fun x => { x with wake := none }) })).domEffects d
  else s

/-- Every domain in use that has not been lost is powered; every other one is down (R409). -/
def State.powerDomains (s : State) : State :=
  forEach (List.range 50) s (fun s d =>
    if s.domInUse d then
      (if (s.power.doms.get d).lost || s.up d then s else s.setDom d .run)
    else s.domDown d)

/-! ## What survives (R422) -/

/-- A chain through a reset that kept the rail: the Matrix and the bank keep what they hold; frames stop. -/
def Chain.kept (x : Chain) (croak : Bool) : Chain :=
  { state := .off, croak := x.croak && croak, lostA := x.lostA, lostB := x.lostB, awaitA := x.awaitA, awaitB := x.awaitB
    trip := x.trip, running := x.running, breakAfter := x.breakAfter, verify := x.verify, serviceTick := x.serviceTick
    cableA := x.cableA, cableB := x.cableB, foldSince := x.foldSince, fault := x.fault &&& 0x14 }

/-- A partition through any reset of the module: its image and its retained buffers (R422). -/
def Part.kept (x : Part) : Part := { image := x.image, retA := x.retA, retB := x.retB, retCurB := x.retCurB }

/-- TIME_STATE after a reset that kept plant time: HOLDOVER if it was LOCKED, otherwise FREE (R422). -/
def TimeUnit.kept (x : TimeUnit) : TimeUnit :=
  { state := if x.state == .locked then .holdover else .free, rate := x.rate, gm := x.gm }

/-- The state after every switched domain was reset, in its groups of R422: a column of that table with
the rail kept. `croak` says that the chain banks go on (R24). -/
def State.cleared (s : State) (croak : Bool) : State :=
  { s with
    power := { s.power with
      doms := (s.power.doms.map (fun (e : Nat × Domain) =>
        if e.1 = 0 ∨ (croak = true ∧ (e.1 = 42 ∨ e.1 = 43)) then e
        else (e.1, { e.2 with state := .down, wake := none })))
      keeper := .down, keeperOk := false, hibAsk := none }
    ident := { s.ident with sideB := s.ident.sideNext }
    cfg := { (Cfg.clearStaged s.cfg) with lock := none, wait := none, repair := none, resetAt := none, fallback := false, before := [], activeFrom := 0 }
    tenants := [], pool := {}
    chains := s.chains.map (fun (e : Nat × Chain) => (e.1, Chain.kept e.2 croak))
    tiles := [], bufA := {}, bufB := {}, readB := false
    bals := [], strLimits := [], groups := []
    disp := { keyKind := s.disp.keyKind, key := s.disp.key, eov := s.disp.eov }
    parts := s.parts.map (fun (e : Nat × Part) => (e.1, Part.kept e.2))
    slices := [], views := [], cmps := []
    pair := { mode := s.pair.mode, partnerPulse := s.pair.partnerPulse, absentAt := s.pair.absentAt, sense := s.pair.sense,
              stayOffline := s.pair.stayOffline, switchAt := none }
    time := TimeUnit.kept s.time
    net := {}, loops := [], injs := [], trace := {}, valves := [], fbs := []
    anas := [], grpField := [], grpLow := [], dis := [], dos := [], fdpFault := [], fdpTime := [], cans := []
    safe := { s.safe with own := {}, partner := {} }
    recorder := { s.recorder with waiting := [], lost := [], overwritten := 0 }
    display := {} }

/-! ## The choice of the firmware slot (R391, R393) -/

/-- The slot that the Tadpole boots, and the boot record as it leaves it; none where no slot is bootable. -/
def State.chooseSlot (s : State) (b : BootCheck) : State × Option Nat :=
  let good := fun (s : State) (k : Nat) => s.bootable (s.fwSlot k) (if k = 0 then b.verify0 else b.verify1)
  let trial := if s.ident.slot0.state == .trial then some 0 else if s.ident.slot1.state == .trial then some 1 else none
  let s1 :=
    match trial with
    | none => s
    | some k =>
      if s.ident.trialCount < 3 then { s with ident := { s.ident with trialCount := s.ident.trialCount + 1 } }
      else
        let x := s.fwSlot k
        let s2 := s.setFwSlot k { x with state := .inactive }
        { s2 with ident := { s2.ident with reverted := some (k, (FwSlot.release x).toNat) } }
  let inState := fun (st : FwState) => ((List.range 2).filter (fun k => (s1.fwSlot k).state == st)).filter (good s1)
  let order := inState .trial ++ inState .active ++ inState .inactive
  (s1, order.head?)

/-- Steps 2 to 4 of R395: the Tadpole boots a slot and the Keeper is STARTING, or the recovery service
runs (R394), which knows no configuration. -/
def State.bootUp (s : State) (b : BootCheck) (causes : BitVec 7) : State :=
  let (s1, k) := s.chooseSlot b
  let s2 := forEach [0, 33, 41, 48] s1 (fun s d =>
    (s.setDom d .run).modPower (fun p =>
      { p with doms := p.doms.modify d (fun x => { x with lost := false, retryAt := none }) }))
  let s3 := s2.modPower (fun p => { p with thermStop := false, brownStop := false, state := .run, causes := causes ||| p.nextCauses, nextCauses := 0, confirmAt := s.now })
  match k with
  | some n =>
    let s4 := s3.modPower (fun p => { p with keeper := .starting })
    { s4 with ident := { s4.ident with booted := n, bootedAt := s.now, recovery := false } }
  | none =>
    let s4 := (s3.modPower (fun p => { p with keeper := .safe })).modCfg (fun c => { c with active := [], due := [] })
    ({ s4 with ident := { s4.ident with recovery := true } }).syncPtos

/-! ## Resets and stops (R417 to R420) -/

/-- The Croak goes on through a module reset: in Single, and in a Pair while the partner is neither STANDBY
nor STANDBY-NOT-READY (R24). -/
def State.croakThroughReset (s : State) : Bool := s.single || !s.partnerFollows

/-- A module reset (R417). -/
def State.moduleReset (s : State) (b : BootCheck) (cause : BitVec 7) : State :=
  let banks := s.croakThroughReset
  let s1 := s.cleared true
  let s2 := { s1 with chains := s1.chains.map (fun (e : Nat × Chain) => (e.1, { e.2 with croak := e.2.croak && banks })) }
  ((s2.emit (.hold false)).syncPtos).bootUp b cause

/-- The orderly stop (R420): D1 to D49 go down, the Croak stops, and the causes and the operating seconds
are kept for the next start. -/
def State.orderlyStop (s : State) (st : PowerState) (cause : BitVec 7) : State :=
  let ops := s.opSecondsNow
  let s1 := (s.cleared false).modPower (fun p =>
    { p with state := st, nextCauses := p.nextCauses ||| cause, opSeconds := ops, opSince := s.now })
  (s1.emit (.hold false)).syncPtos

/-- The always-on rail is lost: everything volatile is gone, every PTO is asserted, every string opens by its
head monitor (R24, R26, R131, R422). -/
def State.railLost (s : State) : State :=
  let ops := s.opSecondsNow
  let s1 := s.cleared false
  let s2 : State := { s1 with
    chains := [], strs := [], ptos := [], zones := [], time := {}, now := 0
    vsupLow := []
    disp := { keyKind := s.disp.keyKind, key := s.disp.key }
    pair := { mode := s.pair.mode }
    cfg := { s1.cfg with defaulted := false }
    power :=
      { opSeconds := ops, cycles := s.power.cycles, doms := [], supplyA := 0, supplyB := 0, state := .off } }
  forEach (List.range 8) s2 (fun s k => s.emit (.pto k true))

/-! ## Roles taken -/

/-- The role changes (R242): the partitions' views see it, the outputs and CAN controllers follow (R206, R316,
R338, R359), and plant time follows the partner, or no longer does (R264, R266). -/
def State.setRole (s : State) (r : Role) : State :=
  if s.pair.role == r then s
  else
    let was := s.runsPlant
    let followed := s.pair.role == .standby || s.pair.role == .notReady
    let follow := r == .standby || r == .notReady
    let s1 := (s.modPair (fun p => { p with role := r })).modTime (fun t =>
      if follow && !followed then { t with state := .following, lockedAt := none, selected := none, good := 0, slew := 0 }
      else if followed && !follow then { t with state := if t.partnerState = 2 then .holdover else .free, slew := 0 }
      else t)
    let s2 := (s1.eventAll 291).driveAllDo
    if was == s2.runsPlant then s2
    else if s2.runsPlant then (forEach (List.range 8) s2 (fun s k => s.canConfigure k)).meetEov
    else forEach (List.range 8) s2 (fun s k => s.canToMonitor k)

/-! ## From step 6 (R396 to R398) -/

/-- Item 1 of R396: each enabled partition is reset, and starts with PART_AUTOSTART = 1 and an image. -/
def State.startParts (s : State) : State :=
  forEach (List.range 12) s (fun s p =>
    if s.parB 0x03 p 0 then
      let s1 := s.partReset p
      if s.parB 0x03 p 0xA && (s.part p).image.isSome then s1.partStart p else s1
    else s)

/-- Item 2 of R396: after a power-on the running module enumerates; otherwise adoption comes first (R398).
A chain that has come up already goes on. -/
def State.startChains (s : State) : State :=
  forEach (List.range 64) s (fun s c =>
    if !s.chEnabled c || (s.chain c).state != .off then s
    else if s.power.causes.getLsbD 0 && s.runsPlant then s.startEnum c none
    else s.modChain c (fun x => { x with adopt := some s.newAdopt, gotNow := [] }))

/-- The running module proceeds from step 6. -/
def State.startPlant (s : State) : State := s.startParts.startChains

/-- TRIP with ACTION 0x2 and REASON 0x41 on every chain port with a cable present, to be repeated as R51 states (R402). -/
def State.defaultTrip (s : State) : State :=
  forEach (List.range 64) s (fun s c =>
    let x := s.chain c
    let at_ := fun (s : State) (e : RingEnd) (b : Bool) =>
      doIf (b && s.bankUp e) s (fun s => s.emit (chainOut c e .trip (2 * 256 + 0x41) keeperOrigin))
    let s1 := doIf (x.cableA || x.cableB) s (fun s => s.modChain c (fun x =>
      { x with trip := some { action := 2, reason := 0x41, origin := keeperOrigin, startedAt := s.now } }))
    at_ (at_ s1 .a x.cableA) .b x.cableB)

/-! ## KEEPER_START (R395 steps 5 and 6, R401) -/

/-- A copy is good: its check word holds and it passes the checks of CFG_COMMIT (R399). -/
def CfgCopy.good (c : CfgCopy) : Bool := c.crcGood && c.checkGood

/-- Generation numbers of copies A and B, the body of every entry of source 0x02 (R432). -/
def State.genWords (s : State) : List Word := [w32 s.cfg.copyA.generation, w32 s.cfg.copyB.generation]

/-- Use a copy: its image becomes the active one. -/
def State.useCopy (s : State) (c : CfgCopy) : State :=
  s.modCfg (fun g =>
    { g with active := c.params, generation := c.generation, commitTime := c.time, commitTenant := c.tenant, due := [], defaulted := false })

/-- The choice of R401: the copy in use, its flags, and which copy is to be rewritten. -/
def State.chooseConfig (s : State) : State :=
  let a := s.cfg.copyA
  let b := s.cfg.copyB
  match CfgCopy.good a, CfgCopy.good b with
  | true, true =>
    if a.generation = b.generation then s.useCopy a
    else
      (s.useCopy (if b.generation < a.generation then a else b)).modCfg (fun g =>
        { g with repair := some (if b.generation < a.generation then 1 else 0) })
  | true, false => (s.useCopy a).modCfg (fun g => { g with fallback := true, repair := some 1 })
  | false, true => (s.useCopy b).modCfg (fun g => { g with fallback := true, repair := some 0 })
  | false, false =>
    s.modCfg (fun g =>
      { g with active := [], generation := 0, commitTime := 0, commitTenant := 0, due := [], defaulted := true, repair := none })

/-- The entries of the choice. -/
def State.configEntries (s : State) : State :=
  let a := s.cfg.copyA
  let b := s.cfg.copyB
  let g := s.genWords
  let s1 := doIf ((a.crcGood && !a.checkGood)) s (fun s => s.record 0x02 0x04 127 g)
  let s2 := doIf ((b.crcGood && !b.checkGood)) s1 (fun s => s.record 0x02 0x04 127 g)
  if s.cfg.defaulted then s2.record 0x02 0x02 127 g
  else if s.cfg.fallback then s2.record 0x02 0x01 127 g
  else if a.generation ≠ b.generation then s2.record 0x02 0x03 127 g
  else s2

/-- A lock that was held is broken with MODULE_RESTART (R177, R178, R395 step 5). -/
def State.breakStoredLock (s : State) : State :=
  match s.ident.lockRecord with
  | none => s
  | some _ =>
    { s with
      ident := { s.ident with lockRecord := none }
      cfg := { s.cfg with broken := match s.cfg.broken with | some d => some d | none => some 3 } }

/-- The trial of the booted slot ends at once, and the ACTIVE slot boots (R401). -/
def State.endTrial (s : State) : State :=
  let x := s.fwSlot s.ident.booted
  let s1 := s.setFwSlot s.ident.booted { x with state := .inactive }
  let s2 := { s1 with ident := { s1.ident with reverted := some (s.ident.booted, (FwSlot.release x).toNat) } }
  let ok := fun (y : FwSlot) => y.hashGood && y.sigGood
  s2.moduleReset { verify0 := ok s2.ident.slot0, verify1 := ok s2.ident.slot1 } 0

/-- The entries of a start: START, FW_REVERTED, and what the Skink held through HIBERNATE (R393, R414, R419). -/
def State.startEntries (s : State) : State :=
  let s1 := s.record 0x01 0x01 127 [s.power.causes.zeroExtend 32, s.release, w32 s.ident.booted]
  let s2 := match s1.ident.reverted with
    | none => s1
    | some (k, rel) =>
      ({ s1 with ident := { s1.ident with reverted := none } }).record 0x01 0x03 127 [w32 k, w32 rel]
  let s3 := forEach s2.power.heldEvents (s2.modPower (fun p => { p with heldEvents := [], heldLost := 0 })) (fun s r => s.addRec r)
  if s2.power.heldLost = 0 then s3 else s3.record 0x12 0xFF 127 [w32 s2.power.heldLost]

/-- SEGMENT 0 to the segment-end monitor that HIBERNATE set (R415). -/
def State.unsegment (s : State) : State :=
  forEach (List.range 64) s (fun s c =>
    if s.chEnabled c then s.sendSegment c (if s.holdsA then s.chPositions c else 1) 0 else s)

/-- OFFLINE is kept after a start whose causes include KEEPER_WDT, until SYS_RESET, FW_ACTIVATE or a power-on (R242). -/
def State.keepsOffline (s : State) : Bool :=
  (s.pair.stayOffline || s.power.causes.getLsbD 4) && !s.power.causes.getLsbD 0 && !s.power.causes.getLsbD 3

/-- Step 6: the Keeper is RUNNING, or SAFE in factory defaults; thresholds are in the Matrix (R395, R402). -/
def State.stepSix (s : State) : State :=
  let mode := if s.cfg.defaulted then 0 else s.parN 0x40 0 0
  let s1 := s.modPair (fun p => { p with mode := mode, role := .offline, stayOffline := s.keepsOffline })
  let s2 := s1.powerDomains
  let s3 := s2.modPower (fun p =>
    { p with
      keeper := if s.cfg.defaulted then .safe else .running
      keeperOk := !s.cfg.defaulted, applied := p.applied || !s.cfg.defaulted, confirmAt := s.now })
  let s4 := (s3.modTime (fun t => { t with waitFrom := some s.now, waitOver := decide (s.parN 0x01 0 2 = 0) })).syncPtos
  let s5 := forEach (List.range 8) s4 (fun s k => s.canConfigure k)
  let s6 := (s5.configEntries).startEntries
  let s7 := if s6.power.causes.getLsbD 6 then s6.unsegment else s6
  let s8 := s7.syncDefaulted
  if s.cfg.defaulted then s8.defaultTrip
  else if s8.single then s8.startPlant.meetEov
  else s8

/-- KEEPER_START (R395): identity and lock record, the choice of the configuration, and step 6. -/
def execKeeperStart (time : Nat) (s : State) : Outcome :=
  evt s time (fun s =>
    if s.power.state != .run || s.power.keeper != .starting || s.ident.recovery then s
    else
      let s1 := s.breakStoredLock.chooseConfig
      let trial := (s.fwSlot s.ident.booted).state == .trial
      if s1.cfg.defaulted && trial && (s.cfg.copyA.crcGood || s.cfg.copyB.crcGood) then s1.endTrial
      else s1.stepSix)

end Sys2Proof.Machine
end

