-- ==== Sys2Proof/Machine/SafeEval.lean ====
section
/-! DEFINITION. The Safety Evaluator (R363 to R386): the safety set and its check value, inputs, functions,
OSSD pairs, its supply, its status and its commands. -/

namespace Sys2Proof.Machine

/-! ## The safety set (R374, R378, R380, R385) -/

/-- A word of BLOCK 0x30 in a set. -/
def setWord (m : ParamMap) (inst idx : Nat) : Word := paramValue m (paddr 0x30 inst idx)

/-- SF_TYPE. -/
def sfType (m : ParamMap) (f : Nat) : Nat := (setWord m (0x10 + f) 0).toNat
/-- Input a, b, c or d (k = 0 to 3) of function f; 0 = none. -/
def sfInput (m : ParamMap) (f k : Nat) : Nat := fieldOf (setWord m (0x10 + f) 1) (8 * k + 4) (8 * k)
/-- SI_TEST of input i (1 to 24). -/
def siTest (m : ParamMap) (i : Nat) : Nat := (setWord m (0x40 + i - 1) 0).toNat
/-- A word of pair k (1 to 4). -/
def spWord (m : ParamMap) (k idx : Nat) : Nat := (setWord m (0x60 + k - 1) idx).toNat

/-- How many inputs a type uses (R371, R373). -/
def typeInputs (ty : Nat) : Nat := if ty = 0 then 0 else if ty = 3 then 4 else 2

/-- The inputs of function f, none left out. -/
def fnInputs (m : ParamMap) (f : Nat) : List Nat :=
  ((List.range 4).map (sfInput m f)).filter (fun i => i != 0)

/-- The function that uses input i. -/
def fnOfInput (m : ParamMap) (i : Nat) : Option Nat :=
  (List.range 16).find? (fun f => sfType m f != 0 && (fnInputs m f).contains i)

/-- The addresses of the RW words of BLOCK 0x30, by rising INSTANCE and then INDEX. -/
def setAddrs : List Nat :=
  [paddr 0x30 0 0] ++
  (List.range 16).flatMap (fun f => (List.range 4).map (fun i => paddr 0x30 (0x10 + f) i)) ++
  (List.range 24).map (fun i => paddr 0x30 (0x40 + i) 0) ++
  (List.range 4).flatMap (fun k => (List.range 4).map (fun i => paddr 0x30 (0x60 + k) i))

/-- The check value of a set (R380). -/
def checkValue (m : ParamMap) : Word := crc32 (setAddrs.map (paramValue m))

/-- Function f has exactly the inputs that its type uses. -/
def inputsFit (m : ParamMap) (f : Nat) : Bool :=
  (List.range 4).all (fun k => (sfInput m f k != 0) == decide (k < typeInputs (sfType m f)))

/-- Every input that the set names, with the address of the parameter that names it. -/
def usedInputs (m : ParamMap) : List (Nat × Nat) :=
  ((List.range 16).flatMap (fun f => (fnInputs m f).map (fun i => (i, paddr 0x30 (0x10 + f) 1))) ++
   (List.range 4).flatMap (fun k =>
     ([1, 2] : List Nat).map (fun x => (spWord m (k + 1) x, paddr 0x30 (0x60 + k) x)))).filter (fun e => e.1 != 0)

/-- Inputs x and y of function f come from test sources of the same channel. -/
def sameChannel (m : ParamMap) (f x y : Nat) : Bool :=
  let p := siTest m (sfInput m f x)
  let q := siTest m (sfInput m f y)
  sfInput m f x != 0 && sfInput m f y != 0 && p != 0 && q != 0 && decide ((p - 1) / 2 = (q - 1) / 2)

/-- The addresses at which a set fails R374, each at the lowest address among the parameters involved. -/
def setFailures (m : ParamMap) : List Nat :=
  let inputs := fun f => paddr 0x30 (0x10 + f) 1
  let fns := List.range 16
  (fns.filter (fun f => !inputsFit m f)).map (fun f => paddr 0x30 (0x10 + f) 0) ++
  ((usedInputs m).filter (fun e => decide (1 < ((usedInputs m).filter (fun x => x.1 == e.1)).length))).map (fun e => e.2) ++
  (fns.filter (fun f => sfType m f != 0 &&
    (fnInputs m f).any (fun i => (siTest m i == 0) != (sfType m f == 4)))).map (fun f => paddr 0x30 (0x10 + f) 0) ++
  (fns.filter (fun f => sameChannel m f 0 1 || sameChannel m f 2 3)).map inputs

/-! ## Events (R384) -/

/-- An entry in the buffer of 64; entries beyond it are counted, wrapping. Kind 0 = evaluator, 1 = function,
2 = pair, 3 = fault, 4 = confirmation, 5 = supply band (the coding is open: log entry 11). -/
def SafeEval.event (e : SafeEval) (kind unit value : Nat) : SafeEval :=
  if 64 ≤ e.events.length then { e with evtLost := (e.evtLost + 1) % 2 ^ 32 }
  else { e with events := e.events ++ [(Config.safeEvent kind unit value, e.cycles / 2)] }

/-- The set that the functions run on; none while no set has passed its check. -/
def SafeEval.set_ (e : SafeEval) : ParamMap := if e.setGood then e.setA else []

/-- The evaluator has ended its self-test. -/
def SafeEval.live (e : SafeEval) : Bool := e.powered && e.state != .starting

/-- A function changes; a change of state or a new fault makes an entry. -/
def SafeEval.setFn (e : SafeEval) (f : Nat) (x : SafeFn) : SafeEval :=
  let y := e.fns.get f
  let e1 := { e with fns := e.fns.set f x }
  let e2 := if y.state == x.state then e1 else SafeEval.event e1 1 f x.state.code
  if (x.discrepancy && !y.discrepancy) || (x.testFail && !y.testFail) || (x.crossShort && !y.crossShort) then
    SafeEval.event e2 3 f (b2n x.discrepancy + 2 * b2n x.testFail + 4 * b2n x.crossShort)
  else e2

/-- A two-hand function in RELEASE waits for both buttons (R373). -/
def SafeEval.twoHandStops (e : SafeEval) (k : Nat) : SafeEval :=
  (List.range 16).foldl (fun (e : SafeEval) f =>
    let x := e.fns.get f
    if Nat.testBit (spWord (SafeEval.set_ e) k 0) f && sfType (SafeEval.set_ e) f == 3 && x.state == .release then
      SafeEval.setFn e f { x with state := .waitRelease }
    else e) e

/-- A pair changes. Switching starts the EDM time and ends the reset pulse; a pair that switches off sends its
two-hand functions to WAIT_RELEASE (R373, R376). -/
def SafeEval.setPair (e : SafeEval) (k : Nat) (x : SafePair) : SafeEval :=
  let y := e.pairs.get k
  let switched := (y.state == .on) != (x.state == .on)
  let x1 := if y.state == x.state then x else { x with resetOk := false }
  let x2 := if switched then { x1 with since := 0, edmDone := false } else x1
  let e1 := { e with pairs := e.pairs.set k x2 }
  let e2 := if y.state == x.state then e1 else SafeEval.event e1 2 k x.state.code
  let e3 := if (x.stuck && !y.stuck) || (x.low && !y.low) || (x.edm && !y.edm) then
      SafeEval.event e2 3 (16 + k) (b2n x.stuck + 2 * b2n x.low + 4 * b2n x.edm)
    else e2
  if y.state == .on && x.state != .on then SafeEval.twoHandStops e3 k else e3

/-- Every pair that is not in FAULT is off. -/
def SafeEval.pairsOff (e : SafeEval) : SafeEval :=
  (List.range 4).foldl (fun (e : SafeEval) i =>
    let x := e.pairs.get (i + 1)
    if x.state == .on || x.state == .readyReset then SafeEval.setPair e (i + 1) { x with state := .off } else e) e

/-- The evaluator's state changes; outside RUN every pair is off (R365). -/
def SafeEval.enter (e : SafeEval) (st : SafeState) : SafeEval :=
  let e1 := SafeEval.event { e with state := st } 0 0 st.code
  if st == .run then e1 else SafeEval.pairsOff e1

/-- LOCKOUT with its cause; the first cause stays (R366). -/
def SafeEval.lockout (e : SafeEval) (cause : Nat) : SafeEval :=
  if e.state == .lockout then e else SafeEval.enter { e with fault := cause } .lockout

/-- Functions as they begin: GUARD in WAIT_FIRST_OPEN (R372). -/
def startFns (m : ParamMap) : Map SafeFn :=
  (List.range 16).map (fun f => (f, ({ state := if sfType m f = 2 then .waitFirstOpen else .demand } : SafeFn)))

/-- The channels take a new set (R378): every pair is off, and the set awaits its confirmation. -/
def SafeEval.acceptSet (e : SafeEval) (m : ParamMap) : SafeEval :=
  let e1 := SafeEval.enter e .unconfirmed
  let pairs := e1.pairs.map (fun (x : Nat × SafePair) => (x.1, ({ state := if x.2.state == .fault then .fault else .off
                                                                  stopReq := x.2.stopReq, stuck := x.2.stuck
                                                                  low := x.2.low, edm := x.2.edm } : SafePair)))
  { e1 with setA := m, setB := m, setGood := true, confirmed := false, scv := checkValue m, fns := startFns m, pairs := pairs }

/-! ## A cycle (R363, R369 to R376) -/

/-- Half-milliseconds of the filter of input i: SF_FILT_MS of the function that uses it; an input that no
function uses is taken as read (log entry 42). -/
def filtCycles (m : ParamMap) (i : Nat) : Nat :=
  match fnOfInput m i with
  | none => 0
  | some f => 2 * (setWord m (0x10 + f) 2).toNat

/-- One reading of an input by a channel: the filtered value changes once a level has held for the filter
time (R369). -/
def SafeIn.sample (x : SafeIn) (n : Nat) (v : Bool) : SafeIn :=
  if v == x.filt then { x with raw := v, held := 0 }
  else if n ≤ x.held then { raw := v, filt := v, held := 0 }
  else { x with raw := v, held := x.held + 1 }

/-- Both channels read every input. -/
def SafeEval.readInputs (e : SafeEval) (a b : BitVec 24) : SafeEval :=
  (List.range 24).foldl (fun (e : SafeEval) i =>
    let n := filtCycles (SafeEval.set_ e) (i + 1)
    { e with
      inA := e.inA.modify (i + 1) (fun x => SafeIn.sample x n (a.getLsbD i))
      inB := e.inB.modify (i + 1) (fun x => SafeIn.sample x n (b.getLsbD i))
      differ := e.differ.modify (i + 1) (fun d => if a.getLsbD i == b.getLsbD i then 0 else d + 1) }) e

/-- The filtered value of input i is 1 in both channels; it is 0 in both. -/
def SafeEval.is1 (e : SafeEval) (i : Nat) : Bool := (e.inA.get i).filt && (e.inB.get i).filt
def SafeEval.is0 (e : SafeEval) (i : Nat) : Bool := !(e.inA.get i).filt && !(e.inB.get i).filt

/-- In either channel one of the two inputs reads 1 and the other 0. -/
def SafeEval.unlike (e : SafeEval) (i j : Nat) : Bool :=
  (e.inA.get i).filt != (e.inA.get j).filt || (e.inB.get i).filt != (e.inB.get j).filt

/-- In either channel both inputs read the same level. -/
def SafeEval.alike (e : SafeEval) (i j : Nat) : Bool :=
  (e.inA.get i).filt == (e.inA.get j).filt || (e.inB.get i).filt == (e.inB.get j).filt

/-- A counter of cycles for which something has held. -/
def tally (b : Bool) (n : Nat) : Nat := if b then n + 1 else 0

/-- ESTOP, GUARD and CURTAIN (R371, R372). -/
def SafeEval.stepTwo (e : SafeEval) (f i j : Nat) : SafeFn :=
  let x := e.fns.get f
  let lim := 2 * (setWord (SafeEval.set_ e) (0x10 + f) 3).toNat
  let d := tally (SafeEval.unlike e i j) x.discAB
  let both1 := SafeEval.is1 e i && SafeEval.is1 e j
  let both0 := SafeEval.is0 e i && SafeEval.is0 e j
  if lim + 1 < d && x.state != .fault then { x with state := .fault, discrepancy := true, discAB := d, opened := false }
  else
    match x.state with
    | .fault | .waitFirstOpen =>
      if x.opened && both1 then { state := .release }
      else { x with discAB := d, opened := x.opened || both0 }
    | _ => { x with state := if both1 then .release else .demand, discAB := d }

/-- TWOHAND (R373): a button is pressed while its NO contact reads 1 and its NC contact 0. -/
def SafeEval.stepFour (e : SafeEval) (f a b c d : Nat) : SafeFn :=
  let x := e.fns.get f
  let lim := 2 * (setWord (SafeEval.set_ e) (0x10 + f) 3).toNat
  let pl := SafeEval.is1 e a && SafeEval.is0 e b
  let pr := SafeEval.is1 e c && SafeEval.is0 e d
  let released := SafeEval.is0 e a && SafeEval.is1 e b && SafeEval.is0 e c && SafeEval.is1 e d
  let y : SafeFn :=
    { x with
      discAB := tally (SafeEval.alike e a b) x.discAB, discCD := tally (SafeEval.alike e c d) x.discCD
      pressL := tally pl x.pressL, pressR := tally pr x.pressR, opened := x.opened || released }
  let gap := max y.pressL y.pressR - min y.pressL y.pressR
  if x.state == .fault then (if released then { opened := true } else y)
  else if lim + 1 < y.discAB || lim + 1 < y.discCD then { y with state := .fault, discrepancy := true, opened := false }
  else
    match x.state with
    | .release => if pl && pr then y else { y with state := .waitRelease }
    | .waitRelease => if released then { y with state := .demand } else y
    | _ =>
      if pl && pr then { y with state := if y.opened && decide (gap ≤ 1000) then .release else .waitRelease }
      else y

/-- Every function that is in use (R370). -/
def SafeEval.stepFns (e : SafeEval) : SafeEval :=
  (List.range 16).foldl (fun (e : SafeEval) f =>
    let m := SafeEval.set_ e
    let i := sfInput m f
    if sfType m f = 0 then e
    else if sfType m f = 3 then SafeEval.setFn e f (SafeEval.stepFour e f (i 0) (i 1) (i 2) (i 3))
    else SafeEval.setFn e f (SafeEval.stepTwo e f (i 0) (i 1))) e

/-- Every function that pair k serves is in RELEASE, it serves one, the evaluator runs, and no stop request
holds. -/
def SafeEval.permits (e : SafeEval) (k : Nat) : Bool :=
  let fs := spWord (SafeEval.set_ e) k 0
  e.state == .run && fs != 0 && !(e.pairs.get k).stopReq &&
  (List.range 16).all (fun f => !Nat.testBit fs f || (e.fns.get f).state == .release)

/-- The EDM input of pair k reads 1, or the pair has none. -/
def SafeEval.edmReady (e : SafeEval) (k : Nat) : Bool :=
  let i := spWord (SafeEval.set_ e) k 2
  i == 0 || SafeEval.is1 e i

/-- The reset input of pair k in this cycle: its pulse as counted, and whether a pulse of 0.1 s to 5 s has
just ended (R375). A pulse counts only if it began in READY_RESET or FAULT. -/
def SafeEval.resetPulse (e : SafeEval) (k : Nat) : SafePair × Bool :=
  let x := e.pairs.get k
  let i := spWord (SafeEval.set_ e) k 1
  if i != 0 && SafeEval.is1 e i then
    ({ x with
       resetFor := x.resetFor + 1
       resetOk := if x.resetFor = 0 then (x.state == .readyReset || x.state == .fault) else x.resetOk }, false)
  else ({ x with resetFor := 0, resetOk := false }, x.resetOk && decide (200 ≤ x.resetFor ∧ x.resetFor ≤ 10000))

/-- A pair in a cycle (R375, R376). -/
def SafeEval.stepPair (e : SafeEval) (k : Nat) (stuck low : Bool) : SafeEval :=
  let m := SafeEval.set_ e
  let edmIn := spWord m k 2
  let (p, pulse) := SafeEval.resetPulse e k
  let isOn := p.state == .on
  let follows := edmIn == 0 || (if isOn then SafeEval.is0 e edmIn else SafeEval.is1 e edmIn)
  let isLow := low && isOn
  let x := { p with since := p.since + 1, edmDone := p.edmDone || follows }
  let late := edmIn != 0 && !x.edmDone && decide (2 * spWord m k 3 < x.since)
  let manual := spWord m k 1 != 0
  if stuck || isLow || late then
    SafeEval.setPair e k { x with state := .fault, stuck := x.stuck || stuck, low := x.low || isLow, edm := x.edm || late }
  else
    match x.state with
    | .fault =>
      if pulse && SafeEval.edmReady e k then
        SafeEval.setPair e k { x with state := .off, stuck := false, low := false, edm := false, edmDone := true }
      else SafeEval.setPair e k x
    | .on => SafeEval.setPair e k (if SafeEval.permits e k then x else { x with state := .off })
    | .readyReset =>
      if !(SafeEval.permits e k && SafeEval.edmReady e k) then SafeEval.setPair e k { x with state := .off }
      else SafeEval.setPair e k (if pulse then { x with state := .on } else x)
    | .off =>
      if SafeEval.permits e k && SafeEval.edmReady e k then
        SafeEval.setPair e k { x with state := if manual then .readyReset else .on }
      else SafeEval.setPair e k x

/-- The lockout causes 1 to 4 of R366 in a cycle, the first in its order. -/
def SafeEval.lockoutCause (e : SafeEval) (x : SafeSense) : Option Nat :=
  let m := SafeEval.set_ e
  if (List.range 24).any (fun i => decide (filtCycles m (i + 1) + 4 + 1 < e.differ.get (i + 1))) then some 1
  else if (List.range 4).any (fun k => decide (2 < (e.pairs.get (k + 1)).differ)) then some 2
  else if !x.selfTestOk then some 3
  else if !x.clockOk then some 4
  else none

/-- A whole cycle. -/
def SafeEval.cycle (e : SafeEval) (x : SafeSense) : SafeEval :=
  let e0 := SafeEval.readInputs { e with cycles := e.cycles + 1 } x.rawA x.rawB
  let e1 := { e0 with
    pairs := (List.range 4).foldl (fun (m : Map SafePair) k =>
      m.modify (k + 1) (fun p => { p with differ := tally (x.differ.getLsbD k) p.differ })) e0.pairs }
  let e2 := match SafeEval.lockoutCause e1 x with
    | none => e1
    | some c => SafeEval.lockout e1 c
  (List.range 4).foldl (fun (e : SafeEval) k => SafeEval.stepPair e (k + 1) (x.stuck.getLsbD k) (x.low.getLsbD k))
    (SafeEval.stepFns e2)

/-! ## The evaluator in the module -/

/-- The evaluator changes; pairs that switch are seen on X35. -/
def State.toSafe (s : State) (e : SafeEval) : State :=
  forEach (List.range 4) { s with safe := e } (fun t k =>
    let was := (s.safe.pairs.get (k + 1)).state == .on
    let is_ := (e.pairs.get (k + 1)).state == .on
    doIf (was != is_) t (fun t => t.emit (.ossd (k + 1) is_)))

/-- SAFE_CYCLE (R363). -/
def execSafeCycle (x : SafeSense) (s : State) : Outcome :=
  evt0 s (fun s => if SafeEval.live s.safe then s.toSafe (SafeEval.cycle s.safe x) else s)

/-- A wiring fault of R368 at input i, as the function that uses it takes it. -/
def SafeEval.wireFault (e : SafeEval) (i : Nat) (fail cross : Bool) : SafeEval :=
  match fnOfInput (SafeEval.set_ e) i with
  | none => if fail || cross then SafeEval.event e 3 (64 + i) (2 * b2n fail + 4 * b2n cross) else e
  | some f =>
    if fail || cross then
      let x := e.fns.get f
      SafeEval.setFn e f
        { x with state := .fault, testFail := x.testFail || fail, crossShort := x.crossShort || cross, opened := false }
    else e

/-- SAFE_TEST_PULSE (R368): test source k + 1 is low; the readings of both channels 400 µs into its pulse. -/
def execSafeTestPulse (k : Fin 4) (readA readB : BitVec 24) (s : State) : Outcome :=
  evt0 s (fun s =>
    if !SafeEval.live s.safe then s
    else s.toSafe ((List.range 24).foldl (fun (e : SafeEval) i =>
      let src := siTest (SafeEval.set_ e) (i + 1)
      let own := src == k.val + 1
      let a := (e.inA.get (i + 1)).raw
      let b := (e.inB.get (i + 1)).raw
      if src = 0 then e
      else SafeEval.wireFault e (i + 1) (own && ((a && readA.getLsbD i) || (b && readB.getLsbD i)))
        (!own && ((a && !readA.getLsbD i) || (b && !readB.getLsbD i)))) s.safe))

/-- SAFE_SUPPLY_LOW (R364): every OSSD is off until the evaluator starts again. -/
def execSafeSupplyLow (s : State) : Outcome :=
  evt0 s (fun s =>
    if s.safe.powered then
      s.toSafe { s.safe with
        powered := false, state := .starting, band := false, supply := 0
        pairs := s.safe.pairs.map (fun (x : Nat × SafePair) => (x.1, { x.2 with state := .off })) }
    else s)

/-- SAFE_SUPPLY_BAND (R364): the band above 30.0 V is entered or left; above 32.0 V the evaluator locks out. -/
def execSafeSupplyBand (entering : Bool) (volt : Nat) (s : State) : Outcome :=
  evt0 s (fun s =>
    let e := s.safe
    if !e.powered then s
    else
      let e1 := { e with supply := volt }
      if 3200 < volt then
        s.toSafe (SafeEval.lockout (if e.band then SafeEval.event { e1 with band := false } 5 0 0 else e1) 5)
      else if entering && !e.band && decide (3000 < volt) then s.toSafe (SafeEval.event { e1 with band := true } 5 0 1)
      else if !entering && e.band && decide (volt ≤ 3000) then s.toSafe (SafeEval.event { e1 with band := false } 5 0 0)
      else s.toSafe e1)

/-- SAFE_START (R364, R365): SAFE has come up, and the self-test has ended. Stop requests are over (R383). -/
def execSafeStart (selfTestOk : Bool) (volt : Nat) (s : State) : Outcome :=
  evt0 s (fun s =>
    let e := s.safe
    if e.powered || decide (volt ≤ 2040) then s
    else
      let e0 : SafeEval :=
        { powered := true, supply := volt, setA := e.setA, setB := e.setB, setGood := e.setGood, confirmed := e.confirmed
          scv := if e.setGood then checkValue e.setA else 0
          band := decide (3000 < volt ∧ volt ≤ 3200), fns := if e.setGood then startFns e.setA else []
          own := e.own, partner := e.partner }
      let e1 := if e0.band then SafeEval.event e0 5 0 1 else e0
      s.toSafe
        (if !selfTestOk then SafeEval.lockout e1 3
         else if 3200 < volt then SafeEval.lockout e1 5
         else SafeEval.enter e1 (if !e.setGood then .noSet else if e.confirmed then .run else .unconfirmed)))

/-! ## Status and commands (R382 to R386) -/

/-- SP_CAUSE of pair k (R385). -/
def SafeEval.cause (e : SafeEval) (k : Nat) : Word :=
  let x := e.pairs.get k
  let fs := spWord (SafeEval.set_ e) k 0
  packWord ((List.range 16).map (fun f => (f, b2n (Nat.testBit fs f && (e.fns.get f).state != .release))) ++
    [(16, b2n x.stopReq), (17, b2n x.stuck), (18, b2n x.low), (19, b2n x.edm), (20, b2n (e.state != .run))])

/-- The filtered inputs of a channel, bit 0 = I1. -/
def inputWord (m : Map SafeIn) : Word :=
  packWord ((List.range 24).map (fun i => (i, b2n (m.get (i + 1)).filt)))

/-- W2 to W13 of SAFE_STATUS (R386). -/
def SafeEval.words (e : SafeEval) : List Word :=
  let fns := fun lo => packWord ((List.range 8).map (fun i => (4 * i, (e.fns.get (lo + i)).state.code)))
  [w32 e.state.code, e.scv, w32 e.fault,
   packWord ((List.range 4).map (fun i => (4 * i, (e.pairs.get (i + 1)).state.code))),
   fns 0, fns 8, inputWord e.inA, inputWord e.inB] ++ (List.range 4).map (fun i => SafeEval.cause e (i + 1))

/-- SAFE_STATUS_REPORT (R382, R384): the Keeper takes the status and copies the entries into the recorder. -/
def execSafeStatusReport (time : Nat) (s : State) : Outcome :=
  evt s time (fun s =>
    if !s.safe.powered || !s.keeperUp then s
    else
      let s1 := s.modSafe (fun e => { e with own := { words := SafeEval.words e, at_ := some s.now }, events := [] })
      forEach s.safe.events s1 (fun t e => t.record 0x30 0x01 127 [e.1, w32 e.2]))

/-- SAFE_PARTNER_STATUS (R382). -/
def execSafePartnerStatus (time : Nat) (s : State) : Outcome :=
  evt s time (fun s => doIf (!s.single && s.linkUp && s.keeperUp) s (fun s => s.emit (.agfin "SAFE_STATUS" s.safe.own.words)))

/-- SAFE_PARTNER_STATUS_RECEIVED (R382). -/
def execSafePartnerStatusReceived (words : List Word) (time : Nat) (s : State) : Outcome :=
  evt s time (fun s =>
    if s.single || !s.linkUp then s
    else s.modSafe (fun e => { e with partner := { words := words.take 12, at_ := some s.now } }))

/-- The twelve words of a view; what has not been reported reads 0. -/
def SafeView.twelve (v : SafeView) : List Word := (List.range 12).map (fun i => v.words.getD i 0)

/-- SAFE_STATUS (R386). The age of data that never came is open (log entry 2). -/
def execSafeStatus (t : Fin 16) (r : Req) (s : State) : Outcome :=
  opcode s t r { opcode := 0x3001, len := lenIs 1 } (fun s =>
    let age := fun (at_ : Nat) => w32 ((s.now - at_) / 1000000)
    if r.w 2 = 0 then
      match s.safe.own.at_ with
      | some a => (s, .reply stOk (SafeView.twelve s.safe.own ++ [age a]))
      | none => (s.tookFree, .reply stOk (SafeView.twelve s.safe.own ++ [s.freeWord]))
    else if r.w 2 = 1 then
      match s.safe.partner.at_ with
      | some a =>
        if 100000000 ≤ s.now - a then (s, no (stRejected 0x14))
        else (s, .reply stOk (SafeView.twelve s.safe.partner ++ [age a]))
      | none => (s, no (stRejected 0x14))
    else (s, no stOutOfRange))

/-- SAFE_CONFIRM (R381). -/
def execSafeConfirm (t : Fin 16) (r : Req) (s : State) : Outcome :=
  opcode s t r { opcode := 0x3002, role := 2, len := lenIs 1 } (fun s =>
    if s.safe.state != .unconfirmed then (s, no (stRejected 0x10))
    else if checkValue s.safe.setA ≠ r.w 2 ∨ checkValue s.safe.setB ≠ r.w 2 then (s, no (stRejected 0x11))
    else (s.toSafe (SafeEval.enter (SafeEval.event { s.safe with confirmed := true } 4 0 0) .run), ok))

/-- Stop requests are made and released; a pair named in both keeps its request (R383, log entry 42). -/
def SafeEval.stops (e : SafeEval) (w : Word) : SafeEval :=
  (List.range 4).foldl (fun (e : SafeEval) i =>
    let x := e.pairs.get (i + 1)
    let holds := bitOf w i || (x.stopReq && !bitOf w (8 + i))
    SafeEval.setPair e (i + 1)
      { x with
        stopReq := holds
        state := if holds && (x.state == .on || x.state == .readyReset) then .off else x.state }) e

/-- The pairs whose stop request holds. -/
def SafeEval.inForce (e : SafeEval) : Word :=
  packWord ((List.range 4).map (fun i => (i, b2n (e.pairs.get (i + 1)).stopReq)))

/-- SAFE_STOP_REQ (R383); `answers` says that the evaluator answers within 20 ms. -/
def execSafeStopReq (t : Fin 16) (r : Req) (answers : Bool) (s : State) : Outcome :=
  opcode s t r { opcode := 0x3003, len := lenIs 1 } (fun s =>
    if r.w 2 &&& 0xFFFFF0F0 ≠ 0 then (s, no stOutOfRange)
    else if !answers || !SafeEval.live s.safe then (s, no (stFault 0x20))
    else
      let e := SafeEval.stops s.safe (r.w 2)
      (s.toSafe e, .reply stOk [SafeEval.inForce e]))

end Sys2Proof.Machine
end

