-- ==== Sys2Proof/Machine/Effect.lean ====
section
/-! DEFINITION. A committed configuration comes into force (R107): what each changed parameter does at the
effective tick (R113, R171, R204, R222, R232, R315, R409), on both modules of a Pair alike. -/

namespace Sys2Proof.Machine

/-- The parameter differs between two configurations. -/
def changed (old new : ParamMap) (block inst idx : Nat) : Bool :=
  paramValue old (paddr block inst idx) != paramValue new (paddr block inst idx)

/-- Some parameter of a block and instance, among n indices from lo, differs. -/
def changedIn (old new : ParamMap) (block inst lo n : Nat) : Bool :=
  (List.range n).any (fun i => changed old new block inst (lo + i))

/-- The owner nibble k of the words from idx, in a configuration. -/
def ownerIn (m : ParamMap) (idx k : Nat) : Nat :=
  fieldOf (paramValue m (paddr 0x03 0x40 (idx + k / 8))) (4 * (k % 8) + 3) (4 * (k % 8))

/-- A source that leaves partition v's view (R206) keeps nothing there: it reads 0 in every bit. -/
def State.dropSource (s : State) (v n : Nat) : State :=
  if v < 12 then
    s.modView v (fun x =>
      { x with
        pending := setBit x.pending n false, enable := setBit x.enable n false
        srcs := x.srcs.modify n (fun y => { y with count := 0, sat := false }) })
  else s

/-- The sources of outputs whose owner changes leave the old owner's view (R206): Leapfrog, loop slots, valve ports. -/
def State.dropSources (s : State) (old : ParamMap) : State :=
  let lost := fun (s : State) (idx k n : Nat) =>
    if ownerIn old idx k = ownerIn s.cfg.active idx k then s else s.dropSource (ownerIn old idx k) n
  let s1 := forEach (List.range 8) s (fun s k => lost s 0x12 k (120 + k))
  let s2 := forEach (List.range 64) s1 (fun s k => lost s 0xA k (128 + k))
  forEach (List.range 16) s2 (fun s k => lost s 8 k (192 + k))

/-- An output whose owner changes goes to its safe state; the new owner sets it from its next bus cycle (R204). -/
def State.newOwners (s : State) (old : ParamMap) : State :=
  let new := s.cfg.active
  let differs := fun (idx k : Nat) => ownerIn old idx k != ownerIn new idx k
  let s1 := forEach (List.range 64) s (fun s i => if differs 0xA i then s.loopOff i else s)
  let s2 := forEach (List.range 32) s1 (fun s i => if differs 0 i then s.doSafe (i + 1) else s)
  let s3 := forEach (List.range 32) s2 (fun s i => if differs 4 i && s.anaMode (i + 1) == 3 then s.anaSafe (i + 1) else s)
  let s4 := forEach (List.range 16) s3 (fun s i => if differs 8 i then s.valveSafe (i + 1) else s)
  ((forEach (List.range 8) s4 (fun s i => if differs 0x12 i then s.leapSafe (i + 1) else s)).syncFdp).dropSources old

/-- A chain taken out of the configuration: nothing is sent on it, and its head opens (R43, R52). -/
def State.chainRemoved (s : State) (c : Nat) : State :=
  let asked := s.enumAsked c
  let s0 := s.dropCmds c
  let s1 := (match asked with
    | some (t, q) => s0.finish t q (stFault 0x21) [w32 (s.chain c).fault.toNat]
    | none => s0).setCauses c (2 ^ 23 - 1) 0
  let s2 := (s1.modChain c (fun x => { cableA := x.cableA, cableB := x.cableB })).modStr c (fun _ => {})
  (s2.modTile c (fun _ => {})).unlatchPtos c

/-- A chain whose thresholds, filters or absent cells changed has its monitors told, in service, in its adoption or
while its enumeration has set monitors already (R59, R63, R113). -/
def State.chainSettings (s : State) (c : Nat) (old : ParamMap) : State :=
  let new := s.cfg.active
  let set := match (s.chain c).enum with
    | some e => e.phase != .waitEnum && e.phase != .readId
    | none => (s.chain c).adopt.isSome
  if !s.runsPlant || !(s.inService c || set) then s
  else
    let s1 := doIf (changed old new 0x12 c 2 || changed old new 0x12 c 3 || changed old new 0x11 c 1) s
      (fun s => s.queueCmd c (s.cmdSetThresh c 0xFF .setting))
    let s2 := doIf (changed old new 0x10 c 2 || changed old new 0x10 c 3) s1
      (fun s => s.queueCmd c (s.cmdSetFilters c 0xFF .setting))
    forEach (List.range (s.chPositions c)) s2 (fun s p =>
      doIf (changed old new 0x10 c (0x100 + p)) s (fun s => s.queueCmd c (s.cmdSetAbsent c (p + 1) .setting)))

/-- The chains of a new configuration. -/
def State.newChains (s : State) (old : ParamMap) : State :=
  forEach (List.range 64) s (fun s c =>
    if bitOf (paramValue old (paddr 0x10 c 0)) 0 && !s.chEnabled c then s.chainRemoved c else s.chainSettings c old)

/-- A cycle time that changes moves the next instant of a running partition's grid to the new grid (R215). -/
def State.regrid (s : State) (p : Nat) : State :=
  let x := s.part p
  let cyc := s.parN 0x03 p 0x20 * 1000
  if cyc = 0 ∨ x.inCycle = true ∨ x.nextGrid ≤ s.now ∨ (x.state ≠ .run ∧ x.state ≠ .starting) then s
  else s.modPart p (fun x => { x with nextGrid := x.tRun + (s.now - x.tRun + cyc - 1) / cyc * cyc })

/-- The partitions of a new configuration: a disabled one stops, or stays FAULTED (R199), a changed retained region is filled
with zeros (R232), and one that is newly enabled, or whose event bindings change, has its view set up (R222). -/
def State.newParts (s : State) (old : ParamMap) : State :=
  let new := s.cfg.active
  forEach (List.range 12) s (fun s0 p =>
    let was := bitOf (paramValue old (paddr 0x03 p 0)) 0
    let s := doIf (changed old new 0x03 p 0x20) s0 (fun s => s.regrid p)
    let s1 := if was && !s.parB 0x03 p 0 && (s.part p).state != .faulted then (s.partStop p).refuseAsks p else s
    let s2 := if changed old new 0x03 p 7 then
        s1.modPart p (fun x => { x with
          mem := x.mem.restrict (fun a => decide (a < baseRetain ∨ baseImage ≤ a)), retA := [], retB := [] })
      else s1
    if (!was && s.parB 0x03 p 0) || changed old new 0x03 p 1 || changedIn old new 0x03 p 0x24 16 then s2.setupView p else s2)

/-- A tenant that comes into or goes out of use, or changes its kind or partition, starts with an empty
book (R162, R171). -/
def State.newTenants (s : State) (old : ParamMap) : State :=
  forEach (List.range 16) s (fun s t =>
    if changed old s.cfg.active 0x01 (0x10 + t) 0 || changed old s.cfg.active 0x01 (0x10 + t) 2 then
      (s.tenantReset t 1).setTenant t {}
    else s)

/-- PTP switched off: the module stays FREE or FOLLOWING (R273). -/
def State.ptpOff (s : State) : State :=
  if s.parB 0x41 0 0 then s
  else
    s.modTime (fun t =>
      { t with
        state := if t.state == .following then t.state else .free
        selected := none, good := 0, lockedAt := none, slew := 0
        ports := t.ports.map (fun (e : Nat × PtpPort) => (e.1, { e.2 with foreign := [] })) })

/-- The field units of a new configuration: a changed analog mode passes through OFF for one sample and ends its HART
transaction (R315, R329), and a changed CAN controller or object starts anew. -/
def State.newUnits (s : State) (old : ParamMap) : State :=
  let new := s.cfg.active
  let s1 := forEach (List.range 32) s (fun s i =>
    if changed old new 0x20 i 0 then
      (s.hartEnd (i + 1) (stFault 0x22) []).modAna (i + 1) (fun x => { x with offOnce := true })
    else s)
  let s2 := forEach (List.range 8) s1 (fun s i =>
    if changed old new 0x23 i 0 then s.modFb (i + 1) (fun x => { leapOn := x.leapOn, captured := x.captured }) else s)
  forEach (List.range 8) s2 (fun s k =>
    (forEach (List.range 64) s (fun s o =>
      if changedIn old new 0x22 k (0x100 + 16 * o) 9 then s.modObj k o (fun _ => {}) else s)).canConfigure k)

/-- Domains that the configuration uses are powered; the others stay up until the next tick edge (R409). -/
def State.powerUsed (s : State) : State :=
  forEach (List.range 50) s (fun s d =>
    if s.domInUse d && !(s.power.doms.get d).lost && !s.up d then s.setDom d .run else s)

/-- Domains that the configuration no longer uses go down (R409). -/
def State.dropUnused (s : State) : State :=
  if s.power.state == .run && s.power.keeper == .running then
    forEach (List.range 50) s (fun s d => if s.domInUse d then s else s.domDown d)
  else s

/-- A configuration comes into force. -/
def State.takeActive (s : State) (m : ParamMap) : State :=
  let old := s.cfg.active
  let s1 := (s.modCfg (fun g => { g with active := m, before := g.active, activeFrom := s.tickNo })).powerUsed
  let s2 := ((((s1.newParts old).newOwners old).newChains old).newUnits old).newTenants old
  ((((s2.syncExt).syncPtos).driveAllDo).ptpOff)

/-- The first tick at least 10 ms after an instant (R107). -/
def effectiveTick (t : Nat) : Nat := (t + 10000000 + 999999) / 1000000

/-- Every committed configuration whose tick has come is taken, in order. -/
def State.takeDue (s : State) : State :=
  let ready := s.cfg.due.filter (fun e => decide (e.1 ≤ s.tickNo))
  forEach ready (s.modCfg (fun g => { g with due := g.due.filter (fun e => decide (s.tickNo < e.1)) }))
    (fun s e => s.takeActive e.2)

/-- CONFIG_EFFECTIVE_TICK (R107): a committed change comes into force at its tick; one made in factory defaults
does with the reset that follows it (R403). -/
def execConfigEffectiveTick (s : State) : Outcome :=
  evt0 s (fun s => if s.power.state == .run && s.keeperUp && !s.cfg.defaulted then s.takeDue else s)

/-! ## Completing a commit (R175, R176, R400, R403) -/

/-- Domains that a committed configuration brings into use are powered at once (R409). -/
def State.powerCommitted (s : State) (m : ParamMap) : State :=
  let on := ({ s with cfg := { s.cfg with active := m } }).powerUsed
  { s with power := on.power }

/-- The copies, the generation, the effective tick and the lock as a completed commit leaves them. -/
def State.installCommit (s : State) (w : CommitWait) : State :=
  let gen := (s.cfg.generation + 1) % 2 ^ 32
  let good : CfgCopy :=
    { crcGood := true, checkGood := true, generation := gen, time := w.time, tenant := w.tenant, params := w.params }
  let s1 := s.modCfg (fun g =>
    { (Cfg.clearStaged g) with
      wait := none, lock := none, generation := gen, commitTime := w.time, commitTenant := w.tenant
      copyA := if w.writeA then good else { g.copyA with crcGood := false }
      copyB := if w.writeB then good else { g.copyB with crcGood := false }
      fallback := !(w.writeA && w.writeB)
      repair := if !w.writeA then some 0 else if !w.writeB then some 1 else none
      due := g.due ++ [(effectiveTick w.time, w.params)]
      resetAt := if g.defaulted then some (s.now + 1000000000) else g.resetAt })
  { s1 with ident := { s1.ident with lockRecord := none } }

/-- A commit is complete: the reply names the effective tick and the new generation (R175). -/
def State.completeCommit (s : State) (w : CommitWait) : State :=
  let s1 := (s.installCommit w).powerCommitted w.params
  let s2 := match w.safe with
    | none => s1
    | some m => s1.toSafe (SafeEval.acceptSet s1.safe m)
  let n := effectiveTick w.time
  s2.finish w.tenant w.seq stOk [hiWord n, loWord n, w32 s2.cfg.generation]

/-- A partner in STANDBY can acknowledge (R176, R197). -/
def State.standbyThere (s : State) : Bool := !s.single && s.linkUp && s.pair.partner == some .standby

/-- Without a STANDBY, what awaited its acknowledgment completes on the running module alone (R176, R197). -/
def State.settleWaits (s : State) : State :=
  if s.standbyThere || !s.runsPlant then s
  else
    let s1 := match s.cfg.wait with
      | none => s
      | some w => s.completeCommit w
    forEach s1.pair.imgWaits (s1.modPair (fun p => { p with imgWaits := [] }))
      (fun s e => s.finish e.2.1 e.2.2.1 stOk [w32 e.2.2.2])

end Sys2Proof.Machine
end

