-- ==== Sys2Proof/Machine/Hibernate.lean ====
section
/-! DEFINITION. HIBERNATE (R413 to R415): how the module and its partner enter it and wake. -/

namespace Sys2Proof.Machine

/-- Every partition's changed retained copy is committed (R422). -/
def State.commitRetained (s : State) : State :=
  forEach (List.range 12) s (fun s p => if s.parB 0x03 p 0 then s.retainCommit p true else s)

/-- Step 1 of R413: every cell's ledger entry. -/
def State.writeLedger (s : State) : State :=
  forEach (List.range 64) s (fun s c =>
    if s.inService c then forEach (List.range (s.chPositions c)) s (fun s p => s.stagePosition c (p + 1)) else s)

/-- Step 2 of R413: SEGMENT to the far monitor of each chain, from the module's own end, which inserts the Croak
and watches its return from here on (R50). -/
def State.hibernateSegments (s : State) : State :=
  forEach (List.range 64) s (fun s c =>
    let dest := if s.holdsA then s.chPositions c else 1
    if s.inService c then
      ((s.modChain c (fun x => { x with pendRun := some (if s.holdsA then .folded else .reversed) })).applyRunning c).emit
        (cmdOut c s.ownEnd (s.chain c).nextCtag dest 0x0C [half (if s.holdsA then 1 else 2)])
    else s)

/-- The domains that HIBERNATE keeps: D0, and on the module that ran the plant its own end's bank and D48 for
the kept port (R414). -/
def State.keepDomains (s : State) (keep : Nat → Bool) : State :=
  s.modPower (fun p => { p with
    doms := (List.range 50).map (fun d =>
      (d, { (p.doms.get d) with state := if keep d && s.up d then (.run : DomState) else .down, wake := none })) })

/-- The module that ran the plant enters HIBERNATE. The Matrix still takes the Keeper as it was (R415's
example: no PTO asserts). -/
def State.enterHibernate (s : State) : State :=
  let s1 := (s.writeLedger.commitRetained).hibernateSegments
  let port := s.parN 0x01 0 3
  let link := (s.net.ports.get port).link
  let keep := fun (d : Nat) => d == 0 || d == 48 || d == bankDomain s.ownEnd
  let s2 := (s1.keepDomains keep).cleared true
  let s3 := s2.modPower (fun p =>
    { p with
      state := .hibernate, keeperOk := s.power.keeperOk
      doms := p.doms.modify 48 (fun x => { x with state := if s.up 48 then .run else .down }) })
  ((s3.modNet (fun n => { n with ports := n.ports.modify port (fun x => { x with link := link }) })).emit (.hold false)).syncPtos

/-- The partner enters HIBERNATE and keeps D0 and the always-on rail only (R414). -/
def State.partnerHibernates (s : State) : State :=
  let s1 := (s.commitRetained).cleared false
  ((s1.modPower (fun p => { p with state := .hibernate, keeperOk := s.power.keeperOk })).emit (.hold false)).syncPtos

/-- The request that awaits the partner is answered, and the module enters HIBERNATE (R413, R425). -/
def State.hibernateDone (s : State) : State :=
  match s.power.hibAsk with
  | none => s
  | some (t, q, _) => ((s.modPower (fun p => { p with hibAsk := none })).finish t q stOk []).enterHibernate

/-- A pending PWR_HIBERNATE is over without effect. -/
def State.dropHibernate (s : State) (status : Nat) : State :=
  match s.power.hibAsk with
  | none => s
  | some (t, q, _) => (s.modPower (fun p => { p with hibAsk := none })).finish t q status []

/-- HIBERNATE_RECEIVED (R413): the partner of the module that runs the plant. -/
def execHibernateReceived (time : Nat) (s : State) : Outcome :=
  evt s time (fun s =>
    if s.single || !s.linkUp || s.runsPlant || s.power.state != .run || s.power.keeper != .running then s
    else s.partnerHibernates)

/-- HIBERNATE_PARTNER_TIMEOUT (R413, R425). -/
def execHibernatePartnerTimeout (time : Nat) (s : State) : Outcome :=
  evt s time (fun s =>
    match s.power.hibAsk with
    | some (_, _, a) => if a + 1000000000 ≤ s.now then s.dropHibernate (stRejected 0x33) else s
    | none => s)

/-- Some bulk stream is open (R413). -/
def State.streamOpen (s : State) : Bool :=
  (List.range 16).any (fun t =>
    let x := s.tenant t
    x.outStream.isSome || !x.waitingStreams.isEmpty || x.inStream.isSome)

/-- The first condition of R413 that does not hold, as the detail of R425. -/
def State.hibernateRefusal (s : State) : Option Nat :=
  if (List.range 64).any (fun c => (s.str c).state != .open_ && (s.str c).state != .tripped) then some 0x30
  else if (List.range 12).any (fun p => s.parB 0x03 p 0 && (s.part p).state != .stopped && (s.part p).state != .faulted) then
    some 0x31
  else if s.cfg.lock.isSome || s.streamOpen then some 0x32
  else none

/-- PWR_HIBERNATE (R413, R425). In a Pair the answer awaits the partner; a second request meanwhile is BUSY. -/
def execPwrHibernate (t : Fin 16) (r : Req) (s : State) : Outcome :=
  opcode s t r { opcode := 0x010A, role := 1, active := true } (fun s =>
    match s.hibernateRefusal with
    | some d => (s, no (stRejected d))
    | none =>
      if s.power.hibAsk.isSome then (s, no stResource)
      else if s.single then ((s.finish t r.seq stOk []).enterHibernate, .later)
      else
        ((s.modPower (fun p => { p with hibAsk := some (t.val, r.seq, s.now) })).emit (.agfin "HIBERNATE" []), .later))

/-- What wakes the module can reach it: a SYN on the kept port, a loss on a watched chain (R414, R415). -/
def State.wakes (s : State) (w : WakeBy) : Bool :=
  match w with
  | .tcpSyn => s.up 48
  | .croakLoss => s.up 42 || s.up 43
  | .eov => true
  | .holdLow => !s.single

/-- HIBERNATE_WAKE (R415): PAIR_HOLD goes low for 2 ms, and the module starts from step 2 of R395. -/
def execHibernateWake (by_ : WakeBy) (boot : BootCheck) (time : Nat) (s : State) : Outcome :=
  evt s time (fun s =>
    if s.power.state == .hibernate && s.wakes by_ then (s.emit (.hold true)).bootUp boot 64 else s)

end Sys2Proof.Machine
end

