-- ==== Sys2Proof/Machine/Time.lean ====
section
/-! DEFINITION. Plant time (R13, R261 to R266, R274): steps, the discipline of the rate, PTP, and the time
opcodes. -/

namespace Sys2Proof.Machine

/-! ## A step of plant time (R13, R271) -/

/-- A baseline in plant time moves with a step from `old` to `new`, so that what it measures goes on. -/
def shifted (old new t : Nat) : Nat := t + new - old

/-- A baseline that may be absent. -/
def shiftedO (old new : Nat) (t : Option Nat) : Option Nat := t.map (shifted old new)

/-- The baselines of the Keeper's records. -/
def Part.shift (o n : Nat) (x : Part) : Part :=
  let f := shifted o n
  { x with
    restarts := x.restarts.map f, restartAt := x.restartAt.map f, retAt := f x.retAt, tRun := f x.tRun
    cycleStart := f x.cycleStart, feedAt := f x.feedAt, nextGrid := f x.nextGrid, eccAt := f x.eccAt, errAt := x.errAt.map f }

/-- The baselines of a domain. -/
def Domain.shift (o n : Nat) (x : Domain) : Domain :=
  { x with
    wake := shiftedO o n x.wake, attempts := x.attempts.map (shifted o n), retryAt := shiftedO o n x.retryAt }

/-- The baselines of power management. -/
def Power.shift (o n : Nat) (x : Power) : Power :=
  { x with
    opSince := shifted o n x.opSince, confirmAt := shifted o n x.confirmAt, coolSince := shiftedO o n x.coolSince
    faultResets := x.faultResets.map (shifted o n), doms := x.doms.map (fun (e : Nat × Domain) => (e.1, Domain.shift o n e.2)) }

/-- The baselines of the pair link. -/
def Pair.shift (o n : Nat) (x : Pair) : Pair :=
  let f := shiftedO o n
  { x with
    confirmAt := shifted o n x.confirmAt, claimAt := f x.claimAt, absentAt := f x.absentAt, switchAt := f x.switchAt
    giveUpSeen := f x.giveUpSeen, giveUpAt := f x.giveUpAt, frozen := f x.frozen, outputAt := shifted o n x.outputAt
    rampDown := f x.rampDown
    linkUpAt := f x.linkUpAt, mapAt := f x.mapAt }

/-- The baselines of a PTP port. -/
def PtpPort.shift (o n : Nat) (x : PtpPort) : PtpPort :=
  { x with
    foreign := x.foreign.map (fun f => { f with heard := f.heard.map (shifted o n) }), t1 := none, t2 := none
    lastSync := shifted o n x.lastSync, lastAnnounce := shifted o n x.lastAnnounce }

/-- The baselines of the time unit. -/
def TimeUnit.shift (o n : Nat) (x : TimeUnit) : TimeUnit :=
  { x with
    lockedAt := shiftedO o n x.lockedAt, waitFrom := shiftedO o n x.waitFrom, lastHeard := shifted o n x.lastHeard
    ports := x.ports.map (fun (e : Nat × PtpPort) => (e.1, PtpPort.shift o n e.2)) }

/-- The baselines of the field units. -/
def Ana.shift (o n : Nat) (x : Ana) : Ana :=
  let f := shiftedO o n
  { x with
    limitSince := f x.limitSince, openedAt := shifted o n x.openedAt, retrying := f x.retrying
    openSince := f x.openSince, compSince := f x.compSince
    test := x.test.map (fun e => (e.1, e.2.1, shifted o n e.2.2)) }

def Do.shift (o n : Nat) (x : Do) : Do := { x with shutAt := shiftedO o n x.shutAt, changedAt := shifted o n x.changedAt }

def Fb.shift (o n : Nat) (x : Fb) : Fb := { x with mismatchAt := shiftedO o n x.mismatchAt, leapEnd := shiftedO o n x.leapEnd }

def Loop.shift (o n : Nat) (x : Loop) : Loop := { x with at_ := shifted o n x.at_, fbSince := shiftedO o n x.fbSince }

def Valve.shift (o n : Nat) (x : Valve) : Valve := { x with stillSince := shiftedO o n x.stillSince }

def Zone.shift (o n : Nat) (x : Zone) : Zone :=
  { x with tamb := x.tamb.map (fun e => (e.1, shifted o n e.2)), evaluated := shiftedO o n x.evaluated }

def Can.shift (o n : Nat) (x : Can) : Can :=
  { x with
    dispAt := x.dispAt.map (fun e => (e.1, shifted o n e.2)), leaving := x.leaving.map (fun q => (shifted o n q.1, q.2))
    objs := x.objs.map (fun (e : Nat × CanObj) =>
      (e.1, { e.2 with
        leaving := e.2.leaving.map (fun q => (shifted o n q.1, q.2.map (fun v => (v.1, shifted o n v.2))))
        pend := e.2.pend.map (fun q => (shifted o n q.1, q.2.map (fun v => (v.1, shifted o n v.2))))
        lastAt := shifted o n e.2.lastAt })) }

/-- Plant time set to another value, with every stored baseline moved along (R267). -/
def State.timeStepped (s : State) (t : Nat) : State :=
  let o := s.now
  { s with
    now := t
    power := Power.shift o t s.power
    ident := { s.ident with bootedAt := shifted o t s.ident.bootedAt }
    cfg := { s.cfg with resetAt := shiftedO o t s.cfg.resetAt
                        due := s.cfg.due.map (fun e => (shifted (o / 1000000) (t / 1000000) e.1, e.2)) }
    tenants := s.tenants.map (fun (e : Nat × Tenant) =>
      (e.1, { e.2 with session := e.2.session.map (fun w => { w with lastPacket := shifted o t w.lastPacket }) }))
    pool := { s.pool with refusedAt := s.pool.refusedAt.map (fun e => (e.1, shifted o t e.2)) }
    zones := s.zones.map (fun (e : Nat × Zone) => (e.1, Zone.shift o t e.2))
    disp := { s.disp with ovrAt := shifted o t s.disp.ovrAt, lastOvrRecord := shifted o t s.disp.lastOvrRecord }
    parts := s.parts.map (fun (e : Nat × Part) => (e.1, Part.shift o t e.2))
    pair := Pair.shift o t s.pair
    time := TimeUnit.shift o t s.time
    net := { s.net with
      prp := s.net.prp.map (fun e => (e.1, e.2.1, shifted o t e.2.2.1, e.2.2.2))
      nodes := s.net.nodes.map (fun e => (e.1, shifted o t e.2))
      supervisionAt := shifted o t s.net.supervisionAt }
    loops := s.loops.map (fun (e : Nat × Loop) => (e.1, Loop.shift o t e.2))
    injs := s.injs.map (fun (e : Nat × Inj) => (e.1, { e.2 with startAt := shifted o t e.2.startAt }))
    valves := s.valves.map (fun (e : Nat × Valve) => (e.1, Valve.shift o t e.2))
    fbs := s.fbs.map (fun (e : Nat × Fb) => (e.1, Fb.shift o t e.2))
    anas := s.anas.map (fun (e : Nat × Ana) => (e.1, Ana.shift o t e.2))
    dos := s.dos.map (fun (e : Nat × Do) => (e.1, Do.shift o t e.2))
    cans := s.cans.map (fun (e : Nat × Can) => (e.1, Can.shift o t e.2))
    safe := { s.safe with
      own := { s.safe.own with at_ := shiftedO o t s.safe.own.at_ }
      partner := { s.safe.partner with at_ := shiftedO o t s.safe.partner.at_ } }
    display := { s.display with testUntil := shiftedO o t s.display.testUntil, latchAt := shiftedO o t s.display.latchAt } }

/-- The target of an armed unit lies in the interval from o to n; in short mode it is the signed difference that
lies there. A step back passes over no target (R271). -/
def Cmp.steppedOver (u : Cmp) (o n : Nat) : Bool :=
  let target : Int := if u.long then ofHiLo u.tgtHi u.tgtLo else o + (u.tgtLo - loWord o).toInt
  u.armed && decide ((o : Int) < target ∧ target ≤ n)

/-- A unit whose target has been stepped over fires once: its source in its partition's view is set. -/
def State.cmpStepped (s : State) (p u o n : Nat) : State :=
  if Cmp.steppedOver (s.cmp p u) o n then (s.modCmp p u Cmp.fired).event p (256 + u) else s

/-- Plant time steps to t; durations that run go on, and each armed compare unit whose target has been
stepped over fires once (R13, R271). -/
def State.stepTime (s : State) (t : Nat) : State :=
  if s.up 41 then forEach (List.range 384) (s.timeStepped t) (fun s' k => s'.cmpStepped (k / 32) (k % 32) s.now t)
  else s.timeStepped t

/-! ## Discipline (R264, R266) -/

/-- An offset has been measured from the master or the partner: out of service, one above 10 µs is stepped;
otherwise it is slewed, and the servo sets the rate (R13, R264). -/
def State.discipline (s : State) (offset : Int) : State :=
  let s1 := s.modTime (fun t => { t with offset := offset })
  if !s.anyInService && decide (10000 < offset.natAbs) then
    (s1.stepTime ((s.now : Int) - offset).toNat).modTime (fun t => { t with slew := 0 })
  else s1.modTime (fun t => { t with rate := Config.servoRate t.rate offset, slew := -offset })

/-- The module follows its partner (R264). -/
def State.follows (s : State) : Bool := !s.single && (s.pair.role == .standby || s.pair.role == .notReady)

/-! ## PTP (R262 to R264) -/

/-- PTP runs on a port: TIME_PTP_ENABLE, ports 1 to 3 with NET_PTP, D48 up, the link up; the ports of a
following module stay PASSIVE (R266), and HIBERNATE runs none (R414). -/
def State.ptpOn (s : State) (port : Nat) : Bool :=
  decide (1 ≤ port ∧ port ≤ 3) && s.parB 0x41 0 0 && s.parB 0x41 port 3 && s.up 48 && (s.net.ports.get port).link &&
  !s.follows && s.power.state == .run

/-- A foreign master is qualified: two Announce messages within four intervals (R264). -/
def Foreign.qualified (f : Foreign) (now : Nat) : Bool :=
  match f.heard with
  | _ :: h :: _ => decide (now ≤ h + 4 * f.data.intervalNs)
  | _ => false

/-- An Announce is entered with its foreign master. -/
def PtpPort.entered (x : PtpPort) (a : Announce) (now : Nat) : PtpPort :=
  let before := ((x.foreign.find? (fun f => f.data.gm == a.gm)).map Foreign.heard).getD []
  { x with foreign := { data := a, heard := (now :: before).take 4 } :: x.foreign.filter (fun f => f.data.gm != a.gm) }

/-- The order of the best master clock algorithm on two data sets (PRESUMED: IEEE 1588 as published). -/
def Announce.key (a : Announce) : List Nat := [a.prio1, a.cls, a.accuracy, a.variance, a.prio2, a.gm, a.steps]

/-- The first list comes before the second. -/
def lexLess (a b : List Nat) : Bool :=
  match a, b with
  | [], _ => false
  | _, [] => false
  | x :: xs, y :: ys => if x = y then lexLess xs ys else decide (x < y)

/-- The module's clockIdentity: the EUI-64 of its first MAC address (R388; PRESUMED: IEEE 1588's mapping). -/
def State.clockId (s : State) : Nat :=
  let m := s.ident.macs.headD 0
  m / 2 ^ 24 * 2 ^ 40 + 0xFFFE * 2 ^ 24 + m % 2 ^ 24

/-- The module's own data set: clockClass 248 without a traceable source (R263); accuracy and variance
are those of IEEE 1588 for an unknown clock (PRESUMED). -/
def State.ownSet (s : State) : Announce :=
  { domain := s.parN 0x41 0 1, gm := s.clockId, prio1 := s.parN 0x41 0 2, cls := 248, accuracy := 254, variance := 65535
    prio2 := s.parN 0x41 0 3 }

/-- The key of the module's own data set. -/
def State.ownClock (s : State) : List Nat := Announce.key s.ownSet

/-- The qualified masters of the ports on which PTP runs, each with its port. -/
def State.masters (s : State) : List (Nat × Announce) :=
  (([1, 2, 3] : List Nat).filter s.ptpOn).flatMap (fun p =>
    ((s.time.ports.get p).foreign.filter (fun f => Foreign.qualified f s.now)).map (fun f => (p, f.data)))

/-- The best qualified master, with its port; none where the module's own clock is better. -/
def State.bestMaster (s : State) : Option (Nat × Announce) :=
  let best := s.masters.foldl (fun (b : Option (Nat × Announce)) e =>
    match b with
    | none => some e
    | some r => if lexLess (Announce.key e.2) (Announce.key r.2) then some e else some r) none
  best.filter (fun e => !lexLess s.ownClock (Announce.key e.2))

/-- The Announce interval of the module as master: 2 s, the default profile's (PRESUMED; R273 sets none). -/
def announceNs : Nat := 2000000000

/-- No Announce has come for TIME_ANN_TIMEOUT of the module's own intervals, since the start at the earliest. -/
def State.unheard (s : State) : Bool :=
  decide (max s.time.lastHeard s.ident.bootedAt + s.parN 0x41 0 7 * announceNs ≤ s.now)

/-- portState of a port on which PTP runs (PRESUMED: the codes of IEEE 1588): SLAVE on the selected one; of ports 1
and 2 the other is PASSIVE then (R263); without a master, LISTENING until the timeout, then MASTER. -/
def State.portState (s : State) (p : Nat) : Nat :=
  if s.follows then 7
  else if s.time.selected = some p then 9
  else if s.time.selected.isSome then (if s.parB 0x41 0 4 && !(p ≤ 2 && (s.time.selected.getD 0) ≤ 2) then 6 else 7)
  else if !s.masters.isEmpty || s.unheard then 6 else 4

/-- The selection of a master (R264): from FREE or HOLDOVER, or where it is another grandmaster than before,
ACQUIRING begins. -/
def State.selectMaster (s : State) : State :=
  let s1 := match s.bestMaster with
    | none => s.modTime (fun t => { t with selected := none })
    | some (p, a) =>
      s.modTime (fun t =>
        let begins := t.state == TimeState.free || t.state == TimeState.holdover || t.gm != a.gm
        { t with
          selected := some p, master := some a, gm := a.gm
          state := if begins then .acquiring else t.state
          lockedAt := if begins then none else t.lockedAt
          good := if begins || t.selected != some p then 0 else t.good })
  s1.modTime (fun t =>
    { t with ports := ([1, 2, 3] : List Nat).foldl (fun m p => m.modify p (fun x => { x with state := s1.portState p })) t.ports })

/-- A Sync exchange on the selected port gives an offset (R264): 16 within 1 µs lock. -/
def State.ptpOffset (s : State) (p t1 t2 : Nat) : State :=
  let off : Int := (t2 : Int) - t1 - (s.time.ports.get p).delay
  if s.time.selected ≠ some p then s
  else
    let s1 := s.discipline off
    let good := if off.natAbs ≤ 1000 then s.time.good + 1 else 0
    s1.modTime (fun t =>
      if t.state == .acquiring && decide (16 ≤ good) then { t with state := .locked, lockedAt := some s1.now, good := good }
      else { t with good := good })

/-- Change what a PTP port remembers. -/
def State.modPtp (s : State) (p : Nat) (f : PtpPort → PtpPort) : State :=
  s.modTime (fun t => { t with ports := t.ports.modify p f })

/-- PTP_MESSAGE_RECEIVED (R262 to R264); a message of another domain is none for the module (R273). -/
def execPtpMessageReceived (port : Fin 5) (m : PtpMsg) (time : Nat) (s : State) : Outcome :=
  evt s time (fun s =>
    if !s.ptpOn port || m.domain != s.parN 0x41 0 1 then s
    else
      let x := s.time.ports.get port
      match m with
      | .announce a =>
        ((s.modPtp port (fun x => PtpPort.entered x a s.now)).modTime (fun t => { t with lastHeard := s.now })).selectMaster
      | .sync _ t1 t2 =>
        let s1 := s.modPtp port (fun x => { x with t1 := t1, t2 := some t2 })
        let s2 := match t1 with | some a => s1.ptpOffset port a t2 | none => s1
        doIf (decide (s2.time.selected = some port.val)) s2 (fun s => s.emit (.net port "DELAY_REQ"))
      | .followUp _ t1 =>
        match x.t1, x.t2 with
        | none, some t2 => (s.modPtp port (fun x => { x with t1 := some t1 })).ptpOffset port t1 t2
        | _, _ => s
      | .delayResp _ t3 t4 =>
        match x.t1, x.t2 with
        | some t1, some t2 =>
          s.modPtp port (fun x => { x with delay := (((t2 : Int) - t1) + ((t4 : Int) - t3)) / 2 })
        | _, _ => s
      | .delayReq _ _ => doIf (decide (s.portState port = 6)) s (fun s => s.emit (.net port "DELAY_RESP"))
      | .other => s)

/-- ANNOUNCE_TIMEOUT (R264): no Announce from any master for TIME_ANN_TIMEOUT intervals. -/
def execAnnounceTimeout (time : Nat) (s : State) : Outcome :=
  evt s time (fun s =>
    let iv := (s.time.master.map Announce.intervalNs).getD announceNs
    if (s.time.state == .locked || s.time.state == .acquiring) &&
        decide (s.time.lastHeard + s.parN 0x41 0 7 * iv ≤ s.now) then
      s.modTime (fun t =>
        { t with
          state := .holdover, selected := none, good := 0, lockedAt := none, slew := 0
          ports := t.ports.map (fun (e : Nat × PtpPort) => (e.1, { e.2 with foreign := [] })) })
    else s)

/-- The Sync interval of TIME_LOG_SYNC. -/
def State.syncNs (s : State) : Nat :=
  match signedOf 8 (s.parN 0x41 0 6) with
  | .ofNat k => 1000000000 * 2 ^ k
  | .negSucc k => 1000000000 / 2 ^ (k + 1)

/-- The data set the module announces: its master's, one step further, or its own as grandmaster (R263). -/
def State.announced (s : State) : Announce :=
  match s.time.selected, s.time.master with
  | some _, some a => { a with domain := s.parN 0x41 0 1, steps := a.steps + 1 }
  | _, _ => s.ownSet

/-- The words of an Announce that leaves: domain, priority1, clockClass, accuracy, variance, priority2, clockIdentity,
stepsRemoved. -/
def Announce.words (a : Announce) : List Word :=
  [w32 a.domain, w32 a.prio1, w32 a.cls, w32 a.accuracy, w32 a.variance, w32 a.prio2, hiWord a.gm, loWord a.gm, w32 a.steps]

/-- The IPv4 destination of Announce, 224.0.1.129: the profile's own (PRESUMED, log entry 197). -/
def ptpMulticast : Word := 0xE0000181

/-- PTP_MASTER_SEND (R263): Sync, one-step or two-step, and Announce, each at its interval. -/
def execPtpMasterSend (port : Fin 5) (time : Nat) (s : State) : Outcome :=
  evt s time (fun s =>
    if !s.ptpOn port || s.portState port != 6 then s
    else
      let x := s.time.ports.get port
      let s1 := if x.lastSync + s.syncNs ≤ s.now then
          doIf (s.parB 0x41 0 5)
            ((s.modPtp port (fun x => { x with lastSync := s.now })).emit (.net port "SYNC"))
            (fun s => s.emit (.net port "FOLLOW_UP"))
        else s
      if x.lastAnnounce + announceNs ≤ s.now then
        (s1.modPtp port (fun x => { x with lastAnnounce := s.now })).emit (.udp port ptpMulticast 320 (Announce.words s.announced))
      else s1)

/-! ## Opcodes (R274) -/

/-- TIME_OFFSET as read: saturating at 32 bits (R273). -/
def State.offsetWord (s : State) : Word := i32 (max (-2147483648) (min 2147483647 s.time.offset))

/-- TIME_STATUS. -/
def execTimeStatus (t : Fin 16) (r : Req) (s : State) : Outcome :=
  opcode s t r { opcode := 0x4101 } (fun s =>
    (s, .reply stOk
      [w32 s.time.state.code, s.offsetWord, i32 s.time.rate, hiWord s.now, loWord s.now, hiWord s.time.gm, loWord s.time.gm]))

/-- TIME_SET: plant time steps by command (R13). -/
def execTimeSet (t : Fin 16) (r : Req) (s : State) : Outcome :=
  opcode s t r { opcode := 0x4103, role := 1, len := lenIs 2, active := true } (fun s =>
    if s.anyInService then (s, no (stRejected 0x10))
    else if s.time.state == .locked || s.time.state == .following then (s, no (stRejected 0x11))
    else (s.stepTime (ofHiLo (r.w 2) (r.w 3)), ok))

end Sys2Proof.Machine
end

