-- ==== Sys2Proof/Machine/PairLink.lean ====
section
/-! DEFINITION. The pair link (chapter 9): lanes and control blocks, the HOLD line, arbitration, roles,
readiness, and giving up (R235 to R245, R254). -/

namespace Sys2Proof.Machine

/-! ## Readiness (R243) -/

/-- The mirror sets that count: those of the enabled partitions, the Keeper's, and the loop and valve records. -/
def State.mirrorSets (s : State) : List Nat := ((List.range 12).filter (fun p => s.parB 0x03 p 0)) ++ [12, 13]

/-- The conditions of R243 that fail, by bit. -/
def State.unready (s : State) : Word :=
  let sets := s.mirrorSets.map (fun k => s.pair.sets.get k)
  packWord
    [(0, b2n (!s.linkUp)), (1, b2n s.pair.fwMismatch), (2, b2n s.pair.sideConflict), (3, b2n s.pair.cfgTakeup),
     (4, b2n s.pair.imageTakeup), (5, b2n (sets.any (fun m => m.missing))), (6, b2n (sets.any (fun m => !m.snapped))),
     (7, b2n ((List.range 64).any (fun c => s.inService c && (!s.pair.resynced.contains c || (s.tile c).mismatch)))),
     (8, b2n ((List.range 50).any (fun d => s.domInUse d && !s.up d)))]

/-- PAIR_NOTREADY (R243, R257): shown by a module that follows; an OFFLINE one shows SIDE_CONFLICT (R241). -/
def State.notReadyWord (s : State) : Word :=
  if s.single then 0
  else match s.pair.role with
    | .standby | .notReady => s.unready
    | .offline => w32 (4 * b2n s.pair.sideConflict)
    | _ => 0

/-- The transitions of R242 that follow from the partner's role and from readiness. -/
def State.settleRole (s : State) : State :=
  if s.single then s
  else match s.pair.role with
    | .alone => if s.linkUp && s.partnerFollows then s.setRole .active else s
    | .active => if s.linkUp && s.partnerFollows then s else s.setRole .alone
    | .newt => if s.linkUp && s.pair.partner == some .standby then s.setRole .active else s
    | .notReady => if s.unready = 0 then s.setRole .standby else s
    | .standby => if s.unready = 0 then s else s.setRole .notReady
    | _ => s

/-- PAIR_LINK (R257). -/
def State.pairLink (s : State) : Word :=
  if s.single then 0
  else packWord [(0, b2n s.pair.lane1), (1, b2n s.pair.lane2), (2, b2n s.pair.partnerPulse), (3, b2n s.pair.sense),
                 (4, b2n s.pair.holdFault)]

/-! ## Giving up (R244, R245) -/

/-- The request that a CMD belongs to. -/
def cmdRequest (m : MonCmd) : Option (Nat × Nat) :=
  match m.why with
  | .tenant t q => some (t, q)
  | .diag t q => some (t, q)
  | .impedance _ true t q => some (t, q)
  | _ => none

/-- Requests that can no longer be carried out are answered (log entry 34). -/
def State.refuseAll (s : State) (l : List (Nat × Nat)) : State :=
  forEach l s (fun s e => s.finish e.1 e.2 stNotActive [])

/-- A chain of a module that stops: its CMDs, its enumeration and its Croak end (R245 step 1). -/
def State.chainStops (s : State) (c : Nat) : State :=
  let x := s.chain c
  let asked := ((x.queue ++ x.sent.map (fun o => o.cmd)).filterMap cmdRequest) ++
    (match s.enumAsked c with | some a => [a] | none => [])
  let s1 := s.modChain c (fun x =>
    { x with
      queue := [], sent := [], echoes := [], segments := [], verify := none, croak := false
      enum := none, state := if x.enum.isSome then .outOfService else x.state })
  (s1.modStr c (fun x => { x with seq := .none_ })).refuseAll asked

/-- A request is dropped without a reply, and its credit returns (R176). -/
def State.dropRequest (s : State) (t seq : Nat) : State :=
  match takeExec (s.tenant t).executing seq with
  | none => s
  | some (_, rest) => (s.modTenant t (fun x => { x with executing := rest })).creditBack t

/-- The commit and the image writes that await the standby have not happened (R176, R197). -/
def State.dropWaits (s : State) : State :=
  let s1 := match s.cfg.wait with
    | none => s
    | some w => (s.modCfg (fun g => { g with wait := none })).dropRequest w.tenant w.seq
  (s1.modPair (fun p => { p with imgWaits := [] })).refuseAll (s.pair.imgWaits.map (fun e => (e.2.1, e.2.2.1)))

/-- Partitions stop where they are; their outputs stay frozen. -/
def State.partsFreeze (s : State) : State :=
  forEach (List.range 12) s (fun s p =>
    (s.refuseAsks p).modPart p (fun x => { x with state := .stopped, inCycle := false, restartAt := none }))

/-- The number of a cause, for its code (log entry 12). -/
def GiveUpCause.index : GiveUpCause → Nat
  | .lockstep => 0 | .keeperMemory => 1 | .lossD41 => 2 | .keeperWdt => 3 | .ioLoss => 4 | .junction => 5
  | .ownPulse => 6 | .senseAbsent => 7 | .contention => 8 | .switchover => 9

/-- A module-fault cause: the module stays OFFLINE (R242). -/
def GiveUpCause.isFault : GiveUpCause → Bool
  | .lockstep | .keeperMemory | .lossD41 | .keeperWdt => true
  | _ => false

/-- The module no longer drives the HOLD line. -/
def State.releaseHold (s : State) : State :=
  (s.modPair (fun p => { p with driving := false, claimAt := none })).emit (.hold false)

/-- The give-up of R245: the outputs freeze, the plant is left, GIVE_UP leaves, the line is released. -/
def State.doGiveUp (s : State) (cause : GiveUpCause) : State :=
  let code := Config.causeCode (GiveUpCause.index cause)
  let s1 := if s.runsPlant then s.modPair (fun p => { p with frozen := some s.now, rampDown := none }) else s
  let s2 := ((s1.partsFreeze).setRole .offline).dropWaits
  let s3 := forEach (List.range 64) s2 (fun s c => s.chainStops c)
  let s4 := ((s3.dropHibernate stNotActive).refuseAll (s3.disp.asks.map (fun a => (a.tenant, a.seq)))).modDisp (fun d => { d with asks := [] })
  let s5 := doIf (s.runsPlant && s.linkUp) (s4.breakLock 3) (fun s => s.emit (.agfin "GIVE_UP" [code]))
  let s6 := (s5.releaseHold).modPair (fun p =>
    { p with
      giveUpAt := some s.now, stayOffline := p.stayOffline || GiveUpCause.isFault cause
      switchAt := if cause == .switchover then some s.now else none })
  s6.record 0x40 0x01 127 [code]

/-- The condition of a cause in R244. -/
def State.givesUp (s : State) (cause : GiveUpCause) : Bool :=
  let standby := s.pair.partner == some .standby && s.linkUp
  let takes := s.partnerFollows && s.linkUp
  !s.single &&
  match cause with
  | .lockstep | .keeperMemory | .lossD41 => s.runsPlant || s.follows
  | .keeperWdt => false
  | .ioLoss =>
    s.runsPlant && standby &&
    (([42, 43] : List Nat).any (fun d => s.domInUse d && !s.up d) ||
     (s.parB 0x40 0 1 && (([44, 45, 46, 47, 48] : List Nat).any (fun d => s.domInUse d && !s.up d))))
  | .junction => s.runsPlant && standby && s.parB 0x40 0 2 && decide (10500 < s.power.tj)
  | .ownPulse | .senseAbsent => s.runsPlant && takes
  | .contention => s.runsPlant && s.ident.sideB
  | .switchover => false

/-- GIVE_UP (R244, R245): a cause is detected. A watchdog expiry resets the module without it (R418), and
a switchover gives up within its opcode. -/
def execGiveUp (cause : GiveUpCause) (time : Nat) (s : State) : Outcome :=
  evt s time (fun s => if s.givesUp cause then s.doGiveUp cause else s)

/-- The frozen outputs go to their safe state (R245 steps 3 and 4). -/
def State.unfreeze (s : State) : State :=
  let s1 := s.modPair (fun p => { p with frozen := none })
  (forEach (List.range 12) s1 (fun s p => s.outputsSafe p)).driveAllDo

/-- FIRST_OUTPUT_RECEIVED (R245 step 3): 10 µs later the frozen outputs go safe; the analog ones ramp to 0 from its arrival (R316). -/
def execFirstOutputReceived (time : Nat) (s : State) : Outcome :=
  evt s (time + 10000) (fun s => if s.isFrozen then (s.anaRelease time).unfreeze else s)

/-- FREEZE_TIMEOUT (R245 step 4): 2.5 ms after GIVE_UP. -/
def execFreezeTimeout (time : Nat) (s : State) : Outcome :=
  evt s time (fun s =>
    match s.pair.frozen with
    | some a => if a + 2500000 ≤ s.now then s.unfreeze else s
    | none => s)

/-- GIVE_UP_RECEIVED (R246): the partner has given up, and its role is OFFLINE (R245). -/
def execGiveUpReceived (_cause : GiveUpCause) (time : Nat) (s : State) : Outcome :=
  evt s time (fun s =>
    if s.single || !s.linkUp then s
    else
      let s1 := s.modPair (fun p => { p with partner := some .offline })
      if s.follows then s1.modPair (fun p => { p with giveUpSeen := some s.now }) else s1.settleRole)

/-! ## The HOLD line (R236, R237, R240, R241) -/

/-- The module watches the line: OFFLINE with its Keeper running on a valid configuration, and nothing that
holds it OFFLINE (R240 to R242). -/
def State.watchesHold (s : State) : Bool :=
  !s.single && s.power.state == .run && s.power.keeper == .running && s.pair.role == .offline &&
  !s.pair.stayOffline && !s.pair.sideConflict && s.pair.switchAt.isNone && s.pair.claimAt.isNone

/-- HOLD_PULSE (R236, R237): the module that runs the plant, or claims, pulls the line low; its Keeper has
confirmed. -/
def execHoldPulse (time : Nat) (s : State) : Outcome :=
  evt s time (fun s =>
    if s.single || s.power.keeper != .running || !(s.runsPlant || s.pair.claimAt.isSome) then s
    else
      ((s.modPair (fun p => { p with driving := true, confirmAt := s.now })).modPower
        (fun p => { p with confirmAt := s.now })).emit (.hold true))

/-- KEEPER_CONFIRM_TIMEOUT (R237): 200 µs without a confirmation. -/
def execKeeperConfirmTimeout (time : Nat) (s : State) : Outcome :=
  evt s time (fun s =>
    if s.pair.driving && decide (s.pair.confirmAt + 200000 ≤ s.now) then
      (s.modPair (fun p => { p with driving := false })).emit (.hold false)
    else s)

/-- The module begins to follow: it takes its chains up, and drives its Croak again where it launches (R58, R396). -/
def State.beginFollow (s : State) : State :=
  let s1 := (s.setRole .notReady).startChains
  forEach (List.range 64) s1 (fun s c => s.modChain c (fun x => { x with croak := x.croak || s.chEnabled c }))

/-- PULSE_SEEN (R236, R240): a valid pulse period on the line. -/
def execPulseSeen (time : Nat) (s : State) : Outcome :=
  evt s time (fun s =>
    if s.single then s
    else if s.pair.claimAt.isSome then s.modPair (fun p => { p with seenOwn := true })
    else if s.runsPlant then s
    else
      let s1 := s.modPair (fun p => { p with
        partnerPulse := true, sense := true, absentAt := none, giveUpSeen := p.giveUpSeen.map (fun _ => s.now) })
      if s1.watchesHold then s1.beginFollow else s1)

/-- PULSE_ABSENT (R236, R240): no valid period for the module's wait; a watching module claims the line. -/
def execPulseAbsent (time : Nat) (s : State) : Outcome :=
  evt s time (fun s =>
    if s.single || s.runsPlant || s.pair.claimAt.isSome then s
    else
      let s1 := s.modPair (fun p =>
        { p with partnerPulse := false, absentAt := match p.absentAt with | some a => some a | none => some s.now })
      if s1.watchesHold && !s1.pair.holdFault then
        (s1.modPair (fun p => { p with claimAt := some s.now, seenOwn := false, contended := false, driving := true,
                                       confirmAt := s.now })).emit (.hold true)
      else s1)

/-- CLAIM_END (R240, R241): 1 ms of driving the pulse. -/
def execClaimEnd (time : Nat) (s : State) : Outcome :=
  evt s time (fun s =>
    match s.pair.claimAt with
    | none => s
    | some a =>
      if s.now < a + 1000000 then s
      else if !s.pair.seenOwn then (s.releaseHold).modPair (fun p => { p with holdFault := true })
      else if s.pair.sideConflict then s.releaseHold
      else
        (((s.modPair (fun p => { p with claimAt := none, absentAt := none })).setRole .alone).startPlant).settleRole)

/-- CONTENTION (R240, R244): a low level in the module's own high phase. Side B releases the line, or gives up. -/
def execContention (time : Nat) (s : State) : Outcome :=
  evt s time (fun s =>
    if s.single then s
    else if s.pair.claimAt.isSome then
      (if s.ident.sideB then s.releaseHold else s.modPair (fun p => { p with contended := true }))
    else if s.givesUp .contention then s.doGiveUp .contention
    else s)

/-- OWN_PULSE_MISSING (R244). -/
def execOwnPulseMissing (time : Nat) (s : State) : Outcome :=
  evt s time (fun s =>
    if s.single || !s.runsPlant then s
    else if s.givesUp .ownPulse then s.doGiveUp .ownPulse
    else s.modPair (fun p => { p with holdFault := true }))

/-- PARTNER_SENSE_ABSENT (R244): for 300 µs, while the link still carries the partner's control blocks. -/
def execPartnerSenseAbsent (time : Nat) (s : State) : Outcome :=
  evt s time (fun s =>
    if s.single then s
    else
      let s1 := s.modPair (fun p => { p with sense := false })
      if !s.runsPlant || !s.linkUp then s1
      else if s1.givesUp .senseAbsent then s1.doGiveUp .senseAbsent
      else s1.modPair (fun p => { p with holdFault := true }))

/-! ## The link (R235, R239, R266) -/

/-- The link has been lost: a hibernation that awaits the partner ends, or the role and what awaits the partner settle. -/
def State.linkGone (s : State) : State :=
  if s.power.hibAsk.isSome then s.hibernateDone else s.settleRole.settleWaits

/-- The domains have changed: the role follows (R242, R243), and a link that went with D49 is down (R246). `was` says that the
link was up. -/
def State.domsChanged (s : State) (was : Bool) : State :=
  if !s.keeperUp then s
  else if was && !s.linkUp then s.linkGone else s.settleRole

/-- LANE_DOWN (R235, R239): a lane is down; with both, the partner's role cannot be read. While PWR_HIBERNATE
awaits the partner, the link's end says that the partner, whose D49 is down, is in HIBERNATE (R413, R414). -/
def execLaneDown (lane : Fin 2) (time : Nat) (s : State) : Outcome :=
  evt s time (fun s =>
    let s1 := s.modPair (fun p => if lane.val = 0 then { p with lane1 := false } else { p with lane2 := false })
    if s.linkUp && !s1.linkUp then
      s1.linkLost.linkGone
    else s1)

/-- The link comes up: nothing has been mirrored over it yet (R243, R255). -/
def State.linkCame (s : State) : State :=
  s.modPair (fun p =>
    { p with
      linkUpAt := some s.now, resynced := []
      sets := p.sets.map (fun (e : Nat × MirrorSet) =>
        (e.1, { e.2 with snapped := false, missing := false, asked := false, kept := [] })) })

/-- LANE_UP (R235): D49 is up, and the module is one of a Pair. -/
def execLaneUp (lane : Fin 2) (time : Nat) (s : State) : Outcome :=
  evt s time (fun s =>
    if s.single || !s.up 49 || !s.keeperUp then s
    else
      let s1 := if s.linkUp then s else s.linkCame
      s1.modPair (fun p => if lane.val = 0 then { p with lane1 := true, sense := true } else { p with lane2 := true, sense := true }))

/-- A follower asks for every set it has no snapshot of, and for its next tile (R251, R254). In Newt mode the
partitions' snapshots come by themselves (R256). -/
def State.followerAsks (s : State) : State :=
  let due := s.mirrorSets.filter (fun k =>
    let m := s.pair.sets.get k
    !m.snapped && !m.asked && (decide (12 ≤ k) || s.pair.mode != 2))
  let s1 := forEach due s (fun s k =>
    (s.modPair (fun p => { p with sets := p.sets.modify k (fun m => { m with asked := true }) })).emit
      (.agfin "SNAPSHOT_REQUEST" [w32 k]))
  if (List.range 64).any (fun c => (s1.tile c).resync.isSome) then s1
  else match (List.range 64).find? (fun c => s1.inService c && s1.tileWorks c && !s1.pair.resynced.contains c) with
    | none => s1
    | some c =>
      (s1.modTile c (fun x =>
        { x with resync := some ((s1.now + 2999999) / 1000000, (List.range (s1.chPositions c)).map (· + 1)), resyncWait := [] })).emit
        (.agfin "RESYNC_REQUEST" [w32 c])

/-- A chain that runs whole is turned at its far end while the partner is OFFLINE (R57, R249); a verification
in progress becomes that turn (R250). -/
def State.turnIfWhole (s : State) (c : Nat) : State :=
  let x := s.chain c
  if s.inService c && x.running == .whole && x.pendRun.isNone && x.segments.isEmpty then
    (doIf (Chain.verifying x) s (fun s => s.verifyByTurn c)).turnChain c
  else s

/-- What a control block says of the partner. -/
def State.takeBlock (s : State) (b : ControlBlock) : State :=
  (s.modPair (fun p =>
    { p with
      partner := some b.role, partnerBlock := b
      fwMismatch := b.release != s.release.toNat
      sideConflict := b.sideB == s.ident.sideB
      cfgTakeup := b.generation != s.cfg.generation || b.crc != s.activeCrc
      imageTakeup := (List.range 12).any (fun p => b.images.getD p 0 != imageMark (s.part p).image) })).modTime
    (fun t => { t with partnerState := b.timeState })

/-- CONTROL_BLOCK_RECEIVED (R235, R239, R243, R255, R266): a follower whose configuration or images differ asks for the partner's
once, whether the difference was there when the link came up or appears later. -/
def execControlBlockReceived (b : ControlBlock) (time : Nat) (s : State) : Outcome :=
  evt s time (fun s =>
    if s.single || !s.linkUp then s
    else
      let s1 := s.takeBlock b
      let s2 := if s1.pair.sideConflict && s1.pair.claimAt.isSome then s1.releaseHold else s1
      let s3 := s2.settleRole.settleWaits
      if s3.follows then
        let s4 := (s3.discipline ((s3.now : Int) - b.plant)).followerAsks
        let takes := s4.pair.cfgTakeup || s4.pair.imageTakeup
        doIf (takes && !s4.pair.takeupAsked) (s4.modPair (fun p => { p with takeupAsked := takes }))
          (fun s => s.emit (.agfin "TAKEUP_REQUEST" [w32 s.cfg.generation]))
      else if s3.runsPlant && b.role == .offline then forEach (List.range 64) s3 (fun s c => s.turnIfWhole c)
      else s3)

/-- FOLD_END (R249): the partner follows and the link has been up for 1 s; SEGMENT 0 goes to the segment end. -/
def execFoldEnd (time : Nat) (s : State) : Outcome :=
  evt s time (fun s =>
    let due := match s.pair.linkUpAt with | some a => decide (a + 1000000000 ≤ s.now) | none => false
    if s.single || !s.runsPlant || !s.linkUp || !s.partnerFollows || !due then s
    else
      forEach (List.range 64) s (fun s c =>
        match (s.chain c).running with
        | .folded => s.sendSegment c (s.chPositions c) 0
        | .reversed => s.sendSegment c 1 0
        | _ => s))

/-- SWITCHOVER_RETURN (R242): 10 ms after PAIR_SWITCHOVER. -/
def execSwitchoverReturn (time : Nat) (s : State) : Outcome :=
  evt s time (fun s =>
    match s.pair.switchAt with
    | none => s
    | some a =>
      if s.now < a + 10000000 ∨ s.pair.role ≠ .offline then s
      else (s.modPair (fun p => { p with switchAt := none })).beginFollow)

/-! ## Opcodes of group 0x40 (R258) -/

/-- Kibibytes of the mirror set of partition p (R253), in a configuration. -/
def mirrorKib (m : ParamMap) (p : Nat) : Nat :=
  (paramValue m (paddr 0x03 p 7)).toNat + (paramValue m (paddr 0x40 (0x10 + p) 0)).toNat + 8

/-- The worst-case mirror load of a partition in Mbit/s, whole (R253). -/
def mirrorLoad (m : ParamMap) (p : Nat) : Nat :=
  let cyc := (paramValue m (paddr 0x03 p 0x20)).toNat
  if bitOf (paramValue m (paddr 0x03 p 0)) 0 && cyc != 0 then mirrorKib m p * 8192 / cyc else 0

/-- PAIR_MIRROR_LOAD. -/
def State.mirrorLoads (s : State) : Nat := ((List.range 12).map (mirrorLoad s.cfg.active)).sum

/-- PAIR_PARTNER: the partner's role, 7 = unknown (R239). -/
def State.partnerCode (s : State) : Nat := match s.pair.partner with | some r => r.code | none => 7

/-- PAIR_STATUS. -/
def execPairStatus (t : Fin 16) (r : Req) (s : State) : Outcome :=
  opcode s t r { opcode := 0x4001 } (fun s =>
    (s, .reply stOk [w32 s.role.code, w32 s.partnerCode, s.notReadyWord, s.pairLink, w32 s.mirrorLoads]))

/-- PAIR_SWITCHOVER: OK, and then the give-up. -/
def execPairSwitchover (t : Fin 16) (r : Req) (s : State) : Outcome :=
  evt s r.time (fun s0 =>
    let force := bitOf (r.w 2) 0
    let can := s0.linkUp && (s0.pair.partner == some .standby || (force && s0.partnerFollows)) && !s0.single
    match opcode (s0.modPair (fun p => { p with sentGiveUp := false })) t r { opcode := 0x4002, role := 1, len := lenIs 1, active := true } (fun s =>
      if can then (s.modPair (fun p => { p with sentGiveUp := true }), ok)
      else if force then (s, no (stRejected 0x13))
      else (s, no (stRejected 0x10))) with
    | .next s1 =>
      let s2 := s1.modPair (fun p => { p with sentGiveUp := s0.pair.sentGiveUp })
      if s1.pair.sentGiveUp then s2.doGiveUp .switchover else s2
    | _ => s0)

/-- PAIR_SET_SIDE: the side takes effect at the next module reset (R238). -/
def execPairSetSide (t : Fin 16) (r : Req) (s : State) : Outcome :=
  opcode s t r { opcode := 0x4003, role := 2, len := lenIs 1 } (fun s =>
    match s.role with
    | .active | .alone | .newt => (s, no (stRejected 0x11))
    | _ => ({ s with ident := { s.ident with sideNext := bitOf (r.w 2) 0 } }, ok))

/-- PAIR_RESYNC (R254): one tile or all are to be resynchronised. -/
def execPairResync (t : Fin 16) (r : Req) (s : State) : Outcome :=
  opcode s t r { opcode := 0x4004, role := 1, len := lenIs 1 } (fun s =>
    let c := fieldOf (r.w 2) 7 0
    if 63 < c ∧ c ≠ 255 then (s, no stOutOfRange)
    else if !s.follows then (s, no (stRejected 0x12))
    else
      ((s.modPair (fun p => { p with resynced := p.resynced.filter (fun k => c != 255 && k != c) })).settleRole, ok))

end Sys2Proof.Machine
end

