-- ==== Sys2Proof/Machine/Gmac.lean ====
section
/-! DEFINITION. AES-GMAC of the dispatch datagram (R147): the published algorithms, AES of FIPS 197 and GMAC of
NIST SP 800-38D, over bytes and a block read as a number, its first bit the highest. -/

namespace Sys2Proof

/-! ## AES -/

/-- Times x in the field of 2^8 elements. -/
def gfTimesX (a : Nat) : Nat := if 128 ≤ a then (2 * a) % 256 ^^^ 0x1B else 2 * a

/-- A product in the field of 2^8 elements. -/
def gfMul (a b : Nat) : Nat :=
  ((List.range 8).foldl (fun (acc : Nat × Nat) i =>
    (if b.testBit i then acc.1 ^^^ acc.2 else acc.1, gfTimesX acc.2)) (0, a)).1

/-- The inverse, 0 for 0: the power 254, by seven squarings. -/
def gfInv (a : Nat) : Nat :=
  ((List.range 7).foldl (fun (acc : Nat × Nat) _ =>
    let sq := gfMul acc.2 acc.2
    (gfMul acc.1 sq, sq)) (1, a)).1

/-- The S-box: the inverse and its affine map. -/
def sbox (a : Nat) : Nat :=
  let x := gfInv a
  let rot := fun (n : Nat) => (x * 2 ^ n) % 256 + x / 2 ^ (8 - n)
  x ^^^ rot 1 ^^^ rot 2 ^^^ rot 3 ^^^ rot 4 ^^^ 0x63

/-- Bitwise sum of two lists of bytes. -/
def xorBytes (a b : List Nat) : List Nat := List.zipWith (fun x y => x ^^^ y) a b

/-- The key words that follow: nk words of key, i words so far, newest last. -/
def keyExpand (fuel nk i : Nat) (rcon : Nat) (ws : List (List Nat)) : List (List Nat) :=
  match fuel with
  | 0 => ws
  | n + 1 =>
    let last := ws.getLastD []
    let back := ws.getD (i - nk) []
    let t :=
      if i % nk = 0 then xorBytes ((last.tail ++ [last.headD 0]).map sbox) [rcon, 0, 0, 0]
      else if 6 < nk ∧ i % nk = 4 then last.map sbox else last
    keyExpand n nk (i + 1) (if i % nk = 0 then gfTimesX rcon else rcon) (ws ++ [xorBytes back t])

/-- Byte r + 4 c of the state after ShiftRows. -/
def shiftRows (b : List Nat) : List Nat :=
  (List.range 16).map (fun i => b.getD (i % 4 + 4 * ((i / 4 + i % 4) % 4)) 0)

/-- MixColumns. -/
def mixColumns (b : List Nat) : List Nat :=
  (List.range 16).map (fun i =>
    let at_ := fun (k : Nat) => b.getD (4 * (i / 4) + (i + k) % 4) 0
    gfMul 2 (at_ 0) ^^^ gfMul 3 (at_ 1) ^^^ at_ 2 ^^^ at_ 3)

/-- One block under AES-128 or AES-256. -/
def aesBlock (key : List Nat) (block : List Nat) : List Nat :=
  let nk := key.length / 4
  let rounds := nk + 6
  let ws := keyExpand (4 * (rounds + 1) - nk) nk nk 1 ((List.range nk).map (fun i => (key.drop (4 * i)).take 4))
  let rk := fun (r : Nat) => ((ws.drop (4 * r)).take 4).flatten
  let s1 := (List.range (rounds - 1)).foldl
    (fun s r => xorBytes (mixColumns (shiftRows (s.map sbox))) (rk (r + 1))) (xorBytes block (rk 0))
  xorBytes (shiftRows (s1.map sbox)) (rk rounds)

/-! ## GMAC -/

/-- Bytes as one number, the first byte the highest. -/
def numOfBytes (bs : List Nat) : Nat := bs.foldl (fun acc b => acc * 256 + b) 0

/-- A product in the field of 2^128 elements of GCM. -/
def ghashMul (x y : Nat) : Nat :=
  ((List.range 128).foldl (fun (acc : Nat × Nat) i =>
    (if x.testBit (127 - i) then acc.1 ^^^ acc.2 else acc.1,
     if acc.2 % 2 = 1 then acc.2 / 2 ^^^ (0xE1 * 2 ^ 120) else acc.2 / 2)) (0, y)).1

/-- The blocks of a message, the last one filled with zeros. -/
def blocksOf (fuel : Nat) (bs : List Nat) : List Nat :=
  match fuel, bs with
  | _, [] => []
  | 0, _ => []
  | n + 1, bs => numOfBytes ((bs.take 16 ++ List.replicate 16 0).take 16) :: blocksOf n (bs.drop 16)

/-- GHASH of a message without ciphertext: its blocks, and then its length in bits. -/
def ghash (h : Nat) (bs : List Nat) : Nat :=
  (blocksOf bs.length bs ++ [8 * bs.length * 2 ^ 64]).foldl (fun acc b => ghashMul (acc ^^^ b) h) 0

/-- The bytes of words, the first in [31:24]. -/
def byteNums (ws : List Word) : List Nat := ws.flatMap (fun w => [w.toNat / 2 ^ 24, w.toNat / 2 ^ 16 % 256, w.toNat / 256 % 256, w.toNat % 256])

/-- The tag, four words, of a message under a key of four or eight words and an IV of three. -/
def aesGmac (key iv msg : List Word) : List Word :=
  let k := byteNums key
  let h := numOfBytes (aesBlock k (List.replicate 16 0))
  let e := numOfBytes (aesBlock k (byteNums iv ++ [0, 0, 0, 1]))
  let tag := ghash h (byteNums msg) ^^^ e
  (List.range 4).map (fun i => w32 (tag / 2 ^ (96 - 32 * i)))

end Sys2Proof
end

