-- ==== Sys2Proof/Machine/Net.lean ====
section
/-! DEFINITION. The Ethernet ports (R259, R260), the launch-time queues (R267, R268), the network opcodes
(R274), and the dispatch publication (R146 to R148). -/

namespace Sys2Proof.Machine

/-- The port has an address (R273): ports 1 and 2 use that of instance 1; in factory defaults and the recovery
service port 4 has one of its own (R394, R402). -/
def State.portOn (s : State) (p : Nat) : Bool :=
  (s.parN 0x41 (if p = 2 then 1 else p) 0 != 0 || (p == 4 && (s.cfg.defaulted || s.inRecovery))) && s.up 48

/-- Change a port's record. -/
def State.modPort (s : State) (p : Nat) (f : NetPort → NetPort) : State :=
  s.modNet (fun n => { n with ports := n.ports.modify p f })

/-- The port's link is up. -/
def State.linkOf (s : State) (p : Nat) : Bool := (s.net.ports.get p).link

/-! ## Receiving (R259, R260) -/

/-- The length and the VLAN tag are those the module accepts (R259). -/
def EthFrame.accepted (f : EthFrame) : Bool :=
  decide (f.length ≤ 1518) && match f.vlan with | none => true | some v => v == 0

/-- A frame of a PRP port is the duplicate of one taken from the other LAN. -/
def State.prpSeen (s : State) (p : Nat) (f : EthFrame) : Bool :=
  decide (p ≤ 2) && s.net.prp.any (fun e => e.1 == f.node && e.2.1 == f.prpSeq && e.2.2.2 != p)

/-- A duplicate: its entry has now been met on both LANs. -/
def State.prpBoth (s : State) (f : EthFrame) : State :=
  s.modNet (fun n =>
    { n with prp := n.prp.map (fun e => if e.1 == f.node && e.2.1 == f.prpSeq then (e.1, e.2.1, e.2.2.1, 0) else e) })

/-- The first copy: an entry, and the sender in the node table, which holds 256. -/
def State.prpFirst (s : State) (p : Nat) (f : EthFrame) : State :=
  s.modNet (fun n =>
    let others := n.nodes.filter (fun e => e.1 != f.node)
    { n with
      prp := n.prp ++ [(f.node, f.prpSeq, s.now, p)]
      nodes := if others.length < 256 then others ++ [(f.node, s.now)] else n.nodes })

/-- The words of a frame follow those of the open session; the packets they make reach its tenant's queue. Without a
credit TCP holds the frame back (R162, R181). -/
def State.takeTls (s : State) (p t : Nat) (ws : List Word) : State :=
  let x := s.tenant t
  match x.session with
  | none => s
  | some w =>
    if !s.takesPackets || x.credits = 0 || !(w.port == p || (w.port ≤ 2 && p ≤ 2)) then s
    else ((s.modTenant t (fun x => { x with session := some { w with words := w.words ++ ws } })).readSession 32 t).drain 32 t

/-- An ordinary frame leaves on a port; a frame of the PRP pair leaves on both LANs (R260). -/
def State.sendNet (s : State) (p : Nat) (what : String) : State :=
  forEach (if p ≤ 2 then [1, 2] else [p]) s (fun s q => doIf (s.linkOf q) s (fun s => s.emit (.net q what)))

/-- ETH_FRAME_RECEIVED (R172, R259, R260): PTP is taken apart (R263); every frame the module does not listen
for is dropped. In HIBERNATE the kept port answers ARP alone (R414). -/
def execEthFrameReceived (port : Fin 5) (f : EthFrame) (time : Nat) (s : State) : Outcome :=
  evt s time (fun s =>
    let p := port.val
    if p = 0 || !s.portOn p || !s.linkOf p || !EthFrame.accepted f || (s.power.state == .hibernate && f.kind != .arp) then s
    else if f.kind == .ptp then s
    else if s.prpSeen p f then s.prpBoth f
    else
      let n := (f.length + 63) / 64
      if !s.poolCan (7 + p) n then
        (s.poolRefuse (7 + p)).modPort p (fun x => { x with rxDrops := (x.rxDrops + 1) % 2 ^ 32 })
      else
        let s1 := if p ≤ 2 then s.prpFirst p f else s
        match f.kind with
        | .tls t ws => s1.takeTls p t ws
        | .arp => s1.sendNet p "ARP_REPLY"
        | .icmpEcho => s1.sendNet p "ICMP_ECHO_REPLY"
        | _ => s1)

/-- PRP_ENTRY_FORGOTTEN (R260, R273): after 400 ms, a frame met on one LAN only is counted; nodes after 60 s. -/
def execPrpEntryForgotten (time : Nat) (s : State) : Outcome :=
  evt s time (fun s =>
    let old := s.net.prp.filter (fun e => decide (e.2.2.1 + 400000000 ≤ s.now))
    let s1 := forEach old s (fun s e =>
      if e.2.2.2 = 0 then s else s.modPort e.2.2.2 (fun x => { x with oneLan := (x.oneLan + 1) % 2 ^ 32 }))
    s1.modNet (fun n =>
      { n with
        prp := n.prp.filter (fun e => decide (s.now < e.2.2.1 + 400000000))
        nodes := n.nodes.filter (fun e => decide (s.now < e.2 + 60000000000)) }))

/-- PRP_SUPERVISION (R260): every 2 s on both LANs. -/
def execPrpSupervision (time : Nat) (s : State) : Outcome :=
  evt s time (fun s =>
    if !s.portOn 1 || s.power.state != .run || s.now < s.net.supervisionAt + 2000000000 then s
    else
      forEach ([1, 2] : List Nat) (s.modNet (fun n => { n with supervisionAt := s.now })) (fun s p =>
        doIf (s.linkOf p) s (fun s => s.emit (.net p "PRP_SUPERVISION"))))

/-- NET_LINK_CHANGE (R260): the loss of one LAN, and its return, is recorded. -/
def execNetLinkChange (port : Fin 5) (up : Bool) (time : Nat) (s : State) : Outcome :=
  evt s time (fun s =>
    let p := port.val
    if p = 0 || !s.up 48 || s.linkOf p == up then s
    else
      let s1 := s.modPort p (fun x => { x with link := up })
      doIf (decide (p ≤ 2)) s1 (fun s => s.record 0x41 0x01 127 [w32 p, w32 (b2n up)]))

/-! ## Launch-time queues (R267, R268) -/

/-- The physical ports on which a queue's frames leave. -/
def launchPorts (k : Nat) : List Nat := if k = 1 then [1, 2] else [k + 1]

/-- Put a frame into a queue, in launch-time order. -/
def insertLaunch (f : LaunchFrame) (l : List LaunchFrame) : List LaunchFrame :=
  match l with
  | [] => [f]
  | x :: r => if f.launch < x.launch then f :: x :: r else x :: insertLaunch f r

/-- A queue's frames. -/
def State.setQueue (s : State) (k q : Nat) (l : List LaunchFrame) : State :=
  (s.modNet (fun n => { n with queues := n.queues.set (k * 8 + q) l })).syncNet k

/-- A frame leaves on one terminal, or is dropped and counted (R268). -/
def State.launchOn (s : State) (k q : Nat) (f : LaunchFrame) (p : Nat) : State :=
  if !s.linkOf p || decide (f.launch + s.parN 0x41 (launchPort k) 4 * 1000 < s.now) then
    s.modPort p (fun x => { x with lateDrops := (x.lateDrops + 1) % 2 ^ 32 })
  else s.emit (.launch p q f)

/-- LAUNCH_TIME_DUE (R267, R268): the first frame of a queue, unless a lower queue's frame goes before it. -/
def execLaunchTimeDue (port : Fin 4) (queue : Fin 8) (time : Nat) (s : State) : Outcome :=
  evt s time (fun s =>
    match s.queueOf port queue with
    | [] => s
    | f :: rest =>
      let before := (List.range queue).any (fun q =>
        match s.queueOf port q with
        | g :: _ => decide (g.launch ≤ f.launch)
        | [] => false)
      if !s.up 48 || decide (s.now < f.launch) || before then s
      else
        forEach (launchPorts port) (s.setQueue port queue rest) (fun s p => s.launchOn port queue f p))

/-! ## Opcodes (R274) -/

/-- NET_PTP_STATE (R273): INITIALIZING, the default, while the port or D48 is down and on port 4, which never
carries PTP; a port with PTP switched off is DISABLED (PRESUMED: IEEE 1588 code 3). -/
def State.ptpStateWord (s : State) (p : Nat) : Nat :=
  if p = 4 then 1
  else if !(s.parB 0x41 0 0 && s.parB 0x41 p 3) then 3
  else if s.up 48 && s.linkOf p then s.portState p
  else 1

/-- The words of a port. -/
def State.portWords (s : State) (p : Nat) : List Word :=
  let x := s.net.ports.get p
  [w32 (b2n x.link), w32 (s.ptpStateWord p), w32 x.lateDrops, w32 x.rxDrops, w32 x.oneLan]

/-- NET_STATUS. -/
def execNetStatus (t : Fin 16) (r : Req) (s : State) : Outcome :=
  opcode s t r { opcode := 0x4102, len := lenIs 1 } (fun s =>
    let p := (r.w 2).toNat
    if 1 ≤ p ∧ p ≤ 4 then (s, .reply stOk (s.portWords p)) else (s, no stOutOfRange))

/-- The length of a NET_LAUNCH: W2 to W7 and the words of its bytes. -/
def launchLen (ws : List Word) : Bool :=
  decide (6 ≤ ws.length) && decide (ws.length = 6 + (fieldOf (ws.getD 5 0) 9 0 + 3) / 4 ∨ 992 < fieldOf (ws.getD 5 0) 9 0)

/-- NET_LAUNCH: the frame takes cells of its port's channel; a refusal of the pool is answered BUSY, RESOURCE (R157, R172,
log entry 198). -/
def execNetLaunch (t : Fin 16) (r : Req) (s : State) : Outcome :=
  opcode s t r { opcode := 0x4104, len := launchLen, active := true } (fun s =>
    let k := fieldOf (r.w 2) 1 0
    let q := fieldOf (r.w 2) 10 8
    let launch := ofHiLo (r.w 3) (r.w 4)
    let bytes := fieldOf (r.w 7) 9 0
    if k = 0 ∨ q < 2 ∨ bytes = 0 ∨ 992 < bytes then (s, no stOutOfRange)
    else if 16 ≤ (s.queueOf k q).length then (s, no (stRejected 0x12))
    else if s.now + 1000000000 < launch ∨ launch + s.parN 0x41 (launchPort k) 4 * 1000 < s.now then (s, no (stRejected 0x13))
    else
      let f : LaunchFrame :=
        { launch := launch / 8 * 8, dest := r.w 6, port := fieldOf (r.w 5) 15 0, bytes := bytes, data := r.payload.drop 6 }
      if s.poolCan (7 + launchPort k) (LaunchFrame.cells f) then (s.setQueue k q (insertLaunch f (s.queueOf k q)), ok)
      else (s.poolRefuse (7 + launchPort k), no stResource))

/-! ## The dispatch publication (R146 to R148) -/

/-- HOLDOVER of the publication (R264). -/
def State.dispHoldover (s : State) : Bool :=
  match s.time.state with
  | .free | .acquiring | .holdover => true
  | .following => s.time.partnerState != 2
  | .locked => false

/-- SOURCE: 1 = module B. -/
def State.dispSource (s : State) : Nat := b2n (!s.single && s.ident.sideB)

/-- The configured groups. -/
def State.dispGroups (s : State) : List Nat := (List.range 8).filter s.groupSet

/-- The datagram's words up to its tag. -/
def State.dispBody (s : State) (n : Nat) (late : Bool) : List Word :=
  let gs := s.dispGroups
  [packWord [(16, 0x4B44), (8, 1), (0, gs.length)], hiWord n, loWord n, hiWord (tickTime n), loWord (tickTime n),
   packWord [(0, s.disp.ovr.code), (3, b2n s.dispHoldover), (4, b2n late), (5, s.dispSource), (6, b2n (s.disp.keyKind = 0))]] ++
  gs.flatMap (fun g => (s.group g).ready)

/-- The datagram with its tag (R147). -/
def State.datagram (s : State) (n : Nat) (late : Bool) : List Word :=
  let body := s.dispBody n late
  body ++ (if s.disp.keyKind = 0 then [0, 0, 0, 0]
           else aesGmac s.disp.key [w32 s.ident.serial, hiWord n, loWord n] body)

/-- A 16-bit big-endian value, saturating. -/
def be16 (q : Rat) : List Byte :=
  let n := min 65535 q.floor.toNat
  [BitVec.ofNat 8 (n / 256), BitVec.ofNat 8 n]

/-- The data phase of a controller is faster than its nominal phase: dispatch frames switch the bit rate (R148). -/
def State.canSwitches (s : State) (k : Nat) : Bool :=
  decide (s.parN 0x22 k 6 * (1 + s.parN 0x22 k 7 + s.parN 0x22 k 8) < s.parN 0x22 k 2 * (1 + s.parN 0x22 k 3 + s.parN 0x22 k 4))

/-- The CAN frame of group g (R148). -/
def State.groupFrame (s : State) (k g n : Nat) (late : Bool) : CanFrame :=
  let x := s.group g
  let amps := fun (i : Nat) => x.pub.getD i 0
  let kw := fun (i : Nat) => amps i * s.groupV g (decide (4 ≤ i)) / 1000
  let tick : List Byte := [BitVec.ofNat 8 (n / 2 ^ 24), BitVec.ofNat 8 (n / 2 ^ 16), BitVec.ofNat 8 (n / 256), BitVec.ofNat 8 n]
  let flags := packWord
    [(0, s.disp.ovr.code), (3, b2n s.dispHoldover), (4, b2n late), (5, s.dispSource), (6, b2n (Group.ramping x)), (7, b2n x.grant.isSome)]
  let grant : List Byte := match x.grant with
    | some y => be16 (y.id : Nat) ++ be16 y.value
    | none => [0, 0, 0, 0]
  let remain : List Byte := match x.grant with
    | some y => let ms := y.endTick - n
                [BitVec.ofNat 8 (ms / 2 ^ 24), BitVec.ofNat 8 (ms / 2 ^ 16), BitVec.ofNat 8 (ms / 256), BitVec.ofNat 8 ms]
    | none => [0, 0, 0, 0]
  { id := s.parN 0x13 0 4 + g, fdf := true, brs := s.canSwitches k
    data := tick ++ [BitVec.ofNat 8 flags.toNat, BitVec.ofNat 8 (x.codes.getD 0 0 * 16 + x.codes.getD 4 0), 0, 0] ++
      (List.range 4).flatMap (fun i => be16 (kw i)) ++ (List.range 4).flatMap (fun i => be16 (kw (4 + i))) ++
      (List.range 4).flatMap (fun i => be16 (amps i)) ++ (List.range 4).flatMap (fun i => be16 (amps (4 + i))) ++
      grant ++ remain ++ List.replicate 16 0 }

/-- The physical ports of DSP_UDP_PORTS. -/
def State.dispPorts (s : State) : List Nat :=
  let w := s.par (paddr 0x13 0 1)
  (if bitOf w 0 then [1, 2] else []) ++ (if bitOf w 1 then [3] else []) ++ (if bitOf w 2 then [4] else [])

/-- DSP_UDP_DEST, and the UDP port of the publication (R146, R153). -/
def State.udpDest (s : State) : Word := s.par (paddr 0x13 0 2)
def dispUdpPort : Nat := 30411

/-- The datagram leaves on a port, or is dropped and counted while the link is down (R268). With DSP_UDP_DEST = 0 there
is no UDP publication (R153). -/
def State.publishOn (s : State) (ws : List Word) (p : Nat) : State :=
  if s.udpDest = 0 ∨ s.portOn p = false then s
  else if s.linkOf p then s.emit (.udp p s.udpDest dispUdpPort ws)
  else s.modPort p (fun x => { x with lateDrops := (x.lateDrops + 1) % 2 ^ 32 })

/-- A dispatch frame is queued ahead of every partition frame, lowest identifier first (R148, R355): a pending one of
its group is replaced, and a new one takes a cell, without which it is not queued and is counted (R360). -/
def State.publishFrame (s : State) (k : Nat) (f : CanFrame) : State :=
  if (s.can k).dispatch.any (fun g => g.id == f.id) then
    s.modCan k (fun x => { x with dispatch := x.dispatch.map (fun g => if g.id == f.id then f else g) })
  else if s.poolCan k 1 then
    (s.modCan k (fun x =>
      { x with
        dispatch := x.dispatch.filter (fun g => decide (g.id < f.id)) ++ f :: x.dispatch.filter (fun g => decide (f.id < g.id))
        dispAt := x.dispAt.set f.id s.now })).syncCells k
  else (s.modCan k (fun x => { x with txLate := (x.txLate + 1) % 2 ^ 32 })).poolRefuse k

/-- The frames of a controller of DSP_CAN_MASK (R148). -/
def State.publishCan (s : State) (n : Nat) (late : Bool) (k : Nat) : State :=
  if bitOf (s.par (paddr 0x13 0 3)) k && s.canLive k then
    forEach (s.dispGroups.map (fun g => s.groupFrame k g n late)) s (fun s f => s.publishFrame k f)
  else s

/-- DISPATCH_PUBLISH (R146, R154): at +1.750 ms of tick n, from the first output cycle of a takeover on. Values of
tick n - 1 leave with LATE. -/
def execDispatchPublish (s : State) : Outcome :=
  evtOff s 750000 (fun s =>
    let n := s.tickNo - 1
    let late := s.disp.doneTick != some n
    if s.tickNo = 0 || !s.parB 0x13 0 0 || !s.runsPlant || !s.keeperUp || decide (s.now < s.pair.outputAt) || s.dispGroups.isEmpty then s
    else
      let ws := s.datagram n late
      let s1 := forEach (List.range 8) s (fun s g => s.modGroup g (fun x => { x with block := x.ready }))
      forEach (List.range 8) (forEach s.dispPorts s1 (fun s p => s.publishOn ws p)) (fun s k => s.publishCan n late k))

end Sys2Proof.Machine
end

