-- ==== Sys2Proof/Machine/PowerUnit.lean ====
section
/-! DEFINITION. Power (R408 to R425): domains lost and tried again, the time-wheel, supplies and brown-out, the
Keeper watchdog and module faults, the junction, and PWR_STATUS. -/

namespace Sys2Proof.Machine

/-! ## Domains (R410, R412) -/

/-- Change a domain's record. -/
def State.modDom (s : State) (d : Nat) (f : Domain → Domain) : State :=
  s.modPower (fun p => { p with doms := p.doms.modify d f })

/-- DOMAIN_LOST (R410): the rail or the PLL of a powered domain is out for 2 µs. D0 is the Skink itself. -/
def execDomainLost (d : Fin 50) (pll : Bool) (time : Nat) (s : State) : Outcome :=
  evt s time (fun s =>
    if d.val = 0 || !s.up d then s
    else
      let s1 := s.record 0x01 0x02 127 [w32 d, w32 (b2n pll)]
      ((s1.domDown d).modDom d (fun x => { x with lost := true, retryAt := some (s.now + 1000000000) })).domsChanged s.linkUp)

/-- DOMAIN_RETRY (R410): at most 3 attempts in any 60 s. With D46 the enabled CAN controllers are on the bus again
(R361). -/
def execDomainRetry (d : Fin 50) (good : Bool) (time : Nat) (s : State) : Outcome :=
  evt s time (fun s =>
    let x := s.power.doms.get d
    let recent := x.attempts.filter (fun a => decide (s.now < a + 60000000000))
    match x.retryAt with
    | none => s
    | some a =>
      if !x.lost || decide (s.now < a) || decide (3 ≤ recent.length) || (s.power.state != .run && s.power.state != .hibernate) then s
      else if good then
        let s1 := s.modDom d (fun x =>
          { x with lost := false, retryAt := none, attempts := s.now :: recent, state := if s.domInUse d then .run else .down })
        (doIf (d.val == 46) s1 (fun s => forEach (List.range 8) s (fun s k => s.canConfigure k))).domsChanged s.linkUp
      else s.modDom d (fun x => { x with attempts := s.now :: recent, retryAt := some (s.now + 1000000000) }))

/-- TIME_WHEEL_FIRE (R20, R412): 2.5 µs before the entry for a domain in IDLE, 202 µs before it for one in
DOWN; no effect on a domain in RUN. -/
def execTimeWheelFire (d : Fin 50) (time : Nat) (s : State) : Outcome :=
  evt s time (fun s =>
    let x := s.power.doms.get d
    match x.wake with
    | none => s
    | some w =>
      let due : Bool := match x.state with
        | .idle => decide (w ≤ s.now + 2500)
        | .down => decide (w ≤ s.now + 202000) && !x.lost && s.power.state == .run
        | .run => decide (w ≤ s.now + 2500)
      if due then s.modDom d (fun x => { x with state := .run, wake := none }) else s)

/-! ## Supplies (R416) -/

/-- SUPPLY_LOST (R416): the loss of either has no effect on service, and makes an entry. -/
def execSupplyLost (x2 returned : Bool) (volt : Nat) (time : Nat) (s : State) : Outcome :=
  evt s time (fun s =>
    if s.power.state == .off then s
    else
      (s.modPower (fun p => if x2 then { p with supplyB := volt } else { p with supplyA := volt })).record 0x01 0x04 127
        [w32 (if x2 then 2 else 1), w32 (b2n returned), w32 volt])

/-- The module is switched on, working or in HIBERNATE. -/
def State.isOn (s : State) : Bool := s.power.state == .run || s.power.state == .hibernate

/-- BROWN_OUT (R416, R420). One that coincides with a thermal shutdown adds its cause bit (R421). -/
def execBrownOut (time : Nat) (s : State) : Outcome :=
  evt s time (fun s =>
    if s.isOn then (s.orderlyStop .stopped 2).modPower (fun p => { p with brownStop := true })
    else if s.power.state == .stopped then
      s.modPower (fun p => { p with brownStop := true, nextCauses := p.nextCauses ||| 2 })
    else s)

/-- The start after an orderly stop, from step 2 of R395 with plant time kept; it counts as a power cycle (R422). -/
def State.restart (s : State) (boot : BootCheck) : State :=
  (s.modPower (fun p => { p with cycles := (p.cycles + 1) % 2 ^ 32, coolSince := none, hot := 0 })).bootUp boot 0

/-- SUPPLY_RESTORED (R416): at or above 18.0 V for 100 ms after a brown-out. -/
def execSupplyRestored (boot : BootCheck) (time : Nat) (s : State) : Outcome :=
  evt s time (fun s =>
    if s.power.state != .stopped || !s.power.brownStop then s
    else
      let s1 := s.modPower (fun p => { p with brownStop := false })
      if s.power.thermStop then s1 else s1.restart boot)

/-- ALWAYS_ON_RAIL_LOSS (R24, R416): below 9.0 V. -/
def execAlwaysOnRailLoss (s : State) : Outcome :=
  evt0 s (fun s => if s.power.state == .off then s else s.railLost)

/-! ## The Keeper watchdog and module faults (R418) -/

/-- A reset with a fault cause; the fourth within 600 s of the first of three earlier ones holds the module
until the input is removed and restored. -/
def State.faultReset (s : State) (boot : BootCheck) (cause : BitVec 7) : State :=
  let recent := s.power.faultResets.filter (fun a => decide (s.now ≤ a + 600000000000))
  let s1 := s.modPower (fun p => { p with faultResets := s.now :: recent })
  if 3 ≤ recent.length then s1.orderlyStop .hold cause else s1.moduleReset boot cause

/-- KEEPER_WDT (R418): 100 ms without a confirmation. -/
def execKeeperWdt (boot : BootCheck) (time : Nat) (s : State) : Outcome :=
  evt s time (fun s =>
    if s.power.state == .run && !s.inRecovery && decide (s.power.confirmAt + 100000000 ≤ s.now) then s.faultReset boot 16
    else s)

/-- The give-up cause of a module fault (R244). -/
def FaultKind.cause : FaultKind → GiveUpCause
  | .lockstep => .lockstep | .keeperMemory => .keeperMemory | .lossD41 => .lossD41

/-- MODULE_FAULT (R26, R244, R418): in Single a module reset, in a Pair a give-up. -/
def execModuleFault (kind : FaultKind) (boot : BootCheck) (time : Nat) (s : State) : Outcome :=
  evt s time (fun s =>
    if s.power.state != .run || s.inRecovery then s
    else if s.single then s.faultReset boot 32
    else if s.givesUp (FaultKind.cause kind) then s.doGiveUp (FaultKind.cause kind)
    else s.modPair (fun p => { p with stayOffline := true }))

/-! ## The junction (R421) -/

/-- The hottest sensor. -/
def hottest (l : List Int) : Option Int :=
  match l with
  | [] => none
  | a :: r => some (r.foldl max a)

/-- THERM_WARN sets at 105 °C and clears below 100 °C, each with an entry. -/
def State.thermWarn (s : State) (tj : Int) : State :=
  if !s.power.thermWarn && decide (10500 ≤ tj) then
    (s.modPower (fun p => { p with thermWarn := true })).record 0x01 0x05 127 [1, i32 tj]
  else if s.power.thermWarn && decide (tj < 10000) then
    (s.modPower (fun p => { p with thermWarn := false })).record 0x01 0x05 127 [0, i32 tj]
  else s

/-- THERM_READ (R421): the eight sensors, in 0.01 °C. -/
def execThermRead (sensors : List Int) (time : Nat) (s : State) : Outcome :=
  evt s time (fun s =>
    match hottest sensors with
    | none => s
    | some tj =>
      if s.power.state == .off then s
      else
        let s1 := (s.modPower (fun p =>
          { p with
            tj := tj, hot := if 12500 ≤ tj then p.hot + 1 else 0
            coolSince := if tj ≤ 9500 then (match p.coolSince with | some a => some a | none => some s.now) else none })).thermWarn tj
        if 2 ≤ s1.power.hot then
          (if s1.isOn then
            (s1.orderlyStop .stopped 4).modPower (fun p => { p with thermStop := true, coolSince := none })
          else if s1.power.state == .stopped && !s1.power.thermStop then
            s1.modPower (fun p => { p with thermStop := true, nextCauses := p.nextCauses ||| 4, coolSince := none })
          else s1)
        else s1)

/-- THERM_RESTART (R421): 95 °C or below for 60 s after a thermal shutdown, with PWR_THERM_RESTART = 1. -/
def execThermRestart (boot : BootCheck) (time : Nat) (s : State) : Outcome :=
  evt s time (fun s =>
    match s.power.coolSince with
    | none => s
    | some a =>
      if s.power.state != .stopped || !s.power.thermStop || decide (s.now < a + 60000000000) || !s.parB 0x01 0 4 then s
      else
        let s1 := s.modPower (fun p => { p with thermStop := false })
        if s.power.brownStop then s1 else s1.restart boot)

/-! ## Status (R424, R425) -/

/-- Indices 0x0010 to 0x0018 of BLOCK 0x01, INSTANCE 0x00. No rule says what the input power is: it is a free
value (log entry 2). -/
def State.powerWords (s : State) : List Word :=
  let recent := s.power.faultResets.filter (fun a => decide (s.now ≤ a + 600000000000))
  [packWord ((List.range 32).map (fun d => (d, b2n (s.up d)))),
   packWord ((List.range 18).map (fun d => (d, b2n (s.up (32 + d))))),
   w32 s.power.supplyA, w32 s.power.supplyB, s.freeWord &&& 0xFFFF, i32 s.power.tj &&& 0xFFFF, w32 (b2n s.power.thermWarn),
   s.power.causes.zeroExtend 32, w32 (min 3 recent.length)]

/-- PWR_STATUS (R425). -/
def execPwrStatus (t : Fin 16) (r : Req) (s : State) : Outcome :=
  opcode s t r { opcode := 0x0109 } (fun s => (s.tookFree, .reply stOk s.powerWords))

end Sys2Proof.Machine
end

