-- ==== Sys2Proof/Machine/RecDisp.lean ====
section
/-! DEFINITION. The commands of the event recorder (R433, R434, R442) and the front display with its LEDs
(R435 to R442). -/

namespace Sys2Proof.Machine

/-! ## The recorder -/

/-- Bytes that the records of the ring take (REC_USED). -/
def Recorder.used (q : Recorder) : Nat := (q.recs.map Rec.size).sum

/-- PLANT_TIME of the oldest record; free where there is none. -/
def State.oldestTime (s : State) : List Word :=
  match s.recorder.recs with
  | [] => [s.freeWord, (Config.freeValue (s.fresh + 1)).truncate 32]
  | x :: _ => (Rec.words x).drop 3 |>.take 2

/-- REC_STATUS (R442). -/
def execRecStatus (t : Fin 16) (r : Req) (s : State) : Outcome :=
  opcode s t r { opcode := 0x5001 } (fun s =>
    let used := if s.recorder.recs.isEmpty then s.tookFree.tookFree else s
    (used, .reply stOk
      ([w32 s.recorder.recs.length, w32 (Recorder.used s.recorder), w32 s.recorder.overwritten] ++ s.oldestTime)))

/-- Every read stream of an object ends with FAULT, STREAM_ABORTED; one that has not begun does so with its
first packet (R166, R434). -/
def State.abortObject (s : State) (object : Nat) : State :=
  forEach (List.range 16) s (fun s t =>
    let s1 := s.modTenant t (fun x =>
      { x with waitingStreams := x.waitingStreams.map (fun (st : OutStream) =>
          if st.object = object then { st with words := [], recs := [], flags := 1 } else st) })
    match (s1.tenant t).outStream with
    | some st => if st.object = object then s1.abortStream t else s1
    | none => s1)

/-- REC_CLEAR (R434): the ring is emptied, and REC_CLEARED is its first record. -/
def execRecClear (t : Fin 16) (r : Req) (s : State) : Outcome :=
  opcode s t r { opcode := 0x5002, role := 2 } (fun s =>
    let old := s.recorder.overwritten
    let s1 : State := { s with recorder := { s.recorder with recs := [], overwritten := 0 } }
    ((s1.record 0x50 0x01 127 [w32 t, w32 old]).abortObject 4, ok))

/-! ## The display -/

/-- Strings TRIPPED. -/
def State.trippedCount (s : State) : Nat :=
  ((List.range 64).filter (fun c => s.chEnabled c && (s.str c).state == .tripped)).length

/-- DISP_TEST runs (R437). -/
def State.testing (s : State) : Bool :=
  match s.display.testUntil with
  | some a => decide (s.now < a)
  | none => false

/-- The partition that DISP_USER_PART names, if it is in RUN or HELD (R437). -/
def State.userPart (s : State) : Option Nat :=
  let p := s.parN 0x51 0 0
  if p < 12 ∧ ((s.part p).state = .run ∨ (s.part p).state = .held) then some p else none

/-- The priority of R437 that applies. -/
def State.dispPrio (s : State) : Nat :=
  if s.testing then 1
  else if s.inRecovery then 2
  else if s.cfg.defaulted then 3
  else if s.safe.powered && s.safe.state == .unconfirmed then 4
  else if s.power.keeper == .starting then 5
  else if s.userPart.isSome then 6
  else 7

/-- Four hex digits of a half word as segment bytes, the first digit of the group in [7:0] (R380, R438). -/
def hexGroup (n : Nat) : Word :=
  packWord ((List.range 4).map (fun i => (8 * i, (Config.segText 0 (n / 16 ^ (3 - i) % 16)).toNat % 256)))

/-- What the glass shows under a priority: digits 1-4, digits 5-8 (R437). -/
def State.dispContent (s : State) (prio : Nat) : Word × Word :=
  match prio with
  | 1 => (0xFFFFFFFF, 0xFFFFFFFF)
  | 2 => (Config.segText 1 0, Config.segText 1 1)
  | 3 => (Config.segText 1 2, Config.segText 1 3)
  | 4 => (hexGroup (s.safe.scv.toNat / 65536), hexGroup (s.safe.scv.toNat % 65536))
  | 5 => (Config.segText 1 4, Config.segText 1 5)
  | 6 =>
    let z := s.display.zones.get (s.userPart.getD 0)
    (z.latchLo, z.latchHi)
  | _ => (Config.segText 2 s.role.code, Config.segText 3 s.trippedCount)

/-- A zone at the latch: its committed shadow is taken. -/
def DispZone.latch (z : DispZone) : DispZone :=
  if z.pending then { z with latchLo := z.comLo, latchHi := z.comHi, pending := false } else z

/-- DISPLAY_LATCH (R436, R437): at the start of line 8. -/
def execDisplayLatch (time : Nat) (s : State) : Outcome :=
  evt s time (fun s =>
    if s.power.state != .run || !s.up 41 then s
    else
      let prio := s.dispPrio
      let show_ := if prio = 6 then s.userPart else none
      let zones := (List.range 12).foldl (fun (m : Map DispZone) p =>
        m.modify p (fun z => { (DispZone.latch z) with shown := show_ == some p })) s.display.zones
      let s1 : State := { s with display := { s.display with zones := zones, latchAt := some s.now } }
      let g := s1.dispContent prio
      { s1 with display := { s1.display with glassLo := g.1, glassHi := g.2 } })

/-- DSP_COMMIT_WRITE (R436, R438): a write of 1; the last commit before a latch is the one shown. -/
def execDspCommitWrite (p : Fin 12) (s : State) : Outcome :=
  evt0 s (fun s =>
    if s.viewLive p then
      { s with display := { s.display with
          zones := s.display.zones.modify p (fun z =>
            { z with comLo := z.segLo, comHi := z.segHi, pending := true }) } }
    else s)

/-- The present line of the frame: 976.5625 µs each, ten in a frame, line 8 from the latch on (R435); free before the first latch. -/
def State.lineNow (s : State) : Nat :=
  match s.display.latchAt with
  | some a => ((s.now - a) * 2 / 1953125 + 8) % 10
  | none => (s.freeWord &&& 0xF).toNat

/-- What a read of the user zone returns (R438). -/
def State.zoneRead (s : State) (p off : Nat) : Word :=
  let z := s.display.zones.get p
  if off = 0x000 then packWord [(16, 0x4453), (8, 1), (0, p)]
  else if off = 0x004 then z.segLo
  else if off = 0x008 then z.segHi
  else if off = 0x010 then packWord [(0, b2n z.pending), (1, b2n z.shown), (4, s.lineNow)]
  else 0

/-! ## The LEDs (R440) -/

/-- An LED. -/
inductive Led where
  | off | on | flashing
deriving DecidableEq, Repr

/-- A condition of the FAULT LED other than THERM_WARN. -/
def State.faultShown (s : State) : Bool :=
  s.pair.stayOffline || s.power.state == .hold || (List.range 12).any (fun p => (s.part p).state == .faulted) ||
  s.cfg.defaulted || s.cfg.fallback || (s.safe.powered && s.safe.state == .lockout)

/-- The six LEDs in the order of R440, bit 0 first: PWR, RUN, ACTIVE, STANDBY, FAULT, FORCE. -/
def State.leds (s : State) : List Led :=
  let parts := List.range 12
  let running := s.power.keeper == .running
  [if s.power.state == .run then .on else if s.power.state == .hibernate then .flashing else .off,
   if running then (if parts.any (fun p => (s.part p).state == .run) then .on else .flashing) else .off,
   match s.role with
   | .active | .alone => .on
   | .single => if running then .on else .off
   | .newt => .flashing
   | _ => .off,
   match s.role with
   | .standby => .on
   | .notReady => .flashing
   | _ => .off,
   if s.faultShown then .on else if s.power.thermWarn then .flashing else .off,
   if parts.any (fun p => !(s.part p).forces.isEmpty) then .on else .off]

/-- W5 of DISP_READ. Whether a flashing LED reads as 1 is not stated: its bit is free. -/
def State.ledWord (s : State) : Word :=
  packWord (s.leds.zipIdx.map (fun (e : Led × Nat) =>
    (e.2, if s.testing then 1 else
      match e.1 with
      | .off => 0
      | .on => 1
      | .flashing => b2n (s.freeWord.getLsbD e.2))))

/-- DISP_READ (R442). -/
def execDispRead (t : Fin 16) (r : Req) (s : State) : Outcome :=
  opcode s t r { opcode := 0x5101 } (fun s =>
    (s.tookFree, .reply stOk [s.display.glassLo, s.display.glassHi, w32 s.dispPrio, s.ledWord]))

/-- DISP_TEST (R442). -/
def execDispTest (t : Fin 16) (r : Req) (s : State) : Outcome :=
  opcode s t r { opcode := 0x5102 } (fun s =>
    ({ s with display := { s.display with testUntil := some (s.now + 2000000000) } }, ok))

/-- DISP_TEST_END (R437). -/
def execDispTestEnd (time : Nat) (s : State) : Outcome :=
  evt s time (fun s =>
    match s.display.testUntil with
    | some a => if a ≤ s.now then { s with display := { s.display with testUntil := none } } else s
    | none => s)

end Sys2Proof.Machine
end

