-- ==== Sys2Proof/Machine/RoValues.lean ====
section
/-! DEFINITION. What a read of a read-only parameter returns: the present state of its unit, as the tables
R68, R110, R137, R138, R153, R171, R184, R211, R233, R257, R273, R296, R297, R313, R331, R343, R361, R385, R424
and R441 list it. Where the manual gives no value, `none`: a free value. -/

namespace Sys2Proof.Machine

/-- The word at a place of a list. -/
def nth (l : List Word) (i : Nat) : Option Word := l[i]?

/-- POOL_MIN, POOL_MAX and POOL_HELD of a channel (R171, R184). -/
def State.roPool (s : State) (ch idx : Nat) : Option Word :=
  nth [w32 (s.poolLimits ch).1, w32 (s.poolLimits ch).2, w32 (s.pool.held.get ch)] idx

/-- A partition (R211, R233). -/
def State.roPart (s : State) (p idx : Nat) : Option Word :=
  let x := s.part p
  if idx < 0x20 then
    nth [w32 x.state.code, w32 (Part.faultShown x), w32 (Part.pcShown x), w32 (s.recentRestarts p), w32 x.execUs] (idx - 0x10)
  else
    nth [w32 x.scanCount, w32 x.elapsedUs, w32 x.lateUs, w32 x.overruns, w32 x.forces.length] (idx - 0x38)

/-- A chain (R68). -/
def State.roChain (s : State) (c idx : Nat) : Option Word :=
  let x := s.chain c
  if idx < 0x200 then
    nth [w32 x.state.code, x.fault.zeroExtend 32, w32 x.countFound, w32 x.breakAfter, w32 x.missingLast,
         w32 x.crcLast] (idx - 0x10)
  else
    let v := x.comp.get (idx - 0x200 + 1)
    some (packWord [(0, v.fwd), (16, v.rev)])

/-- EST_INVALID_COUNT: the INVALID cells now (R110). -/
def State.invalidNow (s : State) (c : Nat) : Nat :=
  ((s.presentCells c).filter (fun a => (s.flagsRead c a.1 a.2).getLsbD 1)).length

/-- The estimation of a chain (R110). No rule says how long an update takes: EST_BUSY_US is 16 free bits once a tick
has been worked on. -/
def State.roEst (s : State) (c idx : Nat) : Option Word :=
  let x := s.tile c
  if idx = 0x10 then (if x.tick = x.base then some 0 else none)
  else
    nth [w32 x.validCount, w32 x.staleCount, w32 (s.invalidNow c), x.digest,
         packWord [(0, b2n x.mismatch), (1, b2n (!x.tambMiss.isEmpty))]] (idx - 0x11)

/-- A feedback port (R313): FB_POSITION to FB_SER_DELAY. -/
def State.roFb (s : State) (p idx : Nat) : Option Word :=
  nth (Fb.words (s.fb p) ++ [w32 (s.fb p).serDelay]) (idx - 0x20)

/-- A loop slot (R296): LOOP_STATUS, _OUT, _REF, _FB, _INTEG. -/
def State.roLoop (s : State) (i idx : Nat) : Option Word :=
  let x := s.loop i
  nth [s.loopSt i, i32 x.u, i32 x.rOut, i32 x.y, i32 (narrow { val := x.i }).val] (idx - 0x30)

/-- The evaluator and its functions, inputs and pairs (R385). -/
def State.roSafe (s : State) (inst idx : Nat) : Option Word :=
  let e := s.safe
  if inst = 0 then nth [w32 e.state.code, e.scv, w32 e.fault, w32 e.supply, w32 e.evtLost] (idx - 0x10)
  else if inst < 0x20 then
    let f := e.fns.get (inst - 0x10)
    nth [w32 f.state.code, packWord [(0, b2n f.discrepancy), (1, b2n f.testFail), (2, b2n f.crossShort)]] (idx - 0x10)
  else if inst < 0x60 then
    let i := inst - 0x40 + 1
    some (packWord [(0, b2n (e.inA.get i).filt), (1, b2n (e.inB.get i).filt)])
  else
    let k := inst - 0x60 + 1
    nth [w32 (e.pairs.get k).state.code, SafeEval.cause e k] (idx - 0x10)

/-- Seconds in LOCKED (TIME_LOCK_S). -/
def State.lockSeconds (s : State) : Nat :=
  match s.time.lockedAt with
  | some a => if s.time.state = .locked then (s.now - a) / 1000000000 else 0
  | none => 0

/-- Plant time and the network ports (R273). -/
def State.roTime (s : State) (inst idx : Nat) : Option Word :=
  if inst = 0 then
    nth [w32 s.time.state.code, s.offsetWord, i32 s.time.rate, w32 s.lockSeconds, hiWord s.time.gm, loWord s.time.gm]
      (idx - 0x10)
  else nth (s.portWords inst) (idx - 0x10)

/-- The value of a read-only parameter, by block, instance and index. -/
def State.roWord (s : State) (block inst idx : Nat) : Option Word :=
  match block with
  | 0x01 =>
    if inst = 0 then (if idx = 0x14 then none else nth s.powerWords (idx - 0x10))
    else s.roPool (inst - 0x20) idx
  | 0x03 => s.roPart inst idx
  | 0x10 => s.roChain inst idx
  | 0x11 => s.roEst inst idx
  | 0x12 =>
    if inst < 0x40 then nth [s.strWord inst, w32 (s.str inst).cause.toNat, w32 (s.bleeding inst)] (idx - 0x40)
    else some (w32 (b2n (s.pto (inst - 0x50)).asserted))
  | 0x13 =>
    if inst = 0 then nth [w32 s.disp.keyKind, w32 s.disp.ovr.code] (idx - 5)
    else
      let g := s.group (inst - 0x10)
      some (packWord [(0, b2n (Group.ramping g)), (1, b2n g.grant.isSome), (2, b2n g.grantCut)])
  | 0x20 =>
    if inst < 0x20 then
      let x := s.ana (inst + 1)
      nth [w32 x.code, x.flags.zeroExtend 32, w32 x.volt, w32 x.miswire, w32 x.hartErr] (idx - 0x10)
    else some (w32 (s.grpField.get (inst - 0x20)))
  | 0x21 => nth [w32 (b2n (s.fdpFault.get 0)), s.fdpTime.get 0] idx
  | 0x22 =>
    let x := s.can inst
    nth [s.canStateWord inst, w32 x.rxUnmatched, w32 x.poolRefused, w32 x.txLate, w32 x.busOff, w32 x.tdcNs] (idx - 0x10)
  | 0x23 => s.roFb (inst + 1) idx
  | 0x24 => s.roLoop inst idx
  | 0x25 =>
    let x := s.valve (inst + 1)
    nth [Valve.status x, i32 x.pos, w32 x.imeas, w32 x.temp, w32 x.crcErr] (idx - 0x10)
  | 0x30 => s.roSafe inst idx
  | 0x40 =>
    if inst = 0 then
      nth [w32 s.role.code, w32 s.partnerCode, w32 (b2n s.ident.sideB), s.notReadyWord, s.pairLink, w32 s.mirrorLoads]
        (idx - 0x10)
    else some (w32 (s.pair.sets.get (inst - 0x10)).last)
  | 0x41 => s.roTime inst idx
  | 0x50 => nth [w32 s.recorder.recs.length, w32 (Recorder.used s.recorder), w32 s.recorder.overwritten] idx
  | _ => none

/-- The value that an address of the active image has for a reader: its parameter, the safety set for BLOCK
0x30, or the present state of a read-only word (free where the manual is silent). -/
def State.readActive (s : State) (addr : Nat) : State × Word :=
  match paramRow addr with
  | none => (s, 0)
  | some row =>
    if row.ro then
      match s.roWord (addr / 2 ^ 24) (addr / 2 ^ 16 % 256) (addr % 2 ^ 16) with
      | some w => (s, w)
      | none => (s.tookFree, s.freeWord &&& row.mask)
    else if isSafeParam addr then (s, paramValue s.safe.setA addr)
    else (s, paramValue s.committed addr)

end Sys2Proof.Machine
end

