-- ==== Sys2Proof/Machine/ParamOps.lean ====
section
/-! DEFINITION. Reading and staging parameters (R174, R183, R185, R186, R379), and the state of the
configuration. -/

namespace Sys2Proof.Machine

/-- One map laid over another. -/
def overlay (base top : ParamMap) : ParamMap :=
  top.foldl (fun (m : ParamMap) e => m.set e.1 e.2) base

/-- The configuration that a commit would make active: the committed values with the staged ones, or the
staged image as a whole (R169, R175). -/
def State.candidate (s : State) : ParamMap :=
  if s.cfg.stagedWhole then s.cfg.staged else overlay s.committed s.cfg.staged

/-- The safety set that a commit would hand to the evaluator (R378). -/
def State.safeCandidate (s : State) : ParamMap := overlay s.safe.setA s.cfg.stagedSafe

/-- What a STAGED read by the holder of the lock shows (R174). -/
def State.readStaged (s : State) (addr : Nat) : State × Word :=
  match paramRow addr with
  | none => (s, 0)
  | some row =>
    if row.ro then s.readActive addr
    else if isSafeParam addr then (s, paramValue s.safeCandidate addr)
    else (s, paramValue s.candidate addr)

/-- Read n addresses in turn. -/
def State.readMany (s : State) (staged : Bool) (l : List Nat) : State × List Word :=
  l.foldl (fun (acc : State × List Word) a =>
    let x := if staged then acc.1.readStaged a else acc.1.readActive a
    (x.1, acc.2 ++ [x.2])) (s, [])

/-- W3[7:0] of a parameter request: the count, in its range of 1 to 253 (R183). -/
def paramCount (r : Req) : Option Nat :=
  let n := fieldOf (r.w 3) 7 0
  if 1 ≤ n ∧ n ≤ 253 then some n else none

/-- PARAM_READ (R183, R185): staged changes are visible only to the holder of the lock (R174). -/
def execParamRead (t : Fin 16) (r : Req) (s : State) : Outcome :=
  opcode s t r { opcode := 0x0120, len := lenIs 2, flags := 8 } (fun s =>
    let a := (r.w 2).toNat
    match paramCount r with
    | none => (s, no stOutOfRange)
    | some n =>
      match firstUndefined a n with
      | some u => (s, .reply stUnknownAddress [w32 u])
      | none =>
        let (s1, ws) := s.readMany (flStaged r.flags && s.cfg.lock == some t.val) ((List.range n).map (fun i => a + i))
        (s1, .reply stOk (r.w 2 :: ws)))

/-- The addresses and values of a PARAM_WRITE. -/
def writtenValues (r : Req) (n : Nat) : List (Nat × Word) :=
  (List.range n).map (fun i => ((r.w 2).toNat + i, r.w (4 + i)))

/-- An address is read only. -/
def readOnlyAt (a : Nat) : Bool := match paramRow a with | some row => row.ro | none => false

/-- A value is within the fields and ranges of its address. -/
def valueOkAt (a : Nat) (v : Word) : Bool := match paramRow a with | some row => row.valueOk v | none => false

/-- Stage values: those of BLOCK 0x30 in the staged safety set (R183, R378). -/
def State.stage (s : State) (l : List (Nat × Word)) : State :=
  s.modCfg (fun g => l.foldl (fun (g : Cfg) (e : Nat × Word) =>
    if isSafeParam e.1 then { g with stagedSafe := g.stagedSafe.set e.1 (some e.2) }
    else { g with staged := g.staged.set e.1 (some e.2) }) g)

/-- PARAM_WRITE (R183, R185): the whole range or nothing. A module that does not run the plant accepts
BLOCK 0x30 only (R379). -/
def execParamWrite (t : Fin 16) (r : Req) (s : State) : Outcome :=
  opcode s t r
    { opcode := 0x0121, role := 1, config := true, active := !isSafeParam (r.w 2).toNat
      len := fun ws => decide (2 ≤ ws.length) && ws.length == 2 + fieldOf (ws.getD 1 0) 7 0 }
    (fun s =>
      match paramCount r with
      | none => (s, no stOutOfRange)
      | some n =>
        let l := writtenValues r n
        match firstUndefined (r.w 2).toNat n with
        | some u => (s, .reply stUnknownAddress [w32 u])
        | none =>
          if l.any (fun e => readOnlyAt e.1) then (s, no stReadOnly)
          else if l.any (fun e => !valueOkAt e.1 e.2) then (s, no stOutOfRange)
          else (s.stage l, ok))

/-- Addresses with an entry in either map, each once. -/
def unionKeys (a b : ParamMap) : List Nat :=
  let ka := a.map (fun (e : Nat × Option Word) => e.1)
  ka ++ (b.map (fun (e : Nat × Option Word) => e.1)).filter (fun k => !ka.contains k)

/-- Addresses at which two maps give different values. -/
def differing (a b : ParamMap) : List Nat := (unionKeys a b).filter (fun k => paramValue a k != paramValue b k)

/-- Staged parameter words: the parameters whose staged value differs from the one in use. -/
def State.stagedCount (s : State) : Nat :=
  (if s.cfg.lock.isSome then (differing s.committed s.candidate).length else 0) +
  (differing s.safe.setA s.safeCandidate).length

/-- CFG_STATUS (R186). -/
def execCfgStatus (t : Fin 16) (r : Req) (s : State) : Outcome :=
  opcode s t r { opcode := 0x0204 } (fun s =>
    (s, .reply stOk
      [packWord [(0, s.cfg.lock.getD 0), (4, b2n s.cfg.lock.isSome), (5, b2n s.cfg.broken.isSome)],
       w32 s.cfg.generation, s.activeCrc, w32 s.stagedCount]))

end Sys2Proof.Machine
end

