-- ==== Sys2Proof/Machine/Commit.lean ====
section
/-! DEFINITION. The checks of CFG_COMMIT over a whole configuration (R175): each gives the addresses at which it
fails, the lowest address among the parameters that it involves. A check is read off a state whose active
configuration is the one under check. -/

namespace Sys2Proof.Machine

/-- f for every element that fails. -/
def failing {α : Type} (l : List α) (bad : α → Bool) (addr : α → Nat) : List Nat := (l.filter bad).map addr

/-- PART_ENABLE and CH_ENABLE. -/
def State.partOn (k : State) (p : Nat) : Bool := k.parB 0x03 p 0

/-- Enabled partitions, rising. -/
def State.enabledParts (k : State) : List Nat := (List.range 12).filter k.partOn

/-- Address of PART_ENABLE p. -/
def enableAddr (p : Nat) : Nat := paddr 0x03 p 0

/-- The address of PART_ENABLE of the lowest enabled partition: a rule over all of them fails there. -/
def State.lowestEnable (k : State) : Nat := enableAddr (k.enabledParts.headD 0)

/-! ## Chains and groups (R68, R73, R110, R137, R140) -/

/-- An enabled chain has a position, a rated capacity and the KM-12 model; BAL_TIMER_S is at least twice
BAL_PERIOD_S; a chain is in one group at most. No image of another model can be loaded, so that none verifies. -/
def State.chainFailures (k : State) : List Nat :=
  let chains := List.range 64
  let on := chains.filter k.chEnabled
  let groups := fun c => (List.range 8).filter (fun g => k.parBit64 0x13 (0x10 + g) 0 c)
  failing on (fun c => k.chPositions c == 0) (fun c => paddr 0x10 c 0) ++
  failing on (fun c => (k.par (paddr 0x11 c 2)).toNat % 2 ^ 31 == 0) (fun c => paddr 0x10 c 0) ++
  failing on (fun c => k.parN 0x11 c 0 != 0x0C) (fun c => paddr 0x11 c 0) ++
  failing chains (fun c => decide (k.parN 0x12 c 0x2F < 2 * k.parN 0x12 c 0x2E)) (fun c => paddr 0x12 c 0x2E) ++
  failing chains (fun c => decide (1 < (groups c).length)) (fun c => paddr 0x13 (0x10 + (groups c).headD 0) (c / 32))

/-! ## The frame pool (R172, R184) -/

/-- POOL_MAX is at least POOL_MIN, and the minimums sum to at most 16,384. -/
def State.poolFailures (k : State) : List Nat :=
  let chs := List.range 32
  let mins := (chs.map (fun c => (k.poolLimits c).1)).sum
  failing (chs.filter (fun c => !poolFixed c)) (fun c => decide ((k.poolLimits c).2 < (k.poolLimits c).1)) (fun c => paddr 0x01 (0x20 + c) 0) ++
  (if 16384 < mins then [paddr 0x01 0x20 0] else [])

/-! ## Partitions (R187, R189, R194, R204, R206, R217, R233, R253) -/

/-- Tenants bound to partition p. -/
def State.tenantsOf (k : State) (p : Nat) : List Nat :=
  (List.range 16).filter (fun t => k.tntKind t == 2 && k.tntPart t == p)

/-- Enabled partitions on core pair c. -/
def State.onPair (k : State) (c : Nat) : List Nat := k.enabledParts.filter (fun p => k.parN 0x03 p 2 == c)

/-- PART_SLICE_US and PAIR_FRAME_US. -/
def State.sliceUs (k : State) (p : Nat) : Nat := k.parN 0x03 p 3
def State.frameUs (k : State) (c : Nat) : Nat := k.parN 0x03 (0x20 + c) 0

/-- The layout of core pair c breaks R189: more than two partitions, a slice of 0 on a shared pair, or slices
that do not fit. -/
def State.pairBroken (k : State) (c : Nat) : Bool :=
  match k.onPair c with
  | [] => false
  | [_] => false
  | [p, q] => k.sliceUs p == 0 || k.sliceUs q == 0 || decide (k.frameUs c < k.sliceUs p + k.sliceUs q + 2)
  | _ => true

/-- Core time in one cycle (R217). -/
def State.coreTimeUs (k : State) (p : Nat) : Nat :=
  let c := k.parN 0x03 p 2
  let cyc := k.parN 0x03 p 0x20
  if (k.onPair c).length ≤ 1 then cyc else cyc / k.frameUs c * k.sliceUs p

/-- Sums over the enabled partitions. -/
def State.sumParts (k : State) (idx : Nat) : Nat := (k.enabledParts.map (fun p => k.parN 0x03 p idx)).sum

/-- The worst-case mirror load in Mbit/s, exact (R253). -/
def State.mirrorRate (k : State) : Rat :=
  (k.enabledParts.map (fun p => ((mirrorKib k.cfg.active p * 8192 : Nat) : Rat) / (k.parN 0x03 p 0x20 : Rat))).foldl (· + ·) 0

/-- Enabled event tasks of partition p: task and source. -/
def State.boundTasks (k : State) (p : Nat) : List (Nat × Nat) :=
  (List.range 16).filterMap (fun j => (k.evtBind p j).map (fun e => (j, e.1)))

/-- Event tasks of a PART_KIND 0 partition that break R233, each at its EVT_SOURCE. -/
def State.taskFailures (k : State) (p : Nat) : List Nat :=
  let l := k.boundTasks p
  if k.partKind p = 0 then
    failing l (fun e => !k.srcAssigned p e.2 || l.any (fun x => x.2 == e.2 && x.1 != e.1)) (fun e => paddr 0x03 p (0x24 + e.1))
  else []

/-- Every owner code that the configuration gives: of R212, where OWN_AO of a channel in an input mode is ignored, and of CAN
objects. -/
def State.ownerCodes (k : State) : List Nat :=
  ((List.range 152).filter (fun i => !(decide (32 ≤ i ∧ i < 64) && (k.anaMode (i - 31) == 1 || k.anaMode (i - 31) == 2)))).map
    (fun i => k.owner (i / 8) (i % 8)) ++
  (List.range 8).flatMap (fun c => (List.range 64).map (fun o => k.objOwner c o))

/-- The partitions. -/
def State.partFailures (k : State) : List Nat :=
  let on := k.enabledParts
  let lowest := k.lowestEnable
  (if on.any (fun p => (k.tenantsOf p).length != 1) then [paddr 0x01 0x10 0] else []) ++
  failing on (fun p => k.parN 0x03 p 2 == 0) enableAddr ++
  failing ((List.range 8).drop 1) k.pairBroken (fun c => enableAddr ((k.onPair c).headD 0)) ++
  (if 524288 < k.sumParts 6 ∨ 4096 < k.sumParts 7 then [lowest] else []) ++
  failing (List.range 12) (fun p => !k.partOn p && k.ownerCodes.contains p) enableAddr ++
  failing on (fun p => decide (k.coreTimeUs p < k.parN 0x03 p 4)) enableAddr ++
  failing on (fun p => decide (k.parN 0x03 p 5 * 1000 < 2 * k.parN 0x03 p 0x20)) enableAddr ++
  (List.range 12).flatMap k.taskFailures ++
  failing (List.range 12) (fun p => decide (2048 < mirrorKib k.cfg.active p)) (fun p => paddr 0x03 p 7) ++
  (if 12000 < k.mirrorRate then [lowest] else [])

/-! ## Loop slots, injection, trace (R277, R278, R286, R288, R297) -/

/-- The feedback of slot i breaks R277: its scale is not 30 for kinds 2, 4 and 5, or a ratio names no sources. -/
def State.fbBroken (k : State) (i : Nat) : Bool :=
  let kind := k.parN 0x24 i 1 / 256
  ((kind == 2 || kind == 4 || kind == 5) && k.parN 0x24 i 4 != 30) || (kind == 5 && k.parN 0x24 i 2 == 0)

/-- A shape with a limit of 0 or less (R278). -/
def State.shapeBroken (k : State) (i : Nat) : Bool :=
  k.parN 0x24 i 8 != 0 && ([9, 0xA, 0xB] : List Nat).any (fun x => decide (k.parI32 0x24 i x ≤ 0))

/-- Owner nibble of a destination, as word index and nibble of R212; none for kind 0. -/
def State.destOwner (k : State) (i : Nat) : Option (Nat × Nat) :=
  let (kind, num) := k.loopDest i
  match kind with
  | 1 => some (8 + (num - 1) / 8, (num - 1) % 8)
  | 2 => some (4 + (num - 1) / 8, (num - 1) % 8)
  | 3 => some (0xA + num / 8, num % 8)
  | _ => none

/-- The slot that follows slot i along kind-3 destinations. -/
def State.nextSlot (k : State) (i : Nat) : Option Nat := if (k.loopDest i).1 = 3 then some (k.loopDest i).2 else none

/-- A chain of kind-3 destinations from slot j reaches slot i (R286). -/
def State.reaches (fuel : Nat) (k : State) (j i : Nat) : Bool :=
  match fuel with
  | 0 => false
  | n + 1 => match k.nextSlot j with
    | none => false
    | some q => q == i || State.reaches n k q i

/-- The destination belongs to a partition other than the slot's owner: the lowest of the two owner words. -/
def State.destForeign (k : State) (i : Nat) : Option Nat :=
  match k.destOwner i with
  | none => none
  | some (w, n) =>
    let o := k.owner w n
    if o < 12 ∧ o ≠ k.ownLoop i then some (paddr 0x03 0x40 (min w (0xA + i / 8))) else none

/-- Loop slots, generators and the trace. -/
def State.loopFailures (k : State) : List Nat :=
  let slots := List.range 64
  failing slots k.fbBroken (fun i => paddr 0x24 i 1) ++
  failing slots k.shapeBroken (fun i => paddr 0x24 i 8) ++
  slots.filterMap k.destForeign ++
  failing slots (fun i => (k.loopDest i).1 != 0 && slots.any (fun j => j != i && k.loopDest j == k.loopDest i)) (fun i => paddr 0x24 i 7) ++
  failing slots (fun i => State.reaches 64 k i i) (fun i => paddr 0x24 i 7) ++
  failing (List.range 4) (fun g => k.parN 0x24 (0x40 + g) 1 == 1 && k.parN 0x24 (0x40 + g) 5 == 0) (fun g => paddr 0x24 (0x40 + g) 1) ++
  (if k.trcDepth < k.parN 0x24 0x50 3 then [paddr 0x24 0x50 3] else [])

/-! ## Feedback and analog ports (R305, R309, R316) -/

/-- Feedback ports and analog channels. -/
def State.fieldFailures (k : State) : List Nat :=
  let ports := List.range 8
  failing ports (fun p => decide (62500 <
      (k.parN 0x23 p 9 + 11) * serPeriodNs (k.parN 0x23 p 0xA) + 2000 + k.parN 0x23 p 0xC * 1000)) (fun p => paddr 0x23 p 9) ++
  failing ports (fun p =>
    let step := k.parI32 0x23 p 0xE
    if k.parB 0x23 p 0xF then decide (0 < step) else decide (step < 0)) (fun p => paddr 0x23 p 0xE) ++
  (if k.parN 0x40 0 0 = 0 then [] else failing (List.range 32) (fun i => k.anaMode (i + 1) == 2) (fun i => paddr 0x20 i 0))

/-! ## CAN controllers (R148, R346, R350, R356, R360) -/

/-- A field of a phase outside the table of R346, each at its own address. -/
def State.phaseFailures (k : State) (c base brp t1lo t1 t2 quanta : Nat) : List Nat :=
  let v := fun i => k.parN 0x22 c (base + i)
  let at_ := fun i => paddr 0x22 c (base + i)
  (if v 0 < 1 ∨ brp < v 0 ∨ v 0 * (1 + v 1 + v 2) < quanta then [at_ 0] else []) ++
  (if v 1 < t1lo ∨ t1 < v 1 then [at_ 1] else []) ++
  (if v 2 < 1 ∨ t2 < v 2 ∨ v 2 < v 3 then [at_ 2] else []) ++
  (if v 3 < 1 then [at_ 3] else [])

/-- Enabled objects of controller c. -/
def State.objsOn (k : State) (c : Nat) : List Nat := (List.range 64).filter (k.objOn c)

/-- Controller c is named in DSP_CAN_MASK. -/
def State.canPublishes (k : State) (c : Nat) : Bool := bitOf (k.par (paddr 0x13 0 3)) c

/-- Identifier and IDE of an object. -/
def State.objId (k : State) (c o : Nat) : Nat := (k.objPar c o 0).toNat % 2 ^ 30

/-- An object with the identifier of a dispatch frame (R148): that of a configured group. -/
def State.objIsDispatch (k : State) (c o : Nat) : Bool :=
  (List.range 8).any (fun g => k.groupSet g && k.objId c o == k.parN 0x13 0 4 + g)

/-- Bytes that the receive objects of controller c take in the data area (R350). -/
def State.rxBytes (k : State) (c : Nat) : Nat :=
  (((k.objsOn c).filter (fun o => k.objKind c o == 0)).map (fun o => (k.objLen c o + 15) / 16 * 16)).sum

/-- Two objects of a list agree under a key: each at its OBJ_ID. -/
def State.alikeObjects (_k : State) (c : Nat) (l : List Nat) (same : Nat → Nat → Bool) : List Nat :=
  failing l (fun o => l.any (fun q => q != o && same o q)) (fun o => paddr 0x22 c (0x100 + 16 * o))

/-- Controller c (0 to 7). -/
def State.canFailures (k : State) (c : Nat) : List Nat :=
  let on := k.objsOn c
  let tx := on.filter (fun o => k.objKind c o != 0 && decide (k.objOwner c o < 12))
  let fd := k.parB 0x22 c 1
  let obj := fun (o : Nat) => paddr 0x22 c (0x100 + 16 * o)
  k.phaseFailures c 2 32 2 256 128 80 ++ k.phaseFailures c 6 32 1 32 16 16 ++
  (if 3072 < k.rxBytes c then [obj ((on.filter (fun o => k.objKind c o == 0)).headD 0)] else []) ++
  k.alikeObjects c on (fun o q => k.objId c o == k.objId c q) ++
  k.alikeObjects c tx (fun o q => k.objOwner c o == k.objOwner c q && k.objPar c o 7 == k.objPar c q 7) ++
  (if k.canPublishes c && on.any (fun o => k.objIsDispatch c o) then [paddr 0x13 0 3] else []) ++
  (if k.canPublishes c && !fd then [paddr 0x13 0 3] else []) ++
  (if !fd && on.any (fun o => decide (8 < k.objLen c o) || k.objFdf c o) then [paddr 0x22 c 1] else []) ++
  failing (List.range 64) (fun o => bitOf (k.objPar c o 3) 1 && !k.objFdf c o) (fun o => paddr 0x22 c (0x100 + 16 * o + 3)) ++
  (if k.parN 0x01 (0x20 + c) 0 < on.length + 2 then [paddr 0x01 (0x20 + c) 0] else [])

/-- Two transmit objects of one owner on different controllers with one output image entry (R219, R356). -/
def State.txeFailures (k : State) : List Nat :=
  let all := (List.range 8).flatMap (fun c =>
    ((k.objsOn c).filter (fun o => k.objKind c o != 0 && decide (k.objOwner c o < 12))).map (fun o => (c, o)))
  failing all (fun e => all.any (fun q => decide (q.1 ≠ e.1) && k.objOwner e.1 e.2 == k.objOwner q.1 q.2 &&
    k.objPar e.1 e.2 7 == k.objPar q.1 q.2 7)) (fun e => paddr 0x22 e.1 (0x100 + 16 * e.2))

/-! ## The whole configuration -/

/-- Every failure of a configuration, by address; 0 names no parameter (R175, R399). -/
def State.commitFailures (s : State) (m : ParamMap) : List Nat :=
  let k : State := { s with cfg := { s.cfg with active := m } }
  k.chainFailures ++ k.poolFailures ++ k.partFailures ++ k.loopFailures ++ k.fieldFailures ++
  (List.range 8).flatMap k.canFailures ++ k.txeFailures ++
  (if 262144 < (configWords 0 0 0 m).length then [0] else [])

/-- The lowest of some addresses. -/
def lowest (l : List Nat) : Option Nat :=
  match l with
  | [] => none
  | a :: r => some (r.foldl min a)

end Sys2Proof.Machine
end

