-- ==== Sys2Proof/Machine/ConfigOps.lean ====
section
/-! DEFINITION. CFG_COMMIT and the standby's acknowledgments (R175, R176, R186, R197, R378, R379, R400, R403). -/

namespace Sys2Proof.Machine

/-- The staged set differs from the one held, or none is held in good order: the commit hands it over (R378). -/
def State.safeChanges (s : State) : Bool :=
  !s.cfg.stagedSafe.isEmpty && (!s.safe.setGood || !(differing s.safe.setA s.safeCandidate).isEmpty)

/-- Where the staged safety set fails: SAFE_STATE while the evaluator cannot take a set or does not accept it,
otherwise as R374 states (R378). -/
def State.safeFailures (s : State) (evalOk : Bool) : List Nat :=
  if !s.safeChanges then []
  else if !SafeEval.live s.safe || s.safe.state == .lockout || !evalOk then [paddr 0x30 0 0x10]
  else setFailures s.safeCandidate

/-- What a commit that has passed its checks commits. -/
def State.commitOf (s : State) (t : Nat) (r : Req) (writeA writeB : Bool) : CommitWait :=
  { tenant := t, seq := r.seq, time := s.now, params := s.candidate, writeA := writeA, writeB := writeB
    safe := if s.safeChanges then some s.safeCandidate else none }

/-- The words of the image that goes to the standby. -/
def State.commitImage (s : State) (w : CommitWait) : List Word :=
  configWords ((s.cfg.generation + 1) % 2 ^ 32) w.time w.tenant w.params

/-- A commit on the module that runs the plant: with a STANDBY it is complete once the image is acknowledged. -/
def State.runCommit (s : State) (t : Nat) (r : Req) (writeA writeB : Bool) : State × Answer :=
  let w := s.commitOf t r writeA writeB
  if !writeA && !writeB then (s, no stStoreWrite)
  else if s.standbyThere then
    ((s.modCfg (fun g => { g with wait := some w })).emit (.agfin "CONFIG" (s.commitImage w)), .later)
  else (s.completeCommit w, .later)

/-- A commit on another module of a Pair: the safety set alone (R379). -/
def State.safeCommit (s : State) : State × Answer :=
  let s1 := if s.safeChanges then s.toSafe (SafeEval.acceptSet s.safe s.safeCandidate) else s
  let n := effectiveTick s.now
  (s1.unlock, .reply stOk [hiWord n, loWord n, w32 s.cfg.generation])

/-- CFG_COMMIT (R175, R186): the generation first, then every check; the lowest failing address is named. -/
def execCfgCommit (t : Fin 16) (r : Req) (writeA writeB evalOk : Bool) (s : State) : Outcome :=
  opcode s t r { opcode := 0x0202, role := 1, len := lenIs 1, config := true } (fun s =>
    if (r.w 2).toNat ≠ 0 ∧ (r.w 2).toNat ≠ s.cfg.generation then (s, no (stRejected 0x10))
    else
      let own := if s.runsPlant then s.commitFailures s.candidate else []
      match lowest (own ++ s.safeFailures evalOk) with
      | some a => (s, .reply stCommitCheck [w32 a])
      | none => if s.runsPlant then s.runCommit t r writeA writeB else s.safeCommit)

/-- The first image write of partition p that awaits the standby, and the others. -/
def takeWait (p : Nat) (l : List (Nat × Nat × Nat × Nat)) :
    Option ((Nat × Nat × Nat × Nat) × List (Nat × Nat × Nat × Nat)) :=
  match l with
  | [] => none
  | e :: r =>
    if e.1 = p then some (e, r)
    else match takeWait p r with
      | none => none
      | some (x, rest) => some (x, e :: rest)

/-- PARTNER_ACK (R176, R197): the standby has the configuration image, or the image of a partition. -/
def execPartnerAck (part : Option (Fin 12)) (time : Nat) (s : State) : Outcome :=
  evt s time (fun s =>
    if s.single || !s.linkUp || !s.runsPlant then s
    else
      match part with
      | none =>
        match s.cfg.wait with
        | none => s
        | some w => s.completeCommit w
      | some p =>
        match takeWait p s.pair.imgWaits with
        | none => s
        | some (e, rest) =>
          (s.modPair (fun x => { x with imgWaits := rest })).finish e.2.1 e.2.2.1 stOk [w32 e.2.2.2])

end Sys2Proof.Machine
end

