-- ==== Sys2Proof/Machine/Startup.lean ====
section
/-! DEFINITION. Start-up, identity and firmware (R387 to R407): power-on, the repair of a configuration copy,
the trial of an image, factory defaults, and the commands of group 0x01 for them. -/

namespace Sys2Proof.Machine

/-- POWER_ON (R395): a main supply reaches 18 V after the always-on rail was lost. The side set last is in
force, the power-cycle count rises, plant time runs FREE from 0. -/
def execPowerOn (boot : BootCheck) (volt : Nat) (s : State) : Outcome :=
  evt0 s (fun s =>
    if s.power.state != .off || decide (volt < 1800) then s
    else
      let s1 : State := { s with now := 0, time := {}, ident := { s.ident with sideB := s.ident.sideNext } }
      (s1.modPower (fun p =>
        { p with rail := true, cycles := (p.cycles + 1) % 2 ^ 32, supplyA := volt, opSince := 0, applied := false })).bootUp boot 1)

/-- CFG_REPAIR_WRITE (R401): the bad copy, or the older one, is rewritten from the copy in use. -/
def execCfgRepairWrite (written : Bool) (time : Nat) (s : State) : Outcome :=
  evt s time (fun s =>
    match s.cfg.repair with
    | none => s
    | some k =>
      if !written || !s.keeperUp then s
      else s.modCfg (fun g =>
        { g with
          repair := none, fallback := false
          copyA := if k = 0 then g.copyB else g.copyA
          copyB := if k = 0 then g.copyB else g.copyA }))

/-- A TRIAL image is confirmed: it becomes ACTIVE, the former ACTIVE one INACTIVE, and the counter rises to
its ROLLBACK (R393). -/
def State.confirmTrial (s : State) (k : Nat) : State :=
  let other := s.fwSlot (1 - k)
  let s1 := if other.state == .active then s.setFwSlot (1 - k) { other with state := .inactive } else s
  let x := s1.fwSlot k
  let s2 := s1.setFwSlot k { x with state := .active }
  { s2 with ident := { s2.ident with antiRollback := max s2.ident.antiRollback (FwSlot.rollback x) } }

/-- FW_TRIAL_CONFIRM (R393): the Keeper has run the image for 600 s with no module fault and no reset. -/
def execFwTrialConfirm (time : Nat) (s : State) : Outcome :=
  evt s time (fun s =>
    if s.keeperUp && !s.inRecovery && !s.pair.stayOffline && (s.fwSlot s.ident.booted).state == .trial &&
        decide (s.ident.bootedAt + 600000000000 ≤ s.now) then
      s.confirmTrial s.ident.booted
    else s)

/-- DEFAULT_TRIP_REPEAT (R402). -/
def execDefaultTripRepeat (time : Nat) (s : State) : Outcome :=
  evt s time (fun s => if s.cfg.defaulted && s.power.state == .run && s.power.keeper == .safe then s.defaultTrip else s)

/-- DEFAULT_COMMIT_RESET (R403): 1 s after the reply to a commit in factory defaults. -/
def execDefaultCommitReset (boot : BootCheck) (time : Nat) (s : State) : Outcome :=
  evt s time (fun s =>
    match s.cfg.resetAt with
    | some a => if a ≤ s.now && s.power.state == .run then s.moduleReset boot 8 else s
    | none => s)

/-- A chain port is idle: the module sends no frame, Croak or SD from it (R449). -/
def State.portIdle (s : State) (c : Nat) (e : RingEnd) : Bool :=
  s.holds e && s.bankUp e && (s.chain c).state == .off && !(s.chain c).croak && (s.chain c).adopt.isNone

/-- CABLE_TEST (R449): the TX pair of an idle chain port shows a differential load of 70 to 130 ohm, or not. -/
def execCableTest (c : Fin 64) (e : RingEnd) (load : Bool) (time : Nat) (s : State) : Outcome :=
  evt s time (fun s =>
    if s.portIdle c e then
      s.modChain c (fun x => match e with | .a => { x with cableA := load } | .b => { x with cableB := load })
    else s)

/-! ## Group 0x01 -/

/-- SYS_IDENT (R185). The recovery service runs no release, and the manual gives W5 no value there. -/
def execSysIdent (t : Fin 16) (r : Req) (s : State) : Outcome :=
  opcode s t r { opcode := 0x0101 } (fun s =>
    let words := fun (rel : Word) =>
      [hiWord s.ident.serial, loWord s.ident.serial, w32 s.ident.hwRev, rel, w32 s.ident.antiRollback]
    if s.inRecovery then (s.tookFree, .reply stOk (words s.freeWord)) else (s, .reply stOk (words s.release)))

/-- SYS_STATE (R185, R394, R424). -/
def execSysState (t : Fin 16) (r : Req) (s : State) : Outcome :=
  opcode s t r { opcode := 0x0102 } (fun s =>
    (s, .reply stOk
      [w32 (if s.inRecovery then 2 else s.power.keeper.code), w32 s.role.code, w32 (b2n s.power.hibAsk.isSome),
       packWord [(0, b2n s.cfg.fallback), (1, b2n s.cfg.defaulted)], w32 s.opSecondsNow, w32 s.power.cycles,
       hiWord s.now, loWord s.now]))

/-- A reset that a command asks for: its reply leaves, changed retained copies are committed, and the module
resets with cause RESET_CMD (R185, R393, R417, R422). -/
def State.resetByCommand (s : State) (t seq : Nat) (boot : BootCheck) : State :=
  ((s.finish t seq stOk []).commitRetained).moduleReset boot 8

/-- SYS_RESET (R185). -/
def execSysReset (t : Fin 16) (r : Req) (boot : BootCheck) (s : State) : Outcome :=
  opcode s t r { opcode := 0x0103, role := 1, len := lenIs 1 } (fun s =>
    if r.w 2 = 1 then (s.resetByCommand t r.seq boot, .later) else (s, no stOutOfRange))

/-- FW_STATUS (R407). -/
def execFwStatus (t : Fin 16) (r : Req) (s : State) : Outcome :=
  opcode s t r { opcode := 0x0105 } (fun s =>
    let a := s.ident.slot0
    let b := s.ident.slot1
    (s, .reply stOk
      [w32 s.ident.booted, packWord [(0, a.state.code), (2, b.state.code)], w32 s.ident.trialCount, FwSlot.release a,
       FwSlot.release b, packWord [(0, FwSlot.rollback a), (8, FwSlot.rollback b)], w32 s.ident.antiRollback]))

/-- FW_ACTIVATE (R393, R407). -/
def execFwActivate (t : Fin 16) (r : Req) (boot : BootCheck) (s : State) : Outcome :=
  opcode s t r { opcode := 0x0106, role := 1, len := lenIs 1 } (fun s =>
    let k := (r.w 2).toNat
    let x := s.fwSlot k
    if 1 < k then (s, no stOutOfRange)
    else if x.state != .inactive then (s, no (stRejected 0x25))
    else if FwSlot.rollback x < s.ident.antiRollback then (s, no (stRejected 0x21))
    else if !s.single && s.runsPlant && s.partnerFollows then (s, no (stRejected 0x24))
    else
      let s1 := s.setFwSlot k { x with state := .trial }
      let s2 : State := { s1 with ident := { s1.ident with trialCount := 0 } }
      (s2.resetByCommand t r.seq boot, .later))

/-- Bytes as words, the first byte in [31:24], the last word filled with zeros (R407). -/
def certWords (fuel : Nat) (bs : List Byte) : List Word :=
  match fuel, bs with
  | _, [] => []
  | 0, _ => []
  | n + 1, bs =>
    let b := fun i => (bs.getD i 0).toNat
    packWord [(24, b 0), (16, b 1), (8, b 2), (0, b 3)] :: certWords n (bs.drop 4)

/-- The words of a certificate. -/
def wordsOfCert (bs : List Byte) : List Word := certWords bs.length bs

/-- CERT_READ (R407). -/
def execCertRead (t : Fin 16) (r : Req) (s : State) : Outcome :=
  opcode s t r { opcode := 0x0107, len := lenIs 1 } (fun s =>
    if r.w 2 = 0 then (s, .bulk 0x0107 (wordsOfCert s.ident.deviceCert))
    else if r.w 2 = 1 then
      match s.ident.operatorCert with
      | none => (s, no (stRejected 0x26))
      | some c => (s, .bulk 0x0107 (wordsOfCert c))
    else (s, no stOutOfRange))

/-- CERT_CLEAR (R389). -/
def execCertClear (t : Fin 16) (r : Req) (s : State) : Outcome :=
  opcode s t r { opcode := 0x0108, role := 2 } (fun s =>
    ({ s with ident := { s.ident with operatorCert := none } }, ok))

end Sys2Proof.Machine
end

