-- ==== Sys2Proof/Machine/Bulk.lean ====
section
/-! DEFINITION. Bulk objects and bulk streams (R166, R167, R169, R197, R389, R392, R433, R466). -/

namespace Sys2Proof.Machine

/-! ## Objects (R169) -/

/-- W2 of a bulk request: the object number, and the instance in [15:8]. -/
def bulkObject (r : Req) : Nat := (r.w 2).toNat % 256
def bulkInst (r : Req) : Nat := (r.w 2).toNat / 256

/-- The object is listed and has the instance: object 0x02 has one per partition. -/
def objectExists (r : Req) : Bool :=
  decide (1 ≤ bulkObject r ∧ bulkObject r ≤ 7) && (if bulkObject r = 2 then decide (bulkInst r < 12) else bulkInst r == 0)

/-- Words of a firmware slot and of the operator certificate at most (R169). -/
def firmwareWords : Nat := 4194304
def certWordsMax : Nat := 1024

/-- The staged image as a configuration copy; its header is that of the image in use until the commit sets it
(log entry 14). -/
def State.stagedWords (s : State) : List Word :=
  configWords s.cfg.generation s.cfg.commitTime s.cfg.commitTenant s.candidate

/-- The words of object 0x01 that a request reads: the staged image for the holder's STAGED reads (R169, R174). -/
def State.configObject (s : State) (t : Nat) (r : Req) : List Word :=
  if flStaged r.flags && s.cfg.lock == some t then s.stagedWords else s.activeWords

/-- The stored image of a partition. -/
def State.imageWords (s : State) (p : Nat) : List Word :=
  match (s.part p).image with
  | none => []
  | some im => PartImage.words im

/-- The four words of a ledger entry; those of an entry never written are free (R97). -/
def State.ledgerWord (s : State) (k : Nat) : Word :=
  match s.ledger.get (k / 4) with
  | some l => [l.soc, l.soh, l.rohm25, l.rct25].getD (k % 4) 0
  | none => (Config.freeValue (s.fresh + k)).truncate 32

/-- Words of an object as a read finds it; the recorder is read by records. -/
def State.readSize (s : State) (t : Nat) (r : Req) : Nat :=
  match bulkObject r with
  | 1 => (s.configObject t r).length
  | 2 => (s.imageWords (bulkInst r)).length
  | 3 => 589824
  | 5 => 262144
  | 7 => (wordsOfCert (s.ident.operatorCert.getD [])).length
  | _ => 0

/-- Greatest size of an object that is written. -/
def State.writeSize (s : State) (r : Req) : Nat :=
  match bulkObject r with
  | 1 => 262144
  | 2 => 8 + s.parN 0x03 (bulkInst r) 6 * 256
  | 6 => firmwareWords
  | 7 => certWordsMax
  | _ => 0

/-- The answers of R169 that stand in the place of the role check of a BULK_READ. -/
def State.readPre (s : State) (t : Nat) (r : Req) : Option Nat :=
  if !objectExists r || bulkObject r = 6 then some stUnknownAddress
  else if bulkObject r ≠ 4 ∧ s.readSize t r < (r.w 3).toNat + (r.w 4).toNat then some stOutOfRange
  else none

/-- The records of a recorder read, from the W3-th oldest on, and its words at most (R433). -/
def State.recordsFrom (s : State) (r : Req) : Answer :=
  .records (s.recorder.recs.drop (r.w 3).toNat) (r.w 4).toNat

/-- The words of a read that its object's size admits. -/
def State.objectWords (s : State) (t : Nat) (r : Req) : List Word :=
  let part := fun (ws : List Word) => (ws.drop (r.w 3).toNat).take (r.w 4).toNat
  match bulkObject r with
  | 1 => part (s.configObject t r)
  | 2 => part (s.imageWords (bulkInst r))
  | 3 => (List.range (r.w 4).toNat).map (fun i => s.ledgerWord ((r.w 3).toNat + i))
  | 5 => part s.traceWords
  | 7 => part (wordsOfCert (s.ident.operatorCert.getD []))
  | _ => []

/-- A word count that W4 may hold (R185). -/
def countOk (r : Req) : Bool := decide (1 ≤ (r.w 4).toNat ∧ (r.w 4).toNat ≤ 65535)

/-- BULK_READ (R166, R169). STAGED is for object 0x01; BULK may be set, since the request opens a stream (R156). -/
def execBulkRead (t : Fin 16) (r : Req) (s : State) : Outcome :=
  opcode s t r
    { opcode := 0x0110, len := lenIs 3, flags := if bulkObject r = 1 then 9 else 1
      role := if bulkObject r = 2 then 1 else 0, pre := s.readPre t r }
    (fun s =>
      if !countOk r then (s, no stOutOfRange)
      else if bulkObject r = 5 ∧ s.trace.state ≠ .done then (s, no stResource)
      else if bulkObject r = 4 then (s, s.recordsFrom r)
      else
        let used := if bulkObject r = 3 then { s with fresh := s.fresh + 589824 } else s
        (used, .bulk (bulkObject r) (s.objectWords t r)))

/-! ## Opening a write stream (R167) -/

/-- The answers of R169 that stand in the place of the role check of a BULK_WRITE; a packet without BULK is
BAD_FLAGS (R167), and the recovery service knows object 0x06 alone (R394). -/
def State.writePre (s : State) (r : Req) : Option Nat :=
  if !flBulk r.flags then some stBadFlags
  else if s.inRecovery ∧ bulkObject r ≠ 6 then some stUnknownOpcode
  else if !objectExists r then some stUnknownAddress
  else if bulkObject r = 3 ∨ bulkObject r = 4 ∨ bulkObject r = 5 then some stReadOnly
  else if s.writeSize r < (r.w 3).toNat + (r.w 4).toNat then some stOutOfRange
  else none

/-- Another tenant has a write of object 0x06 open (R392). -/
def State.fwBusy (s : State) (t : Nat) : Bool :=
  (List.range 16).any (fun k => k != t &&
    match (s.tenant k).inStream with
    | some w => w.object == 6
    | none => false)

/-- The opening's own checks, and the open stream. -/
def openStream (t : Nat) (r : Req) (s : State) : State × Answer :=
  if (s.tenant t).inStream.isSome then (s, no stBulkSequence)
  else if !countOk r then (s, no stOutOfRange)
  else if bulkObject r = 6 ∧ s.fwBusy t = true then (s, no stResource)
  else if bulkObject r = 6 ∧ (s.fwSlot s.ident.booted).state = .trial ∧ s.ident.recovery = false then (s, no (stRejected 0x27))
  else
    (s.modTenant t (fun x =>
      { x with inStream := some { pkt := { opcode := 0x0111, length := r.payload.length, req := r }
                                  object := bulkObject r, inst := bulkInst r, offset := (r.w 3).toNat
                                  count := (r.w 4).toNat } }), .later)

/-- The tenant's open stream is that of a SEQ. -/
def State.streamIs (s : State) (t seq : Nat) : Bool :=
  match (s.tenant t).inStream with
  | some w => w.pkt.req.seq == seq
  | none => false

/-- A packet of opcode 0x0111 with BULK that the table of R167 takes otherwise than as an opening. -/
def State.notOpening (s : State) (t : Nat) (r : Req) : Bool :=
  flBulk r.flags && (s.streamIs t r.seq || (s.tenant t).ended.contains r.seq || flLast r.flags)

/-- The gates of an opening, by object. -/
def State.openSpec (s : State) (r : Req) : OpSpec :=
  { opcode := 0x0111, len := lenIs 3, flags := 1, role := if bulkObject r = 7 then 2 else 1
    config := bulkObject r = 1, active := bulkObject r = 1 || bulkObject r = 2, pre := s.writePre r }

/-- BULK_WRITE (R167): an opening; one that is refused, or answered from the cache, enters the ended list. -/
def execBulkWrite (t : Fin 16) (r : Req) (s : State) : Outcome :=
  evt s r.time (fun s =>
    if !s.takesPackets || s.notOpening t r then s
    else
      let (s1, go) := s.intake t 0x0111 r
      if !go then s1
      else
        let s2 := s1.runBody t r (s1.openSpec r) (openStream t r)
        let s3 := if s2.streamIs t r.seq || !flBulk r.flags then s2
          else s2.modTenant t (fun x => Tenant.addEnded x r.seq)
        s3.drain 32 t)

/-! ## The end of a write stream -/

/-- Words laid over a list from an offset; a write at offset 0 begins anew. -/
def layOver (old : List Word) (offset : Nat) (ws : List Word) : List Word :=
  if offset = 0 then ws
  else old.take offset ++ List.replicate (offset - old.length) 0 ++ ws ++ old.drop (offset + ws.length)

/-- The stream ends: its SEQ enters the ended list. -/
def State.endStream (s : State) (t : Nat) (w : InStream) : State :=
  s.modTenant t (fun x => { (Tenant.addEnded x w.pkt.req.seq) with inStream := none })

/-- The stream ends with an answer to its opening. -/
def State.answerStream (s : State) (t : Nat) (w : InStream) (status : Nat) (ws : List Word) : State :=
  (s.endStream t w).finish t w.pkt.req.seq status ws

/-- Object 0x01: the written copy replaces the staged image (R466). -/
def State.writeConfig (s : State) (t : Nat) (w : InStream) : State :=
  if s.cfg.lock ≠ some t then
    match s.cfg.lock with
    | some h => s.answerStream t w stHeld [w32 h]
    | none => s.answerStream t w stNoLock []
  else if w.offset ≠ 0 then s.answerStream t w stOutOfRange []
  else
    match parseConfig w.words with
    | .bad st w2 => s.answerStream t w st [w2]
    | .good m =>
      (s.modCfg (fun g => { g with staged := m, stagedWhole := true })).answerStream t w stOk [w32 w.count]

/-- Object 0x02: a partition's image (R197). A stream that begins past word 0 goes on with the words of the
streams before it (log entry 21). -/
def State.writeImage (s : State) (t : Nat) (w : InStream) : State :=
  let p := w.inst
  let st := (s.part p).state
  let ws := layOver (s.part p).imgBuf w.offset w.words
  if !s.runsPlant then s.answerStream t w stNotActive []
  else if st ≠ .stopped ∧ st ≠ .faulted then s.answerStream t w (stRejected 0x12) []
  else if !partImageOk ws (s.partKind p) (s.parN 0x03 p 6) then
    (s.modPart p (fun x => { x with imgBuf := ws })).answerStream t w (stRejected 0x11) []
  else
    let s1 := s.modPart p (fun x => { x with image := some (partImage ws), imgBuf := [] })
    if s1.standbyThere then
      ((s1.endStream t w).modPair (fun q => { q with imgWaits := q.imgWaits ++ [(p, t, w.pkt.req.seq, w.count)] })).emit
        (.agfin "IMAGE" (w32 p :: ws))
    else s1.answerStream t w stOk [w32 w.count]

/-- What is wrong with a firmware image that has been written, in the order of R391 (R392). -/
def State.fwDetail (s : State) (ws : List Word) (c : BulkCheck) : Option Nat :=
  let x : FwSlot := { words := ws }
  if ws.getD 0 0 ≠ 0x4B460001 ∨ ws.length ≠ 64 + (ws.getD 4 0).toNat ∨ s.ident.hwRev < FwSlot.hwMin x then some 0x22
  else if FwSlot.rollback x < s.ident.antiRollback then some 0x21
  else if !c.hashOk || !c.sigOk then some 0x20
  else none

/-- Object 0x06: the slot that was not booted; slot 0 where none was (R392, R394). -/
def State.writeFirmware (s : State) (t : Nat) (w : InStream) (c : BulkCheck) : State :=
  let k := if s.ident.recovery then 0 else 1 - s.ident.booted
  let ws := layOver (s.fwSlot k).words w.offset w.words
  match s.fwDetail ws c with
  | some d => (s.setFwSlot k { state := .empty, words := ws }).answerStream t w (stRejected d) []
  | none =>
    (s.setFwSlot k { state := .inactive, words := ws, hashGood := true, sigGood := true }).answerStream t w stOk [w32 w.count]

/-- The bytes of words, the first in [31:24]. -/
def bytesOf (ws : List Word) : List Byte := ws.flatMap (fun w => [byteOf w 3, byteOf w 2, byteOf w 1, byteOf w 0])

/-- Object 0x07: the operator certificate (R389). -/
def State.writeCert (s : State) (t : Nat) (w : InStream) (c : BulkCheck) : State :=
  if !c.parses || !c.onP384 || !c.keyMatches then s.answerStream t w (stRejected 0x23) []
  else
    ({ s with ident := { s.ident with
        operatorCert := some (bytesOf (layOver (wordsOfCert (s.ident.operatorCert.getD [])) w.offset w.words)) } }).answerStream t w
      stOk [w32 w.count]

/-- After LAST the object is checked and written (R167). -/
def State.writeObject (s : State) (t : Nat) (w : InStream) (c : BulkCheck) : State :=
  match w.object with
  | 1 => s.writeConfig t w
  | 2 => s.writeImage t w
  | 6 => s.writeFirmware t w c
  | _ => s.writeCert t w c

/-- The words of a continuation are absorbed: too many, or too few at LAST, refuse the stream (R167). -/
def State.absorb (s : State) (t : Nat) (w : InStream) (r : Req) (c : BulkCheck) : State :=
  let ws := w.words ++ r.payload
  let w1 : InStream := { w with words := ws }
  if w.count < ws.length ∨ (flLast r.flags = true ∧ ws.length < w.count) then s.answerStream t w stBulkSequence []
  else if flLast r.flags then s.writeObject t w1 c
  else s.modTenant t (fun x => { x with inStream := some w1 })

/-- A packet leaves the queue without executing: its credit returns. -/
def State.dropHead (s : State) (t : Nat) : State :=
  if (s.tenant t).queued.isEmpty then s else (s.modTenant t (fun x => { x with queued := x.queued.tail })).creditBack t

/-- A continuation at the head of the queue (R167). -/
def State.takeContinuation (s : State) (t : Nat) (p : Packet) (c : BulkCheck) : State :=
  match (s.tenant t).inStream with
  | some w =>
    if w.pkt.req.seq = p.req.seq then (s.dropHead t).absorb t w p.req c
    else if (s.tenant t).ended.contains p.req.seq then s.dropHead t
    else (s.startHead t p).finish t p.req.seq stBulkSequence []
  | none =>
    if (s.tenant t).ended.contains p.req.seq then s.dropHead t
    else (s.startHead t p).finish t p.req.seq stBulkSequence []

/-- The packet of a continuation, as it comes from outside. -/
def bulkPacket (r : Req) : Packet := { opcode := 0x0111, length := r.payload.length, req := r }

/-- A continuation comes into the tenant's queue from outside, where it is not yet there and a credit is free (R162). -/
def State.queueContinuation (s : State) (t : Nat) (r : Req) : State :=
  if (s.tenant t).queued.any (fun p => sameRequest p 0x0111 r) || !s.canSubmit t || decide ((s.tenant t).credits = 0) then s
  else (s.enqueue t (bulkPacket r)).modTenant t (fun x => Tenant.carries x s.now)

/-- The packet at the head of the tenant's queue is that of the request. -/
def State.headIs (s : State) (t : Nat) (r : Req) : Option Packet :=
  match (s.tenant t).queued with
  | p :: _ => if sameRequest p 0x0111 r then some p else none
  | [] => none

/-- BULK_WRITE_CONTINUATION (R167): a continuation, a stray one of an ended stream, or one with no stream. It
waits behind an earlier packet of the queue; an opening is the row BULK_WRITE. -/
def execBulkWriteContinuation (t : Fin 16) (r : Req) (chk : BulkCheck) (s : State) : Outcome :=
  evt s r.time (fun s =>
    if !s.takesPackets || !s.notOpening t r then s
    else
      let s1 := s.queueContinuation t r
      match s1.headIs t r with
      | none => s1
      | some p =>
        if s1.power.keeper == .starting && !s1.inRecovery then (s1.startHead t p).finish t r.seq stStarting []
        else (s1.takeContinuation t p chk).drain 32 t)

end Sys2Proof.Machine
end

