-- ==== Sys2Proof/Machine/PairMirror.lean ====
section
/-! DEFINITION. Mirroring as the follower receives it, tile resynchronisation, the take-up of images, and the
takeover (R246 to R248, R251 to R256). -/

namespace Sys2Proof.Machine

/-! ## Applying a set (R251, R252) -/

/-- A string of the Keeper set. A trip of the own Matrix is not undone by a state that the trip overtakes. -/
def State.applyString (s : State) (x : StrMirror) : State :=
  let own := (s.str x.chain).state
  let later := x.state == .closing || x.state == .closed || x.state == .opening
  if own == .tripped && later then s
  else s.modStr x.chain (fun y =>
    { y with state := x.state, firstCause := x.firstCause, action := x.action, lastContactor := x.contactor
             openingAt := x.openingAt, purge := y.purge && x.state == .tripped })

/-- A balancing mask of the Keeper set reaches the tile with its effective tick (R107, R133). -/
def State.applyMask (s : State) (m : Nat × Nat × Nat × Nat × Nat) : State :=
  s.modTile m.1 (fun x =>
    { x with bleed := x.bleed.modify m.2.1 (fun b =>
        if b.hist.head? = some m.2.2 then b
        else { hist := (m.2.2 :: b.hist.filter (fun e => decide (e.1 ≤ m.2.2.1))).take 6 }) })

/-- An impedance start of the Keeper set reaches the tile (R98, R107). -/
def State.applyImped (s : State) (m : Nat × Nat × ImpRun) : State :=
  s.modTile m.1 (fun x =>
    { x with imped := x.imped.modify m.2.1 (fun r =>
        match r with
        | some own =>
          if own.tick0 = m.2.2.tick0 then some { own with stopAt := m.2.2.stopAt }
          else some { m.2.2 with sumE2 := 0, sumV := 0, sumT := 0, n := 0 }
        | none => some { m.2.2 with sumE2 := 0, sumV := 0, sumT := 0, n := 0 }) })

/-- The Keeper set as the follower holds it from now on. A VERIFY decision ends a verification that its own message has not
ended yet. -/
def State.applyKeeper (s : State) (m : KeeperMirror) : State :=
  let s1 := forEach m.strings s (fun s x => s.applyString x)
  let s2 := forEach (List.range 8) s1 (fun s g =>
    s.modGroup g (fun x =>
      { x with
        grant := (m.grants.find? (fun e => e.1 == g)).map (fun e => e.2)
        pub := match m.groups.find? (fun e => e.1 == g) with | some e => e.2 | none => x.pub
        ramp := match m.ramps.find? (fun e => e.1 == g) with | some e => e.2 | none => x.ramp }))
  let s3 := s2.modDisp (fun d => { d with nextGrant := m.nextGrant, ovr := m.ovr, ovrAt := if m.ovr == d.ovr then d.ovrAt else s.now })
  let s4 := forEach m.ptoLatches s3 (fun s e => s.modPto e.1 (fun p => { p with latched := e.2 }))
  let s5 := forEach m.masks s4 (fun s e => s.applyMask e)
  let s6 := forEach m.decisions s5 (fun s e =>
    if (s.chain e.1).verify.isSome then s.takeDecision e.1 e.2.1 e.2.2 else s)
  (forEach m.imped s6 (fun s e => s.applyImped e)).syncPtos

/-- A partition set: its state, cycle number and force list show; its retained region is committed to the
own store at the pace of SCAN_RETAIN_MS (R252). -/
def State.applyPart (s : State) (p : Nat) (m : PartMirror) : State :=
  s.modPart p (fun x =>
    let copy := Memory.load [] m.retained
    let store := decide (x.retAt + s.parN 0x03 p 0x22 * 1000000 ≤ s.now) && copy != Part.retained x
    { x with
      state := m.state, sysCycle := m.cycle, forces := m.forces
      retA := if store && x.retCurB then copy else x.retA
      retB := if store && !x.retCurB then copy else x.retB
      retCurB := if store then !x.retCurB else x.retCurB
      retAt := if store then s.now else x.retAt })

/-- The loop and valve records show in the status of a module that does not run the plant (R285): a slot of a
record is in RUN at the record's values, any other slot is OFF, and a port has the record's index. -/
def State.applyLoops (s : State) (m : LoopMirror) : State :=
  let s1 := forEach (List.range 64) s (fun s i =>
    match m.slots.find? (fun q => q.slot == i) with
    | some q => s.modLoop i (fun x =>
        { x with
          state := .run, i := q.integ, d := q.d, notch := q.notch, r := q.r, rOut := q16 q.r, v := q.v, a := q.a,
          at_ := q.sample })
    | none => s.modLoop i (fun x => { x with state := .off }))
  forEach m.valves s1 (fun s v => s.modValve v.1 (fun x => { x with phase := v.2 }))

/-- A set's content has become current. -/
def State.applyBody (s : State) (b : MirrorBody) : State :=
  match b with
  | .part p m => s.applyPart p m
  | .keeper m => s.applyKeeper m
  | .loops m => s.applyLoops m

/-- Change what is kept of a set. -/
def State.modSet (s : State) (k : Nat) (f : MirrorSet → MirrorSet) : State :=
  s.modPair (fun p => { p with sets := p.sets.modify k f })

/-- A delta whose base is the last applied number becomes current (R251). -/
def State.applyDelta (s : State) (d : Delta) : State :=
  let body := Delta.apply d (s.pair.sets.get d.body.set).current
  (s.modSet d.body.set (fun m => { m with last := d.num, current := some body })).applyBody body

/-- The base was never received: a snapshot is requested, and what follows it is kept (R251). -/
def State.baseMissing (s : State) (k : Nat) : State :=
  (s.modSet k (fun m => { m with missing := true, asked := true, kept := [] })).emit (.agfin "SNAPSHOT_REQUEST" [w32 k])

/-- MIRROR_DELTA_RECEIVED (R251). A delta that does not check is lost. -/
def execMirrorDeltaReceived (d : Delta) (crcOk : Bool) (time : Nat) (s : State) : Outcome :=
  evt s time (fun s =>
    let k := d.body.set
    let m := s.pair.sets.get k
    if !s.follows || !s.linkUp || !crcOk || d.crc != blocksCrc d.blocks || decide (13 < k) || (decide (k < 12) && s.pair.mode == 2) then s
    else if m.snapped && !m.missing then
      (if d.base = m.last then (s.applyDelta d).settleRole else (s.baseMissing k).settleRole)
    else if m.asked then s.modSet k (fun m => { m with kept := m.kept ++ [d] })
    else s)

/-- The kept deltas whose bases follow on from a snapshot are applied (R251). -/
def State.applyKept (s : State) (l : List Delta) : State :=
  forEach l s (fun s d => if d.base = (s.pair.sets.get d.body.set).last then s.applyDelta d else s)

/-- SNAPSHOT_RECEIVED (R251, R256): the whole set lands, and the kept deltas follow. In Newt mode a
partition's snapshot is kept for the takeover. -/
def execSnapshotReceived (num : Nat) (body : MirrorBody) (time : Nat) (s : State) : Outcome :=
  evt s time (fun s =>
    let k := body.set
    if !s.follows || !s.linkUp || decide (13 < k) then s
    else
      let kept := (s.pair.sets.get k).kept
      let s1 := (s.modSet k (fun m =>
        { m with last := num, current := some body, snapped := true, missing := false, asked := false, kept := [] })).applyBody body
      let s2 := match body with
        | .part p m => if s.pair.mode = 2 then s1.modPair (fun q => { q with newts := q.newts.set p (some m) }) else s1
        | _ => s1
      (s2.applyKept kept).settleRole)

/-- SNAPSHOT_REQUEST_RECEIVED (R251). -/
def execSnapshotRequestReceived (set : Fin 14) (time : Nat) (s : State) : Outcome :=
  evt s time (fun s => s.sendSnapshot set)

/-- NEWT_SNAPSHOT (R256): each second, of every partition at a cycle end: now, or at the end of the cycle that runs. -/
def execNewtSnapshot (time : Nat) (s : State) : Outcome :=
  evt s time (fun s =>
    if s.pair.mode = 2 then
      forEach (List.range 12) s (fun s p =>
        if !s.parB 0x03 p 0 then s
        else if (s.part p).inCycle then s.modPart p (fun x => { x with newtDue := true })
        else s.sendSnapshot p)
    else s)

/-- KEEPER_MIRROR_POINT (R252): +1.700 ms of each tick. The decisions it carries are sent once. -/
def execKeeperMirrorPoint (s : State) : Outcome :=
  evtOff s 700000 (fun s =>
    if s.keeperUp then
      ({ s.sendDelta 12 with chains := s.chains.map (fun (e : Nat × Chain) => (e.1, { e.2 with decided := none })) }).keeperIdle
    else s)

/-! ## Twin estimators (R108, R254) -/

/-- DIGEST_RECEIVED (R108, R254): the tiles that hold the same tick's digest are compared. -/
def execDigestReceived (tick : Nat) (digests : List Word) (time : Nat) (s : State) : Outcome :=
  evt s time (fun s =>
    if s.single || !s.linkUp || tick % 1000 ≠ 0 then s
    else
      (forEach (List.range 64) s (fun s c =>
        let x := s.tile c
        let theirs := digests.getD c 0
        if !s.inService c || !s.tileWorks c || x.tick ≠ tick + 1 then s
        else if x.digest = theirs then s.modTile c (fun x => { x with mismatch := false })
        else
          let s1 := (s.modTile c (fun x => { x with mismatch := true })).record 0x11 0x02 c
            [hiWord tick, loWord tick, x.digest, theirs]
          s1.modPair (fun p => { p with resynced := p.resynced.filter (fun k => k != c) }))).settleRole)

/-- RESYNC_REQUEST_RECEIVED (R254): tick m is the first whose edge lies at least 2 ms ahead. -/
def execResyncRequestReceived (c : Fin 64) (time : Nat) (s : State) : Outcome :=
  evt s time (fun s =>
    if s.single || !s.runsPlant || !s.linkUp || !s.inService c || !s.tileWorks c then s
    else
      s.modTile c (fun x =>
        { x with resync := some ((s.now + 2999999) / 1000000, (List.range (s.chPositions c)).map (· + 1)) }))

/-- RESYNC_SLOTS_RECEIVED (R254): installed after the own update of that tick, or kept until then. -/
def execResyncSlotsReceived (c : Fin 64) (p : Nat) (tick : Nat) (slots : List Slot) (time : Nat) (s : State) : Outcome :=
  evt s time (fun s =>
    match (s.tile c).resync with
    | none => s
    | some (_, ps) =>
      if !s.follows || !s.linkUp || !ps.contains p then s
      else
        let s1 := s.modTile c (fun x => { x with resync := some (tick, ps) })
        if tick < Tile.nextOf (s.tile c) p then (((s1.installSlots c p slots).catchUp c p)).settleRole
        else s1.modTile c (fun x => { x with resyncWait := (p, tick, slots) :: x.resyncWait.filter (fun w => w.1 != p) }))

/-! ## Images (R176, R197, R255) -/

/-- PARTNER_IMAGE_RECEIVED (R176, R197, R255): an image of the running module. At take-up it replaces the own
one and is recorded; a commit's or a write's image is acknowledged. -/
def execPartnerImageReceived (image : PartnerImage) (atTakeup : Bool) (time : Nat) (s : State) : Outcome :=
  evt s time (fun s =>
    if !s.follows || !s.linkUp then s
    else
      match image with
      | .config c =>
        let g : CfgCopy := { c with crcGood := true, checkGood := true }
        let s1 := s.modCfg (fun x =>
          { x with
            copyA := g, copyB := g, generation := c.generation, commitTime := c.time, commitTenant := c.tenant
            due := if atTakeup then [] else x.due ++ [(effectiveTick c.time, c.params)], fallback := false })
        if atTakeup then
          (((s1.takeActive c.params).modPair (fun p => { p with cfgTakeup := false })).record 0x02 0x05 127 s1.genWords).settleRole
        else s1.emit (.agfin "ACK" [0])
      | .part p im =>
        let s1 := s.modPart p (fun x => { x with image := some im })
        if atTakeup then
          let differs := (List.range 12).any (fun k => s1.pair.partnerBlock.images.getD k 0 != imageMark (s1.part k).image)
          ((s1.modPair (fun q => { q with imageTakeup := differs })).record 0x02 0x05 127 s1.genWords).settleRole
        else s1.emit (.agfin "ACK" [w32 (p.val + 1)]))

/-! ## Takeover (R246 to R248) -/

/-- The decision may be made: GIVE_UP and 60 µs of silence, or 500 µs without the pulse (R246). -/
def State.takeoverDue (s : State) : Bool :=
  s.follows &&
  ((match s.pair.giveUpSeen with | some a => decide (a + 60000 ≤ s.now) | none => false) || s.pair.absentAt.isSome)

/-- The lock of the module that ran the plant, or the own one, is broken (R177, R178). -/
def State.takeoverLock (s : State) (held : Bool) : State :=
  let s1 := s.breakLock 3
  if held then s1.modCfg (fun c => { c with broken := match c.broken with | some d => some d | none => some 3 }) else s1

/-- The mirrored Keeper set, where it is current. -/
def State.keeperSet (s : State) : Option KeeperMirror :=
  let m := s.pair.sets.get 12
  match m.current with
  | some (.keeper k) => if m.snapped && !m.missing then some k else none
  | _ => none

/-- A string's state from the head's STATUS (R248): TRIPPED, CLOSED, OPEN, or half closed, which opens (R129). -/
def State.stringFromHead (s : State) (c : Nat) : State :=
  match (s.chain c).lastFrame.get 1 with
  | none => s
  | some f =>
    let st := frameStatus f
    if (s.str c).state == .tripped || bitOf st 23 then s.modStr c (fun x => { x with state := .tripped })
    else if driverBits st = 6 then s.modStr c (fun x => { x with state := .closed, lastContactor := some 6 })
    else if driverBits st = 0 then s.modStr c (fun x => { x with state := .open_, lastContactor := some 0 })
    else (s.modStr c (fun x => { x with state := .open_, seq := .none_ })).sendContactor c 0

/-- Keeper state without a current mirror is rebuilt from the plant (R248). -/
def State.rebuildKeeper (s : State) : State :=
  let s1 := forEach (List.range 64) s (fun s c => if s.inService c then s.stringFromHead c else s)
  let s2 := forEach (List.range 8) s1 (fun s g => s.cutGrant g 2)
  s2.enterOvr (if s2.disp.eov then .armedInput else .normal)

/-- The sequences that were under way (R129): a CLOSING string runs the open sequence, an OPENING is completed; its
ramp and its 2 s run from its acceptance (R128, R144). -/
def State.resumeStrings (s : State) : State :=
  forEach (List.range 64) s (fun s c =>
    match (s.str c).state with
    | .closing => (s.dropContactor c).modStr c (fun x => { x with state := .opening, seq := .waitCurrent, openingAt := s.now })
    | .opening => s.modStr c (fun x => { x with seq := .waitCurrent })
    | _ => s)

/-- The chains go on from this module's end (R247 step 8). -/
def State.takeChains (s : State) : State :=
  forEach (List.range 64) s (fun s c =>
    (s.modChain c (fun x => { x with croak := x.croak || s.chEnabled c })).turnIfWhole c)

/-- The mirrored data region replaces the initial data even where it reads 0. -/
def dropMirrored (mem : Memory) (kib : Nat) : Memory := mem.restrict (fun a => decide (a < baseData ∨ baseData + kib * 1024 ≤ a))

/-- A partition from its mirror set, for a hot takeover: it runs on, with TAKEOVER in its first cycle (R247 step 6). -/
def State.hotPart (s : State) (p : Nat) (m : PartMirror) : State :=
  let runs := m.state == .run
  let x := s.part p
  let base := dropMirrored (Part.loaded x) (s.parN 0x40 (0x10 + p) 0)
  let keep := base.restrict (fun a => decide (a < baseRetain ∨ baseRetain + s.retainBytes p ≤ a))
  let mem := ([m.data, m.retained, m.output] : List Memory).foldl Memory.load keep
  let s1 := (s.resetView p).modPart p (fun x =>
    { (Part.afterReset x) with
      mem := mem, forces := m.forces, state := m.state, sysCycle := m.cycle, scanCount := m.cycle
      first := !runs, takeover := runs, outSafe := !runs, tRun := s.now, nextGrid := s.now, feedAt := s.now })
  let s2 := s1.setupView p
  if runs then s2.busCycle p true else s2

/-- The profile advances by the slot periods that have passed since the record; the integrator is held (R247 step 5). A sample
of this very instant is LOOP_SAMPLE's. -/
def State.profileAhead (fuel : Nat) (s : State) (i : Nat) : State :=
  match fuel with
  | 0 => s
  | n + 1 =>
    let x := s.loop i
    let per := s.loopPeriod i
    if x.at_ + per < s.now then
      let (r, v, a) := s.profile i
      State.profileAhead n (s.modLoop i (fun y => { y with r := r, v := v, a := a, at_ := y.at_ + per, move := s.nextMove i })) i
    else s

/-- An owned loop slot runs on from its record. -/
def State.hotSlot (s : State) (q : SlotRec) : State :=
  let i := q.slot
  let (y, ok) := s.feedback i s.now
  let s1 := s.modLoop i (fun x =>
    { x with
      state := .run, i := q.integ, d := q.d, notch := q.notch, r := q.r, v := q.v, a := q.a, at_ := q.sample
      y := if ok then y.val else x.y, u := s.loopDestValue i, fbInvalid := !ok, stopTarget := none
      move := none })
  State.profileAhead ((s.now - q.sample) / s.loopPeriod i + 1) s1 i

/-- The mirror body of partition p, where it is current. -/
def State.partSet (s : State) (p : Nat) : Option PartMirror :=
  let m := s.pair.sets.get p
  match m.current with
  | some (.part _ b) => if m.snapped && !m.missing then some b else none
  | _ => none

/-- The loop and valve records, where they are current. -/
def State.loopSet (s : State) : Option LoopMirror :=
  let m := s.pair.sets.get 13
  match m.current with
  | some (.loops b) => if m.snapped && !m.missing then some b else none
  | _ => none

/-- Owned loop slots and valve ports run on from their records (R247 step 5). -/
def State.hotLoops (s : State) : State :=
  match s.loopSet with
  | none => s
  | some b =>
    let a := forEach b.valves s (fun s v => s.modValve v.1 (fun x => { x with phase := v.2 }))
    forEach (b.slots.filter (fun q => decide (s.ownLoop q.slot < 12))) a (fun s q => s.hotSlot q)

/-- Partitions, slots and valves of a hot takeover, and the first output cycle (R247 steps 5 and 6). -/
def State.hotPlant (s : State) : State :=
  let s2 := forEach (List.range 12) s.hotLoops (fun s p =>
    if !s.parB 0x03 p 0 then s
    else match s.partSet p with
      | some m => s.hotPart p m
      | none => s)
  (s2.modPair (fun p => { p with outputAt := s.now, rampDown := none })).emit (.agfin "FIRST_OUTPUT" [])

/-- The retained and the mirrored data and the forces of a partition from the Newt's snapshot (R248). -/
def State.newtPart (s : State) (p : Nat) (m : PartMirror) : State :=
  s.modPart p (fun x =>
    let base := dropMirrored (x.mem.restrict (fun a => decide (a < baseRetain ∨ baseRetain + s.retainBytes p ≤ a)))
      (s.parN 0x40 (0x10 + p) 0)
    { x with
      forces := m.forces
      mem := ([m.data, m.retained] : List Memory).foldl Memory.load base })

/-- A partition that ran restarts with a partition reset: from its last Newt snapshot, or from the retained
region that this module's store holds (R248, R256). Its first cycle shows TAKEOVER (R218, R247). -/
def State.coldPart (s : State) (p : Nat) (newt : Bool) : State :=
  let snap := if newt then s.pair.newts.get p else none
  let ran := match (s.pair.sets.get p).current with
    | some (.part _ m) => m.state == .run || m.state == .starting || m.state == .held
    | _ => s.parB 0x03 p 0xA && (s.part p).image.isSome
  let s1 := s.partReset p
  let s2 := match snap with
    | none => s1
    | some m => s1.newtPart p m
  if ran && (s.part p).image.isSome then (s2.partStart p).modPart p (fun x => { x with takeover := true }) else s2

/-- Every enabled partition restarts. Slots and valve ports start from standstill (R248), in Newt mode they run on from their
records (R256, log entry 110). -/
def State.coldPlant (s : State) (newt : Bool) : State :=
  let s1 := forEach (List.range 12) s (fun s p => if s.parB 0x03 p 0 then s.coldPart p newt else s)
  let s2 := if newt then s1.hotLoops else forEach (List.range 64) s1 (fun s i => s.modLoop i (fun x => { x with cold := true }))
  (s2.modPair (fun p => { p with outputAt := s.now, rampDown := none })).emit (.agfin "FIRST_OUTPUT" [])

/-- The takeover: hot, into Newt, or cold (R242, R247, R248, R256). The lock is that of the Keeper set last applied completely
(R178). -/
def State.takeOver (s : State) : State :=
  let hot := s.pair.role == .standby && s.pair.mode != 2
  let cold := s.pair.role == .notReady
  let bits := s.unready
  let keeper := s.keeperSet
  let held := match (s.pair.sets.get 12).current with | some (.keeper k) => k.lockHeld | _ => false
  let s1 := (s.modPair (fun p =>
    { p with
      driving := true, confirmAt := s.now, giveUpSeen := none, absentAt := none, partnerPulse := false, frozen := none
      partner := if p.partner.isSome then some .offline else none })).emit (.hold true)
  let s2 := s1.setRole (if hot then .alone else .newt)
  let s3 := doIf cold s2 (fun s => s.record 0x40 0x02 127 [bits])
  let s4 := s3.takeoverLock held
  let s5 := (if keeper.isNone then s4.rebuildKeeper else s4).resumeStrings
  let s6 := s5.endResyncs
  let s7 := s6.takeChains
  let s8 := if hot then s7.hotPlant else s7.coldPlant (!cold)
  (s8.syncPtos).driveAllDo

/-- TAKEOVER_DECISION (R246). -/
def execTakeoverDecision (time : Nat) (s : State) : Outcome :=
  evt s time (fun s => if s.takeoverDue && s.keeperUp then s.takeOver else s)

end Sys2Proof.Machine
end

