-- ==== Sys2Proof/Machine/Tick.lean ====
section
/-! DEFINITION. The plant tick edge (R12): the slew of plant time, the runnings and domains that change at
the edge, and the recorder entries that a second of refusals or corrections makes. -/

namespace Sys2Proof.Machine

/-- A tick of slewing at 500 ppm takes 0.5 µs off the correction that remains (R13). -/
def slewed (d : Int) : Int := if 0 ≤ d then max 0 (d - 500) else min 0 (d + 500)

/-- The running second that began at `t` has ended. -/
def State.secondOver (s : State) (t : Nat) : Bool := decide (t + 1000000000 ≤ s.now)

/-- POOL_REFUSED: the refusals of a channel in its second (R172). -/
def State.noteRefusals (s : State) (ch : Nat) : State :=
  if s.pool.refused.get ch ≠ 0 && s.secondOver (s.pool.refusedAt.get ch) then
    ({ s with pool := { s.pool with refused := s.pool.refused.set ch 0, refusedAt := s.pool.refusedAt.set ch 0 } }).record
      0x01 0x06 ch [w32 (s.pool.refused.get ch)]
  else s

/-- ECC_CORRECTED: the corrections of a partition in its second (R195). -/
def State.noteCorrections (s : State) (p : Nat) : State :=
  if (s.part p).eccCount ≠ 0 && s.secondOver (s.part p).eccAt then
    (s.record 0x03 0x02 p [w32 (s.part p).eccCount]).modPart p (fun x => { x with eccCount := 0, eccAt := 0 })
  else s

/-- ERRTASK_ARITH: the flags that error tasks of a partition raised in its second (R224). -/
def State.noteErrors (s : State) (p : Nat) : State :=
  match (s.part p).errAt with
  | some a =>
    if s.secondOver a then
      (s.record 0x03 0x03 p [w32 (s.part p).errBits, w32 (s.part p).errCount]).modPart p
        (fun x => { x with errAt := none, errBits := 0, errCount := 0 })
    else s
  | none => s

/-- PLANT_TICK_EDGE (R12, R13): plant time reaches the next n × 1,000,000 ns; no tick is skipped or repeated. -/
def execPlantTickEdge (s : State) : Outcome :=
  let s0 : State := { s with now := (s.tickNo + 1) * 1000000, out := [] }
  let s1 := s0.modTime (fun t => { t with slew := slewed t.slew })
  if s1.power.state == .run && s1.keeperUp then
    let s2 := (forEach (List.range 64) s1 (fun s c => s.applyRunning c)).dropUnused
    let s3 := forEach (List.range 32) s2 (fun s ch => s.noteRefusals ch)
    .next (forEach (List.range 12) s3 (fun s p => (s.noteCorrections p).noteErrors p))
  else .next s1

end Sys2Proof.Machine
end

