-- ==== Sys2Proof/Machine/Dispatch.lean ====
section
/-! DEFINITION. The dispatch: one arm per command, each one direct call of its meaning. -/

namespace Sys2Proof.Machine

def exec (i : Instr) (s : State) : Host.Outcome State Fault Refusal :=
  match i with
  | .plantTickEdge => Sys2Proof.Machine.execPlantTickEdge s
  | .syncLaunch => Sys2Proof.Machine.execSyncLaunch s
  | .solicitLaunch => Sys2Proof.Machine.execSolicitLaunch s
  | .croakInsert => Sys2Proof.Machine.execCroakInsert s
  | .croakLoss c e time => Sys2Proof.Machine.execCroakLoss c e time s
  | .croakRestored c e time => Sys2Proof.Machine.execCroakRestored c e time s
  | .croakMapSend time => Sys2Proof.Machine.execCroakMapSend time s
  | .croakMapReceived map time => Sys2Proof.Machine.execCroakMapReceived map time s
  | .croakMapTimeout time => Sys2Proof.Machine.execCroakMapTimeout time s
  | .dataFrameReceived c e frame time => Sys2Proof.Machine.execDataFrameReceived c e frame time s
  | .agfinFrameReceived c frame time => Sys2Proof.Machine.execAgfinFrameReceived c frame time s
  | .worstCellRecord c => Sys2Proof.Machine.execWorstCellRecord c s
  | .tripRepeat c time => Sys2Proof.Machine.execTripRepeat c time s
  | .tileCutoff c => Sys2Proof.Machine.execTileCutoff c s
  | .tickSummaryFlip => Sys2Proof.Machine.execTickSummaryFlip s
  | .keeperMirrorPoint => Sys2Proof.Machine.execKeeperMirrorPoint s
  | .dispatchPublish => Sys2Proof.Machine.execDispatchPublish s
  | .silentMonitor c p => Sys2Proof.Machine.execSilentMonitor c p s
  | .silentMonitorTrip c time => Sys2Proof.Machine.execSilentMonitorTrip c time s
  | .blindTimeout c time => Sys2Proof.Machine.execBlindTimeout c time s
  | .trackingEcho e => Sys2Proof.Machine.execTrackingEcho e s
  | .echoReturned c e etag rtNs time => Sys2Proof.Machine.execEchoReturned c e etag rtNs time s
  | .echoLost c etag time => Sys2Proof.Machine.execEchoLost c etag time s
  | .cmdWindow => Sys2Proof.Machine.execCmdWindow s
  | .respReceived c ctag src rcode data crc time => Sys2Proof.Machine.execRespReceived c ctag src rcode data crc time s
  | .respTimeout c ctag time => Sys2Proof.Machine.execRespTimeout c ctag time s
  | .relayedCmdReceived c ctag dest opc params time => Sys2Proof.Machine.execRelayedCmdReceived c ctag dest opc params time s
  | .keepBroadcast time => Sys2Proof.Machine.execKeepBroadcast time s
  | .enumReceived c nextPos time => Sys2Proof.Machine.execEnumReceived c nextPos time s
  | .enumTimeout c time => Sys2Proof.Machine.execEnumTimeout c time s
  | .chainEnterService c => Sys2Proof.Machine.execChainEnterService c s
  | .startTimeWaitExpiry time => Sys2Proof.Machine.execStartTimeWaitExpiry time s
  | .verifyGraceEnd c time => Sys2Proof.Machine.execVerifyGraceEnd c time s
  | .verifyStandbyTimeout c time => Sys2Proof.Machine.execVerifyStandbyTimeout c time s
  | .verifyDecisionReceived c hold reason time => Sys2Proof.Machine.execVerifyDecisionReceived c hold reason time s
  | .healCheckEcho c time => Sys2Proof.Machine.execHealCheckEcho c time s
  | .prechargeStart c time => Sys2Proof.Machine.execPrechargeStart c time s
  | .prechargeFail c time => Sys2Proof.Machine.execPrechargeFail c time s
  | .closePreOff c time => Sys2Proof.Machine.execClosePreOff c time s
  | .openTimeout c time => Sys2Proof.Machine.execOpenTimeout c time s
  | .openFinal c time => Sys2Proof.Machine.execOpenFinal c time s
  | .balEvaluate c time => Sys2Proof.Machine.execBalEvaluate c time s
  | .impedSequenceEnd c p => Sys2Proof.Machine.execImpedSequenceEnd c p s
  | .zoneEvaluate time => Sys2Proof.Machine.execZoneEvaluate time s
  | .zoneTambTimeout z time => Sys2Proof.Machine.execZoneTambTimeout z time s
  | .grantEnd g => Sys2Proof.Machine.execGrantEnd g s
  | .eovAssert time => Sys2Proof.Machine.execEovAssert time s
  | .eovRelease time => Sys2Proof.Machine.execEovRelease time s
  | .overrideLapse time => Sys2Proof.Machine.execOverrideLapse time s
  | .overrideEndingEnd time => Sys2Proof.Machine.execOverrideEndingEnd time s
  | .overrideRecord time => Sys2Proof.Machine.execOverrideRecord time s
  | .cwTxdataWrite p w => Sys2Proof.Machine.execCwTxdataWrite p w s
  | .cwTxcommitSubmit p time => Sys2Proof.Machine.execCwTxcommitSubmit p time s
  | .cwTxcommitDiscard p => Sys2Proof.Machine.execCwTxcommitDiscard p s
  | .cwRxdataRead p => Sys2Proof.Machine.execCwRxdataRead p s
  | .cwResetWrite p time => Sys2Proof.Machine.execCwResetWrite p time s
  | .bulkReplyPacket t => Sys2Proof.Machine.execBulkReplyPacket t s
  | .replyAcked t => Sys2Proof.Machine.execReplyAcked t s
  | .tlsSessionOpen port fp issuerOk time => Sys2Proof.Machine.execTlsSessionOpen port fp issuerOk time s
  | .tlsSessionEnd t => Sys2Proof.Machine.execTlsSessionEnd t s
  | .tlsIdleTimeout t time => Sys2Proof.Machine.execTlsIdleTimeout t time s
  | .sysIdent t r => Sys2Proof.Machine.execSysIdent t r s
  | .sysState t r => Sys2Proof.Machine.execSysState t r s
  | .sysReset t r boot => Sys2Proof.Machine.execSysReset t r boot s
  | .poolAudit t r => Sys2Proof.Machine.execPoolAudit t r s
  | .bulkRead t r => Sys2Proof.Machine.execBulkRead t r s
  | .bulkWrite t r => Sys2Proof.Machine.execBulkWrite t r s
  | .bulkWriteContinuation t r chk => Sys2Proof.Machine.execBulkWriteContinuation t r chk s
  | .bulkCancelReply t r => Sys2Proof.Machine.execBulkCancelReply t r s
  | .bulkCancelWrite t r => Sys2Proof.Machine.execBulkCancelWrite t r s
  | .paramRead t r => Sys2Proof.Machine.execParamRead t r s
  | .paramWrite t r => Sys2Proof.Machine.execParamWrite t r s
  | .tenantList t r => Sys2Proof.Machine.execTenantList t r s
  | .cfgBegin t r => Sys2Proof.Machine.execCfgBegin t r s
  | .cfgCommit t r writeA writeB evalOk => Sys2Proof.Machine.execCfgCommit t r writeA writeB evalOk s
  | .cfgAbort t r => Sys2Proof.Machine.execCfgAbort t r s
  | .cfgStatus t r => Sys2Proof.Machine.execCfgStatus t r s
  | .partnerAck part time => Sys2Proof.Machine.execPartnerAck part time s
  | .configEffectiveTick => Sys2Proof.Machine.execConfigEffectiveTick s
  | .budgetFault p pc time => Sys2Proof.Machine.execBudgetFault p pc time s
  | .geckoExpiry p pc time => Sys2Proof.Machine.execGeckoExpiry p pc time s
  | .memFault p addr time => Sys2Proof.Machine.execMemFault p addr time s
  | .arithFault p pc op time => Sys2Proof.Machine.execArithFault p pc op time s
  | .eccFault p pc time => Sys2Proof.Machine.execEccFault p pc time s
  | .eccCorrected p time => Sys2Proof.Machine.execEccCorrected p time s
  | .partRestart p time => Sys2Proof.Machine.execPartRestart p time s
  | .partStatus t r => Sys2Proof.Machine.execPartStatus t r s
  | .partReset t r => Sys2Proof.Machine.execPartReset t r s
  | .partImageInfo t r => Sys2Proof.Machine.execPartImageInfo t r s
  | .evfSourceEvent v src time => Sys2Proof.Machine.execEvfSourceEvent v src time s
  | .evfClaimRead v => Sys2Proof.Machine.execEvfClaimRead v s
  | .evfCompleteWrite v w time => Sys2Proof.Machine.execEvfCompleteWrite v w time s
  | .evfSetenWrite v bank w => Sys2Proof.Machine.execEvfSetenWrite v bank w s
  | .evfClrenWrite v bank w => Sys2Proof.Machine.execEvfClrenWrite v bank w s
  | .evfSetpendWrite v bank w => Sys2Proof.Machine.execEvfSetpendWrite v bank w s
  | .evfClrpendWrite v bank w => Sys2Proof.Machine.execEvfClrpendWrite v bank w s
  | .registerWrite v addr bytes w time => Sys2Proof.Machine.execRegisterWrite v addr bytes w time s
  | .scanCycleStart p ops time => Sys2Proof.Machine.execScanCycleStart p ops time s
  | .scanCycleEnd p ops err execUs time => Sys2Proof.Machine.execScanCycleEnd p ops err execUs time s
  | .scanRun t r => Sys2Proof.Machine.execScanRun t r s
  | .scanRunCold t r => Sys2Proof.Machine.execScanRunCold t r s
  | .scanStop t r => Sys2Proof.Machine.execScanStop t r s
  | .scanHold t r => Sys2Proof.Machine.execScanHold t r s
  | .scanStep t r => Sys2Proof.Machine.execScanStep t r s
  | .scanResume t r => Sys2Proof.Machine.execScanResume t r s
  | .forceSet t r => Sys2Proof.Machine.execForceSet t r s
  | .forceClear t r => Sys2Proof.Machine.execForceClear t r s
  | .forceList t r => Sys2Proof.Machine.execForceList t r s
  | .scanStat t r => Sys2Proof.Machine.execScanStat t r s
  | .holdPulse time => Sys2Proof.Machine.execHoldPulse time s
  | .keeperConfirmTimeout time => Sys2Proof.Machine.execKeeperConfirmTimeout time s
  | .pulseSeen time => Sys2Proof.Machine.execPulseSeen time s
  | .pulseAbsent time => Sys2Proof.Machine.execPulseAbsent time s
  | .claimEnd time => Sys2Proof.Machine.execClaimEnd time s
  | .contention time => Sys2Proof.Machine.execContention time s
  | .ownPulseMissing time => Sys2Proof.Machine.execOwnPulseMissing time s
  | .partnerSenseAbsent time => Sys2Proof.Machine.execPartnerSenseAbsent time s
  | .laneDown lane time => Sys2Proof.Machine.execLaneDown lane time s
  | .laneUp lane time => Sys2Proof.Machine.execLaneUp lane time s
  | .controlBlockReceived b time => Sys2Proof.Machine.execControlBlockReceived b time s
  | .giveUp cause time => Sys2Proof.Machine.execGiveUp cause time s
  | .giveUpReceived cause time => Sys2Proof.Machine.execGiveUpReceived cause time s
  | .takeoverDecision time => Sys2Proof.Machine.execTakeoverDecision time s
  | .firstOutputReceived time => Sys2Proof.Machine.execFirstOutputReceived time s
  | .freezeTimeout time => Sys2Proof.Machine.execFreezeTimeout time s
  | .foldEnd time => Sys2Proof.Machine.execFoldEnd time s
  | .switchoverReturn time => Sys2Proof.Machine.execSwitchoverReturn time s
  | .mirrorDeltaReceived d crcOk time => Sys2Proof.Machine.execMirrorDeltaReceived d crcOk time s
  | .snapshotReceived num body time => Sys2Proof.Machine.execSnapshotReceived num body time s
  | .newtSnapshot time => Sys2Proof.Machine.execNewtSnapshot time s
  | .digestReceived tick digests time => Sys2Proof.Machine.execDigestReceived tick digests time s
  | .resyncSlotsReceived c p tick slots time => Sys2Proof.Machine.execResyncSlotsReceived c p tick slots time s
  | .hibernateReceived time => Sys2Proof.Machine.execHibernateReceived time s
  | .pairStatus t r => Sys2Proof.Machine.execPairStatus t r s
  | .pairSwitchover t r => Sys2Proof.Machine.execPairSwitchover t r s
  | .pairSetSide t r => Sys2Proof.Machine.execPairSetSide t r s
  | .pairResync t r => Sys2Proof.Machine.execPairResync t r s
  | .ptpMessageReceived port m time => Sys2Proof.Machine.execPtpMessageReceived port m time s
  | .announceTimeout time => Sys2Proof.Machine.execAnnounceTimeout time s
  | .ptpMasterSend port time => Sys2Proof.Machine.execPtpMasterSend port time s
  | .launchTimeDue port queue time => Sys2Proof.Machine.execLaunchTimeDue port queue time s
  | .ethFrameReceived port f time => Sys2Proof.Machine.execEthFrameReceived port f time s
  | .prpSupervision time => Sys2Proof.Machine.execPrpSupervision time s
  | .netLinkChange port up time => Sys2Proof.Machine.execNetLinkChange port up time s
  | .compareFire p u time => Sys2Proof.Machine.execCompareFire p u time s
  | .cmpNowLoRead p time => Sys2Proof.Machine.execCmpNowLoRead p time s
  | .cmpCtrlArm p u periodic long time => Sys2Proof.Machine.execCmpCtrlArm p u periodic long time s
  | .cmpCtrlDisarm p u periodic long => Sys2Proof.Machine.execCmpCtrlDisarm p u periodic long s
  | .timeStatus t r => Sys2Proof.Machine.execTimeStatus t r s
  | .netStatus t r => Sys2Proof.Machine.execNetStatus t r s
  | .timeSet t r => Sys2Proof.Machine.execTimeSet t r s
  | .netLaunch t r => Sys2Proof.Machine.execNetLaunch t r s
  | .loopSample slot time => Sys2Proof.Machine.execLoopSample slot time s
  | .loopFbTimeout slot time => Sys2Proof.Machine.execLoopFbTimeout slot time s
  | .injDurationEnd g time => Sys2Proof.Machine.execInjDurationEnd g time s
  | .valveUpdate v time => Sys2Proof.Machine.execValveUpdate v time s
  | .valveUplinkReceived v bits time => Sys2Proof.Machine.execValveUplinkReceived v bits time s
  | .valveLinkFault v time => Sys2Proof.Machine.execValveLinkFault v time s
  | .valveStill v time => Sys2Proof.Machine.execValveStill v time s
  | .loopRead t r => Sys2Proof.Machine.execLoopRead t r s
  | .loopCtrlRun t r => Sys2Proof.Machine.execLoopCtrlRun t r s
  | .loopCtrlTrack t r => Sys2Proof.Machine.execLoopCtrlTrack t r s
  | .loopCtrlStop t r => Sys2Proof.Machine.execLoopCtrlStop t r s
  | .injStart t r => Sys2Proof.Machine.execInjStart t r s
  | .injStop t r => Sys2Proof.Machine.execInjStop t r s
  | .traceArm t r => Sys2Proof.Machine.execTraceArm t r s
  | .traceTrigger t r => Sys2Proof.Machine.execTraceTrigger t r s
  | .traceStatus t r => Sys2Proof.Machine.execTraceStatus t r s
  | .valveRead t r => Sys2Proof.Machine.execValveRead t r s
  | .valvePosSet t r => Sys2Proof.Machine.execValvePosSet t r s
  | .fbEdge port levels time => Sys2Proof.Machine.execFbEdge port levels time s
  | .fbSample port serial time => Sys2Proof.Machine.execFbSample port serial time s
  | .fbIndexCapture port levels time => Sys2Proof.Machine.execFbIndexCapture port levels time s
  | .leapPulseEnd port time => Sys2Proof.Machine.execLeapPulseEnd port time s
  | .fbRead t r => Sys2Proof.Machine.execFbRead t r s
  | .fbPosSet t r => Sys2Proof.Machine.execFbPosSet t r s
  | .fbLeapArm t r => Sys2Proof.Machine.execFbLeapArm t r s
  | .fbLeapDisarm t r => Sys2Proof.Machine.execFbLeapDisarm t r s
  | .anaSample meas field time => Sys2Proof.Machine.execAnaSample meas field time s
  | .anaMiswireOpen ch time => Sys2Proof.Machine.execAnaMiswireOpen ch time s
  | .anaMiswireRetry ch time => Sys2Proof.Machine.execAnaMiswireRetry ch time s
  | .anaRead t r => Sys2Proof.Machine.execAnaRead t r s
  | .anaTest t r => Sys2Proof.Machine.execAnaTest t r s
  | .anaTestDone ch code4 code20 time => Sys2Proof.Machine.execAnaTestDone ch code4 code20 time s
  | .hartCmd t r => Sys2Proof.Machine.execHartCmd t r s
  | .hartReplyReceived ch respCode devStatus data sumOk time => Sys2Proof.Machine.execHartReplyReceived ch respCode devStatus data sumOk time s
  | .hartTimeout ch time => Sys2Proof.Machine.execHartTimeout ch time s
  | .diChange k level time => Sys2Proof.Machine.execDiChange k level time s
  | .doOverload k time => Sys2Proof.Machine.execDoOverload k time s
  | .doRetry k time => Sys2Proof.Machine.execDoRetry k time s
  | .doReadbackMismatch k time => Sys2Proof.Machine.execDoReadbackMismatch k time s
  | .vsupLow g time => Sys2Proof.Machine.execVsupLow g time s
  | .vsupRestored g time => Sys2Proof.Machine.execVsupRestored g time s
  | .digRead t r => Sys2Proof.Machine.execDigRead t r s
  | .canFrameReceived k f time => Sys2Proof.Machine.execCanFrameReceived k f time s
  | .canTxDone k o sof tdcNs time => Sys2Proof.Machine.execCanTxDone k o sof tdcNs time s
  | .canTxTimeout k o time => Sys2Proof.Machine.execCanTxTimeout k o time s
  | .canRecoveryDone k time => Sys2Proof.Machine.execCanRecoveryDone k time s
  | .objAckRead p k o => Sys2Proof.Machine.execObjAckRead p k o s
  | .canStatus t r => Sys2Proof.Machine.execCanStatus t r s
  | .canRecover t r => Sys2Proof.Machine.execCanRecover t r s
  | .canObjRead t r => Sys2Proof.Machine.execCanObjRead t r s
  | .safeCycle x => Sys2Proof.Machine.execSafeCycle x s
  | .safeTestPulse k readA readB => Sys2Proof.Machine.execSafeTestPulse k readA readB s
  | .safeSupplyLow => Sys2Proof.Machine.execSafeSupplyLow s
  | .safeSupplyBand entering volt => Sys2Proof.Machine.execSafeSupplyBand entering volt s
  | .safeStart selfTestOk volt => Sys2Proof.Machine.execSafeStart selfTestOk volt s
  | .safeStatusReport time => Sys2Proof.Machine.execSafeStatusReport time s
  | .safePartnerStatus time => Sys2Proof.Machine.execSafePartnerStatus time s
  | .safeStatus t r => Sys2Proof.Machine.execSafeStatus t r s
  | .safeConfirm t r => Sys2Proof.Machine.execSafeConfirm t r s
  | .safeStopReq t r answers => Sys2Proof.Machine.execSafeStopReq t r answers s
  | .powerOn boot volt => Sys2Proof.Machine.execPowerOn boot volt s
  | .keeperStart time => Sys2Proof.Machine.execKeeperStart time s
  | .adoptionEnd c => Sys2Proof.Machine.execAdoptionEnd c s
  | .cfgRepairWrite written time => Sys2Proof.Machine.execCfgRepairWrite written time s
  | .fwTrialConfirm time => Sys2Proof.Machine.execFwTrialConfirm time s
  | .defaultTripRepeat time => Sys2Proof.Machine.execDefaultTripRepeat time s
  | .defaultCommitReset boot time => Sys2Proof.Machine.execDefaultCommitReset boot time s
  | .cableTest c e load time => Sys2Proof.Machine.execCableTest c e load time s
  | .fwStatus t r => Sys2Proof.Machine.execFwStatus t r s
  | .fwActivate t r boot => Sys2Proof.Machine.execFwActivate t r boot s
  | .certRead t r => Sys2Proof.Machine.execCertRead t r s
  | .certClear t r => Sys2Proof.Machine.execCertClear t r s
  | .domainLost d pll time => Sys2Proof.Machine.execDomainLost d pll time s
  | .domainRetry d good time => Sys2Proof.Machine.execDomainRetry d good time s
  | .timeWheelFire d time => Sys2Proof.Machine.execTimeWheelFire d time s
  | .supplyLost x2 returned volt time => Sys2Proof.Machine.execSupplyLost x2 returned volt time s
  | .brownOut time => Sys2Proof.Machine.execBrownOut time s
  | .supplyRestored boot time => Sys2Proof.Machine.execSupplyRestored boot time s
  | .keeperWdt boot time => Sys2Proof.Machine.execKeeperWdt boot time s
  | .moduleFault kind boot time => Sys2Proof.Machine.execModuleFault kind boot time s
  | .thermRead sensors time => Sys2Proof.Machine.execThermRead sensors time s
  | .thermRestart boot time => Sys2Proof.Machine.execThermRestart boot time s
  | .hibernateWake by_ boot time => Sys2Proof.Machine.execHibernateWake by_ boot time s
  | .pwrStatus t r => Sys2Proof.Machine.execPwrStatus t r s
  | .pwrHibernate t r => Sys2Proof.Machine.execPwrHibernate t r s
  | .recStatus t r => Sys2Proof.Machine.execRecStatus t r s
  | .recClear t r => Sys2Proof.Machine.execRecClear t r s
  | .displayLatch time => Sys2Proof.Machine.execDisplayLatch time s
  | .dspCommitWrite p => Sys2Proof.Machine.execDspCommitWrite p s
  | .dispRead t r => Sys2Proof.Machine.execDispRead t r s
  | .dispTest t r => Sys2Proof.Machine.execDispTest t r s
  | .dispTestEnd time => Sys2Proof.Machine.execDispTestEnd time s
  | .chainEnumerate t r => Sys2Proof.Machine.execChainEnumerate t r s
  | .chainCmd t r => Sys2Proof.Machine.execChainCmd t r s
  | .chainFrameRead t r => Sys2Proof.Machine.execChainFrameRead t r s
  | .chainDiag t r => Sys2Proof.Machine.execChainDiag t r s
  | .estCellRead t r => Sys2Proof.Machine.execEstCellRead t r s
  | .estChainRead t r => Sys2Proof.Machine.execEstChainRead t r s
  | .estStringSummary t r => Sys2Proof.Machine.execEstStringSummary t r s
  | .estPlantSummary t r => Sys2Proof.Machine.execEstPlantSummary t r s
  | .estImpedStart t r => Sys2Proof.Machine.execEstImpedStart t r s
  | .estImpedResult t r => Sys2Proof.Machine.execEstImpedResult t r s
  | .estReinit t r => Sys2Proof.Machine.execEstReinit t r s
  | .estSlotRead t r => Sys2Proof.Machine.execEstSlotRead t r s
  | .protStatus t r => Sys2Proof.Machine.execProtStatus t r s
  | .stringClose t r => Sys2Proof.Machine.execStringClose t r s
  | .stringOpen t r => Sys2Proof.Machine.execStringOpen t r s
  | .stringOpenImmediate t r => Sys2Proof.Machine.execStringOpenImmediate t r s
  | .protReset t r => Sys2Proof.Machine.execProtReset t r s
  | .ptoStatus t r => Sys2Proof.Machine.execPtoStatus t r s
  | .balStatus t r => Sys2Proof.Machine.execBalStatus t r s
  | .zoneRead t r => Sys2Proof.Machine.execZoneRead t r s
  | .zoneTambWrite t r => Sys2Proof.Machine.execZoneTambWrite t r s
  | .dspRead t r => Sys2Proof.Machine.execDspRead t r s
  | .burstRequest t r => Sys2Proof.Machine.execBurstRequest t r s
  | .burstCancel t r => Sys2Proof.Machine.execBurstCancel t r s
  | .overrideStart t r => Sys2Proof.Machine.execOverrideStart t r s
  | .overrideEnd t r => Sys2Proof.Machine.execOverrideEnd t r s
  | .dspKeyWrite t r => Sys2Proof.Machine.execDspKeyWrite t r s
  | .dspStringRead t r => Sys2Proof.Machine.execDspStringRead t r s
  | .alwaysOnRailLoss => Sys2Proof.Machine.execAlwaysOnRailLoss s
  | .canBusError k err time => Sys2Proof.Machine.execCanBusError k err time s
  | .sliceBegin pair p time => Sys2Proof.Machine.execSliceBegin pair p time s
  | .hibernatePartnerTimeout time => Sys2Proof.Machine.execHibernatePartnerTimeout time s
  | .snapshotRequestReceived set time => Sys2Proof.Machine.execSnapshotRequestReceived set time s
  | .resyncRequestReceived c time => Sys2Proof.Machine.execResyncRequestReceived c time s
  | .partnerImageReceived image atTakeup time => Sys2Proof.Machine.execPartnerImageReceived image atTakeup time s
  | .echoResultsReceived c p rts tracking time => Sys2Proof.Machine.execEchoResultsReceived c p rts tracking time s
  | .fbForwardReceived port pos leap arm time => Sys2Proof.Machine.execFbForwardReceived port pos leap arm time s
  | .safePartnerStatusReceived words time => Sys2Proof.Machine.execSafePartnerStatusReceived words time s
  | .dspKeyReceived kind key => Sys2Proof.Machine.execDspKeyReceived kind key s
  | .hartSecondaryMasterFrame ch time => Sys2Proof.Machine.execHartSecondaryMasterFrame ch time s
  | .prpEntryForgotten time => Sys2Proof.Machine.execPrpEntryForgotten time s

end Sys2Proof.Machine
end

