-- ==== Sys2Proof/Safety.lean ====
section
/-! DEFINITION. What the claims of the whole module are stated in: the invariants that every command keeps,
and the frames of the groups of state. -/

namespace Sys2Proof.Machine

/-- The memories of every partition are in canonical form: no address twice, and no byte of 0 listed. -/
def State.memoriesCanonical (s : State) : Prop :=
  ∀ p : Nat, Memory.wf (s.part p).mem = true ∧ Memory.wf (s.part p).retA = true ∧ Memory.wf (s.part p).retB = true

/-- The frame pool loses no cell: free, in transit and held sum to 16,384 (R170, R173). -/
abbrev State.poolBalanced (s : State) : Prop :=
  s.pool.free + s.pool.transit + Pool.heldSum s.pool = 16384

/-- No Event Fabric view nests deeper than 16 (R209). -/
def State.stacksBounded (s : State) : Prop := ∀ v : Nat, (s.view v).stack.length ≤ 16

/-- No source of records holds more than eight that wait (R431). -/
def State.waitsBounded (s : State) : Prop := ∀ src : Nat, (s.recorder.waiting.get src).length ≤ 8

/-- The reply cache holds the last 32 requests, the ended list the last 4 streams (R165, R167). -/
def State.booksBounded (s : State) : Prop :=
  ∀ t : Nat, (s.tenant t).cache.length ≤ 32 ∧ (s.tenant t).ended.length ≤ 4

/-- Each tenant's credits, queued and executing requests and unread replies sum to 32 (R162). -/
def State.creditsBalanced (s : State) : Prop :=
  ∀ t : Nat, (s.tenant t).credits + (s.tenant t).queued.length + (s.tenant t).executing.length +
    (s.tenant t).unread.length = 32

/-- The invariant of the module. -/
def State.Sound (s : State) : Prop :=
  s.memoriesCanonical ∧ s.poolBalanced ∧ s.stacksBounded ∧ s.waitsBounded ∧ s.booksBounded ∧ s.creditsBalanced

/-! ## Requests -/

/-- Tenant t may submit, has a credit and nothing in hand, it is its turn, and the SEQ is new; the Keeper answers
(R158 to R165). -/
abbrev State.Ready (s : State) (t : Fin 16) (r : Req) : Prop :=
  s.power.state = .run ∧ s.keeperUp = true ∧ s.inRecovery = false ∧ s.canSubmit t = true ∧
  s.hisTurn t = true ∧ 0 < (s.tenant t).credits ∧ (s.tenant t).queued = [] ∧ (s.tenant t).executing = [] ∧
  (s.tenant t).outStream = none ∧ (s.tenant t).cache.all (fun e => e.seq != r.seq) = true

/-- The tenant holds the role that the opcode asks for, and no flag is set (R156, R158). -/
abbrev State.Allows (s : State) (t : Fin 16) (r : Req) (role : Nat) : Prop := role ≤ s.tntRole t ∧ r.flags = 0

/-- The tenant's next unread reply after those it had is the request's, OK, with these words (R155, R162). -/
abbrev Replied (s : State) (t : Fin 16) (r : Req) (ws : List Word) (u : State) : Prop :=
  (u.tenant t).unread = (s.tenant t).unread ++
    [{ words := replyWords { status := stOk, seq := r.seq, tag := r.tag, payload := ws } }]

/-- The tenant's next unread reply is the first packet of a bulk read of these words: up to 255 of them, with
BULK, and LAST where they are all (R166). -/
abbrev RepliedBulk (s : State) (t : Fin 16) (r : Req) (ws : List Word) (u : State) : Prop :=
  (u.tenant t).unread = (s.tenant t).unread ++
    [{ words := replyWords { status := stOk, flags := if ws.length ≤ 255 then 3 else 1, seq := r.seq, tag := r.tag,
                             payload := ws.take 255 } }]

/-- The command completes with a state of which P holds. -/
def Completes (i : Instr) (s : State) (P : State → Prop) : Prop := ∃ u, exec i s = .next u ∧ P u

/-- Every ready request of an opcode row, allowed in the role, n words long and of which H holds, completes
with a state of which P holds. -/
def Runs (i : Fin 16 → Req → Instr) (role n : Nat) (H : State → Fin 16 → Req → Prop)
    (P : State → Fin 16 → Req → State → Prop) : Prop :=
  ∀ (s : State) (t : Fin 16) (r : Req), s.Ready t r → s.Allows t r role → r.payload.length = n → H s t r →
    Completes (i t r) s (P s t r)

/-- The command faults partition p with a class at an address, and the restart is set where PART_FAULT_RESTART
asks for it (R199). -/
def FaultsPart (i : Instr) (s : State) (p : Fin 12) (cls : Nat) (addr : Word) (time : Nat) : Prop :=
  Completes i s (fun u => (u.part p).state = .faulted ∧ (u.part p).fault = cls ∧ (u.part p).faultPc = addr.toNat ∧
    (u.part p).restartAt = if s.parN 0x03 p 8 = 1 then some (max s.now time + 10000000) else none)

/-- No event task of the view's partition runs within the command (R223). -/
abbrev State.quietView (s : State) (v : Nat) : Prop := v = 12 ∨ s.tasksRun v = false

/-! ## Records -/

/-- The recorder stages a record of this many body words at once (R172, R427, R431). -/
abbrev State.canRecord (s : State) (n : Nat) : Prop :=
  s.power.state ≠ .hibernate ∧ s.up 41 = true ∧ s.poolCan 28 (cellsOfWords (5 + n)) = true

/-- The newest record in the ring is of this source, type and instance, with this body (R427). -/
abbrev Recorded (source type inst : Nat) (body : List Word) (u : State) : Prop :=
  (u.recorder.recs.getLast?.any (fun r =>
    r.source == source && r.type == type && r.inst == inst && r.body == body)) = true

/-! ## Frames -/

/-- A region of the state: a field of State, or a part of one that has a frame of its own: `memories`, the three
memories of each partition, within `parts`; `config`, all but the report of a broken lock, within `cfg`; `doms`, the
states of the domains, apart from `power`; `supply`, all but the events held in HIBERNATE, within `power`. -/
inductive Region where
  | now | out | fresh | power | ident | cfg | tenants | pool | chains | tiles | ledger | bufA
  | bufB | readB | strs | ptos | bals | zones | strLimits | groups | disp | parts | slices | views
  | cmps | pair | time | net | loops | injs | trace | valves | fbs | anas | grpField | grpLow | dis
  | dos | vsupLow | fdpFault | fdpTime | cans | safe | recorder | display | memories | config
  | supply | doms
deriving DecidableEq, Repr

/-- The region holds the same in both states. -/
def Region.same (r : Region) (s u : State) : Prop :=
  match r with
  | .now => u.now = s.now
  | .out => u.out = s.out
  | .fresh => u.fresh = s.fresh
  | .power => { u.power with doms := [] } = { s.power with doms := [] }
  | .ident => u.ident = s.ident
  | .cfg => u.cfg = s.cfg
  | .tenants => u.tenants = s.tenants
  | .pool => u.pool = s.pool
  | .chains => u.chains = s.chains
  | .tiles => u.tiles = s.tiles
  | .ledger => u.ledger = s.ledger
  | .bufA => u.bufA = s.bufA
  | .bufB => u.bufB = s.bufB
  | .readB => u.readB = s.readB
  | .strs => u.strs = s.strs
  | .ptos => u.ptos = s.ptos
  | .bals => u.bals = s.bals
  | .zones => u.zones = s.zones
  | .strLimits => u.strLimits = s.strLimits
  | .groups => u.groups = s.groups
  | .disp => u.disp = s.disp
  | .parts => u.parts = s.parts
  | .slices => u.slices = s.slices
  | .views => u.views = s.views
  | .cmps => u.cmps = s.cmps
  | .pair => u.pair = s.pair
  | .time => u.time = s.time
  | .net => u.net = s.net
  | .loops => u.loops = s.loops
  | .injs => u.injs = s.injs
  | .trace => u.trace = s.trace
  | .valves => u.valves = s.valves
  | .fbs => u.fbs = s.fbs
  | .anas => u.anas = s.anas
  | .grpField => u.grpField = s.grpField
  | .grpLow => u.grpLow = s.grpLow
  | .dis => u.dis = s.dis
  | .dos => u.dos = s.dos
  | .vsupLow => u.vsupLow = s.vsupLow
  | .fdpFault => u.fdpFault = s.fdpFault
  | .fdpTime => u.fdpTime = s.fdpTime
  | .cans => u.cans = s.cans
  | .safe => u.safe = s.safe
  | .recorder => u.recorder = s.recorder
  | .display => u.display = s.display
  | .memories => ∀ p : Nat, (u.part p).mem = (s.part p).mem ∧ (u.part p).retA = (s.part p).retA ∧
      (u.part p).retB = (s.part p).retB
  | .config => { u.cfg with broken := none } = { s.cfg with broken := none }
  | .supply => { u.power with heldEvents := [], heldLost := 0, doms := [] } =
      { s.power with heldEvents := [], heldLost := 0, doms := [] }
  | .doms => u.power.doms = s.power.doms

/-- Where the command answers a next state, it changes these regions alone, and the queue not at all. -/
def Keeps (i : Instr) (l : List Region) : Prop :=
  ∀ s u : State, exec i s = .next u → u.pending = s.pending ∧ ∀ r : Region, r ∉ l → r.same s u

end Sys2Proof.Machine
end

