-- ==== Sys2Proof/Certificates/Slice0/Obligations.lean ====
section
/-! DEFINITION. The statements for the provers. A command's completion is stated under conditions on the
state and the operands alone; what a statement does not mention is in the frames. -/

open Sys2Proof Sys2Proof.Machine

/-! ## Cell chains (chapter 2) -/

/-- R37, R40, R43, R49, R250: SYNC leaves each launching end 40 µs before the edge with the SEQ of the tick to
come and its DELAY, SOLICIT at +8 µs with the SEQ of the tick; a watching end's loss and its end, the Croak map, and the loss of
the map. -/
def Obligations.TrainsAndCroakComplete : Prop :=
  (∀ s : State, Completes .syncLaunch s (fun u => u.now % 1000000 = 960000 ∧
    ∀ (c : Nat) (e : RingEnd), c < 64 → s.trainRuns c (u.tickNo + 1) = true → e ∈ s.syncEnds c → s.bankUp e = true →
      chainOut c e .sync ((u.tickNo + 1) % 256) (u.delayNow c e) ∈ u.out)) ∧
  (∀ s : State, Completes .solicitLaunch s (fun u => u.now % 1000000 = 8000 ∧
    ∀ (c : Nat) (e : RingEnd), c < 64 → s.trainRuns c u.tickNo = true → e ∈ s.poweredEnds c →
      chainOut c e .solicit (u.tickNo % 256) 0 ∈ u.out)) ∧
  (∀ (s : State) (c : Fin 64) (e : RingEnd) (time : Nat),
    s.power.rail = true → s.bankUp e = true → s.watches c e = true → Chain.lostAt (s.chain c) e = none →
    Completes (.croakLoss c e time) s (fun u =>
      Chain.lostAt (u.chain c) e = some (max s.now time) ∧ (u.chain c).fault.getLsbD 4 = true)) ∧
  (∀ (s : State) (c : Fin 64) (e : RingEnd) (time : Nat),
    s.power.rail = true → s.bankUp e = true → s.watches c e = true → (Chain.lostAt (s.chain c) e).isSome = true →
    Completes (.croakRestored c e time) s (fun u => Chain.lostAt (u.chain c) e = none)) ∧
  (∀ (s : State) (time : Nat), s.single = false → s.holdsB = true → s.linkUp = true → s.bankUp .b = true →
    Completes (.croakMapSend time) s (fun u =>
      u.out = [.agfin "CROAK_MAP" [w32 (s.croakMap.toNat / 2 ^ 32), w32 s.croakMap.toNat]])) ∧
  (∀ (s : State) (map : BitVec 64) (time : Nat),
    s.single = false → s.holdsA = true → s.linkUp = true → s.power.rail = true →
    Completes (.croakMapReceived map time) s (fun u =>
      u.pair.mapWord = map ∧ u.pair.mapAt = some (max s.now time))) ∧
  (∀ (s : State) (time : Nat), s.single = false → s.holdsA = true → s.runsPlant = true →
    s.pair.mapAt = none → s.power.rail = true →
    Completes (.croakMapTimeout time) s (fun u =>
      ∀ c : Nat, c < 64 → (s.chain c).serviceTick.isSome = true → (s.chain c).running = .whole →
        (s.chain c).pendRun = none → (u.chain c).lostB.isSome = true))

/-- A verification opens the string: its cause of the comparator layer is present while the Croak is away, and where the
Croak is back the cause has tripped the string and is over (R118, R121). -/
abbrev OpensBy (s u : State) (c b : Nat) : Prop :=
  if Chain.croakBack (s.chain c) = true then (u.str c).state = .tripped else (u.str c).cause.getLsbD b = true

/-- R51, R66, R114, R121, R123: the repeated TRIP, a silent monitor, the trips that silence and blindness bring, the
end of the grace, the standby's timeout and the partner's decision. -/
def Obligations.TripAndVerifyComplete : Prop :=
  (∀ (s : State) (c : Fin 64) (time : Nat) (r : TripRun), (s.chain c).trip = some r → s.now ≤ time →
    r.startedAt < time → time ≤ r.startedAt + 10000000 → (time - r.startedAt) % 100000 = 0 →
    Completes (.tripRepeat c time) s (fun u => ∀ e ∈ s.tripEnds c,
      chainOut c e .trip (r.action * 256 + r.reason) r.origin ∈ u.out)) ∧
  (∀ (s : State) (c : Fin 64) (p : Nat), (s.chain c).silent.contains p = false → (s.chain c).missing.get p ≠ 0 →
    s.parN 0x10 c 5 ≤ (s.chain c).missing.get p →
    Completes (.silentMonitor c p) s (fun u =>
      p ∈ (u.chain c).silent ∧ (u.str c).silentSince.isSome = true ∧ (u.chain c).fault.getLsbD 5 = true)) ∧
  (∀ (s : State) (c : Fin 64) (time t : Nat), (s.str c).silentSince = some t → s.protects c = true →
    t + s.parN 0x12 c 0x18 * 1000000000 ≤ max s.now time →
    Completes (.silentMonitorTrip c time) s (fun u => (u.str c).cause.getLsbD 14 = true)) ∧
  (∀ (s : State) (c : Fin 64) (time t : Nat), (s.str c).lastRecord = some t → s.protects c = true →
    s.partnerAway = true → t + s.parN 0x12 c 0x1C * 1000000 ≤ max s.now time →
    Completes (.blindTimeout c time) s (fun u => (u.str c).cause.getLsbD 20 = true)) ∧
  (∀ (s : State) (c : Fin 64) (time : Nat) (v : Verify), (s.chain c).verify = some v → v.graceEnd ≤ max s.now time →
    s.leadsVerify = true → v.decides = true → v.phase ≠ .waitCroak → v.phase ≠ .healing →
    Completes (.verifyGraceEnd c time) s (fun u => OpensBy s u c 2)) ∧
  (∀ (s : State) (c : Fin 64) (time : Nat) (v : Verify), (s.chain c).verify = some v →
    v.graceEnd + 10000000 ≤ max s.now time → s.leadsVerify = false → v.decides = true →
    Completes (.verifyStandbyTimeout c time) s (fun u => OpensBy s u c 3)) ∧
  (∀ (s : State) (c : Fin 64) (reason : BitVec 8) (time : Nat), s.single = false → s.linkUp = true → s.runsPlant = false →
    Completes (.verifyDecisionReceived c true reason time) s (fun u => (u.chain c).verify = none) ∧
    Completes (.verifyDecisionReceived c false reason time) s (fun u => OpensBy s u c (reasonBit reason.toNat)))

/-- R45, R46, R53, R56, R58: ECHOs leave for tracking and for the check of a healed ring; a returned
tracking ECHO's round trip, in whole 4 ns periods, enters the position's track; a lost ring ECHO shows a broken ring. -/
def Obligations.EchoCommandsComplete : Prop :=
  (∀ (s : State) (e : RingEnd), s.holds e = true → s.bankUp e = true → s.role ≠ .offline →
    Completes (.trackingEcho e) s (fun u => ∀ c : Nat, c < 64 → s.inService c = true → s.parB 0x10 c 4 = true →
      (s.trackRange c e).1 ≤ (s.trackRange c e).2 → ∃ p tag : Nat,
        (s.trackRange c e).1 ≤ p ∧ p ≤ (s.trackRange c e).2 ∧ chainOut c e .echo p tag ∈ u.out)) ∧
  (∀ (s : State) (c : Fin 64) (e : RingEnd) (etag : BitVec 8) (rt time : Nat) (x : SentEcho),
    s.bankUp e = true → s.holds e = true → s.runsPlant = true →
    (s.chain c).echoes.find? (fun x => x.etag == etag.toNat && (x.dest == 0xFF || x.from_ == e)) = some x → x.why = .track →
    Completes (.echoReturned c e etag rt time) s (fun u =>
      (Chain.track (u.chain c) e).get x.dest = Track.add ((Chain.track (s.chain c) e).get x.dest) (rt / 4))) ∧
  (∀ (s : State) (c : Fin 64) (etag : BitVec 8) (time : Nat) (x : SentEcho) (v : Verify),
    (s.chain c).echoes.find? (fun x => x.etag == etag.toNat) = some x → x.why = .ring →
    (s.chain c).verify = some v → v.phase = .ringEcho → s.leadsVerify = true →
    ((s.chain c).echoes.filter (fun z => z != x)).any (fun e => e.why == .ring) = false →
    Completes (.echoLost c etag time) s (fun u =>
      (u.chain c).fault.getLsbD 2 = true ∧ (u.chain c).verify = some { v with phase := .search })) ∧
  (∀ (s : State) (c : Fin 64) (p rt time : Nat), s.single = false → s.runsPlant = true → s.linkUp = true → p ≠ 0xFF →
    Completes (.echoResultsReceived c p [rt] true time) s (fun u =>
      (Chain.track (u.chain c) (if s.holdsA then .b else .a)).get p =
        Track.add ((Chain.track (s.chain c) (if s.holdsA then .b else .a)).get p) rt)) ∧
  (∀ (s : State) (c : Fin 64) (time : Nat), (s.chain c).state = .healed → Chain.isHealed (s.chain c) = true →
    s.holdsA = true → s.bankUp .a = true →
    Completes (.healCheckEcho c time) s (fun u => u.out = [chainOut c .a .echo 0xFF (s.chain c).nextEtag]))

/-- R38, R41, R58, R64: a queued CMD leaves in the window from its ends, a RESP with a good CRC completes its CMD, a CMD
without one when it is due is sent once more, the partner's CMD leaves from this end in the window or waits for it, and
KEEP goes to every chain in service. -/
def Obligations.CmdCommandsComplete : Prop :=
  (∀ (s : State) (c : Nat) (m : MonCmd) (rest : List MonCmd), c < 64 → s.role ≠ .offline → s.keeperUp = true →
    (s.chain c).queue = m :: rest → (s.chain c).sent.length < 16 → (s.chain c).verify = none →
    (s.chain c).segments = [] → s.mayLeave c 0 m = true →
    Completes .cmdWindow s (fun u => u.now % 1000000 = 840000 ∧ ∀ e ∈ s.sendEnds c m, s.holds e = true →
      cmdOut c e (s.ctagOf c m) m.dest m.opc (State.cmdParams u m) ∈ u.out)) ∧
  (∀ (s : State) (c : Fin 64) (ctag src : BitVec 8) (data : List Half) (time : Nat) (o : SentCmd),
    (s.chain c).sent.find? (fun o => o.ctag == ctag.toNat && o.cmd.dest == src.toNat) = some o → o.cmd.why = .setting →
    Completes (.respReceived c ctag src 0 data (crc32cBits (respBits ctag src 0 data)) time) s (fun u =>
      (u.chain c).sent = (s.chain c).sent.filter (fun y => y != o))) ∧
  (∀ (s : State) (c : Fin 64) (ctag : BitVec 8) (time : Nat) (o : SentCmd),
    (s.chain c).sent.find? (fun o => o.ctag == ctag.toNat) = some o → o.cmd.why ≠ .relay → o.cmd.attempt = 0 →
    s.respDue c o ≤ max s.now time → (∀ p, o.cmd.why = .contactor p → (s.str c).state ≠ .tripped) →
    Completes (.respTimeout c ctag time) s (fun u =>
      (u.chain c).queue = { o.cmd with attempt := 1 } :: (s.chain c).queue ∧
      (u.chain c).sent = (s.chain c).sent.filter (fun y => y != o))) ∧
  (∀ (s : State) (c : Fin 64) (ctag dest opc : BitVec 8) (params : List Half) (time : Nat),
    s.single = false → s.linkUp = true → s.runsPlant = false → s.role ≠ .offline →
    ((s.at time).windowUsed = none → Completes (.relayedCmdReceived c ctag dest opc params time) s (fun u =>
      u.out = [] ∧ (u.chain c).queue = (s.chain c).queue ++
        [{ dest := dest.toNat, opc := opc.toNat, params := params, why := .relay, ctag := ctag.toNat }])) ∧
    (∀ used : Nat, (s.at time).windowUsed = some used → (s.chain c).queue = [] → (s.chain c).sent.length < 16 →
      s.mayLeave c used { dest := dest.toNat, opc := opc.toNat, params := params, why := .relay, ctag := ctag.toNat } = true →
      Completes (.relayedCmdReceived c ctag dest opc params time) s (fun u =>
        cmdOut c s.ownEnd ctag.toNat dest.toNat opc.toNat (State.cmdParams u
          { dest := dest.toNat, opc := opc.toNat, params := params, why := .relay, ctag := ctag.toNat }) ∈ u.out))) ∧
  (∀ (s : State) (time : Nat), s.runsPlant = true → s.keeperUp = true →
    Completes (.keepBroadcast time) s (fun u => ∀ c : Nat, c < 64 → s.inService c = true →
      (u.chain c).queue = (s.chain c).queue ++ [{ dest := 0xFF, opc := 0x09 }]))

/-- R43, R44, R397, R398: the count of an enumeration and its repetition, entry into service, the wait for
time, and the adoption of a known ring. -/
def Obligations.EnumerationCommandsComplete : Prop :=
  (∀ (s : State) (c : Fin 64) (nextPos : BitVec 8) (time : Nat) (e : EnumRun), s.runsPlant = true →
    (s.chain c).enum = some e → e.phase = .waitEnum → nextPos.toNat - 1 = s.chPositions c →
    Completes (.enumReceived c nextPos time) s (fun u =>
      (u.chain c).countFound = s.chPositions c ∧
      (u.chain c).enum = some { e with phase := .readId, left := s.chPositions c })) ∧
  (∀ (s : State) (c : Fin 64) (time : Nat) (e : EnumRun), (s.chain c).enum = some e → e.phase = .waitEnum → e.attempt < 3 →
    Completes (.enumTimeout c time) s (fun u => (u.chain c).enum = some { e with attempt := e.attempt + 1 })) ∧
  (∀ (s : State) (c : Fin 64) (e : EnumRun), (s.chain c).enum = some e → e.phase = .waitEntry → s.entryHolds = true →
    Completes (.chainEnterService c) s (fun u =>
      u.now % 1000000 = 0 ∧ (u.chain c).state = .inService ∧ (u.chain c).serviceTick = some u.tickNo)) ∧
  (∀ (s : State) (time t : Nat), s.time.waitFrom = some t → t + s.parN 0x01 0 2 * 1000000000 ≤ max s.now time →
    Completes (.startTimeWaitExpiry time) s (fun u => u.time.waitOver = true)) ∧
  (∀ (s : State) (c : Fin 64) (a : AdoptRun), (s.chain c).adopt = some a → 3 ≤ a.ticks → a.bad = false →
    (List.range (s.chPositions c)).all (fun p => a.good.contains (p + 1)) = true →
    Completes (.adoptionEnd c) s (fun u =>
      (u.chain c).state = (match (s.chain c).running with | .whole => .inService | .reversed => .reversed | _ => .healed) ∧
      (u.chain c).running = (s.chain c).running ∧ (u.chain c).adopt = none))

/-- R43, R62, R69: the opcodes of group 0x10. CHAIN_ENUMERATE starts an enumeration that answers later,
CHAIN_CMD and CHAIN_DIAG queue a monitor CMD that answers later, CHAIN_FRAME_READ replies with the last good frame. -/
def Obligations.ChainOpcodesComplete : Prop :=
  (∀ (s : State) (t : Fin 16) (r : Req), s.Ready t r → s.Allows t r 1 → s.runsPlant = true → r.payload.length = 1 →
    (r.w 2).toNat ≤ 63 → (s.headDrivers (r.w 2).toNat = none ∨ s.headDrivers (r.w 2).toNat = some 0) →
    s.enumAsked (r.w 2).toNat = none →
    Completes (.chainEnumerate t r) s (fun u =>
      (u.chain (r.w 2).toNat).state = .enumerating ∧
      (u.chain (r.w 2).toNat).enum = some { asked := some (t, r.seq) })) ∧
  (∀ (s : State) (t : Fin 16) (r : Req), s.Ready t r → s.Allows t r 1 → s.runsPlant = true →
    1 ≤ r.payload.length → r.payload.length ≤ 16 → (r.payload.drop 1).all (fun w => decide (w.toNat ≤ 65535)) = true →
    fieldOf (r.w 2) 23 16 ≤ 63 → fieldOf (r.w 2) 15 8 ≠ 0 → (fieldOf (r.w 2) 15 8 ≤ 128 ∨ fieldOf (r.w 2) 15 8 = 0xFF) →
    fieldOf (r.w 2) 7 0 ≠ 0x02 → fieldOf (r.w 2) 7 0 ≠ 0x0C → fieldOf (r.w 2) 7 0 ≠ 0x0D →
    destAdmits (fieldOf (r.w 2) 7 0) (fieldOf (r.w 2) 15 8) = true →
    (fieldOf (r.w 2) 15 8 ≠ 0xFF →
      s.namesAbsent (fieldOf (r.w 2) 23 16) (fieldOf (r.w 2) 15 8) (fieldOf (r.w 2) 7 0)
        ((r.payload.drop 1).map (fun w => w.toNat)) = false ∧
      fieldOf (r.w 2) 15 8 ≤ s.chPositions (fieldOf (r.w 2) 23 16)) →
    s.chainServes (fieldOf (r.w 2) 23 16) = true →
    Completes (.chainCmd t r) s (fun u =>
      (u.chain (fieldOf (r.w 2) 23 16)).queue = (s.chain (fieldOf (r.w 2) 23 16)).queue ++
        [{ dest := fieldOf (r.w 2) 15 8, opc := fieldOf (r.w 2) 7 0,
           params := (r.payload.drop 1).map (fun w => half w.toNat), why := .tenant t r.seq }])) ∧
  (∀ (s : State) (t : Fin 16) (r : Req) (f : BitVec 512), s.Ready t r → s.Allows t r 0 → r.payload.length = 1 →
    fieldOf (r.w 2) 15 8 ≤ 63 → 1 ≤ fieldOf (r.w 2) 7 0 → fieldOf (r.w 2) 7 0 ≤ 128 →
    s.chainServes (fieldOf (r.w 2) 15 8) = true → fieldOf (r.w 2) 7 0 ≤ s.chPositions (fieldOf (r.w 2) 15 8) →
    (s.chain (fieldOf (r.w 2) 15 8)).lastFrame.get (fieldOf (r.w 2) 7 0) = some f →
    Completes (.chainFrameRead t r) s (fun u => Replied s t r (frameWords f) u)) ∧
  (∀ (s : State) (t : Fin 16) (r : Req), s.Ready t r → s.Allows t r 0 → s.runsPlant = true → r.payload.length = 1 →
    fieldOf (r.w 2) 15 8 ≤ 63 → 1 ≤ fieldOf (r.w 2) 7 0 → fieldOf (r.w 2) 7 0 ≤ 128 →
    s.chainServes (fieldOf (r.w 2) 15 8) = true → fieldOf (r.w 2) 7 0 ≤ s.chPositions (fieldOf (r.w 2) 15 8) →
    Completes (.chainDiag t r) s (fun u =>
      (u.chain (fieldOf (r.w 2) 15 8)).queue = (s.chain (fieldOf (r.w 2) 15 8)).queue ++
        [{ dest := fieldOf (r.w 2) 7 0, opc := 0x0E, why := .diag t r.seq }]))

/-! ## Cell estimation (chapter 3) -/

/-- R16, R66, R75, R77, R101: good frames, the worst-cell record, the cutoff, the exchange of the summary
buffers and the end of an impedance sequence. -/
def Obligations.EstimationEventsComplete : Prop :=
  (∀ (s : State) (c : Fin 64) (e : RingEnd) (f : BitVec 512) (time : Nat), s.holds e = true → s.bankUp e = true →
    s.banksUp = true → frameGood f = true → (s.chain c).adopt = none → s.inService c = true →
    framePos f ≤ s.chPositions c →
    frameComp f = true → frameSeq f = (s.tile c).tick % 256 →
    Completes (.dataFrameReceived c e f time) s (fun u => (u.chain c).lastFrame.get (framePos f) = some f)) ∧
  (∀ (s : State) (c : Fin 64) (f : BitVec 512) (time : Nat), s.single = false → s.linkUp = true →
    s.banksUp = true → frameGood f = true → s.inService c = true → framePos f ≤ s.chPositions c →
    frameComp f = true → frameSeq f = (s.tile c).tick % 256 →
    Completes (.agfinFrameReceived c f time) s (fun u => (u.chain c).lastFrame.get (framePos f) = some f)) ∧
  (∀ (s : State) (c : Fin 64), s.inService c = true → s.tileWorks c = true →
    (s.tile c).tick = (s.toOffset 704000).tickNo →
    Completes (.worstCellRecord c) s (fun u => u.now % 1000000 = 704000 ∧
      (u.tile c).issued = true ∧ (u.tile c).record = (s.asOf (s.tile c).tick).formRecord c)) ∧
  (∀ (s : State) (c : Fin 64), s.inService c = true → (s.chain c).adopt = none →
    (s.tile c).tick < (s.toOffset 496000).tickNo →
    Completes (.tileCutoff c) s (fun u => u.now % 1000000 = 496000 ∧ (u.tile c).tick = (s.tile c).tick + 1)) ∧
  (∀ s : State, s.up 41 = true → (s.toOffset 500000).tickNo ≠ 0 →
    Completes .tickSummaryFlip s (fun u => u.now % 1000000 = 500000 ∧ u.readB = !s.readB ∧
      u.readBuf.tick + 1 = u.tickNo ∧ u.readBuf.sample = tickTime u.readBuf.tick)) ∧
  (∀ (s : State) (c : Fin 64) (p : Nat) (r : ImpRun), (s.tile c).imped.get p = some r →
    ImpRun.endTick r ≤ Tile.nextOf (s.tile c) p →
    Completes (.impedSequenceEnd c p) s (fun u => (u.tile c).imped.get p = none))

/-- R111: the opcodes of group 0x11 on a cell address or a chain that the checks allow. -/
def Obligations.EstimationOpcodesComplete : Prop :=
  (∀ (s : State) (t : Fin 16) (r : Req), s.Ready t r → s.Allows t r 0 → r.payload.length = 1 → s.cellAddr (r.w 2) = none →
    Completes (.estCellRead t r) s (Replied s t r
      (s.outsRead (fieldOf (r.w 2) 23 16) (fieldOf (r.w 2) 15 8) (fieldOf (r.w 2) 7 0) ++
        [s.flagsRead (fieldOf (r.w 2) 23 16) (fieldOf (r.w 2) 15 8) (fieldOf (r.w 2) 7 0),
          hiWord s.readBuf.tick, loWord s.readBuf.tick]))) ∧
  (∀ (s : State) (t : Fin 16) (r : Req), s.Ready t r → s.Allows t r 0 → r.payload.length = 1 →
    fieldOf (r.w 2) 7 0 ≤ 63 → s.chEnabled (fieldOf (r.w 2) 7 0) = true →
    Completes (.estChainRead t r) s (RepliedBulk s t r
      ((List.range (s.chPositions (fieldOf (r.w 2) 7 0))).flatMap (fun p => (List.range 18).flatMap (fun k =>
        s.outsRead (fieldOf (r.w 2) 7 0) (p + 1) (k + 1) ++ [s.flagsRead (fieldOf (r.w 2) 7 0) (p + 1) (k + 1)]))))) ∧
  (∀ (s : State) (t : Fin 16) (r : Req), s.Ready t r → s.Allows t r 0 → r.payload.length = 1 →
    fieldOf (r.w 2) 7 0 ≤ 63 → s.chEnabled (fieldOf (r.w 2) 7 0) = true →
    Completes (.estStringSummary t r) s (Replied s t r
      ((List.range 16).map (fun i => (s.readBuf.strings.get (fieldOf (r.w 2) 7 0)).getD i 0)))) ∧
  (∀ (s : State) (t : Fin 16) (r : Req), s.Ready t r → s.Allows t r 0 → r.payload = [] →
    Completes (.estPlantSummary t r) s (Replied s t r ((List.range 29).map (fun i => s.readBuf.plant.getD i 0)))) ∧
  (∀ (s : State) (t : Fin 16) (r : Req) (z : ImpResult), s.Ready t r → s.Allows t r 0 → r.payload.length = 1 →
    s.cellAddr (r.w 2) = none →
    (s.slot (fieldOf (r.w 2) 23 16) (fieldOf (r.w 2) 15 8) (fieldOf (r.w 2) 7 0)).imp = z →
    Completes (.estImpedResult t r) s (Replied s t r
      [z.rOhm, z.rCt, z.h0, z.rms, w32 z.result, hiWord z.tick, loWord z.tick])) ∧
  (∀ (s : State) (t : Fin 16) (r : Req), s.Ready t r → s.Allows t r 1 → s.runsPlant = true → r.payload.length = 1 →
    s.cellAddr (r.w 2) = none → (s.tile (fieldOf (r.w 2) 23 16)).imped.get (fieldOf (r.w 2) 15 8) = none →
    (s.chain (fieldOf (r.w 2) 23 16)).queue = [] → (s.chain (fieldOf (r.w 2) 23 16)).sent = [] →
    Completes (.estImpedStart t r) s (fun u => (u.chain (fieldOf (r.w 2) 23 16)).queue =
      [{ dest := fieldOf (r.w 2) 15 8, opc := 0x0A, params := [half (fieldOf (r.w 2) 7 0), 0, 64],
         why := .impedance (fieldOf (r.w 2) 7 0) true t r.seq }])) ∧
  (∀ (s : State) (t : Fin 16) (r : Req), s.Ready t r → s.Allows t r 1 → r.payload.length = 1 → s.cellAddr (r.w 2) = none →
    Completes (.estReinit t r) s (fun u => Replied s t r [] u ∧
      ((u.tile (fieldOf (r.w 2) 23 16)).slots.get (slotKey (fieldOf (r.w 2) 15 8) (fieldOf (r.w 2) 7 0))).reinit = true)) ∧
  (∀ (s : State) (t : Fin 16) (r : Req), s.Ready t r → s.Allows t r 1 → r.payload.length = 1 → s.cellAddr (r.w 2) = none →
    Completes (.estSlotRead t r) s (RepliedBulk s t r
      (slotWords (s.slotRead (fieldOf (r.w 2) 23 16) (fieldOf (r.w 2) 15 8) (fieldOf (r.w 2) 7 0)))))

/-! ## Protection, balancing and thermal control (chapter 4) -/

/-- R126 to R128, R132, R134, R136: the steps of closing and opening a string, the balancing policy's evaluation of a
chain, the evaluation of every zone, and an ambient temperature that nobody writes. -/
def Obligations.StringsAndZonesComplete : Prop :=
  (∀ (s : State) (c : Fin 64) (time : Nat), (s.str c).seq = .negOn → s.runsPlant = true →
    (s.str c).seqAt + 50000000 ≤ max s.now time →
    Completes (.prechargeStart c time) s (fun u => (u.str c).seq = .preOn ∧ (u.str c).seqAt = max s.now time ∧
      (u.chain c).queue = (s.chain c).queue ++ [cmdContactor 3])) ∧
  (∀ (s : State) (c : Fin 64) (time : Nat), (s.str c).seq = .preOn → (s.str c).state ≠ .tripped →
    (s.str c).seqAt + s.parN 0x12 c 0x1E * 1000000 ≤ max s.now time →
    Completes (.prechargeFail c time) s (fun u => (u.str c).state = .tripped ∧ (u.str c).firstCause = 0x1B ∧
      (u.str c).action = 1)) ∧
  (∀ (s : State) (c : Fin 64) (time : Nat), (s.str c).seq = .posOn → s.runsPlant = true →
    (s.str c).lastContactor = some 7 → (s.str c).seqAt + 20000000 ≤ max s.now time →
    Completes (.closePreOff c time) s (fun u => (u.str c).seq = .preOff ∧
      (u.chain c).queue = (s.chain c).queue ++ [cmdContactor 6])) ∧
  (∀ (s : State) (c : Fin 64) (time : Nat), (s.str c).seq = .waitCurrent → s.runsPlant = true →
    (s.str c).openingAt + 2000000000 ≤ max s.now time →
    Completes (.openTimeout c time) s (fun u => (u.str c).seq = .posOff ∧
      (u.chain c).queue = (s.chain c).queue ++ [cmdContactor 2])) ∧
  (∀ (s : State) (c : Fin 64) (time : Nat), (s.str c).seq = .posOff → s.runsPlant = true →
    (s.str c).lastContactor = some 2 → (s.str c).seqAt + 20000000 ≤ max s.now time →
    Completes (.openFinal c time) s (fun u => (u.str c).state = .open_ ∧ (u.str c).seq = .none_ ∧
      (u.chain c).queue = (s.chain c).queue ++ [cmdContactor 0])) ∧
  (∀ (s : State) (c : Fin 64) (time : Nat), s.power.keeper = .running → s.runsPlant = true → s.inService c = true →
    s.parB 0x12 c 0x28 = true → (s.bal c).lastEval + s.parN 0x12 c 0x2E * 1000000000 ≤ max s.now time →
    Completes (.balEvaluate c time) s (fun u => (u.bal c).lastEval = max s.now time ∧
      (u.bal c).target = extVal ((s.readBuf.strings.get c).getD 3 0))) ∧
  (∀ (s : State) (time : Nat), s.power.rail = true → Completes (.zoneEvaluate time) s (fun u =>
    ∀ z : Nat, z < 16 → (s.zone z).evaluated = none → (u.zone z).evaluated = some (max s.now time))) ∧
  (∀ (s : State) (z : Fin 16) (time : Nat) (v : Int) (t : Nat), (s.zone z).tamb = some (v, t) →
    t + 10000000000 ≤ max s.now time → Completes (.zoneTambTimeout z time) s (fun u => (u.zone z).tamb = none))

/-- R125, R128 to R130, R136, R139: the opcodes of group 0x12. -/
def Obligations.ProtectionOpcodesComplete : Prop :=
  (∀ (s : State) (t : Fin 16) (r : Req), s.Ready t r → s.Allows t r 0 → r.payload.length = 1 → fieldOf (r.w 2) 7 0 ≤ 63 →
    Completes (.protStatus t r) s (Replied s t r [s.strWord (fieldOf (r.w 2) 7 0),
      w32 (s.str (fieldOf (r.w 2) 7 0)).cause.toNat, w32 (s.chain (fieldOf (r.w 2) 7 0)).breakAfter])) ∧
  (∀ (s : State) (t : Fin 16) (r : Req), s.Ready t r → s.Allows t r 0 → r.payload.length = 1 → fieldOf (r.w 2) 7 0 ≤ 63 →
    s.runsPlant = true → (s.str (fieldOf (r.w 2) 7 0)).state = .open_ → s.closeUnmet (fieldOf (r.w 2) 7 0) = none →
    Completes (.stringClose t r) s (fun u => Replied s t r [] u ∧
      (u.str (fieldOf (r.w 2) 7 0)).state = .closing ∧ (u.str (fieldOf (r.w 2) 7 0)).seq = .negOn ∧
      (u.chain (fieldOf (r.w 2) 7 0)).queue = (s.chain (fieldOf (r.w 2) 7 0)).queue ++ [cmdContactor 2])) ∧
  (∀ (s : State) (t : Fin 16) (r : Req), s.Ready t r → s.Allows t r 0 → r.payload.length = 2 → fieldOf (r.w 2) 7 0 ≤ 63 →
    s.runsPlant = true → bitOf (r.w 3) 0 = false → (s.str (fieldOf (r.w 2) 7 0)).state = .closed →
    Completes (.stringOpen t r) s (fun u => Replied s t r [] u ∧
      (u.str (fieldOf (r.w 2) 7 0)).state = .opening ∧ (u.str (fieldOf (r.w 2) 7 0)).seq = .waitCurrent)) ∧
  (∀ (s : State) (t : Fin 16) (r : Req), s.Ready t r → s.Allows t r 0 → r.payload.length = 2 → fieldOf (r.w 2) 7 0 ≤ 63 →
    s.runsPlant = true → bitOf (r.w 3) 0 = true → (s.str (fieldOf (r.w 2) 7 0)).state ≠ .tripped →
    Completes (.stringOpenImmediate t r) s (fun u => Replied s t r [] u ∧
      (u.str (fieldOf (r.w 2) 7 0)).state = .tripped ∧ (u.str (fieldOf (r.w 2) 7 0)).firstCause = 0x42 ∧
      (u.str (fieldOf (r.w 2) 7 0)).action = 1)) ∧
  (∀ (s : State) (t : Fin 16) (r : Req), s.Ready t r → s.Allows t r 0 → r.payload.length = 1 → fieldOf (r.w 2) 7 0 ≤ 63 →
    s.runsPlant = true → (s.str (fieldOf (r.w 2) 7 0)).action ≠ 2 → (s.str (fieldOf (r.w 2) 7 0)).cause = 0 →
    (s.str (fieldOf (r.w 2) 7 0)).state = .tripped →
    Completes (.protReset t r) s (fun u => Replied s t r [] u ∧
      (u.str (fieldOf (r.w 2) 7 0)).state = .open_ ∧ (u.str (fieldOf (r.w 2) 7 0)).firstCause = 0 ∧
      (u.str (fieldOf (r.w 2) 7 0)).action = 0)) ∧
  (∀ (s : State) (t : Fin 16) (r : Req), s.Ready t r → s.Allows t r 0 → r.payload = [] →
    Completes (.ptoStatus t r) s (Replied s t r
      (packWord ((List.range 8).map (fun k => (k, b2n (s.pto k).asserted))) ::
        (List.range 8).map (fun k => w32 (s.ptoCauses k))))) ∧
  (∀ (s : State) (t : Fin 16) (r : Req), s.Ready t r → s.Allows t r 0 → r.payload.length = 1 → fieldOf (r.w 2) 7 0 ≤ 63 →
    Completes (.balStatus t r) s (Replied s t r [w32 (s.bal (fieldOf (r.w 2) 7 0)).target,
      w32 ((s.at r.time).bleeding (fieldOf (r.w 2) 7 0)), w32 ((s.bal (fieldOf (r.w 2) 7 0)).lastEval / 1000000000)])) ∧
  (∀ (s : State) (t : Fin 16) (r : Req) (x : Zone), s.Ready t r → s.Allows t r 0 → r.payload.length = 1 →
    (r.w 2).toNat ≤ 15 → s.zone (r.w 2).toNat = x →
    Completes (.zoneRead t r) s (Replied s t r
      [w32 x.demand, packWord [(0, b2n x.heat), (8, x.vent)], i32 x.tzMax, i32 x.tzMin])) ∧
  (∀ (s : State) (t : Fin 16) (r : Req), s.Ready t r → s.Allows t r 0 → r.payload.length = 2 → (r.w 2).toNat ≤ 15 →
    Completes (.zoneTambWrite t r) s (fun u => Replied s t r [] u ∧
      (u.zone (r.w 2).toNat).tamb = some ((r.w 3).toInt, max s.now r.time)))

/-! ## Tick edge and dispatch (chapters 1 and 5) -/

/-- R12, R60, R141, R146, R252: the tick edge, the Keeper's mirror point, the publication at +1.750 ms, and
the end of a grant. -/
def Obligations.TickAndPublicationComplete : Prop :=
  (∀ s : State, Completes .plantTickEdge s (fun u =>
    u.now = (s.tickNo + 1) * 1000000 ∧ u.time.slew = slewed s.time.slew)) ∧
  (∀ s : State, s.keeperUp = true → s.mirrors = true → Completes .keeperMirrorPoint s (fun u =>
    u.now % 1000000 = 700000 ∧
    u.out = [.mirror (deltaOf (((s.pair.sets.get 12).last + 1) % 2 ^ 32) (s.pair.sets.get 12).last
      (s.pair.sets.get 12).sent ((s.toOffset 700000).mirrorBody 12)) false])) ∧
  (∀ (s : State) (p : Nat), (s.toOffset 750000).tickNo ≠ 0 → s.parB 0x13 0 0 = true → s.runsPlant = true →
    s.keeperUp = true → s.pair.outputAt ≤ (s.toOffset 750000).now → s.dispGroups ≠ [] →
    s.dispPorts = [p] → s.udpDest ≠ 0 → s.portOn p = true → s.linkOf p = true →
    Completes .dispatchPublish s (fun u => u.now % 1000000 = 750000 ∧
      u.out = [.udp p s.udpDest 30411 ((s.toOffset 750000).datagram ((s.toOffset 750000).tickNo - 1)
        (s.disp.doneTick != some ((s.toOffset 750000).tickNo - 1)))])) ∧
  (∀ (s : State) (g : Fin 8) (x : Grant), (s.group g).grant = some x → x.endTick ≤ s.tickNo →
    Completes (.grantEnd g) s (fun u => (u.group g).grant = none))

/-- R151, R152: the states of the emergency override: the input, the lapse of an armed command, the end of
ENDING and the entry of every 60 s. -/
def Obligations.OverrideEventsComplete : Prop :=
  (∀ (s : State) (time : Nat), s.runsPlant = true → s.keeperUp = true →
    Completes (.eovAssert time) s (fun u => u.disp.eov = true ∧
      (s.disp.ovr = .normal → u.disp.ovr = .armedInput) ∧ (s.disp.ovr = .armedCommand → u.disp.ovr = .inForce))) ∧
  (∀ (s : State) (time : Nat), s.runsPlant = true → s.keeperUp = true →
    Completes (.eovRelease time) s (fun u => u.disp.eov = false ∧
      (s.disp.ovr = .armedInput → u.disp.ovr = .normal) ∧ (s.disp.ovr = .inForce → u.disp.ovr = .ending))) ∧
  (∀ (s : State) (time : Nat), s.disp.ovr = .armedCommand → s.disp.ovrAt + 10000000000 ≤ max s.now time →
    Completes (.overrideLapse time) s (fun u => u.disp.ovr = .normal)) ∧
  (∀ (s : State) (time : Nat), s.disp.ovr = .ending → s.disp.ovrAt + 500000000 ≤ max s.now time →
    Completes (.overrideEndingEnd time) s (fun u =>
      u.disp.ovr = (if s.disp.eov then .armedInput else .normal))) ∧
  (∀ (s : State) (time : Nat), s.disp.ovr = .inForce → s.disp.lastOvrRecord + 60000000000 ≤ max s.now time →
    s.canRecord 3 →
    Completes (.overrideRecord time) s (fun u => u.disp.lastOvrRecord = max s.now time ∧
      Recorded 0x13 0x01 127 [3, s.readBuf.plant.getD 6 0, s.readBuf.plant.getD 2 0] u))

/-- R149 to R151, R154: the opcodes of group 0x13, and the dispatch key that reaches the partner. -/
def Obligations.DispatchOpcodesComplete : Prop :=
  Runs .dspRead 0 1 (fun s _ r => fieldOf (r.w 2) 7 0 ≤ 7 ∧ s.groupSet (fieldOf (r.w 2) 7 0) = true)
    (fun s t r => Replied s t r (s.group (fieldOf (r.w 2) 7 0)).block) ∧
  Runs .burstRequest 0 3 (fun s _ r => fieldOf (r.w 2) 7 0 ≤ 7 ∧ s.runsPlant = true ∧
      s.groupSet (fieldOf (r.w 2) 7 0) = true ∧ 10 ≤ fieldOf (r.w 4) 15 0 ∧ fieldOf (r.w 4) 15 0 ≤ 6000 ∧
      flt 0 (r.w 3) = true ∧ ffinite (r.w 3) = true)
    (fun s t r u => u.disp.asks = s.disp.asks ++
      [{ tenant := t, seq := r.seq, group := fieldOf (r.w 2) 7 0, chg := bitOf (r.w 2) 8, kw := bitOf (r.w 2) 9,
         value := r.w 3, dur := fieldOf (r.w 4) 15 0 }]) ∧
  Runs .burstCancel 0 1 (fun s t r => fieldOf (r.w 2) 7 0 ≤ 7 ∧ s.runsPlant = true ∧
      s.groupSet (fieldOf (r.w 2) 7 0) = true ∧
      ∃ x, (s.group (fieldOf (r.w 2) 7 0)).grant = some x ∧ x.tenant = t)
    (fun s t r u => Replied s t r [] u ∧ (u.group (fieldOf (r.w 2) 7 0)).grant = none) ∧
  Runs .overrideStart 0 1 (fun s _ r => s.runsPlant = true ∧ bitOf (r.w 2) 0 = true)
    (fun s t r u =>
      (s.disp.ovr = .normal → u.disp.ovr = .armedCommand ∧ Replied s t r [2] u) ∧
      (s.disp.ovr = .armedInput → u.disp.ovr = .inForce ∧ Replied s t r [3] u)) ∧
  Runs .overrideEnd 0 1 (fun s _ r => s.runsPlant = true ∧ bitOf (r.w 2) 0 = false)
    (fun s t r u =>
      (s.disp.ovr = .armedCommand → u.disp.ovr = .normal ∧ Replied s t r [0] u) ∧
      (s.disp.ovr = .inForce → u.disp.ovr = .ending ∧ Replied s t r [4] u)) ∧
  Runs .dspKeyWrite 1 5 (fun _ _ r => r.w 2 = 1)
    (fun s t r u => Replied s t r [] u ∧ u.disp.keyKind = 1 ∧ u.disp.key = r.payload.drop 1) ∧
  Runs .dspKeyWrite 1 9 (fun _ _ r => r.w 2 = 2)
    (fun s t r u => Replied s t r [] u ∧ u.disp.keyKind = 2 ∧ u.disp.key = r.payload.drop 1) ∧
  (∀ (s : State) (kind : Nat) (key : List Word), s.single = false → s.linkUp = true → s.runsPlant = false →
    Completes (.dspKeyReceived kind key) s (fun u => u.disp.keyKind = kind ∧ u.disp.key = key)) ∧
  Runs .dspStringRead 0 1 (fun _ _ r => fieldOf (r.w 2) 7 0 ≤ 63)
    (fun s t r => Replied s t r
      ((List.range 8).map (fun i => limWord ((s.strLimits.get (fieldOf (r.w 2) 7 0)).amps.getD i 0 *
          ((((s.readBuf.strings.get (fieldOf (r.w 2) 7 0)).getD 14 0).toNat : Rat) / 20) / 1000)) ++
        (List.range 8).map (fun i => limWord ((s.strLimits.get (fieldOf (r.w 2) 7 0)).amps.getD i 0)) ++
        [packWord ((List.range 8).map (fun i => (4 * i, (s.strLimits.get (fieldOf (r.w 2) 7 0)).codes.getD i 0)))]))

/-! ## Packets, sessions, parameters and the configuration (chapter 6) -/

/-- R159 to R163: the command window. A word lengthens the assembly; a commit queues the packet with a
credit, or holds it without one; a discard and a window reset drop it; a read takes the next reply word. -/
def Obligations.CommandWindowComplete : Prop :=
  (∀ (s : State) (p : Fin 12) (w : Word) (t : Nat), s.windowTenant p = some t → (s.tenant t).txHeld = false →
    Completes (.cwTxdataWrite p w) s (fun u => (u.tenant t).assembly = (s.tenant t).assembly ++ [w])) ∧
  (∀ (s : State) (p : Fin 12) (time t : Nat), s.windowTenant p = some t → (s.tenant t).txHeld = false →
    0 < (s.tenant t).credits → Packet.malformed (packetOf (max s.now time) (s.tenant t).assembly) = false →
    (s.tenant t).queued = [] → (s.tenant t).executing = [] →
    Completes (.cwTxcommitSubmit p time) s (fun u => (u.tenant t).assembly = [] ∧
      (u.tenant t).credits + 1 = (s.tenant t).credits ∧
      (u.tenant t).queued = [packetOf (max s.now time) (s.tenant t).assembly])) ∧
  (∀ (s : State) (p : Fin 12) (time t : Nat), s.windowTenant p = some t → (s.tenant t).txHeld = false →
    (s.tenant t).credits = 0 →
    Completes (.cwTxcommitSubmit p time) s (fun u => (u.tenant t).txHeld = true ∧
      (u.tenant t).assembly = (s.tenant t).assembly)) ∧
  (∀ (s : State) (p : Fin 12) (t : Nat), s.windowTenant p = some t →
    Completes (.cwTxcommitDiscard p) s (fun u => (u.tenant t).assembly = [] ∧ (u.tenant t).txHeld = false)) ∧
  (∀ (s : State) (p : Fin 12) (t : Nat) (w v : Word) (ws : List Word) (rest : List Unread),
    s.windowTenant p = some t → (s.tenant t).unread = { words := w :: v :: ws } :: rest →
    Completes (.cwRxdataRead p) s (fun u => u.out = [.read w] ∧
      (u.tenant t).unread = { words := v :: ws } :: rest)) ∧
  (∀ (s : State) (p : Fin 12) (time t : Nat), s.windowTenant p = some t →
    Completes (.cwResetWrite p time) s (fun u => (u.tenant t).unread = [] ∧ (u.tenant t).queued = [] ∧
      (u.tenant t).assembly = [] ∧ (u.tenant t).inStream = none ∧ (u.tenant t).cache = []))

/-- R162, R166, R179 to R181: an acknowledged reply is gone, a bulk read goes on with its next packet, a
client certificate opens its tenant's session, and a session ends or idles out with a tenant reset. -/
def Obligations.SessionsComplete : Prop :=
  (∀ (s : State) (t : Fin 16) (st : OutStream), (s.tenant t).outStream = some st → 0 < (s.tenant t).credits →
    s.takesPackets = true → (s.tenant t).waitingStreams = [] →
    Completes (.bulkReplyPacket t) s (fun u =>
      (u.tenant t).unread = (s.tenant t).unread ++
        [{ words := replyWords (streamPacket (s.fillStream st)).1 }])) ∧
  (∀ (s : State) (t : Fin 16) (x : Unread) (rest : List Unread), (s.tenant t).session.isSome = true →
    (s.tenant t).unread = x :: rest → (s.tenant t).txHeld = false → (s.tenant t).queued = [] →
    (s.tenant t).session.all (fun w => packetAhead w.words == none) = true →
    Completes (.replyAcked t) s (fun u => (u.tenant t).unread = rest ∧
      (u.tenant t).credits = (s.tenant t).credits + 1)) ∧
  (∀ (s : State) (port : Nat) (fp : List Word) (issuerOk : Bool) (time t : Nat), s.takesPackets = true →
    s.inRecovery = false → s.listens port = true → s.sessionTenant port fp issuerOk = some t →
    (s.tenant t).session = none → s.sessions < 8 →
    Completes (.tlsSessionOpen port fp issuerOk time) s (fun u =>
      (u.tenant t).session = some { port := port, lastPacket := max s.now time } ∧
      u.out = [.session port t s.tlsTerms])) ∧
  (∀ (s : State) (t : Fin 16), (s.tenant t).session.isSome = true →
    Completes (.tlsSessionEnd t) s (fun u => (u.tenant t).session = none ∧ (u.tenant t).unread = [] ∧
      (u.tenant t).queued = [])) ∧
  (∀ (s : State) (t : Fin 16) (time : Nat) (w : Session), (s.tenant t).session = some w → s.parN 0x01 0 1 ≠ 0 →
    w.lastPacket + s.parN 0x01 0 1 * 1000000000 ≤ max s.now time →
    Completes (.tlsIdleTimeout t time) s (fun u => (u.tenant t).session = none ∧ .tls "close_notify" ∈ u.out))

/-- R173, R185: the opcodes that tell what the module is, and the reset by command. -/
def Obligations.SystemOpcodesComplete : Prop :=
  Runs .sysIdent 0 0 (fun _ _ _ => True) (fun s t r => Replied s t r
    [hiWord s.ident.serial, loWord s.ident.serial, w32 s.ident.hwRev, s.release, w32 s.ident.antiRollback]) ∧
  Runs .sysState 0 0 (fun _ _ _ => True) (fun s t r => Replied s t r
    [w32 s.power.keeper.code, w32 s.role.code, w32 (b2n s.power.hibAsk.isSome),
      packWord [(0, b2n s.cfg.fallback), (1, b2n s.cfg.defaulted)], w32 (s.at r.time).opSecondsNow, w32 s.power.cycles,
      hiWord (max s.now r.time), loWord (max s.now r.time)]) ∧
  (∀ boot : BootCheck, Runs (fun t r => .sysReset t r boot) 1 1 (fun _ _ r => r.w 2 = 1)
    (fun _ _ _ u => u.power.state = .run ∧ u.power.causes.getLsbD 3 = true)) ∧
  Runs .tenantList 0 0 (fun _ _ _ => True) (fun s t r => Replied s t r ((List.range 16).map (fun k =>
    packWord [(0, s.tntKind k), (4, s.tntRole k), (8, b2n (s.tenant k).session.isSome),
      (9, b2n ((s.tenant k).executing.any (fun e => e.discard)))])))

/-- R166, R167, R169, R185: a bulk read leaves packet by packet, a bulk write opens a stream, a continuation
lengthens it, and the two cancels. -/
def Obligations.BulkComplete : Prop :=
  Runs .bulkRead 0 3 (fun s t r => bulkObject r = 1 ∧ s.readPre t r = none ∧ countOk r = true)
    (fun s t r => RepliedBulk s t r (((s.configObject t r).drop (r.w 3).toNat).take (r.w 4).toNat)) ∧
  Runs .bulkRead 0 3 (fun s t r => bulkObject r = 5 ∧ s.readPre t r = none ∧ countOk r = true ∧ s.trace.state = .done)
    (fun s t r => RepliedBulk s t r ((s.traceWords.drop (r.w 3).toNat).take (r.w 4).toNat)) ∧
  (∀ (s : State) (t : Fin 16) (r : Req), s.Ready t r → r.flags = 1 → 1 ≤ s.tntRole t → r.payload.length = 3 →
    bulkObject r = 1 → s.writePre r = none → countOk r = true → s.cfg.broken = none → s.cfg.lock = some t.val →
    s.runsPlant = true → s.notOpening t r = false → (s.tenant t).inStream = none →
    Completes (.bulkWrite t r) s (fun u => ∃ w : InStream, (u.tenant t).inStream = some w ∧ w.pkt.req = r ∧
      w.object = 1 ∧ w.offset = (r.w 3).toNat ∧ w.count = (r.w 4).toNat ∧ w.words = [])) ∧
  (∀ (s : State) (t : Fin 16) (r : Req) (chk : BulkCheck) (w : InStream), s.takesPackets = true → s.keeperUp = true →
    s.canSubmit t = true → 0 < (s.tenant t).credits → (s.tenant t).queued = [] → (s.tenant t).txHeld = false → r.flags = 1 →
    (s.tenant t).session.all (fun w => packetAhead w.words == none) = true →
    (s.tenant t).inStream = some w → w.pkt.req.seq = r.seq → (w.words ++ r.payload).length ≤ w.count →
    Completes (.bulkWriteContinuation t r chk) s (fun u =>
      (u.tenant t).inStream = some { w with words := w.words ++ r.payload } ∧
      (u.tenant t).credits = (s.tenant t).credits)) ∧
  Runs .bulkCancelReply 0 1 (fun _ _ r => r.w 2 = 0) (fun s t r => Replied s t r []) ∧
  Runs .bulkCancelWrite 0 1 (fun _ _ r => r.w 2 = 1) (fun s t r u => (u.tenant t).inStream = none ∧
    ((s.tenant t).inStream = none → Replied s t r [] u))

/-- R174 to R176, R183, R185, R186: parameters read and staged, the lock, the commit and its acknowledgment,
and the tick at which it comes into force. -/
def Obligations.ConfigurationComplete : Prop :=
  Runs .paramRead 0 2 (fun _ _ r => paramCount r = some 1 ∧ firstUndefined (r.w 2).toNat 1 = none ∧
      readOnlyAt (r.w 2).toNat = false ∧ isSafeParam (r.w 2).toNat = false)
    (fun s t r => Replied s t r [r.w 2, paramValue s.committed (r.w 2).toNat]) ∧
  Runs .paramWrite 1 3 (fun s t r => paramCount r = some 1 ∧ fieldOf (r.w 3) 7 0 = 1 ∧
      firstUndefined (r.w 2).toNat 1 = none ∧ readOnlyAt (r.w 2).toNat = false ∧
      valueOkAt (r.w 2).toNat (r.w 4) = true ∧ isSafeParam (r.w 2).toNat = false ∧ s.runsPlant = true ∧
      s.cfg.broken = none ∧ s.cfg.lock = some t.val)
    (fun s t r u => Replied s t r [] u ∧ u.cfg.staged.get (r.w 2).toNat = some (r.w 4)) ∧
  Runs .cfgBegin 1 0 (fun s _ _ => s.cfg.broken = none ∧ s.cfg.lock = none)
    (fun s t r u => Replied s t r [w32 s.cfg.generation] u ∧ u.cfg.lock = some t.val) ∧
  (∀ writeA writeB evalOk : Bool, (writeA || writeB) = true →
    Runs (fun t r => .cfgCommit t r writeA writeB evalOk) 1 1 (fun s t r => s.cfg.broken = none ∧
        s.cfg.lock = some t.val ∧ s.runsPlant = true ∧ r.w 2 = 0 ∧ s.commitFailures s.candidate = [] ∧
        s.cfg.stagedSafe = [] ∧ s.standbyThere = false)
      (fun s t r u => u.cfg.generation = (s.cfg.generation + 1) % 2 ^ 32 ∧ u.cfg.lock = none ∧
        u.cfg.due = s.cfg.due ++ [(effectiveTick (max s.now r.time), s.candidate)] ∧
        Replied s t r [hiWord (effectiveTick (max s.now r.time)), loWord (effectiveTick (max s.now r.time)),
          w32 u.cfg.generation] u)) ∧
  Runs .cfgAbort 1 0 (fun s t _ => s.cfg.broken = none ∧ s.cfg.lock = some t.val)
    (fun s t r u => Replied s t r [] u ∧ u.cfg.lock = none ∧ u.cfg.staged = [] ∧ u.cfg.stagedSafe = []) ∧
  Runs .cfgStatus 0 0 (fun _ _ _ => True) (fun s t r => Replied s t r
    [packWord [(0, s.cfg.lock.getD 0), (4, b2n s.cfg.lock.isSome), (5, b2n s.cfg.broken.isSome)],
      w32 s.cfg.generation, s.activeCrc, w32 s.stagedCount]) ∧
  (∀ (s : State) (time : Nat) (w : CommitWait), s.single = false → s.linkUp = true → s.runsPlant = true →
    s.cfg.wait = some w →
    Completes (.partnerAck none time) s (fun u => u.cfg.wait = none ∧
      u.cfg.generation = (s.cfg.generation + 1) % 2 ^ 32 ∧ u.cfg.due = s.cfg.due ++ [(effectiveTick w.time, w.params)])) ∧
  (∀ (s : State) (n : Nat) (m : ParamMap), s.power.state = .run → s.keeperUp = true → s.cfg.defaulted = false →
    s.cfg.due = [(n, m)] → n ≤ s.tickNo →
    Completes .configEffectiveTick s (fun u => u.cfg.active = m ∧ u.cfg.due = []))

/-! ## Partitions, the Event Fabric and the Scan Engine (chapters 7 and 8) -/

/-- R191 to R195, R198, R199, R201, R213, R225: each class of partition fault, a corrected error, the restart with
the partition reset's memory, and the opcodes about a partition and its image. -/
def Obligations.PartitionsComplete : Prop :=
  (∀ (s : State) (p : Fin 12) (pc : Word) (time : Nat), (s.at time).cycleCounts p = true →
    FaultsPart (.budgetFault p pc time) s p 1 pc time) ∧
  (∀ (s : State) (p : Fin 12) (pc : Word) (time : Nat), s.partExec p = true → (s.part p).state ≠ .held →
    (s.part p).feedAt + s.parN 0x03 p 5 * 1000000 ≤ max s.now time → FaultsPart (.geckoExpiry p pc time) s p 2 pc time) ∧
  (∀ (s : State) (p : Fin 12) (addr : Word) (time : Nat), (s.at time).partNow p = true →
    FaultsPart (.memFault p addr time) s p 3 addr time) ∧
  (∀ (s : State) (p : Fin 12) (pc : Word) (op : ArithOp) (time : Nat), (s.at time).partNow p = true →
    s.arithTraps p = true → op.result.flags ≠ 0 → FaultsPart (.arithFault p pc op time) s p 5 pc time) ∧
  (∀ (s : State) (p : Fin 12) (pc : Word) (time : Nat), (s.at time).partNow p = true →
    FaultsPart (.eccFault p pc time) s p 6 pc time) ∧
  (∀ (s : State) (p : Fin 12) (time : Nat), s.up 41 = true → s.parB 0x03 p 0 = true →
    Completes (.eccCorrected p time) s (fun u => (u.part p).eccCount = (s.part p).eccCount + 1 ∧
      (u.part p).mem = (s.part p).mem)) ∧
  (∀ (s : State) (p : Fin 12) (time a : Nat), (s.part p).restartAt = some a → a ≤ max s.now time →
    (s.part p).state = .faulted → s.partLive p = true → (s.at time).recentRestarts p < 3 →
    Completes (.partRestart p time) s (fun u => (u.part p).state = .starting ∧ (u.part p).fault = 0 ∧
      (u.part p).nextGrid = max s.now time ∧ (u.part p).mem = Part.loaded (s.part p))) ∧
  Runs .partStatus 0 1 (fun _ _ r => partOf r < 12) (fun s t r => Replied s t r
    [w32 (s.part (partOf r)).state.code, w32 (Part.faultShown (s.part (partOf r))),
      w32 (Part.pcShown (s.part (partOf r))), w32 (s.part (partOf r)).execUs, w32 ((s.at r.time).recentRestarts (partOf r))]) ∧
  Runs .partReset 1 1 (fun s t r => partOf r < 12 ∧ s.runsPlant = true ∧ s.parB 0x03 (partOf r) 0 = true ∧
      s.pairUp (partOf r) = true ∧ (s.part (partOf r)).image.isSome = true ∧ (s.part (partOf r)).asks = [] ∧
      s.partTenant (partOf r) ≠ some t.val)
    (fun s t r u => Replied s t r [] u ∧
      (u.part (partOf r)).state = (if bitOf (r.w 2) 8 then .starting else .stopped) ∧
      (u.part (partOf r)).mem = Part.loaded (s.part (partOf r))) ∧
  (∀ im : PartImage, Runs .partImageInfo 0 1 (fun s _ r => partOf r < 12 ∧ (s.part (partOf r)).image = some im)
    (fun s t r => Replied s t r ((List.range 6).map (fun i => im.header.getD (i + 2) 0) ++ [1])))

/-- R207 to R210, R223: an event, an event that starts its task, a claim, a completion, and the set and clear words of
a view. -/
def Obligations.EventFabricComplete : Prop :=
  (∀ (s : State) (v : Fin 13) (src : Fin 1024) (time : Nat), src.val < 512 → s.power.state = .run →
    s.srcAssigned v src = true → s.forcedSource v src = false → (s.at time).quietView v →
    Completes (.evfSourceEvent v src time) s (fun u => u.view v = (s.view v).event src)) ∧
  (∀ (s : State) (v : Fin 12) (src : Fin 1024) (time k pr : Nat), src.val < 512 → s.power.state = .run →
    s.srcAssigned v src = true → s.forcedSource v src = false → (s.at time).tasksRun v = true →
    (s.view v).pending = 0 → (s.view v).enable.getLsbD src = true →
    k < 16 → s.evtBind v k = some (src.val, pr) → (s.part v).evtRan.contains k = false →
    (List.range 16).all (fun j => j == k || (s.evtBind v j).all (fun e => e.1 != src.val)) = true →
    Completes (.evfSourceEvent ⟨v, by omega⟩ src time) s (fun u => (u.view v).pending.getLsbD src = false ∧
      (u.part v).evtCount.get k = (((s.view v).event src).srcs.get src).count ∧ k ∈ (u.part v).evtRan)) ∧
  (∀ (s : State) (v : Fin 13) (n : Nat), s.viewLive v = true → s.highest v = some n →
    Completes (.evfClaimRead v) s (fun u => u.view v = (s.view v).claim n ∧ Out.read ((s.view v).claimWord n) ∈ u.out)) ∧
  (∀ (s : State) (v : Fin 13), s.viewLive v = true → s.highest v = none →
    Completes (.evfClaimRead v) s (fun u => u.view v = s.view v ∧ u.out = [.read 0x3FF])) ∧
  (∀ (s : State) (v : Fin 13) (w : Word) (time top pr : Nat) (rest : List (Nat × Nat)),
    (s.at time).viewLive v = true → (s.view v).stack = (top, pr) :: rest → fieldOf w 9 0 = top → top ≠ 0x3FF →
    (s.at time).quietView v →
    Completes (.evfCompleteWrite v w time) s (fun u => u.view v = (s.view v).complete ∧ (u.view v).stack = rest)) ∧
  (∀ (s : State) (v : Fin 13) (bank : Fin 32) (w : Word), s.viewLive v = true →
    Completes (.evfSetenWrite v bank w) s (fun u =>
      ∀ n ∈ s.bankSources v bank w, (u.view v).enable.getLsbD n = true)) ∧
  (∀ (s : State) (v : Fin 13) (bank : Fin 32) (w : Word), s.viewLive v = true →
    Completes (.evfClrenWrite v bank w) s (fun u =>
      ∀ n ∈ s.bankSources v bank w, (u.view v).enable.getLsbD n = false)) ∧
  (∀ (s : State) (v : Fin 13) (bank : Fin 32) (w : Word), s.viewLive v = true → s.quietView v →
    Completes (.evfSetpendWrite v bank w) s (fun u =>
      ∀ n ∈ s.bankSources v bank w, (u.view v).pending.getLsbD n = true)) ∧
  (∀ (s : State) (v : Fin 13) (bank : Fin 32) (w : Word), s.viewLive v = true →
    Completes (.evfClrpendWrite v bank w) s (fun u => ∀ n ∈ s.bankSources v bank w,
      (u.view v).pending.getLsbD n = false ∧ ((u.view v).srcs.get n).count = 0))

/-- R189, R193, R207, R269 to R271: a slice begins, a program writes its memory and its pages, and the
compare units fire, arm, disarm and read the time. -/
def Obligations.PartitionPagesComplete : Prop :=
  (∀ (s : State) (pair : Fin 8) (p : Fin 12) (time : Nat), s.power.state = .run →
    (s.at time).sliceDue pair p = true →
    Completes (.sliceBegin pair p time) s (fun u => u.slices.get pair = some ((s.at time).newSlice pair p))) ∧
  (∀ (s : State) (p : Fin 13) (addr w : Word) (time : Nat), p.val < 12 → (s.at time).viewLive p = true →
    (List.range 4).all (fun i => s.byteWritable p (addr.toNat + i)) = true → Memory.wf (s.part p).mem = true →
    Completes (.registerWrite p addr 4 w time) s (fun u =>
      (∀ i : Nat, i < 4 → (u.part p).mem.read (addr.toNat + i) = byteOf w i) ∧
      (∀ a : Nat, a < addr.toNat ∨ addr.toNat + 4 ≤ a → (u.part p).mem.read a = (s.part p).mem.read a))) ∧
  (∀ (s : State) (w : Word) (time : Nat), s.viewLive 12 = true →
    Completes (.registerWrite 12 0x40010004 4 w time) s (fun u =>
      (u.view 12).prigroup = fieldOf w 2 0 ∧ (u.view 12).deliver = bitOf w 8)) ∧
  (∀ (s : State) (p : Fin 12) (k : Fin 32) (time : Nat), s.power.state = .run → s.up 41 = true →
    (s.cmp p k).armed = true → Cmp.reached (s.cmp p k) (max s.now time) = true →
    (s.at time).quietView p →
    Completes (.compareFire p k time) s (fun u => u.cmp p k = Cmp.fired (s.cmp p k) ∧
      (u.view p).pending.getLsbD (256 + k) = true)) ∧
  (∀ (s : State) (p : Fin 12) (time : Nat), (s.at time).partNow p = true →
    Completes (.cmpNowLoRead p time) s (fun u => (u.part p).cmpHi = hiWord (max s.now time) ∧
      u.out = [.read (loWord (max s.now time))])) ∧
  (∀ (s : State) (p : Fin 12) (k : Fin 32) (periodic long : Bool) (time : Nat),
    (s.at time).partNow p = true → Cmp.reached { s.cmp p k with long := long } (max s.now time) = false →
    Completes (.cmpCtrlArm p k periodic long time) s (fun u => u.cmp p k =
      { s.cmp p k with armed := true, periodic := periodic && decide (1000 ≤ (s.cmp p k).period.toNat), long := long })) ∧
  (∀ (s : State) (p : Fin 12) (k : Fin 32) (periodic long : Bool), s.partNow p = true →
    Completes (.cmpCtrlDisarm p k periodic long) s (fun u => (u.cmp p k).armed = false))

/-- R215, R216, R218, R226, R228, R234: a cycle starts with the latch of its input image and ends with its counts;
the modes, the forces and the statistics of the Scan Engine. -/
def Obligations.ScanEngineComplete : Prop :=
  (∀ (s : State) (p : Fin 12) (time : Nat), (s.at time).cycleDue p = true →
    Completes (.scanCycleStart p [] time) s (fun u => (u.part p).inCycle = true ∧
      (u.part p).cycleStart = max s.now time ∧ (u.part p).latched = (s.at time).latchBuf ∧
      (u.part p).sysCycle = (s.part p).sysCycle)) ∧
  (∀ (s : State) (p : Fin 12) (errNs execUs time : Nat), (s.at time).partNow p = true → (s.part p).inCycle = true →
    execUs < s.parN 0x03 p 4 → (s.part p).asks = [] →
    Completes (.scanCycleEnd p [] { ns := errNs } execUs time) s (fun u => (u.part p).inCycle = false ∧
      (u.part p).sysCycle = ((s.part p).sysCycle + 1) % 2 ^ 32 ∧ (u.part p).scanCount = (s.part p).sysCycle ∧
      (u.part p).state = (if (s.part p).state = .starting then .run else (s.part p).state))) ∧
  Runs .scanRun 0 1 (fun s _ r => partOf r < 12 ∧ s.runsPlant = true ∧ s.parB 0x03 (partOf r) 0 = true ∧
      s.pairUp (partOf r) = true ∧ (s.part (partOf r)).image.isSome = true ∧ (s.part (partOf r)).state = .stopped ∧ bitOf (r.w 2) 8 = false)
    (fun s t r u => Replied s t r [] u ∧ (u.part (partOf r)).state = .starting ∧
      (u.part (partOf r)).mem = (s.part (partOf r)).mem) ∧
  Runs .scanRunCold 0 1 (fun s _ r => partOf r < 12 ∧ s.runsPlant = true ∧ s.parB 0x03 (partOf r) 0 = true ∧
      s.pairUp (partOf r) = true ∧ (s.part (partOf r)).image.isSome = true ∧ (s.part (partOf r)).state = .stopped ∧ bitOf (r.w 2) 8 = true)
    (fun s t r u => Replied s t r [] u ∧ (u.part (partOf r)).state = .starting ∧
      ∀ a : Nat, baseRetain ≤ a → a < baseRetain + s.retainBytes (partOf r) → (u.part (partOf r)).mem.read a = 0) ∧
  Runs .scanStop 0 1 (fun s _ r => partOf r < 12 ∧ s.runsPlant = true ∧ (s.part (partOf r)).asks = [] ∧
      ((s.part (partOf r)).state = .run ∨ (s.part (partOf r)).state = .starting ∨ (s.part (partOf r)).state = .held))
    (fun s t r u =>
      ((s.part (partOf r)).inCycle = false → Replied s t r [] u ∧ (u.part (partOf r)).state = .stopped) ∧
      ((s.part (partOf r)).inCycle = true → (u.part (partOf r)).asks = [.stop t r.seq])) ∧
  Runs .scanHold 1 1 (fun s _ r => partOf r < 12 ∧ s.single = true ∧ (s.part (partOf r)).state = .run ∧
      (s.part (partOf r)).inCycle = false)
    (fun s t r u => Replied s t r [] u ∧ (u.part (partOf r)).state = .held) ∧
  Runs .scanStep 1 1 (fun s _ r => partOf r < 12 ∧ s.runsPlant = true ∧ (s.part (partOf r)).state = .held)
    (fun s t r u => (u.part (partOf r)).asks = (s.part (partOf r)).asks ++ [.step t r.seq]) ∧
  Runs .scanResume 1 1 (fun s _ r => partOf r < 12 ∧ s.runsPlant = true ∧ (s.part (partOf r)).state = .held ∧
      (s.part (partOf r)).asks = [])
    (fun s t r u => Replied s t r [] u ∧ (u.part (partOf r)).state = .run ∧
      (u.part (partOf r)).nextGrid = max s.now r.time) ∧
  (∀ (f : Force) (rest : List Force),
    Runs .forceSet 1 5 (fun s _ r => partOf r < 12 ∧
        f = { addr := (r.w 3).toNat, bit := fieldOf (r.w 4) 5 0, width := fieldOf (r.w 4) 14 8,
              value := ofHiLo (r.w 5) (r.w 6) } ∧
        rest = (s.part (partOf r)).forces.filter
          (fun e => !(e.addr == f.addr && e.bit == f.bit && e.width == f.width)) ∧
        1 ≤ f.width ∧ f.width ≤ 64 ∧ (inputListed f.addr || outputListed f.addr) = true ∧ rest.length < 64)
      (fun s t r u => Replied s t r [w32 (rest.length + 1)] u ∧ (u.part (partOf r)).forces = rest ++ [f])) ∧
  Runs .forceClear 1 2 (fun _ _ r => partOf r < 12 ∧ r.w 3 = 0xFFFFFFFF)
    (fun s t r u => Replied s t r [0] u ∧ (u.part (partOf r)).forces = []) ∧
  Runs .forceList 0 1 (fun s _ r => partOf r < 12 ∧ (s.part (partOf r)).forces.length ≤ 63)
    (fun s t r => Replied s t r ((s.part (partOf r)).forces.flatMap Force.words)) ∧
  (∀ (c : CycleStat) (rest : List CycleStat),
    Runs .scanStat 0 1 (fun s _ r => partOf r < 12 ∧ (s.part (partOf r)).stats = c :: rest)
      (fun s t r => Replied s t r
        [w32 (rest.foldl (fun m x => min m x.elapsed) c.elapsed), w32 ((c :: rest).foldl (fun m x => max m x.elapsed) 0),
          w32 ((c :: rest).foldl (fun m x => max m x.late) 0), w32 ((c :: rest).foldl (fun m x => max m x.exec) 0),
          w32 ((c :: rest).filter (fun x => x.overrun)).length]))

/-! ## The redundant Pair (chapter 9) -/

/-- R236, R237, R240, R244: the HOLD line: the pulse, the Keeper's confirmation, what is seen on the line, the
claim, contention and the loss of the own pulse or of the partner's sense. -/
def Obligations.HoldLineComplete : Prop :=
  (∀ (s : State) (time : Nat), s.single = false → s.power.keeper = .running → s.runsPlant = true →
    Completes (.holdPulse time) s (fun u => u.out = [.hold true] ∧ u.pair.driving = true ∧
      u.pair.confirmAt = max s.now time)) ∧
  (∀ (s : State) (time : Nat), s.pair.driving = true → s.pair.confirmAt + 200000 ≤ max s.now time →
    Completes (.keeperConfirmTimeout time) s (fun u => u.out = [.hold false] ∧ u.pair.driving = false)) ∧
  (∀ (s : State) (time : Nat), s.single = false → s.pair.claimAt = none → s.runsPlant = false →
    Completes (.pulseSeen time) s (fun u => u.pair.partnerPulse = true ∧ u.pair.sense = true ∧
      (s.watchesHold = true → u.pair.role = .notReady))) ∧
  (∀ (s : State) (time : Nat), s.watchesHold = true → s.pair.holdFault = false →
    Completes (.pulseAbsent time) s (fun u => u.pair.partnerPulse = false ∧ u.out = [.hold true] ∧
      u.pair.claimAt = some (max s.now time) ∧ u.pair.driving = true)) ∧
  (∀ (s : State) (time a : Nat), s.pair.claimAt = some a → a + 1000000 ≤ max s.now time → s.pair.seenOwn = true →
    s.pair.sideConflict = false →
    Completes (.claimEnd time) s (fun u => u.pair.claimAt = none ∧ u.runsPlant = true)) ∧
  (∀ (s : State) (time : Nat), s.single = false → s.ident.sideB = true →
    ((s.pair.claimAt.isSome = true → Completes (.contention time) s (fun u =>
        u.pair.claimAt = none ∧ u.pair.driving = false ∧ u.out = [.hold false])) ∧
     (s.pair.claimAt = none → s.runsPlant = true → Completes (.contention time) s (fun u =>
        u.pair.role = .offline ∧ u.pair.giveUpAt = some (max s.now time))))) ∧
  (∀ (s : State) (time : Nat), s.single = false → s.runsPlant = true →
    Completes (.ownPulseMissing time) s (fun u =>
      if s.partnerFollows && s.linkUp then u.pair.role = .offline else u.pair.holdFault = true)) ∧
  (∀ (s : State) (time : Nat), s.single = false →
    Completes (.partnerSenseAbsent time) s (fun u => u.pair.sense = false ∧
      (s.runsPlant = true → s.linkUp = true → s.partnerFollows = true → u.pair.role = .offline)))

/-- R235, R239, R242, R249, R255, R413: lanes, control blocks, the end of a fold, the return after a
switchover, and the two events of HIBERNATE. -/
def Obligations.PairLinkComplete : Prop :=
  (∀ (s : State) (time : Nat), s.power.hibAsk = none → s.pair.lane2 = false →
    Completes (.laneDown 0 time) s (fun u => u.linkUp = false ∧ (s.linkUp = true → u.pair.partner = none))) ∧
  (∀ (s : State) (lane : Fin 2) (time : Nat), s.single = false → s.up 49 = true → s.keeperUp = true →
    Completes (.laneUp lane time) s (fun u => u.linkUp = true ∧
      (if lane = 0 then u.pair.lane1 = true else u.pair.lane2 = true) ∧
      (s.linkUp = false → u.pair.linkUpAt = some (max s.now time)))) ∧
  (∀ (s : State) (b : ControlBlock) (time : Nat), s.single = false → s.linkUp = true →
    Completes (.controlBlockReceived b time) s (fun u => u.pair.partner = some b.role ∧ u.pair.partnerBlock = b ∧
      u.pair.fwMismatch = (b.release != s.release.toNat) ∧ u.pair.sideConflict = (b.sideB == s.ident.sideB))) ∧
  (∀ (s : State) (time a : Nat), s.single = false → s.runsPlant = true → s.linkUp = true → s.partnerFollows = true →
    s.pair.linkUpAt = some a → a + 1000000000 ≤ max s.now time →
    Completes (.foldEnd time) s (fun u => ∀ c : Nat, c < 64 → (s.chain c).running = .folded →
      (s.chPositions c, 0) ∈ (u.chain c).segments)) ∧
  (∀ (s : State) (time a : Nat), s.pair.switchAt = some a → a + 10000000 ≤ max s.now time → s.pair.role = .offline →
    Completes (.switchoverReturn time) s (fun u => u.pair.switchAt = none ∧ u.pair.role = .notReady)) ∧
  (∀ (s : State) (time : Nat), s.single = false → s.linkUp = true → s.runsPlant = false → s.power.state = .run →
    s.power.keeper = .running → Completes (.hibernateReceived time) s (fun u => u.power.state = .hibernate)) ∧
  (∀ (s : State) (time t q a : Nat) (p : Packet), s.power.hibAsk = some (t, q, a) → a + 1000000000 ≤ max s.now time →
    (s.tenant t).executing = [{ pkt := p }] → (s.tenant t).queued = [] → p.req.seq = q → p.req.flags = 0 →
    Completes (.hibernatePartnerTimeout time) s (fun u => u.power.hibAsk = none ∧
      (u.tenant t).unread = (s.tenant t).unread ++
        [{ words := replyWords { status := stRejected 0x33, seq := q, tag := p.req.tag } }]))

/-- R244 to R248: a give-up leaves the plant with frozen outputs, the partner sees it, the freeze ends, and
the partner takes over: ALONE when it was ready, NEWT otherwise. -/
def Obligations.GiveUpAndTakeoverComplete : Prop :=
  (∀ (s : State) (cause : GiveUpCause) (time : Nat), s.givesUp cause = true →
    Completes (.giveUp cause time) s (fun u => u.pair.role = .offline ∧ u.pair.driving = false ∧
      u.pair.giveUpAt = some (max s.now time) ∧ (s.runsPlant = true → u.pair.frozen = some (max s.now time)))) ∧
  (∀ (s : State) (cause : GiveUpCause) (time : Nat), s.single = false → s.linkUp = true →
    Completes (.giveUpReceived cause time) s (fun u => u.pair.partner = some .offline ∧
      (s.follows = true → u.pair.giveUpSeen = some (max s.now time)))) ∧
  (∀ (s : State) (time : Nat), s.isFrozen = true →
    Completes (.firstOutputReceived time) s (fun u => u.pair.frozen = none)) ∧
  (∀ (s : State) (time a : Nat), s.pair.frozen = some a → a + 2500000 ≤ max s.now time →
    Completes (.freezeTimeout time) s (fun u => u.pair.frozen = none)) ∧
  (∀ (s : State) (time : Nat), (s.at time).takeoverDue = true → s.keeperUp = true →
    Completes (.takeoverDecision time) s (fun u => Out.hold true ∈ u.out ∧ u.pair.driving = true ∧
      u.pair.role = (if s.pair.role = .standby ∧ s.pair.mode ≠ 2 then .alone else .newt)))

/-- R108, R251, R252, R254 to R256: deltas, snapshots, digests, resynchronised slots and images between the
two modules. -/
def Obligations.MirrorComplete : Prop :=
  (∀ (s : State) (d : Delta) (time : Nat), s.follows = true → s.linkUp = true → d.body.set ≤ 13 →
    (12 ≤ d.body.set ∨ s.pair.mode ≠ 2) → (s.pair.sets.get d.body.set).snapped = true →
    (s.pair.sets.get d.body.set).missing = false → d.crc = blocksCrc d.blocks →
    Completes (.mirrorDeltaReceived d true time) s (fun u =>
      if d.base = (s.pair.sets.get d.body.set).last then
        (u.pair.sets.get d.body.set).last = d.num ∧
          (u.pair.sets.get d.body.set).current = some (Delta.apply d (s.pair.sets.get d.body.set).current)
      else (u.pair.sets.get d.body.set).missing = true ∧
        Out.agfin "SNAPSHOT_REQUEST" [w32 d.body.set] ∈ u.out)) ∧
  (∀ (s : State) (num : Nat) (body : MirrorBody) (time : Nat), s.follows = true → s.linkUp = true → body.set ≤ 13 →
    (s.pair.sets.get body.set).kept = [] →
    Completes (.snapshotReceived num body time) s (fun u => (u.pair.sets.get body.set).last = num ∧
      (u.pair.sets.get body.set).current = some body ∧ (u.pair.sets.get body.set).snapped = true)) ∧
  (∀ (s : State) (k : Fin 14) (time : Nat), s.mirrors = true →
    Completes (.snapshotRequestReceived k time) s (fun u => u.out =
      [.mirror (snapshotOf (s.pair.sets.get k).last ((s.at time).mirrorBody k)) true])) ∧
  (∀ (s : State) (time p : Nat), s.mirrors = true → s.pair.mode = 2 → p < 12 → s.parB 0x03 p 0 = true →
    (s.part p).inCycle = false →
    Completes (.newtSnapshot time) s (fun u =>
      Out.mirror (snapshotOf (s.pair.sets.get p).last ((s.at time).mirrorBody p)) true ∈ u.out)) ∧
  (∀ (s : State) (tick : Nat) (digests : List Word) (time c : Nat), s.single = false → s.linkUp = true →
    tick % 1000 = 0 → c < 64 → s.inService c = true → s.tileWorks c = true → (s.tile c).tick = tick + 1 →
    Completes (.digestReceived tick digests time) s (fun u =>
      (u.tile c).mismatch = decide ((s.tile c).digest ≠ digests.getD c 0))) ∧
  (∀ (s : State) (c : Fin 64) (time : Nat), s.single = false → s.runsPlant = true → s.linkUp = true →
    s.inService c = true → s.tileWorks c = true →
    Completes (.resyncRequestReceived c time) s (fun u => (u.tile c).resync =
      some ((max s.now time + 2999999) / 1000000, (List.range (s.chPositions c)).map (· + 1)))) ∧
  (∀ (s : State) (c : Fin 64) (p tick : Nat) (slots : List Slot) (time t0 : Nat) (ps : List Nat),
    s.follows = true → s.linkUp = true → (s.tile c).resync = some (t0, ps) → p ∈ ps →
    Completes (.resyncSlotsReceived c p tick slots time) s (fun u =>
      (Tile.nextOf (s.tile c) p ≤ tick → (p, tick, slots) ∈ (u.tile c).resyncWait) ∧
      (tick < Tile.nextOf (s.tile c) p → (s.tile c).tick ≤ Tile.nextOf (s.tile c) p → (s.tile c).waiting = [] →
        ∀ k : Nat, k < 18 → (u.tile c).slots.get (slotKey p (k + 1)) = slots.getD k {}))) ∧
  (∀ (s : State) (c : CfgCopy) (time : Nat), s.follows = true → s.linkUp = true →
    Completes (.partnerImageReceived (.config c) false time) s (fun u => u.out = [.agfin "ACK" [0]] ∧
      u.cfg.generation = c.generation ∧ u.cfg.copyA.params = c.params ∧ u.cfg.copyB.params = c.params ∧
      u.cfg.due = s.cfg.due ++ [(effectiveTick c.time, c.params)]))

/-- R238, R242, R254, R257, R258: the opcodes of group 0x40. -/
def Obligations.PairOpcodesComplete : Prop :=
  Runs .pairStatus 0 0 (fun _ _ _ => True) (fun s t r => Replied s t r
    [w32 s.role.code, w32 s.partnerCode, s.notReadyWord, s.pairLink, w32 s.mirrorLoads]) ∧
  Runs .pairSwitchover 1 1 (fun s _ _ => s.single = false ∧ s.runsPlant = true ∧ s.linkUp = true ∧
      s.pair.partner = some .standby)
    (fun s _ r u => u.pair.role = .offline ∧ u.pair.switchAt = some (max s.now r.time)) ∧
  Runs .pairSetSide 2 1 (fun s _ _ => s.role ≠ .active ∧ s.role ≠ .alone ∧ s.role ≠ .newt)
    (fun s t r u => Replied s t r [] u ∧ u.ident.sideNext = bitOf (r.w 2) 0 ∧ u.ident.sideB = s.ident.sideB) ∧
  Runs .pairResync 1 1 (fun s _ r => fieldOf (r.w 2) 7 0 ≤ 63 ∧ s.follows = true)
    (fun s t r u => Replied s t r [] u ∧ fieldOf (r.w 2) 7 0 ∉ u.pair.resynced)

/-! ## Plant time and the network (chapter 10) -/

/-- R13, R263, R264: a master's messages, the slew of a measured offset, holdover, and the module as master. -/
def Obligations.PlantTimeComplete : Prop :=
  (∀ (s : State) (port : Fin 5) (a : Announce) (time : Nat), s.ptpOn port = true → a.domain = s.parN 0x41 0 1 →
    Completes (.ptpMessageReceived port (.announce a) time) s (fun u =>
      (u.time.ports.get port).foreign.any (fun f => f.data == a && f.heard.head? == some (max s.now time)) = true ∧
      u.time.lastHeard = max s.now time)) ∧
  (∀ (s : State) (port : Fin 5) (t1 t2 time : Nat), s.ptpOn port = true → s.time.selected = some port.val →
    s.anyInService = true →
    Completes (.ptpMessageReceived port (.sync (s.parN 0x41 0 1) (some t1) t2) time) s (fun u =>
      u.time.offset = (t2 : Int) - t1 - (s.time.ports.get port).delay ∧ u.time.slew = -u.time.offset ∧
      u.now = max s.now time ∧ Out.net port "DELAY_REQ" ∈ u.out)) ∧
  (∀ (s : State) (time : Nat) (a : Announce), (s.time.state = .locked ∨ s.time.state = .acquiring) →
    s.time.master = some a →
    s.time.lastHeard + s.parN 0x41 0 7 * a.intervalNs ≤ max s.now time →
    Completes (.announceTimeout time) s (fun u => u.time.state = .holdover ∧ u.time.selected = none)) ∧
  (∀ (s : State) (port : Fin 5) (time : Nat), s.ptpOn port = true → (s.at time).portState port = 6 →
    (s.time.ports.get port).lastSync + s.syncNs ≤ max s.now time →
    Completes (.ptpMasterSend port time) s (fun u => Out.net port "SYNC" ∈ u.out ∧
      (u.time.ports.get port).lastSync = max s.now time)) ∧
  Runs .timeStatus 0 0 (fun _ _ _ => True) (fun s t r => Replied s t r
    [w32 s.time.state.code, s.offsetWord, i32 s.time.rate, hiWord (max s.now r.time), loWord (max s.now r.time),
      hiWord s.time.gm, loWord s.time.gm]) ∧
  Runs .timeSet 1 2 (fun s _ _ => s.runsPlant = true ∧ s.anyInService = false ∧ s.time.state ≠ .locked ∧
      s.time.state ≠ .following)
    (fun s t r u => Replied s t r [] u ∧ u.now = ofHiLo (r.w 2) (r.w 3))

/-- R170, R172, R181, R259, R260, R267, R268, R274: an ARP request is answered and a session's frame is read, PRP
forgets, supervises and follows its links, and the launch-time queues take frames and let them go. -/
def Obligations.NetworkComplete : Prop :=
  (∀ (s : State) (port : Fin 5) (f : EthFrame) (time : Nat), port.val ≠ 0 → s.portOn port = true → s.linkOf port = true →
    EthFrame.accepted f = true → f.kind = .arp → s.prpSeen port f = false →
    s.poolCan (7 + port) ((f.length + 63) / 64) = true →
    Completes (.ethFrameReceived port f time) s (fun u => ∀ q : Nat,
      (if port.val ≤ 2 then q = 1 ∨ q = 2 else q = port.val) → s.linkOf q = true → Out.net q "ARP_REPLY" ∈ u.out)) ∧
  (∀ (s : State) (port : Fin 5) (f : EthFrame) (t : Fin 16) (ws : List Word) (w : Session) (time : Nat),
    port.val ≠ 0 → s.portOn port = true → s.linkOf port = true → EthFrame.accepted f = true → f.kind = .tls t ws →
    s.prpSeen port f = false → s.poolCan (7 + port) ((f.length + 63) / 64) = true →
    (s.tenant t).session = some w → w.port = port.val → packetAhead (w.words ++ ws) = some (w.words ++ ws).length →
    s.power.state = .run → s.takesPackets = true → 0 < (s.tenant t).credits → (s.tenant t).queued = [] →
    (s.tenant t).executing = [] → Packet.malformed (packetOf (max s.now time) (w.words ++ ws)) = false →
    Completes (.ethFrameReceived port f time) s (fun u =>
      (u.tenant t).queued = [packetOf (max s.now time) (w.words ++ ws)] ∧
      (u.tenant t).credits + 1 = (s.tenant t).credits)) ∧
  (∀ (s : State) (time : Nat), Completes (.prpEntryForgotten time) s (fun u =>
    u.net.prp = s.net.prp.filter (fun e => decide (max s.now time < e.2.2.1 + 400000000)) ∧
    u.net.nodes = s.net.nodes.filter (fun e => decide (max s.now time < e.2 + 60000000000)))) ∧
  (∀ (s : State) (time p : Nat), s.portOn 1 = true → s.power.state = .run →
    s.net.supervisionAt + 2000000000 ≤ max s.now time → (p = 1 ∨ p = 2) → s.linkOf p = true →
    Completes (.prpSupervision time) s (fun u => Out.net p "PRP_SUPERVISION" ∈ u.out ∧
      u.net.supervisionAt = max s.now time)) ∧
  (∀ (s : State) (port : Fin 5) (up : Bool) (time : Nat), port.val ≠ 0 → s.up 48 = true → s.linkOf port = !up →
    Completes (.netLinkChange port up time) s (fun u => u.linkOf port = up ∧
      (port.val ≤ 2 → s.canRecord 2 → Recorded 0x41 0x01 127 [w32 port, w32 (b2n up)] u))) ∧
  (∀ (s : State) (port : Fin 4) (queue : Fin 8) (time p : Nat) (f : LaunchFrame) (rest : List LaunchFrame),
    s.queueOf port queue = f :: rest → s.up 48 = true → f.launch ≤ max s.now time →
    (List.range queue).all (fun q => (s.queueOf port q).head?.all (fun g => decide (f.launch < g.launch))) = true →
    p ∈ launchPorts port → s.linkOf p = true →
    max s.now time ≤ f.launch + s.parN 0x41 (launchPort port) 4 * 1000 →
    Completes (.launchTimeDue port queue time) s (fun u => Out.launch p queue f ∈ u.out ∧
      u.queueOf port queue = rest)) ∧
  Runs .netStatus 0 1 (fun _ _ r => 1 ≤ (r.w 2).toNat ∧ (r.w 2).toNat ≤ 4)
    (fun s t r => Replied s t r ((s.at r.time).portWords (r.w 2).toNat)) ∧
  (∀ (n k q : Nat) (f : LaunchFrame), Runs .netLaunch 0 n (fun s t r => launchLen r.payload = true ∧
      s.runsPlant = true ∧ k = fieldOf (r.w 2) 1 0 ∧ q = fieldOf (r.w 2) 10 8 ∧
      f = { launch := ofHiLo (r.w 3) (r.w 4) / 8 * 8, dest := r.w 6, port := fieldOf (r.w 5) 15 0,
            bytes := fieldOf (r.w 7) 9 0, data := r.payload.drop 6 } ∧
      k ≠ 0 ∧ 2 ≤ q ∧ 1 ≤ f.bytes ∧ f.bytes ≤ 992 ∧ (s.queueOf k q).length < 16 ∧
      ofHiLo (r.w 3) (r.w 4) ≤ max s.now r.time + 1000000000 ∧
      max s.now r.time ≤ ofHiLo (r.w 3) (r.w 4) + s.parN 0x41 (launchPort k) 4 * 1000 ∧
      ((s.at r.time).intake t 0x4104 r).1.poolCan (7 + launchPort k) (LaunchFrame.cells f) = true)
    (fun s t r u => Replied s t r [] u ∧ u.queueOf k q = insertLaunch f (s.queueOf k q)))

/-! ## Loops, injection, trace, valves (chapter 11) -/

/-- R276, R277, R284, R285, R288: a sample of a slot in RUN and in TRACK, the feedback timeout and the end of an
injection. -/
def Obligations.LoopEventsComplete : Prop :=
  (∀ (s : State) (i : Fin 64) (time : Nat) (y : Fx), max s.now time % s.loopPeriod i = 0 → s.unitUp 47 = true →
    s.runsPlant = true → (s.loop i).state = .run → s.feedback i (max s.now time) = (y, true) →
    Completes (.loopSample i time) s (fun u => (u.loop i).state = .run ∧ (u.loop i).at_ = max s.now time ∧
      (u.loop i).y = y.val ∧ (u.loop i).fbInvalid = false ∧
      ((u.loop i).r, (u.loop i).v, (u.loop i).a) = s.profile i)) ∧
  (∀ (s : State) (i : Fin 64) (time : Nat) (y : Fx), max s.now time % s.loopPeriod i = 0 → s.unitUp 47 = true →
    s.runsPlant = true → (s.loop i).state = .run → s.feedback i (max s.now time) = (y, false) →
    Completes (.loopSample i time) s (fun u => (u.loop i).fbInvalid = true ∧ (u.loop i).u = (s.loop i).u ∧
      (u.loop i).i = (s.loop i).i)) ∧
  (∀ (s : State) (i : Fin 64) (time : Nat), max s.now time % s.loopPeriod i = 0 → s.unitUp 47 = true →
    s.runsPlant = true → (s.loop i).state = .track → s.destFaulted i = false →
    Completes (.loopSample i time) s (fun u => (u.loop i).state = .track ∧ (u.loop i).u = (s.loop i).track)) ∧
  (∀ (s : State) (i : Fin 64) (time a : Nat), (s.loop i).fbSince = some a → (s.loop i).state = .run →
    a + s.parN 0x24 i 6 * 1000000 ≤ max s.now time → s.canRecord 2 →
    Completes (.loopFbTimeout i time) s (fun u => (u.loop i).state = .off ∧ Recorded 0x24 0x03 127 [w32 i, 0] u)) ∧
  (∀ (s : State) (g : Fin 4) (time : Nat), (s.inj g).running = true → s.parN 0x24 (0x40 + g) 5 ≠ 0 →
    (s.inj g).startAt + s.parN 0x24 (0x40 + g) 5 * 1000000 ≤ max s.now time →
    Completes (.injDurationEnd g time) s (fun u => (u.inj g).running = false ∧ (u.inj g).armed = false))

/-- R291, R293 to R295: an update of a valve port, its uplink, its link fault and its standstill. -/
def Obligations.ValveEventsComplete : Prop :=
  (∀ (s : State) (v : Fin 16) (time : Nat), max s.now time % 50000 = 0 → s.valveLive (v.val + 1) = true →
    (s.isFrozen = true ∨ s.runsPlant = true) → (s.valve (v.val + 1)).driver = true →
    Completes (.valveUpdate v time) s (fun u =>
      (u.valve (v.val + 1)).seq = ((s.valve (v.val + 1)).seq + 1) % 16 ∧
      Out.valve (v.val + 1) (downlink (u.valve (v.val + 1)).mode (valveIndex (u.valve (v.val + 1)).phase)
        (u.valve (v.val + 1)).scale (u.valve (v.val + 1)).seq) ∈ u.out ∧
      (s.isFrozen = true → (u.valve (v.val + 1)).phase = (s.valve (v.val + 1)).phase % 4294967296))) ∧
  (∀ (s : State) (v : Fin 16) (bits : BitVec 40) (time : Nat), s.valveLive (v.val + 1) = true → s.runsPlant = true →
    lineField bits 0 3 = 9 →
    (crc8 (bitsMsb 28 (lineField bits 4 31)) = lineField bits 32 39 → lineField bits 4 7 = (s.valve (v.val + 1)).seq →
      Nat.testBit (lineField bits 8 15) 3 = true →
      Completes (.valveUplinkReceived v bits time) s (fun u =>
        (u.valve (v.val + 1)).imeas = lineField bits 16 23 ∧ (u.valve (v.val + 1)).temp = lineField bits 24 31 ∧
        (u.valve (v.val + 1)).missed = 0)) ∧
    (crc8 (bitsMsb 28 (lineField bits 4 31)) ≠ lineField bits 32 39 →
      Completes (.valveUplinkReceived v bits time) s (fun u =>
        (u.valve (v.val + 1)).crcErr = ((s.valve (v.val + 1)).crcErr + 1) % 2 ^ 32 ∧
        (u.valve (v.val + 1)).imeas = (s.valve (v.val + 1)).imeas))) ∧
  (∀ (s : State) (v : Fin 16) (time : Nat), s.valveLive (v.val + 1) = true → s.runsPlant = true →
    s.parN 0x25 v 5 ≤ (s.valve (v.val + 1)).missed →
    Completes (.valveLinkFault v time) s (fun u => (u.valve (v.val + 1)).linkFault = true ∧
      (u.valve (v.val + 1)).state = .fault)) ∧
  (∀ (s : State) (v : Fin 16) (time a : Nat), (s.valve (v.val + 1)).stillSince = some a →
    (s.valve (v.val + 1)).state = .run → a + s.parN 0x25 v 4 * 1000000 ≤ max s.now time →
    Completes (.valveStill v time) s (fun u => (u.valve (v.val + 1)).state = .standstill ∧
      (u.valve (v.val + 1)).speed = 0))

/-- R284, R288 to R290, R295, R298: the opcodes of groups 0x24 and 0x25. -/
def Obligations.LoopOpcodesComplete : Prop :=
  Runs .loopRead 0 1 (fun _ _ r => (r.w 2).toNat < 64) (fun s t r => Replied s t r
    [s.loopSt (r.w 2).toNat, i32 (s.loop (r.w 2).toNat).rOut, i32 (s.loop (r.w 2).toNat).y,
      i32 (s.loop (r.w 2).toNat).u, i32 (narrow { val := (s.loop (r.w 2).toNat).i }).val,
      i32 (q16 (s.loop (r.w 2).toNat).v), i32 (q16 (s.loop (r.w 2).toNat).a)]) ∧
  Runs .loopCtrlRun 1 2 (fun s _ r => s.runsPlant = true ∧ fieldOf (r.w 2) 9 8 = 0 ∧
      s.ownerRuns (s.ownLoop (fieldOf (r.w 2) 5 0)) = true ∧
      ((s.loop (fieldOf (r.w 2) 5 0)).state = .off ∨ (s.loop (fieldOf (r.w 2) 5 0)).state = .track))
    (fun s t r u => Replied s t r [] u ∧ (u.loop (fieldOf (r.w 2) 5 0)).state = .run) ∧
  Runs .loopCtrlTrack 1 2 (fun s _ r => s.runsPlant = true ∧ fieldOf (r.w 2) 9 8 = 1 ∧
      s.ownerRuns (s.ownLoop (fieldOf (r.w 2) 5 0)) = true ∧
      ((s.loop (fieldOf (r.w 2) 5 0)).state = .run ∨ (s.loop (fieldOf (r.w 2) 5 0)).state = .track))
    (fun s t r u => Replied s t r [] u ∧ (u.loop (fieldOf (r.w 2) 5 0)).state = .track ∧
      (u.loop (fieldOf (r.w 2) 5 0)).track = (r.w 3).toInt) ∧
  Runs .loopCtrlStop 1 2 (fun s _ r => s.runsPlant = true ∧ fieldOf (r.w 2) 9 8 = 2 ∧
      s.ownerRuns (s.ownLoop (fieldOf (r.w 2) 5 0)) = true ∧
      ((s.loop (fieldOf (r.w 2) 5 0)).state = .run ∨ (s.loop (fieldOf (r.w 2) 5 0)).state = .track))
    (fun s t r u => Replied s t r [] u ∧ (u.loop (fieldOf (r.w 2) 5 0)).state = .stopping) ∧
  (∀ i : Nat, Runs .injStart 1 1 (fun s _ r => s.runsPlant = true ∧ (r.w 2).toNat < 4 ∧
      i = s.parN 0x24 (0x40 + (r.w 2).toNat) 0 % 64 ∧ (s.loop i).state = .run ∧
      (s.inj (r.w 2).toNat).running = false ∧ (s.inj (r.w 2).toNat).armed = false ∧
      s.parN 0x24 (0x40 + (r.w 2).toNat) 1 = 0)
    (fun s t r u => (u.inj (r.w 2).toNat).armed = true ∧
      (u.inj (r.w 2).toNat).startAt = (max s.now r.time / s.loopPeriod i + 1) * s.loopPeriod i ∧
      Replied s t r [hiWord (u.inj (r.w 2).toNat).startAt, loWord (u.inj (r.w 2).toNat).startAt] u)) ∧
  Runs .injStop 1 1 (fun s _ r => s.runsPlant = true ∧ (r.w 2).toNat < 4)
    (fun s t r u => Replied s t r [] u ∧ (u.inj (r.w 2).toNat).running = false ∧
      (u.inj (r.w 2).toNat).armed = false) ∧
  Runs .traceArm 1 0 (fun s _ _ => s.runsPlant = true ∧ s.trcChans ≠ [] ∧ s.traceStreams = false)
    (fun s t r u => Replied s t r [] u ∧ u.trace.state = .armed ∧ u.trace.samples = []) ∧
  Runs .traceTrigger 0 0 (fun s _ _ => s.trace.state = .armed)
    (fun s t r u => Replied s t r [] u ∧ u.trace.forced = true) ∧
  Runs .traceStatus 0 0 (fun s _ _ => s.trace.samples = []) (fun s t r => Replied s t r
    [w32 s.trace.state.code, w32 s.trcDepth, 0, 0, w32 s.trace.trigIndex]) ∧
  Runs .valveRead 0 1 (fun _ _ r => 1 ≤ (r.w 2).toNat ∧ (r.w 2).toNat ≤ 16) (fun s t r => Replied s t r
    [Valve.status (s.valve (r.w 2).toNat), i32 (s.valve (r.w 2).toNat).pos, w32 (s.valve (r.w 2).toNat).imeas,
      w32 (s.valve (r.w 2).toNat).temp, w32 (s.valve (r.w 2).toNat).crcErr]) ∧
  Runs .valvePosSet 1 2 (fun s _ r => s.runsPlant = true ∧ 1 ≤ (r.w 2).toNat ∧ (r.w 2).toNat ≤ 16 ∧
      ((s.valve (r.w 2).toNat).state = .safe ∨ (s.valve (r.w 2).toNat).state = .standstill))
    (fun s t r u => Replied s t r [] u ∧ (u.valve (r.w 2).toNat).pos = (r.w 3).toInt)

/-! ## Feedback and field ports (chapters 12 to 14) -/

/-- R300, R302, R304, R307 to R311, R313, R314: an edge in QUAD mode, the sample, the capture at Z, the end of a
Leapfrog pulse, a command that the partner forwards, and the opcodes of group 0x23. -/
def Obligations.FeedbackComplete : Prop :=
  (∀ (s : State) (port : Fin 8) (levels : BitVec 3) (time : Nat) (n : Int), s.unitUp 45 = true →
    s.fbMode (port.val + 1) = 1 → (s.fb (port.val + 1)).levels.getLsbD 2 = true →
    quadCount (s.fb (port.val + 1)).levels levels = some n →
    Completes (.fbEdge port levels time) s (fun u => (u.fb (port.val + 1)).levels = levels ∧
      (u.fb (port.val + 1)).count = (s.fb (port.val + 1)).count + i32 (s.fbSign (port.val + 1) n))) ∧
  (∀ (s : State) (port : Fin 8) (serial : Option SerialRead) (time : Nat), max s.now time % 62500 = 0 → s.unitUp 45 = true →
    s.fbMode (port.val + 1) = 1 → (s.fb (port.val + 1)).posSet = none → (s.fb (port.val + 1)).leapSet = none →
    Completes (.fbSample port serial time) s (fun u =>
      (u.fb (port.val + 1)).pos = (s.fb (port.val + 1)).count ∧ Fb.valid (u.fb (port.val + 1)) = true)) ∧
  (∀ (s : State) (port : Fin 8) (levels : BitVec 3) (time : Nat) (n : Int), s.unitUp 45 = true →
    s.fbMode (port.val + 1) = 1 → levels.getLsbD 2 = true → (s.fb (port.val + 1)).levels.getLsbD 2 = false →
    quadCount (s.fb (port.val + 1)).levels levels = some n →
    Completes (.fbIndexCapture port levels time) s (fun u =>
      (u.fb (port.val + 1)).indexCap = (s.fb (port.val + 1)).count + i32 (s.fbSign (port.val + 1) n) ∧
      (u.fb (port.val + 1)).indexCount = ((s.fb (port.val + 1)).indexCount + 1) % 256)) ∧
  (∀ (s : State) (port : Fin 8) (time e : Nat), (s.fb (port.val + 1)).leapEnd = some e → e ≤ max s.now time →
    Completes (.leapPulseEnd port time) s (fun u => u.out = [.lfo (port.val + 1) false] ∧
      (u.fb (port.val + 1)).leapEnd = none)) ∧
  (∀ (s : State) (port : Fin 8) (pos leap : Word) (arm : Bool) (time : Nat), s.runsPlant = false →
    Completes (.fbForwardReceived port (some pos) (some leap) arm time) s (fun u =>
      (u.fb (port.val + 1)).posSet = some pos ∧ (u.fb (port.val + 1)).leapSet = some (leap, arm))) ∧
  Runs .fbRead 0 1 (fun _ _ r => 1 ≤ (r.w 2).toNat ∧ (r.w 2).toNat ≤ 8)
    (fun s t r => Replied s t r (Fb.words (s.fb (r.w 2).toNat))) ∧
  Runs .fbPosSet 1 2 (fun s _ r => s.runsPlant = true ∧ 1 ≤ (r.w 2).toNat ∧ (r.w 2).toNat ≤ 8 ∧
      (s.fbMode (r.w 2).toNat = 1 ∨ s.fbMode (r.w 2).toNat = 2))
    (fun s t r u => Replied s t r [] u ∧ (u.fb (r.w 2).toNat).posSet = some (r.w 3)) ∧
  Runs .fbLeapArm 1 3 (fun s _ r => s.single = true ∧ 1 ≤ (r.w 2).toNat ∧ (r.w 2).toNat ≤ 8 ∧
      s.fbMode (r.w 2).toNat ≠ 0 ∧ bitOf (r.w 4) 0 = true ∧
      leapMeets (s.parB 0x23 ((r.w 2).toNat - 1) 0xF) (s.fb (r.w 2).toNat).count (r.w 3) = false)
    (fun s t r u => Replied s t r [] u ∧ (u.fb (r.w 2).toNat).leapArmed = true ∧
      (u.fb (r.w 2).toNat).leapNext = r.w 3) ∧
  Runs .fbLeapDisarm 1 3 (fun s _ r => s.single = true ∧ 1 ≤ (r.w 2).toNat ∧ (r.w 2).toNat ≤ 8 ∧
      s.fbMode (r.w 2).toNat ≠ 0 ∧ bitOf (r.w 4) 0 = false)
    (fun s t r u => Replied s t r [] u ∧ (u.fb (r.w 2).toNat).leapArmed = false)


/-- R317 to R325, R327, R329, R332: an analog sample, a miswired channel opened and tried again, the end of a channel
test, what HART brings, and the opcodes of group 0x20. -/
def Obligations.AnalogComplete : Prop :=
  (∀ (s : State) (meas : List AnaMeas) (field : List Nat) (time i : Nat), time % 1000000 = 0 → s.unitUp 44 = true → i < 32 →
    (s.anaMode (i + 1) = 0 → Completes (.anaSample meas field time) s (fun u =>
      u.now = max s.now (time + 400000) ∧ (u.ana (i + 1)).code = 0 ∧ (u.ana (i + 1)).flags = 0)) ∧
    ((s.anaMode (i + 1) = 1 ∨ s.anaMode (i + 1) = 2) → s.parN 0x20 i 1 = 0 → (s.ana (i + 1)).offOnce = false →
      (s.ana (i + 1)).opened = false → (s.ana (i + 1)).recovering = false → (s.ana (i + 1)).test = none →
      1850 < field.getD (anaGroup (i + 1)) 0 → 7600 ≤ (meas.getD i {}).code → (meas.getD i {}).code ≤ 41000 →
      Completes (.anaSample meas field time) s (fun u =>
        (u.ana (i + 1)).code = (meas.getD i {}).code ∧ (u.ana (i + 1)).flags = 1))) ∧
  (∀ (s : State) (ch : Fin 32) (time a : Nat), (s.ana (ch.val + 1)).limitSince = some a → a + 100000000 ≤ max s.now time →
    s.unitUp 44 = true →
    Completes (.anaMiswireOpen ch time) s (fun u => (u.ana (ch.val + 1)).opened = true ∧
      (u.ana (ch.val + 1)).code = 0xFFFF ∧ (u.ana (ch.val + 1)).flags = 0x40 ∧
      (u.ana (ch.val + 1)).miswire = ((s.ana (ch.val + 1)).miswire + 1) % 2 ^ 32)) ∧
  (∀ (s : State) (ch : Fin 32) (time : Nat), (s.ana (ch.val + 1)).opened = true → (s.ana (ch.val + 1)).retrying = none →
    (s.ana (ch.val + 1)).openedAt + 2000000000 ≤ max s.now time → s.unitUp 44 = true →
    Completes (.anaMiswireRetry ch time) s (fun u => (u.ana (ch.val + 1)).retrying = some (max s.now time))) ∧
  (∀ (s : State) (ch : Fin 32) (code4 code20 time t seq stop : Nat) (p : Packet),
    (s.ana (ch.val + 1)).test = some (t, seq, stop) → stop ≤ max s.now time →
    (s.tenant t).executing = [{ pkt := p }] → (s.tenant t).queued = [] → p.req.seq = seq → p.req.flags = 0 →
    (s.ana (ch.val + 1)).hart = none →
    Completes (.anaTestDone ch code4 code20 time) s (fun u => (u.ana (ch.val + 1)).test = none ∧
      (u.tenant t).unread = (s.tenant t).unread ++
        [{ words := replyWords { status := stOk, seq := seq, tag := p.req.tag, payload := [w32 code4, w32 code20] } }])) ∧
  (∀ (s : State) (ch : Fin 32) (respCode devStatus : Byte) (data : List Byte) (time : Nat) (h : HartRun) (p : Packet),
    (s.ana (ch.val + 1)).hart = some h → (s.tenant h.tenant).executing = [{ pkt := p }] →
    (s.tenant h.tenant).queued = [] → p.req.seq = h.seq → p.req.flags = 0 →
    Completes (.hartReplyReceived ch respCode devStatus data true time) s (fun u => (u.ana (ch.val + 1)).hart = none ∧
      (u.tenant h.tenant).unread = (s.tenant h.tenant).unread ++
        [{ words := replyWords { status := stOk, seq := h.seq, tag := p.req.tag,
                                 payload := packWord [(0, respCode.toNat), (8, devStatus.toNat), (16, data.length % 256)] ::
                                   packBytes data.length data } }])) ∧
  (∀ (s : State) (ch : Fin 32) (time : Nat) (h : HartRun), (s.ana (ch.val + 1)).hart = some h →
    Completes (.hartTimeout ch time) s (fun u =>
      (u.ana (ch.val + 1)).hartErr = ((s.ana (ch.val + 1)).hartErr + 1) % 2 ^ 32 ∧
      (u.ana (ch.val + 1)).hart = (if h.tries < s.parN 0x20 ch 6 then some { h with tries := h.tries + 1 } else none))) ∧
  (∀ (s : State) (ch : Fin 32) (time : Nat), Completes (.hartSecondaryMasterFrame ch time) s (fun u =>
    u.ana (ch.val + 1) = s.ana (ch.val + 1) ∧ u.out = [])) ∧
  Runs .anaRead 0 1 (fun _ _ r => 1 ≤ chanOf r ∧ chanOf r ≤ 32) (fun s t r => Replied s t r
    [w32 (s.ana (chanOf r)).code, (s.ana (chanOf r)).flags.zeroExtend 32, w32 (s.ana (chanOf r)).volt,
      w32 (s.grpField.get (anaGroup (chanOf r)))]) ∧
  Runs .anaTest 1 1 (fun s _ r => s.runsPlant = true ∧ 1 ≤ chanOf r ∧ chanOf r ≤ 32 ∧ s.anaMode (chanOf r) ≠ 0 ∧
      s.anaMode (chanOf r) ≠ 3 ∧ (s.ana (chanOf r)).opened = false ∧ (s.ana (chanOf r)).test = none)
    (fun s t r u => (u.ana (chanOf r)).test = some (t.val, r.seq, max s.now r.time + 20000000) ∧
      (u.ana (chanOf r)).flags.getLsbD 9 = true ∧ (u.ana (chanOf r)).flags.getLsbD 0 = false) ∧
  (∀ n : Nat, Runs .hartCmd 1 n (fun s _ r => hartLen r.payload = true ∧ s.runsPlant = true ∧ 1 ≤ chanOf r ∧
      chanOf r ≤ 32 ∧ s.parB 0x20 (chanOf r - 1) 4 = true ∧ (s.ana (chanOf r)).hart = none)
    (fun _ t r u => Out.hart (chanOf r) r.payload ∈ u.out ∧
      (u.ana (chanOf r)).hart = some { tenant := t, seq := r.seq, req := r.payload }))

/-- R334, R338, R340 to R342: a digital input changes; an output is overloaded, tried again or reads back wrong;
a supply falls and returns. -/
def Obligations.DigitalComplete : Prop :=
  (∀ (s : State) (k : Fin 64) (level : Bool) (time : Nat), s.unitUp 45 = true →
    Completes (.diChange k level time) s (fun u => (u.di (k.val + 1)).valid = true ∧
      (u.di (k.val + 1)).value = (level != s.parB 0x21 k 2))) ∧
  (∀ (s : State) (k : Fin 32) (time : Nat), (s.dout (k.val + 1)).on = true →
    Completes (.doOverload k time) s (fun u => (u.dout (k.val + 1)).on = false ∧
      (u.dout (k.val + 1)).shutAt = some (max s.now time))) ∧
  (∀ (s : State) (k : Fin 32) (time a : Nat), (s.dout (k.val + 1)).shutAt = some a →
    a + s.parN 0x21 (0x40 + k.val) 0 * 1000000 ≤ max s.now time → (s.dout (k.val + 1)).cmd = true →
    s.runsPlant = true → s.unitUp 45 = true → s.vsupLow.get (doGroup (k.val + 1)) = false →
    Completes (.doRetry k time) s (fun u => (u.dout (k.val + 1)).on = true ∧ (u.dout (k.val + 1)).shutAt = none)) ∧
  (∀ (s : State) (k : Fin 32) (time : Nat), s.runsPlant = true → s.unitUp 45 = true →
    (s.dout (k.val + 1)).changedAt + 5000000 < max s.now time →
    Completes (.doReadbackMismatch k time) s (fun u => (u.dout (k.val + 1)).mismatch = true ∧
      u.fdpFault.get 0 = true)) ∧
  (∀ (s : State) (g : Fin 4) (time : Nat), Completes (.vsupLow g time) s (fun u => u.vsupLow.get g = true ∧
    u.fdpFault.get 0 = true ∧ ∀ i : Nat, i < 8 → (u.dout (8 * g + i + 1)).on = false)) ∧
  (∀ (s : State) (g : Fin 4) (time : Nat), s.runsPlant = true → s.unitUp 45 = true →
    Completes (.vsupRestored g time) s (fun u => u.vsupLow.get g = false ∧ ∀ i : Nat, i < 8 →
      (s.dout (8 * g + i + 1)).cmd = true → (s.dout (8 * g + i + 1)).shutAt = none →
      (u.dout (8 * g + i + 1)).on = true)) ∧
  Runs .digRead 0 0 (fun s _ _ => s.runsPlant = true) (fun s t r => Replied s t r
    [s.diWord 1, s.diWord 33, s.doWord, bits32 1 (fun k => (s.dout k).readback), w32 (b2n (s.fdpFault.get 0))])

/-! ## CAN FD (chapter 15) -/

/-- R348, R349, R353, R355, R357, R358, R362: an error, a reception, a transmission, a timeout, the end of a
recovery, the acknowledgment of an object, and the opcodes of group 0x22. -/
def Obligations.CanComplete : Prop :=
  (∀ (s : State) (k : Fin 8) (time : Nat), s.canLive k = true → s.canMonitor k = false →
    Completes (.canBusError k .txError time) s (fun u => (u.can k).tec = (s.can k).tec + 8 ∧
      (u.can k).state = (if 255 < (s.can k).tec + 8 then 2
        else if 127 < (s.can k).tec + 8 ∨ 127 < (s.can k).recCnt then 1 else 0))) ∧
  (∀ (s : State) (k : Fin 8) (f : CanFrame) (time o : Nat), s.canLive k = true → (s.can k).recCnt = 0 →
    f.remote = false → s.poolCan k 1 = true → s.rxObject k f = some o →
    Completes (.canFrameReceived k f time) s (fun u => ((u.can k).objs.get o).data = f.data ∧
      ((u.can k).objs.get o).ts = w32 (f.sof / 1000))) ∧
  (∀ (s : State) (k : Fin 8) (f : CanFrame) (time : Nat), s.canLive k = true → (s.can k).recCnt = 0 →
    f.remote = false → s.poolCan k 1 = true → s.rxObject k f = none →
    Completes (.canFrameReceived k f time) s (fun u =>
      (u.can k).rxUnmatched = ((s.can k).rxUnmatched + 1) % 2 ^ 32 ∧ (u.can k).objs = (s.can k).objs)) ∧
  (∀ (s : State) (k : Fin 8) (o : Fin 64) (sof time t0 tq : Nat) (d : List Byte), s.canLive k = true →
    s.canMonitor k = false → ((s.can k).objs.get o).pend = some (t0, [(d, tq)]) → tq ≤ sof →
    Completes (.canTxDone k (some o) sof none time) s (fun u => ((u.can k).objs.get o).pend = none ∧
      ((u.can k).objs.get o).ts = w32 (sof / 1000) ∧
      Out.can k { id := fieldOf (s.objPar k o 0) 28 0, ide := bitOf (s.objPar k o 0) 29, fdf := s.objFdf k o,
                  brs := bitOf (s.objPar k o 3) 1, data := d, sof := sof } ∈ u.out)) ∧
  (∀ (s : State) (k : Fin 8) (o : Fin 64) (time t0 : Nat) (vs : List (List Byte × Nat)),
    ((s.can k).objs.get o).pend = some (t0, vs) → t0 + s.parN 0x22 k 0xD * 1000000 ≤ max s.now time →
    Completes (.canTxTimeout k (some o) time) s (fun u => ((u.can k).objs.get o).pend = none ∧
      (u.can k).txLate = ((s.can k).txLate + 1) % 2 ^ 32)) ∧
  (∀ (s : State) (k : Fin 8) (time : Nat) (f : CanFrame), (s.can k).dispatch = [f] →
    (s.can k).dispAt.get f.id + s.parN 0x22 k 0xD * 1000000 ≤ max s.now time →
    Completes (.canTxTimeout k none time) s (fun u => (u.can k).dispatch = [] ∧
      (u.can k).txLate = ((s.can k).txLate + 1) % 2 ^ 32)) ∧
  (∀ (s : State) (k : Fin 8) (time : Nat), (s.can k).recovering = true → s.unitUp 46 = true →
    Completes (.canRecoveryDone k time) s (fun u => (u.can k).state = 0 ∧ (u.can k).tec = 0 ∧ (u.can k).recCnt = 0 ∧
      (u.can k).recovering = false)) ∧
  (∀ (s : State) (p : Fin 12) (k : Fin 8) (o : Fin 64), Completes (.objAckRead p k o) s (fun u =>
    u.out = [.read (s.objInfo k o ((s.can k).unread.get (p * 64 + o)))] ∧ (u.can k).unread.get (p * 64 + o) = 0 ∧
    (2 ≤ (s.can k).unread.get (p * 64 + o) → (u.can k).lostTotal.get p =
      ((s.can k).lostTotal.get p + (s.can k).unread.get (p * 64 + o) - 1) % 2 ^ 32))) ∧
  (∀ k : Nat, Runs .canStatus 0 1 (fun _ _ r => canOf r = some k) (fun s t r => Replied s t r
    [s.canStateWord k, w32 (s.can k).rxUnmatched, w32 (s.can k).poolRefused, w32 (s.can k).txLate,
      w32 (s.can k).busOff, w32 (s.can k).tdcNs])) ∧
  (∀ k : Nat, Runs .canRecover 1 1 (fun s _ r => canOf r = some k ∧ s.runsPlant = true ∧ (s.can k).state = 2)
    (fun s t r u => Replied s t r [] u ∧ (u.can k).recovering = true ∧ (u.can k).state = 2)) ∧
  (∀ k : Nat, Runs .canObjRead 0 1 (fun _ _ r => canOf r = some k) (fun s t r u => u.can k = s.can k ∧
    Replied s t r ([s.objInfo k (fieldOf (r.w 2) 13 8) 0, ((s.can k).objs.get (fieldOf (r.w 2) 13 8)).ts] ++
      packBytes ((s.can k).objs.get (fieldOf (r.w 2) 13 8)).data.length
        ((s.can k).objs.get (fieldOf (r.w 2) 13 8)).data) u))


/-! ## The safety unit (chapter 16) -/

/-- R363, R364, R368, R375, R376, R381 to R383, R386: the evaluator's cycle, its test pulses, its supply, its start
and its status, and the opcodes of group 0x30. -/
def Obligations.SafetyComplete : Prop :=
  (∀ (s : State) (x : SafeSense), SafeEval.live s.safe = true → Completes (.safeCycle x) s (fun u =>
    u.safe.cycles = s.safe.cycles + 1 ∧ ∀ k : Nat, k < 4 → x.stuck.getLsbD k = true →
      (u.safe.pairs.get (k + 1)).state = .fault ∧ (u.safe.pairs.get (k + 1)).stuck = true ∧
      ((s.safe.pairs.get (k + 1)).state = .on → Out.ossd (k + 1) false ∈ u.out))) ∧
  (∀ (s : State) (k : Fin 4) (readA readB : BitVec 24) (i f : Nat), SafeEval.live s.safe = true → i < 24 →
    siTest (SafeEval.set_ s.safe) (i + 1) = k.val + 1 → (s.safe.inA.get (i + 1)).raw = true → readA.getLsbD i = true →
    fnOfInput (SafeEval.set_ s.safe) (i + 1) = some f →
    Completes (.safeTestPulse k readA readB) s (fun u => (u.safe.fns.get f).state = .fault ∧
      (u.safe.fns.get f).testFail = true)) ∧
  (∀ s : State, s.safe.powered = true → Completes .safeSupplyLow s (fun u => u.safe.powered = false ∧
    ∀ k : Nat, k < 4 → (u.safe.pairs.get (k + 1)).state = .off)) ∧
  (∀ (s : State) (volt : Nat), s.safe.powered = true → s.safe.band = false → 3000 < volt → volt ≤ 3200 →
    Completes (.safeSupplyBand true volt) s (fun u => u.safe.band = true ∧ u.safe.supply = volt)) ∧
  (∀ (s : State) (volt : Nat), s.safe.powered = false → 2040 < volt → volt ≤ 3200 → s.safe.setGood = true →
    s.safe.confirmed = true →
    Completes (.safeStart true volt) s (fun u => u.safe.powered = true ∧ u.safe.state = .run ∧
      u.safe.scv = checkValue s.safe.setA)) ∧
  (∀ (s : State) (time : Nat), s.safe.powered = true → s.keeperUp = true →
    Completes (.safeStatusReport time) s (fun u =>
      u.safe.own = { words := SafeEval.words s.safe, at_ := some (max s.now time) } ∧ u.safe.events = [])) ∧
  (∀ (s : State) (time : Nat), s.single = false → s.linkUp = true → s.keeperUp = true →
    Completes (.safePartnerStatus time) s (fun u => u.out = [.agfin "SAFE_STATUS" s.safe.own.words])) ∧
  (∀ (s : State) (words : List Word) (time : Nat), s.single = false → s.linkUp = true →
    Completes (.safePartnerStatusReceived words time) s (fun u =>
      u.safe.partner = { words := words.take 12, at_ := some (max s.now time) })) ∧
  (∀ a : Nat, Runs .safeStatus 0 1 (fun s _ r => r.w 2 = 0 ∧ s.safe.own.at_ = some a) (fun s t r =>
    Replied s t r (SafeView.twelve s.safe.own ++ [w32 ((max s.now r.time - a) / 1000000)]))) ∧
  Runs .safeConfirm 2 1 (fun s _ r => s.safe.state = .unconfirmed ∧ checkValue s.safe.setA = r.w 2 ∧
      checkValue s.safe.setB = r.w 2)
    (fun s t r u => Replied s t r [] u ∧ u.safe.state = .run ∧ u.safe.confirmed = true) ∧
  Runs (fun t r => .safeStopReq t r true) 0 1 (fun s _ r => r.w 2 &&& 0xFFFFF0F0 = 0 ∧ SafeEval.live s.safe = true)
    (fun s t r u => Replied s t r [SafeEval.inForce u.safe] u ∧ ∀ i : Nat, i < 4 → bitOf (r.w 2) i = true →
      (u.safe.pairs.get (i + 1)).stopReq = true ∧ (u.safe.pairs.get (i + 1)).state ≠ .on)


/-! ## Start-up, firmware, power and thermal (chapters 17 and 18) -/

/-- R391 to R403, R449: power-on, the Keeper's start, the repair of a copy, the confirmation of an image, the
factory defaults and the cable test. -/
def Obligations.StartUpComplete : Prop :=
  (∀ (s : State) (boot : BootCheck) (volt : Nat), s.power.state = .off → 1800 ≤ volt →
    Completes (.powerOn boot volt) s (fun u => u.power.state = .run ∧ u.now = 0 ∧ u.power.causes.getLsbD 0 = true ∧
      u.power.cycles = (s.power.cycles + 1) % 2 ^ 32 ∧ u.ident.sideB = s.ident.sideNext)) ∧
  (∀ (s : State) (time : Nat), s.power.state = .run → s.power.keeper = .starting → s.ident.recovery = false →
    CfgCopy.good s.cfg.copyA = true → CfgCopy.good s.cfg.copyB = true → s.cfg.copyA.generation = s.cfg.copyB.generation →
    Completes (.keeperStart time) s (fun u => u.power.keeper = .running ∧ u.cfg.active = s.cfg.copyA.params ∧
      u.cfg.generation = s.cfg.copyA.generation)) ∧
  (∀ (s : State) (time : Nat), s.keeperUp = true →
    (s.cfg.repair = some 0 → Completes (.cfgRepairWrite true time) s (fun u =>
      u.cfg.copyA = s.cfg.copyB ∧ u.cfg.copyB = s.cfg.copyB ∧ u.cfg.repair = none)) ∧
    (s.cfg.repair = some 1 → Completes (.cfgRepairWrite true time) s (fun u =>
      u.cfg.copyB = s.cfg.copyA ∧ u.cfg.copyA = s.cfg.copyA ∧ u.cfg.repair = none))) ∧
  (∀ (s : State) (time : Nat), s.keeperUp = true → s.inRecovery = false → s.pair.stayOffline = false →
    s.ident.booted ≤ 1 → (s.fwSlot s.ident.booted).state = .trial → s.ident.bootedAt + 600000000000 ≤ max s.now time →
    Completes (.fwTrialConfirm time) s (fun u => (u.fwSlot s.ident.booted).state = .active ∧
      (u.fwSlot (1 - s.ident.booted)).state ≠ .active ∧
      FwSlot.rollback (s.fwSlot s.ident.booted) ≤ u.ident.antiRollback)) ∧
  (∀ (s : State) (time c : Nat), s.cfg.defaulted = true → s.power.state = .run → s.power.keeper = .safe → c < 64 →
    (s.chain c).cableA = true → s.bankUp .a = true →
    Completes (.defaultTripRepeat time) s (fun u => chainOut c .a .trip 0x241 2 ∈ u.out)) ∧
  (∀ (s : State) (boot : BootCheck) (time a : Nat), s.cfg.resetAt = some a → a ≤ max s.now time → s.power.state = .run →
    Completes (.defaultCommitReset boot time) s (fun u => u.power.causes.getLsbD 3 = true ∧ u.cfg.resetAt = none)) ∧
  (∀ (s : State) (c : Fin 64) (load : Bool) (time : Nat), s.portIdle c .a = true →
    Completes (.cableTest c .a load time) s (fun u => (u.chain c).cableA = load))

/-- R389, R391 to R393, R407, R413, R424, R425: the opcodes of group 0x01 about firmware, certificates and power. -/
def Obligations.FirmwareAndPowerOpcodesComplete : Prop :=
  Runs .fwStatus 0 0 (fun _ _ _ => True) (fun s t r => Replied s t r
    [w32 s.ident.booted, packWord [(0, s.ident.slot0.state.code), (2, s.ident.slot1.state.code)], w32 s.ident.trialCount,
      FwSlot.release s.ident.slot0, FwSlot.release s.ident.slot1,
      packWord [(0, FwSlot.rollback s.ident.slot0), (8, FwSlot.rollback s.ident.slot1)], w32 s.ident.antiRollback]) ∧
  (∀ boot : BootCheck, Runs (fun t r => .fwActivate t r boot) 1 1 (fun s _ r => (r.w 2).toNat ≤ 1 ∧ s.single = true ∧
      (s.fwSlot (r.w 2).toNat).state = .inactive ∧ s.ident.antiRollback ≤ FwSlot.rollback (s.fwSlot (r.w 2).toNat))
    (fun _ _ r u => (u.fwSlot (r.w 2).toNat).state = .trial ∧ u.power.causes.getLsbD 3 = true)) ∧
  Runs .certRead 0 1 (fun _ _ r => r.w 2 = 0) (fun s t r => RepliedBulk s t r (wordsOfCert s.ident.deviceCert)) ∧
  Runs .certClear 2 0 (fun _ _ _ => True) (fun s t r u => Replied s t r [] u ∧ u.ident.operatorCert = none) ∧
  Runs .pwrStatus 0 0 (fun _ _ _ => True) (fun s t r => Replied s t r (s.at r.time).powerWords) ∧
  Runs .pwrHibernate 1 0 (fun s _ _ => s.single = true ∧ s.hibernateRefusal = none ∧ s.power.hibAsk = none)
    (fun _ _ _ u => u.power.state = .hibernate)

/-- R24, R410, R412, R416, R418, R420 to R422: domains lost and tried again, the time-wheel, supplies, brown-out,
the Keeper watchdog, module faults and the junction. -/
def Obligations.PowerEventsComplete : Prop :=
  (∀ (s : State) (d : Fin 50) (pll : Bool) (time : Nat), d.val ≠ 0 → s.up d = true →
    Completes (.domainLost d pll time) s (fun u => u.up d = false ∧ (u.power.doms.get d).lost = true ∧
      (u.power.doms.get d).retryAt = some (max s.now time + 1000000000))) ∧
  (∀ (s : State) (d : Fin 50) (time a : Nat), s.power.state = .run → (s.power.doms.get d).lost = true →
    (s.power.doms.get d).retryAt = some a → a ≤ max s.now time →
    ((s.power.doms.get d).attempts.filter (fun b => decide (max s.now time < b + 60000000000))).length < 3 →
    Completes (.domainRetry d true time) s (fun u => (u.power.doms.get d).lost = false ∧
      (u.power.doms.get d).retryAt = none ∧ (s.domInUse d = true → (u.power.doms.get d).state = .run))) ∧
  (∀ (s : State) (d : Fin 50) (time w : Nat), (s.power.doms.get d).wake = some w → (s.power.doms.get d).state = .idle →
    w ≤ max s.now time + 2500 →
    Completes (.timeWheelFire d time) s (fun u => (u.power.doms.get d).state = .run ∧
      (u.power.doms.get d).wake = none)) ∧
  (∀ (s : State) (x2 returned : Bool) (volt time : Nat), s.power.state ≠ .off → s.canRecord 3 →
    Completes (.supplyLost x2 returned volt time) s (fun u =>
      (if x2 then u.power.supplyB else u.power.supplyA) = volt ∧
      Recorded 0x01 0x04 127 [w32 (if x2 then 2 else 1), w32 (b2n returned), w32 volt] u)) ∧
  (∀ (s : State) (time : Nat), s.isOn = true → Completes (.brownOut time) s (fun u => u.power.state = .stopped ∧
    u.power.brownStop = true ∧ u.power.nextCauses.getLsbD 1 = true)) ∧
  (∀ (s : State) (boot : BootCheck) (time : Nat), s.power.state = .stopped → s.power.brownStop = true →
    s.power.thermStop = false →
    Completes (.supplyRestored boot time) s (fun u => u.power.state = .run ∧ u.power.causes = s.power.nextCauses ∧
      u.power.cycles = (s.power.cycles + 1) % 2 ^ 32)) ∧
  (∀ s : State, s.power.state ≠ .off → Completes .alwaysOnRailLoss s (fun u => u.power.state = .off ∧
    ∀ k : Nat, k < 8 → Out.pto k true ∈ u.out)) ∧
  (∀ (s : State) (boot : BootCheck) (time : Nat), s.power.state = .run → s.inRecovery = false →
    s.power.confirmAt + 100000000 ≤ max s.now time →
    Completes (.keeperWdt boot time) s (fun u =>
      if 3 ≤ (s.power.faultResets.filter (fun a => decide (max s.now time ≤ a + 600000000000))).length
      then u.power.state = .hold else u.power.state = .run ∧ u.power.causes.getLsbD 4 = true)) ∧
  (∀ (s : State) (kind : FaultKind) (boot : BootCheck) (time : Nat), s.power.state = .run → s.inRecovery = false →
    s.single = true → s.power.faultResets = [] →
    Completes (.moduleFault kind boot time) s (fun u => u.power.state = .run ∧ u.power.causes.getLsbD 5 = true)) ∧
  (∀ (s : State) (tj : Int) (time : Nat),
    (tj < 12500 → s.power.state ≠ .off → Completes (.thermRead [tj] time) s (fun u => u.power.tj = tj ∧
      u.power.hot = 0)) ∧
    (12500 ≤ tj → 1 ≤ s.power.hot → s.isOn = true → Completes (.thermRead [tj] time) s (fun u =>
      u.power.state = .stopped ∧ u.power.thermStop = true ∧ u.power.nextCauses.getLsbD 2 = true))) ∧
  (∀ (s : State) (boot : BootCheck) (time a : Nat), s.power.state = .stopped → s.power.thermStop = true →
    s.power.coolSince = some a → a + 60000000000 ≤ max s.now time → s.parB 0x01 0 4 = true → s.power.brownStop = false →
    Completes (.thermRestart boot time) s (fun u => u.power.state = .run ∧ u.power.causes = s.power.nextCauses)) ∧
  (∀ (s : State) (by_ : WakeBy) (boot : BootCheck) (time : Nat), s.power.state = .hibernate → s.wakes by_ = true →
    Completes (.hibernateWake by_ boot time) s (fun u => u.power.state = .run ∧ Out.hold true ∈ u.out ∧
      u.power.causes.getLsbD 6 = true))

/-! ## Recorder and display (chapter 19) -/

/-- R433, R436 to R438, R442: the recorder's opcodes, the latch of the display, the commit of a user zone
and the display's opcodes. -/
def Obligations.RecorderAndDisplayComplete : Prop :=
  (∀ (x : Rec) (rest : List Rec), Runs .recStatus 0 0 (fun s _ _ => s.recorder.recs = x :: rest) (fun s t r =>
    Replied s t r ([w32 s.recorder.recs.length, w32 (Recorder.used s.recorder), w32 s.recorder.overwritten] ++
      ((Rec.words x).drop 3).take 2))) ∧
  (∀ (s : State) (time : Nat), s.power.state = .run → s.up 41 = true →
    Completes (.displayLatch time) s (fun u => (s.at time).dispContent (s.at time).dispPrio = (u.display.glassLo, u.display.glassHi) ∨
      (s.at time).dispPrio = 6) ∧
    ∀ p : Nat, p < 12 → (s.display.zones.get p).pending = true →
      Completes (.displayLatch time) s (fun u => (u.display.zones.get p).latchLo = (s.display.zones.get p).comLo ∧
        (u.display.zones.get p).latchHi = (s.display.zones.get p).comHi ∧ (u.display.zones.get p).pending = false)) ∧
  (∀ (s : State) (p : Fin 12), s.viewLive p = true → Completes (.dspCommitWrite p) s (fun u =>
    (u.display.zones.get p).comLo = (s.display.zones.get p).segLo ∧
    (u.display.zones.get p).comHi = (s.display.zones.get p).segHi ∧ (u.display.zones.get p).pending = true)) ∧
  (∀ (s : State) (time a : Nat), s.display.testUntil = some a → a ≤ max s.now time →
    Completes (.dispTestEnd time) s (fun u => u.display.testUntil = none)) ∧
  Runs .dispRead 0 0 (fun _ _ _ => True) (fun s t r => Replied s t r
    [s.display.glassLo, s.display.glassHi, w32 (s.at r.time).dispPrio, (s.at r.time).ledWord]) ∧
  Runs .dispTest 0 0 (fun _ _ _ => True) (fun s t r u => Replied s t r [] u ∧
    u.display.testUntil = some (max s.now r.time + 2000000000))

/-! ## Rules stated whole -/

/-- R42: the Croak instants are t0 + 5 µs + m × 10 µs, 5 µs from every SYNC reference edge; at each, every
launching end with its bank powered, of an enabled chain that has been enumerated, inserts a Croak, and nothing
else leaves. -/
def Obligations.CroakInstants : Prop :=
  ∀ s : State, Completes .croakInsert s (fun u => s.now ≤ u.now ∧ u.now < s.now + 10000 ∧ u.now % 10000 = 5000 ∧
    (∀ m : Nat, u.now + 5000 ≤ 1000000 * m ∨ 1000000 * m + 5000 ≤ u.now) ∧
    ∀ o : Out, o ∈ u.out ↔ ∃ (c : Nat) (e : RingEnd), o = chainOut c e .croak 0 0 ∧ c < 64 ∧ s.power.rail = true ∧
      (s.chEnabled c = true ∨ s.inRecovery = true) ∧ (s.chain c).croak = true ∧ e ∈ s.croakEnds c ∧ s.bankUp e = true)

/-- R161: a word of a reply that is not its last is read without a credit; with the last word the reply is gone
and its credit is back, or is taken at once by the packet that the window holds. -/
def Obligations.ReplyCreditReturns : Prop :=
  ∀ (s : State) (p : Fin 12) (t : Nat) (w : Word) (ws : List Word) (rest : List Unread),
    s.windowTenant p = some t → (s.tenant t).unread = { words := w :: ws } :: rest → (s.tenant t).session = none →
    (s.tenant t).queued.head?.all (fun q => !Packet.malformed q || !Tenant.canStart (s.tenant t) q.opcode) = true →
    Completes (.cwRxdataRead p) s (fun u => .read w ∈ u.out ∧
      (ws ≠ [] → (u.tenant t).credits = (s.tenant t).credits ∧ (u.tenant t).unread = { words := ws } :: rest) ∧
      (ws = [] → (s.tenant t).txHeld = false → (u.tenant t).unread = rest ∧
        (u.tenant t).credits = (s.tenant t).credits + 1 ∧ (u.tenant t).queued = (s.tenant t).queued) ∧
      (ws = [] → (s.tenant t).txHeld = true → (u.tenant t).txHeld = false ∧ (u.tenant t).assembly = [] ∧
        (Packet.malformed (packetOf s.now (s.tenant t).assembly) = false → (u.tenant t).unread = rest)))

/-- R173: POOL_AUDIT gives both books as they stand while the request itself executes: the pool with the cell of
the request, the sum 16,384, every channel's cells, and the CW_CREDIT word of each tenant that is in use. -/
def Obligations.PoolAuditBooks : Prop :=
  Runs .poolAudit 0 0 (fun s _ _ => s.poolBalanced) (fun s t r u =>
    let q := s.pool.setHeld (12 + t) (min 576 (tenantCells (s.tenant t) + 1))
    Replied s t r
      ([w32 q.free, w32 q.transit, w32 (Pool.heldSum q), 16384] ++ (List.range 32).map (fun c => w32 (q.held.get c)) ++
        (List.range 16).map (fun k =>
          if s.tntKind k = 0 then 0x20
          else if k = t.val then packWord [(0, ((s.tenant k).credits - 1) % 256), (8, 0), (16, 1),
            (24, (s.tenant k).unread.length % 256)]
          else packWord [(0, (s.tenant k).credits % 256), (8, (s.tenant k).queued.length % 256),
            (16, (s.tenant k).executing.length % 256), (24, (s.tenant k).unread.length % 256)])) u)

/-- R300: in QUAD mode every edge of A or B counts one up or down, a rising edge of A while B is low up, in the
direction that FB_DIR gives; where both change nothing is counted, and the next sample shows QUAD_ERR with VALID. -/
def Obligations.QuadratureCounts : Prop :=
  ∀ (s : State) (port : Fin 8) (levels : BitVec 3) (time : Nat), s.unitUp 45 = true → s.fbMode (port.val + 1) = 1 →
    (s.fb (port.val + 1)).levels.getLsbD 2 = levels.getLsbD 2 →
    let old := ((s.fb (port.val + 1)).levels.getLsbD 0, (s.fb (port.val + 1)).levels.getLsbD 1)
    let new := (levels.getLsbD 0, levels.getLsbD 1)
    let one : Word := if s.parB 0x23 port 3 then -1 else 1
    Completes (.fbEdge port levels time) s (fun u => (u.fb (port.val + 1)).levels = levels ∧
      (((old, new) = ((false, false), (true, false)) ∨ (old, new) = ((true, false), (true, true)) ∨
        (old, new) = ((true, true), (false, true)) ∨ (old, new) = ((false, true), (false, false))) →
        (u.fb (port.val + 1)).count = (s.fb (port.val + 1)).count + one) ∧
      (((old, new) = ((true, false), (false, false)) ∨ (old, new) = ((true, true), (true, false)) ∨
        (old, new) = ((false, true), (true, true)) ∨ (old, new) = ((false, false), (false, true))) →
        (u.fb (port.val + 1)).count = (s.fb (port.val + 1)).count - one) ∧
      (old = new → (u.fb (port.val + 1)).count = (s.fb (port.val + 1)).count) ∧
      (old.1 ≠ new.1 → old.2 ≠ new.2 → (u.fb (port.val + 1)).count = (s.fb (port.val + 1)).count ∧
        ∀ (serial : Option SerialRead) (next : Nat), max u.now next % 62500 = 0 →
          Completes (.fbSample port serial next) u (fun v =>
            (v.fb (port.val + 1)).stat.getLsbD 6 = true ∧ (v.fb (port.val + 1)).stat.getLsbD 3 = true)))

/-- The last packet of a read stream that ends with FAULT, STREAM_ABORTED (R166). -/
def abortedPacket (st : OutStream) : Unread :=
  { words := replyWords
      { status := stStreamAborted, flags := 3 ||| (st.pkt.req.flags &&& 8), seq := st.pkt.req.seq, tag := st.pkt.req.tag } }

/-- R434: REC_CLEAR empties the ring for the COMMISSION role alone; REC_CLEARED is then its first and only record,
REC_OVERWRITTEN is 0, an open read stream of object 0x04 (of another tenant: a ready one has none) ends with FAULT,
STREAM_ABORTED, and nothing goes to the partner. -/
def Obligations.RecorderCleared : Prop :=
  Runs .recClear 0 0 (fun s t _ => s.tntRole t < 2) (fun s t r u => u.recorder = s.recorder ∧
    (u.tenant t).unread = (s.tenant t).unread ++
      [{ words := replyWords { status := stRole, seq := r.seq, tag := r.tag } }]) ∧
  Runs .recClear 2 0 (fun s _ _ => s.canRecord (2 + 1024) ∧ s.recorder.waiting.get 0x50 = [] ∧ s.recorder.lost.get 0x50 = 0)
    (fun s t r u => Replied s t r [] u ∧ u.recorder.overwritten = 0 ∧
      (∃ x : Rec, u.recorder.recs = [x] ∧ x.source = 0x50 ∧ x.type = 0x01 ∧
        x.body = [w32 t, w32 s.recorder.overwritten]) ∧
      (∀ o ∈ u.out, (∃ (k : Nat) (y : Reply), o = .reply k y) ∨ ∃ v : Nat, o = .signal v)) ∧
  (∀ st : OutStream, ∀ k : Fin 16, Runs .recClear 2 0 (fun s _ _ => st.object = 4 ∧
      (s.tenant k).outStream = some st ∧ (s.tenant k).waitingStreams = [] ∧ 0 < (s.tenant k).credits)
    (fun s _ _ u => (u.tenant k).outStream = none ∧
      (u.tenant k).unread = (s.tenant k).unread ++ [abortedPacket st]))

/-- A request of a role below its opcode's is answered DENIED, ROLE, and nothing but the tenant's books and the
events of its window changes. -/
def Denies (i : Fin 16 → Req → Instr) (role n : Nat) : Prop :=
  ∀ (s : State) (t : Fin 16) (r : Req), s.Ready t r → r.flags = 0 → r.payload.length = n → s.tntRole t < role →
    Completes (i t r) s (fun u => (u.tenant t).unread = (s.tenant t).unread ++
        [{ words := replyWords { status := stRole, seq := r.seq, tag := r.tag } }] ∧
      ∀ g : Region, g ∉ [Region.now, .out, .tenants, .pool, .parts, .views, .doms] → g.same s u)

/-- R156, R158: the opcodes that ask for ENGINEER or COMMISSION, in the order of their numbers. The role comes
before a pending LOCK_BROKEN and before the opcode's own checks. -/
def Obligations.RolesDeny : Prop :=
  (∀ boot : BootCheck, Denies (fun t r => .sysReset t r boot) 1 1 ∧ Denies (fun t r => .fwActivate t r boot) 1 1) ∧
  Denies .certClear 2 0 ∧ Denies .pwrHibernate 1 0 ∧ Denies .cfgBegin 1 0 ∧
  (∀ a b c : Bool, Denies (fun t r => .cfgCommit t r a b c) 1 1) ∧ Denies .cfgAbort 1 0 ∧ Denies .partReset 1 1 ∧
  Denies .scanHold 1 1 ∧ Denies .scanStep 1 1 ∧ Denies .scanResume 1 1 ∧ Denies .forceSet 1 5 ∧
  Denies .forceClear 1 2 ∧ Denies .chainEnumerate 1 1 ∧ (∀ n : Nat, 1 ≤ n → n ≤ 16 → Denies .chainCmd 1 n) ∧
  Denies .estImpedStart 1 1 ∧ Denies .estReinit 1 1 ∧ Denies .estSlotRead 1 1 ∧ Denies .dspKeyWrite 1 5 ∧
  Denies .dspKeyWrite 1 9 ∧ Denies .anaTest 1 1 ∧ Denies .canRecover 1 1 ∧ Denies .fbPosSet 1 2 ∧
  Denies .injStart 1 1 ∧ Denies .injStop 1 1 ∧ Denies .traceArm 1 0 ∧ Denies .valvePosSet 1 2 ∧
  Denies .safeConfirm 2 1 ∧ Denies .pairSwitchover 1 1 ∧ Denies .pairSetSide 2 1 ∧ Denies .pairResync 1 1 ∧
  Denies .timeSet 1 2 ∧ Denies .recClear 2 0

/-! ## The whole module -/

/-- A step takes the command at the front of the queue and runs it with the rest of the queue in its place; on an
empty queue the module idles (the model's choice, log entry 1). -/
def Obligations.StepTakesFront : Prop :=
  (∀ (s : State) (c : Instr) (rest : List Instr), s.pending = c :: rest →
    step s = exec c { s with pending := rest }) ∧
  (∀ s : State, s.pending = [] → step s = .next s)

/-- What the module holds before power is applied: no command waits, no power, every tenant has its 32 credits
and nothing in hand, all 16,384 cells are free, the views have PRIGROUP 7 and an empty stack, no partition runs,
no string is closed and no output is driven. That reset is the module without power is the model's choice (log
entry 18). -/
def Obligations.ResetState : Prop :=
  State.reset.pending = [] ∧ State.reset.power.state = .off ∧ State.reset.pool.free = 16384 ∧
  State.reset.pool.transit = 0 ∧ State.reset.recorder.recs = [] ∧
  (∀ t : Nat, (State.reset.tenant t).credits = 32 ∧ (State.reset.tenant t).queued = [] ∧
    (State.reset.tenant t).executing = [] ∧ (State.reset.tenant t).unread = [] ∧
    (State.reset.tenant t).session = none) ∧
  (∀ v : Nat, (State.reset.view v).prigroup = 7 ∧ (State.reset.view v).stack = [] ∧
    (State.reset.view v).pending = 0 ∧ (State.reset.view v).enable = 0) ∧
  (∀ p : Nat, (State.reset.part p).state = .stopped ∧ (State.reset.part p).mem = []) ∧
  (∀ c : Nat, (State.reset.str c).state = .open_) ∧ (∀ k : Nat, (State.reset.dout k).on = false)

/-- The invariant of the module holds at reset. -/
def Obligations.ResetIsSound : Prop := State.reset.Sound

/-- Every step keeps the memories of every partition in canonical form. -/
def Obligations.MemoriesStayCanonical : Prop :=
  ∀ s u : State, s.memoriesCanonical → step s = .next u → u.memoriesCanonical

/-- R170, R173: no step loses or makes a cell of the frame pool. -/
def Obligations.PoolStaysBalanced : Prop :=
  ∀ s u : State, s.poolBalanced → step s = .next u → u.poolBalanced

/-- R162, R165, R167: after every step each tenant's credits, queued and executing requests and unread replies sum
to 32, its reply cache holds at most 32 requests and its ended list at most 4 streams. -/
def Obligations.BooksStayBalanced : Prop :=
  ∀ s u : State, s.booksBounded → s.creditsBalanced → step s = .next u → u.booksBounded ∧ u.creditsBalanced

/-- R209: no step lets a view nest deeper than 16. -/
def Obligations.StacksStayBounded : Prop :=
  ∀ s u : State, s.stacksBounded → step s = .next u → u.stacksBounded

/-- R431: after every step no source holds more than eight records that wait. -/
def Obligations.WaitsStayBounded : Prop :=
  ∀ s u : State, s.waitsBounded → step s = .next u → u.waitsBounded

/-! ## Frames -/

/-- The regions that every opcode row may change: plant time, what leaves the module, the lock's pending report, the
tenant's books with their cells, and the events of a command window. -/
def bookRegions : List Region := [.now, .out, .cfg, .tenants, .pool, .parts, .views, .doms]

/-- Beyond the regions of every opcode row, the command changes these alone. -/
def AsksTo (i : Instr) (l : List Region) : Prop := Keeps i (bookRegions ++ l)

/-- Chapters 1 to 5 (chains, cells, protection, dispatch): what each command may change; all else in the module stays. -/
def Obligations.ChainAndProtectionFrames : Prop :=
  (Keeps .plantTickEdge [.now, .out, .fresh, .power, .tenants, .pool, .chains, .tiles, .strs, .ptos, .groups, .parts,
    .views, .pair, .time, .net, .loops, .injs, .valves, .fbs, .anas, .dis, .dos, .fdpFault, .fdpTime, .cans,
    .recorder, .supply, .doms]) ∧
  (Keeps .syncLaunch [.now, .out]) ∧
  (Keeps .solicitLaunch [.now, .out]) ∧
  (Keeps .croakInsert [.now, .out]) ∧
  (∀ (c : Fin 64) (e : RingEnd) (time : Nat), Keeps (.croakLoss c e time) [.now, .out, .fresh, .power, .pool, .chains,
    .strs, .ptos, .groups, .recorder]) ∧
  (∀ (c : Fin 64) (e : RingEnd) (time : Nat), Keeps (.croakRestored c e time) [.now, .out, .fresh, .power, .pool,
    .chains, .strs, .ptos, .groups, .recorder]) ∧
  (∀ (time : Nat), Keeps (.croakMapSend time) [.now, .out]) ∧
  (∀ (map : BitVec 64) (time : Nat), Keeps (.croakMapReceived map time) [.now, .out, .fresh, .power, .pool, .chains,
    .strs, .ptos, .groups, .pair, .recorder]) ∧
  (∀ (time : Nat), Keeps (.croakMapTimeout time) [.now, .out, .fresh, .power, .pool, .chains, .strs, .ptos, .groups,
    .pair, .recorder]) ∧
  (∀ (c : Fin 64) (e : RingEnd) (frame : BitVec 512) (time : Nat), Keeps (.dataFrameReceived c e frame time) [.now,
    .out, .fresh, .power, .pool, .chains, .tiles, .strs, .ptos, .groups, .pair, .recorder, .doms]) ∧
  (∀ (c : Fin 64) (frame : BitVec 512) (time : Nat), Keeps (.agfinFrameReceived c frame time) [.now, .out, .fresh,
    .power, .pool, .chains, .tiles, .strs, .ptos, .groups, .pair, .recorder, .doms]) ∧
  (∀ (c : Fin 64), Keeps (.worstCellRecord c) [.now, .out, .fresh, .power, .pool, .chains, .tiles, .strs, .ptos,
    .groups, .recorder, .doms]) ∧
  (∀ (c : Fin 64) (time : Nat), Keeps (.tripRepeat c time) [.now, .out, .chains]) ∧
  (∀ (c : Fin 64), Keeps (.tileCutoff c) [.now, .out, .fresh, .power, .pool, .chains, .tiles, .strs, .ptos, .groups,
    .pair, .recorder]) ∧
  (Keeps .tickSummaryFlip [.now, .out, .power, .tenants, .pool, .tiles, .ledger, .bufA, .bufB, .readB, .strLimits,
    .groups, .disp, .parts, .views, .recorder, .doms]) ∧
  (∀ (c : Fin 64) (p : Nat), Keeps (.silentMonitor c p) [.out, .power, .pool, .chains, .strs, .recorder]) ∧
  (∀ (c : Fin 64) (time : Nat), Keeps (.silentMonitorTrip c time) [.now, .out, .fresh, .power, .pool, .chains, .strs,
    .ptos, .groups, .recorder]) ∧
  (∀ (c : Fin 64) (time : Nat), Keeps (.blindTimeout c time) [.now, .out, .fresh, .power, .pool, .chains, .strs,
    .ptos, .groups, .recorder]) ∧
  (∀ (e : RingEnd), Keeps (.trackingEcho e) [.now, .out, .chains]) ∧
  (∀ (c : Fin 64) (e : RingEnd) (etag : BitVec 8) (rtNs : Nat) (time : Nat), Keeps (.echoReturned c e etag rtNs time)
    [.now, .out, .fresh, .power, .tenants, .pool, .chains, .strs, .ptos, .groups, .parts, .views, .recorder, .doms]) ∧
  (∀ (c : Fin 64) (etag : BitVec 8) (time : Nat), Keeps (.echoLost c etag time) [.now, .out, .chains]) ∧
  (Keeps .cmdWindow [.now, .out, .tenants, .pool, .chains, .tiles, .strs, .bals, .parts, .views, .doms]) ∧
  (∀ (c : Fin 64) (ctag src rcode : BitVec 8) (data : List Half) (crc : BitVec 32) (time : Nat), Keeps (.respReceived
    c ctag src rcode data crc time) [.now, .out, .fresh, .power, .tenants, .pool, .chains, .tiles, .strs, .ptos,
    .bals, .groups, .parts, .views, .recorder, .doms]) ∧
  (∀ (c : Fin 64) (ctag : BitVec 8) (time : Nat), Keeps (.respTimeout c ctag time) [.now, .out, .fresh, .power,
    .tenants, .pool, .chains, .tiles, .strs, .ptos, .bals, .groups, .parts, .views, .recorder, .doms]) ∧
  (∀ (c : Fin 64) (ctag dest opc : BitVec 8) (params : List Half) (time : Nat), Keeps (.relayedCmdReceived c ctag dest
    opc params time) [.now, .out, .chains, .tiles, .strs]) ∧
  (∀ (time : Nat), Keeps (.keepBroadcast time) [.now, .out, .chains]) ∧
  (∀ (c : Fin 64) (nextPos : BitVec 8) (time : Nat), Keeps (.enumReceived c nextPos time) [.now, .out, .fresh, .power,
    .tenants, .pool, .chains, .strs, .ptos, .groups, .parts, .views, .recorder, .doms]) ∧
  (∀ (c : Fin 64) (time : Nat), Keeps (.enumTimeout c time) [.now, .out, .fresh, .power, .tenants, .pool, .chains,
    .strs, .ptos, .groups, .parts, .views, .recorder, .doms]) ∧
  (∀ (c : Fin 64), Keeps (.chainEnterService c) [.now, .out, .fresh, .power, .tenants, .pool, .chains, .tiles, .strs,
    .ptos, .groups, .parts, .views, .recorder, .doms]) ∧
  (∀ (time : Nat), Keeps (.startTimeWaitExpiry time) [.now, .out, .time]) ∧
  (∀ (c : Fin 64) (time : Nat), Keeps (.verifyGraceEnd c time) [.now, .out, .fresh, .power, .pool, .chains, .strs,
    .ptos, .groups, .recorder]) ∧
  (∀ (c : Fin 64) (time : Nat), Keeps (.verifyStandbyTimeout c time) [.now, .out, .fresh, .power, .pool, .chains,
    .strs, .ptos, .groups, .recorder]) ∧
  (∀ (c : Fin 64) (hold : Bool) (reason : BitVec 8) (time : Nat), Keeps (.verifyDecisionReceived c hold reason time)
    [.now, .out, .fresh, .power, .pool, .chains, .strs, .ptos, .groups, .recorder]) ∧
  (∀ (c : Fin 64) (time : Nat), Keeps (.healCheckEcho c time) [.now, .out, .chains]) ∧
  (∀ (c : Fin 64) (time : Nat), Keeps (.prechargeStart c time) [.now, .out, .chains, .strs]) ∧
  (∀ (c : Fin 64) (time : Nat), Keeps (.prechargeFail c time) [.now, .out, .fresh, .power, .pool, .chains, .strs,
    .ptos, .groups, .recorder]) ∧
  (∀ (c : Fin 64) (time : Nat), Keeps (.closePreOff c time) [.now, .out, .chains, .strs]) ∧
  (∀ (c : Fin 64) (time : Nat), Keeps (.openTimeout c time) [.now, .out, .power, .pool, .chains, .strs, .recorder]) ∧
  (∀ (c : Fin 64) (time : Nat), Keeps (.openFinal c time) [.now, .out, .chains, .strs]) ∧
  (∀ (c : Fin 64) (time : Nat), Keeps (.balEvaluate c time) [.now, .out, .chains, .tiles, .bals]) ∧
  (∀ (c : Fin 64) (p : Nat), Keeps (.impedSequenceEnd c p) [.out, .chains, .tiles]) ∧
  (∀ (time : Nat), Keeps (.zoneEvaluate time) [.now, .out, .fresh, .zones]) ∧
  (∀ (z : Fin 16) (time : Nat), Keeps (.zoneTambTimeout z time) [.now, .out, .zones]) ∧
  (∀ (g : Fin 8), Keeps (.grantEnd g) [.out, .groups]) ∧
  (∀ (time : Nat), Keeps (.eovAssert time) [.now, .out, .power, .pool, .groups, .disp, .recorder]) ∧
  (∀ (time : Nat), Keeps (.eovRelease time) [.now, .out, .power, .pool, .groups, .disp, .recorder]) ∧
  (∀ (time : Nat), Keeps (.overrideLapse time) [.now, .out, .power, .pool, .groups, .disp, .recorder]) ∧
  (∀ (time : Nat), Keeps (.overrideEndingEnd time) [.now, .out, .power, .pool, .groups, .disp, .recorder]) ∧
  (∀ (time : Nat), Keeps (.overrideRecord time) [.now, .out, .power, .pool, .disp, .recorder]) ∧
  (∀ (c : Fin 64), Keeps (.adoptionEnd c) [.out, .fresh, .power, .tenants, .pool, .chains, .tiles, .strs, .ptos,
    .groups, .parts, .views, .recorder, .doms]) ∧
  (∀ (t : Fin 16) (r : Req), AsksTo (.chainEnumerate t r) [.fresh, .power, .chains, .strs, .ptos, .groups, .recorder])
    ∧
  (∀ (t : Fin 16) (r : Req), AsksTo (.chainCmd t r) [.chains]) ∧
  (∀ (t : Fin 16) (r : Req), AsksTo (.chainFrameRead t r) []) ∧
  (∀ (t : Fin 16) (r : Req), AsksTo (.chainDiag t r) [.chains]) ∧
  (∀ (t : Fin 16) (r : Req), AsksTo (.estCellRead t r) []) ∧
  (∀ (t : Fin 16) (r : Req), AsksTo (.estChainRead t r) []) ∧
  (∀ (t : Fin 16) (r : Req), AsksTo (.estStringSummary t r) []) ∧
  (∀ (t : Fin 16) (r : Req), AsksTo (.estPlantSummary t r) []) ∧
  (∀ (t : Fin 16) (r : Req), AsksTo (.estImpedStart t r) [.chains, .tiles]) ∧
  (∀ (t : Fin 16) (r : Req), AsksTo (.estImpedResult t r) []) ∧
  (∀ (t : Fin 16) (r : Req), AsksTo (.estReinit t r) [.tiles]) ∧
  (∀ (t : Fin 16) (r : Req), AsksTo (.estSlotRead t r) []) ∧
  (∀ (t : Fin 16) (r : Req), AsksTo (.protStatus t r) []) ∧
  (∀ (t : Fin 16) (r : Req), AsksTo (.stringClose t r) [.chains, .strs]) ∧
  (∀ (t : Fin 16) (r : Req), AsksTo (.stringOpen t r) [.fresh, .power, .chains, .strs, .ptos, .groups, .recorder]) ∧
  (∀ (t : Fin 16) (r : Req), AsksTo (.stringOpenImmediate t r) [.fresh, .power, .chains, .strs, .ptos, .groups,
    .recorder]) ∧
  (∀ (t : Fin 16) (r : Req), AsksTo (.protReset t r) [.chains, .strs, .ptos]) ∧
  (∀ (t : Fin 16) (r : Req), AsksTo (.ptoStatus t r) []) ∧
  (∀ (t : Fin 16) (r : Req), AsksTo (.balStatus t r) []) ∧
  (∀ (t : Fin 16) (r : Req), AsksTo (.zoneRead t r) []) ∧
  (∀ (t : Fin 16) (r : Req), AsksTo (.zoneTambWrite t r) [.zones]) ∧
  (∀ (t : Fin 16) (r : Req), AsksTo (.dspRead t r) []) ∧
  (∀ (t : Fin 16) (r : Req), AsksTo (.burstRequest t r) [.disp]) ∧
  (∀ (t : Fin 16) (r : Req), AsksTo (.burstCancel t r) [.groups]) ∧
  (∀ (t : Fin 16) (r : Req), AsksTo (.overrideStart t r) [.power, .groups, .disp, .recorder]) ∧
  (∀ (t : Fin 16) (r : Req), AsksTo (.overrideEnd t r) [.power, .groups, .disp, .recorder]) ∧
  (∀ (t : Fin 16) (r : Req), AsksTo (.dspKeyWrite t r) [.disp]) ∧
  (∀ (t : Fin 16) (r : Req), AsksTo (.dspStringRead t r) []) ∧
  (∀ (c : Fin 64) (p : Nat) (rts : List Nat) (tracking : Bool) (time : Nat), Keeps (.echoResultsReceived c p rts
    tracking time) [.now, .out, .fresh, .power, .tenants, .pool, .chains, .strs, .ptos, .groups, .parts, .views,
    .recorder, .doms]) ∧
  (∀ (kind : Nat) (key : List Word), Keeps (.dspKeyReceived kind key) [.out, .disp])

/-- Chapters 6 to 8 (packets, sessions, parameters, partitions, the Event Fabric, the Scan Engine): what each command
may change; all else in the module stays. -/
def Obligations.PacketAndPartitionFrames : Prop :=
  (∀ (p : Fin 12) (w : Word), Keeps (.cwTxdataWrite p w) [.out, .tenants, .pool]) ∧
  (∀ (p : Fin 12) (time : Nat), Keeps (.cwTxcommitSubmit p time) [.now, .out, .tenants, .pool, .parts, .views, .doms])
    ∧
  (∀ (p : Fin 12), Keeps (.cwTxcommitDiscard p) [.out, .tenants, .pool]) ∧
  (∀ (p : Fin 12), Keeps (.cwRxdataRead p) [.out, .tenants, .pool, .parts, .views, .doms]) ∧
  (∀ (p : Fin 12) (time : Nat), Keeps (.cwResetWrite p time) [.now, .out, .ident, .cfg, .tenants, .pool, .parts,
    .views, .config, .doms]) ∧
  (∀ (t : Fin 16), Keeps (.bulkReplyPacket t) [.out, .tenants, .pool, .parts, .views, .doms]) ∧
  (∀ (t : Fin 16), Keeps (.replyAcked t) [.out, .tenants, .pool, .parts, .views, .doms]) ∧
  (∀ (port : Nat) (fp : List Word) (issuerOk : Bool) (time : Nat), Keeps (.tlsSessionOpen port fp issuerOk time)
    [.now, .out, .ident, .cfg, .tenants, .pool, .parts, .views, .config, .doms]) ∧
  (∀ (t : Fin 16), Keeps (.tlsSessionEnd t) [.out, .ident, .cfg, .tenants, .pool, .parts, .views, .config, .doms]) ∧
  (∀ (t : Fin 16) (time : Nat), Keeps (.tlsIdleTimeout t time) [.now, .out, .ident, .cfg, .tenants, .pool, .parts,
    .views, .config, .doms]) ∧
  (∀ (t : Fin 16) (r : Req), AsksTo (.poolAudit t r) []) ∧
  (∀ (t : Fin 16) (r : Req), AsksTo (.bulkRead t r) [.fresh]) ∧
  (∀ (t : Fin 16) (r : Req), AsksTo (.bulkWrite t r) []) ∧
  (∀ (t : Fin 16) (r : Req) (chk : BulkCheck), AsksTo (.bulkWriteContinuation t r chk) [.ident, .pair, .config]) ∧
  (∀ (t : Fin 16) (r : Req), AsksTo (.bulkCancelReply t r) []) ∧
  (∀ (t : Fin 16) (r : Req), AsksTo (.bulkCancelWrite t r) []) ∧
  (∀ (t : Fin 16) (r : Req), AsksTo (.paramRead t r) [.fresh]) ∧
  (∀ (t : Fin 16) (r : Req), AsksTo (.paramWrite t r) [.config]) ∧
  (∀ (t : Fin 16) (r : Req), AsksTo (.tenantList t r) []) ∧
  (∀ (t : Fin 16) (r : Req), AsksTo (.cfgBegin t r) [.ident, .config]) ∧
  (∀ (t : Fin 16) (r : Req) (writeA writeB evalOk : Bool), AsksTo (.cfgCommit t r writeA writeB evalOk) [.ident,
    .safe, .config]) ∧
  (∀ (t : Fin 16) (r : Req), AsksTo (.cfgAbort t r) [.ident, .config]) ∧
  (∀ (t : Fin 16) (r : Req), AsksTo (.cfgStatus t r) []) ∧
  (∀ (part : Option (Fin 12)) (time : Nat), AsksTo (.partnerAck part time) [.ident, .pair, .safe, .config]) ∧
  (∀ (p : Fin 12) (pc : Word) (time : Nat), AsksTo (.budgetFault p pc time) [.power, .ident, .loops, .injs, .valves,
    .fbs, .anas, .dos, .fdpFault, .fdpTime, .recorder, .config]) ∧
  (∀ (p : Fin 12) (pc : Word) (time : Nat), AsksTo (.geckoExpiry p pc time) [.power, .ident, .loops, .injs, .valves,
    .fbs, .anas, .dos, .fdpFault, .fdpTime, .recorder, .config]) ∧
  (∀ (p : Fin 12) (addr : Word) (time : Nat), AsksTo (.memFault p addr time) [.power, .ident, .loops, .injs, .valves,
    .fbs, .anas, .dos, .fdpFault, .fdpTime, .recorder, .config]) ∧
  (∀ (p : Fin 12) (pc : Word) (op : ArithOp) (time : Nat), AsksTo (.arithFault p pc op time) [.power, .ident, .loops,
    .injs, .valves, .fbs, .anas, .dos, .fdpFault, .fdpTime, .recorder, .config]) ∧
  (∀ (p : Fin 12) (pc : Word) (time : Nat), AsksTo (.eccFault p pc time) [.power, .ident, .loops, .injs, .valves,
    .fbs, .anas, .dos, .fdpFault, .fdpTime, .recorder, .config]) ∧
  (∀ (p : Fin 12) (time : Nat), Keeps (.eccCorrected p time) [.now, .out, .parts]) ∧
  (∀ (p : Fin 12) (time : Nat), AsksTo (.partRestart p time) [.power, .ident, .cmps, .loops, .injs, .valves, .fbs,
    .anas, .dos, .fdpFault, .fdpTime, .recorder, .display, .memories, .config]) ∧
  (∀ (t : Fin 16) (r : Req), AsksTo (.partStatus t r) []) ∧
  (∀ (t : Fin 16) (r : Req), AsksTo (.partReset t r) [.power, .ident, .cmps, .loops, .injs, .valves, .fbs, .anas,
    .dos, .fdpFault, .fdpTime, .recorder, .display, .memories, .config]) ∧
  (∀ (t : Fin 16) (r : Req), AsksTo (.partImageInfo t r) []) ∧
  (∀ (v : Fin 13) (src : Fin 1024) (time : Nat), Keeps (.evfSourceEvent v src time) [.now, .out, .parts, .views,
    .doms]) ∧
  (∀ (v : Fin 13), Keeps (.evfClaimRead v) [.out, .views, .doms]) ∧
  (∀ (v : Fin 13) (w : Word) (time : Nat), AsksTo (.evfCompleteWrite v w time) [.fresh, .power, .ident, .loops, .injs,
    .valves, .fbs, .anas, .dos, .fdpFault, .fdpTime, .recorder, .config]) ∧
  (∀ (v : Fin 13) (bank : Fin 32) (w : Word), Keeps (.evfSetenWrite v bank w) [.out, .parts, .views, .doms]) ∧
  (∀ (v : Fin 13) (bank : Fin 32) (w : Word), Keeps (.evfClrenWrite v bank w) [.out, .views]) ∧
  (∀ (v : Fin 13) (bank : Fin 32) (w : Word), Keeps (.evfSetpendWrite v bank w) [.out, .parts, .views, .doms]) ∧
  (∀ (v : Fin 13) (bank : Fin 32) (w : Word), Keeps (.evfClrpendWrite v bank w) [.out, .views]) ∧
  (∀ (v : Fin 13) (addr : Word) (bytes : Nat) (w : Word) (time : Nat), AsksTo (.registerWrite v addr bytes w time)
    [.power, .ident, .cmps, .loops, .injs, .valves, .fbs, .anas, .dos, .fdpFault, .fdpTime, .recorder, .display,
    .memories, .config]) ∧
  (∀ (p : Fin 12) (ops : List ArithOp) (time : Nat), AsksTo (.scanCycleStart p ops time) [.fresh, .power, .ident,
    .loops, .injs, .valves, .fbs, .anas, .dos, .fdpFault, .fdpTime, .recorder, .memories, .config]) ∧
  (∀ (p : Fin 12) (ops : List ArithOp) (err : ErrorTask) (execUs time : Nat), AsksTo (.scanCycleEnd p ops err execUs
    time) [.fresh, .power, .ident, .pair, .loops, .injs, .valves, .fbs, .anas, .dos, .fdpFault, .fdpTime, .cans,
    .recorder, .memories, .config]) ∧
  (∀ (t : Fin 16) (r : Req), AsksTo (.scanRun t r) [.memories]) ∧
  (∀ (t : Fin 16) (r : Req), AsksTo (.scanRunCold t r) [.memories]) ∧
  (∀ (t : Fin 16) (r : Req), AsksTo (.scanStop t r) [.power, .loops, .injs, .valves, .fbs, .anas, .dos, .fdpFault,
    .fdpTime, .recorder]) ∧
  (∀ (t : Fin 16) (r : Req), AsksTo (.scanHold t r) []) ∧
  (∀ (t : Fin 16) (r : Req), AsksTo (.scanStep t r) []) ∧
  (∀ (t : Fin 16) (r : Req), AsksTo (.scanResume t r) [.loops]) ∧
  (∀ (t : Fin 16) (r : Req), AsksTo (.forceSet t r) [.loops, .valves, .fbs, .anas, .dos, .fdpFault, .fdpTime, .cans,
    .memories]) ∧
  (∀ (t : Fin 16) (r : Req), AsksTo (.forceClear t r) [.loops, .valves, .fbs, .anas, .dos, .fdpFault, .fdpTime, .cans,
    .memories]) ∧
  (∀ (t : Fin 16) (r : Req), AsksTo (.forceList t r) []) ∧
  (∀ (t : Fin 16) (r : Req), AsksTo (.scanStat t r) [.fresh]) ∧
  (∀ (p : Fin 12) (u : Fin 32) (time : Nat), Keeps (.compareFire p u time) [.now, .out, .parts, .views, .cmps, .doms])
    ∧
  (∀ (p : Fin 12) (time : Nat), Keeps (.cmpNowLoRead p time) [.now, .out, .parts]) ∧
  (∀ (p : Fin 12) (u : Fin 32) (periodic long : Bool) (time : Nat), Keeps (.cmpCtrlArm p u periodic long time) [.now,
    .out, .parts, .views, .cmps, .doms]) ∧
  (∀ (p : Fin 12) (u : Fin 32) (periodic long : Bool), Keeps (.cmpCtrlDisarm p u periodic long) [.out, .cmps]) ∧
  (∀ (pair : Fin 8) (p : Fin 12) (time : Nat), Keeps (.sliceBegin pair p time) [.now, .out, .parts, .slices, .views,
    .doms])

/-- Chapters 9 to 15 (pair, time, network, loops, valves, feedback, analog, digital, CAN): what each command may change;
all else in the module stays. -/
def Obligations.PairAndFieldFrames : Prop :=
  (Keeps .keeperMirrorPoint [.now, .out, .chains, .pair, .doms]) ∧
  (Keeps .dispatchPublish [.now, .out, .pool, .groups, .net, .cans]) ∧
  (∀ (time : Nat), Keeps (.holdPulse time) [.now, .out, .power, .pair, .supply]) ∧
  (∀ (time : Nat), Keeps (.keeperConfirmTimeout time) [.now, .out, .pair]) ∧
  (∀ (time : Nat), Keeps (.pulseSeen time) [.now, .out, .fresh, .power, .tenants, .pool, .chains, .strs, .ptos,
    .groups, .disp, .parts, .views, .pair, .time, .dos, .fdpFault, .fdpTime, .cans, .recorder, .doms]) ∧
  (∀ (time : Nat), Keeps (.pulseAbsent time) [.now, .out, .pair]) ∧
  (∀ (time : Nat), AsksTo (.claimEnd time) [.fresh, .power, .ident, .chains, .strs, .ptos, .groups, .disp, .cmps,
    .pair, .time, .loops, .injs, .valves, .fbs, .anas, .dos, .fdpFault, .fdpTime, .cans, .recorder, .display,
    .memories, .config]) ∧
  (∀ (time : Nat), AsksTo (.contention time) [.power, .ident, .chains, .strs, .groups, .disp, .pair, .time, .dos,
    .fdpFault, .fdpTime, .cans, .recorder, .config, .supply]) ∧
  (∀ (time : Nat), AsksTo (.ownPulseMissing time) [.power, .ident, .chains, .strs, .groups, .disp, .pair, .time, .dos,
    .fdpFault, .fdpTime, .cans, .recorder, .config, .supply]) ∧
  (∀ (time : Nat), AsksTo (.partnerSenseAbsent time) [.power, .ident, .chains, .strs, .groups, .disp, .pair, .time,
    .dos, .fdpFault, .fdpTime, .cans, .recorder, .config, .supply]) ∧
  (∀ (lane : Fin 2) (time : Nat), AsksTo (.laneDown lane time) [.power, .ident, .chains, .tiles, .ledger, .bufA,
    .bufB, .readB, .ptos, .bals, .strLimits, .groups, .disp, .slices, .cmps, .pair, .time, .net, .loops, .injs,
    .trace, .valves, .fbs, .anas, .grpField, .grpLow, .dis, .dos, .fdpFault, .fdpTime, .cans, .safe, .recorder,
    .display, .memories, .config, .supply]) ∧
  (∀ (lane : Fin 2) (time : Nat), Keeps (.laneUp lane time) [.now, .out, .pair]) ∧
  (∀ (b : ControlBlock) (time : Nat), AsksTo (.controlBlockReceived b time) [.power, .ident, .chains, .tiles, .zones,
    .groups, .disp, .cmps, .pair, .time, .net, .loops, .injs, .valves, .fbs, .anas, .dos, .fdpFault, .fdpTime, .cans,
    .safe, .recorder, .display, .config, .supply]) ∧
  (∀ (cause : GiveUpCause) (time : Nat), AsksTo (.giveUp cause time) [.power, .ident, .chains, .strs, .groups, .disp,
    .pair, .time, .dos, .fdpFault, .fdpTime, .cans, .recorder, .config, .supply]) ∧
  (∀ (cause : GiveUpCause) (time : Nat), Keeps (.giveUpReceived cause time) [.now, .out, .power, .pool, .groups,
    .disp, .parts, .views, .pair, .time, .dos, .fdpFault, .fdpTime, .cans, .recorder, .doms]) ∧
  (∀ (time : Nat), AsksTo (.takeoverDecision time) [.power, .ident, .chains, .tiles, .strs, .ptos, .groups, .disp,
    .cmps, .pair, .time, .loops, .injs, .valves, .fbs, .anas, .dos, .fdpFault, .fdpTime, .cans, .recorder, .display,
    .memories, .config]) ∧
  (∀ (time : Nat), Keeps (.firstOutputReceived time) [.now, .out, .power, .pool, .parts, .views, .pair, .loops, .injs,
    .valves, .fbs, .anas, .dos, .fdpFault, .fdpTime, .recorder, .doms]) ∧
  (∀ (time : Nat), Keeps (.freezeTimeout time) [.now, .out, .power, .pool, .parts, .views, .pair, .loops, .injs,
    .valves, .fbs, .anas, .dos, .fdpFault, .fdpTime, .recorder, .doms]) ∧
  (∀ (time : Nat), Keeps (.foldEnd time) [.now, .out, .chains]) ∧
  (∀ (time : Nat), Keeps (.switchoverReturn time) [.now, .out, .fresh, .power, .tenants, .pool, .chains, .strs, .ptos,
    .groups, .disp, .parts, .views, .pair, .time, .dos, .fdpFault, .fdpTime, .cans, .recorder, .doms]) ∧
  (∀ (d : Delta) (crcOk : Bool) (time : Nat), Keeps (.mirrorDeltaReceived d crcOk time) [.now, .out, .fresh, .power,
    .pool, .chains, .tiles, .strs, .ptos, .groups, .disp, .parts, .views, .pair, .time, .loops, .valves, .dos,
    .fdpFault, .fdpTime, .cans, .recorder, .memories, .doms]) ∧
  (∀ (num : Nat) (body : MirrorBody) (time : Nat), Keeps (.snapshotReceived num body time) [.now, .out, .fresh,
    .power, .pool, .chains, .tiles, .strs, .ptos, .groups, .disp, .parts, .views, .pair, .time, .loops, .valves, .dos,
    .fdpFault, .fdpTime, .cans, .recorder, .memories, .doms]) ∧
  (∀ (time : Nat), Keeps (.newtSnapshot time) [.now, .out, .parts]) ∧
  (∀ (tick : Nat) (digests : List Word) (time : Nat), Keeps (.digestReceived tick digests time) [.now, .out, .power,
    .pool, .tiles, .groups, .disp, .parts, .views, .pair, .time, .dos, .fdpFault, .fdpTime, .cans, .recorder, .doms])
    ∧
  (∀ (c : Fin 64) (p : Nat) (tick : Nat) (slots : List Slot) (time : Nat), Keeps (.resyncSlotsReceived c p tick slots
    time) [.now, .out, .power, .pool, .chains, .tiles, .groups, .disp, .parts, .views, .pair, .time, .dos, .fdpFault,
    .fdpTime, .cans, .recorder, .doms]) ∧
  (∀ (t : Fin 16) (r : Req), AsksTo (.pairStatus t r) []) ∧
  (∀ (t : Fin 16) (r : Req), AsksTo (.pairSwitchover t r) [.power, .ident, .chains, .strs, .groups, .disp, .pair,
    .time, .dos, .fdpFault, .fdpTime, .cans, .recorder, .config, .supply]) ∧
  (∀ (t : Fin 16) (r : Req), AsksTo (.pairSetSide t r) [.ident]) ∧
  (∀ (t : Fin 16) (r : Req), AsksTo (.pairResync t r) [.power, .groups, .disp, .pair, .time, .dos, .fdpFault,
    .fdpTime, .cans, .recorder]) ∧
  (∀ (port : Fin 5) (m : PtpMsg) (time : Nat), AsksTo (.ptpMessageReceived port m time) [.power, .ident, .zones,
    .disp, .cmps, .pair, .time, .net, .loops, .injs, .valves, .fbs, .anas, .dos, .cans, .safe, .display, .config,
    .supply]) ∧
  (∀ (time : Nat), Keeps (.announceTimeout time) [.now, .out, .time]) ∧
  (∀ (port : Fin 5) (time : Nat), Keeps (.ptpMasterSend port time) [.now, .out, .time]) ∧
  (∀ (port : Fin 4) (queue : Fin 8) (time : Nat), Keeps (.launchTimeDue port queue time) [.now, .out, .pool, .net]) ∧
  (∀ (port : Fin 5) (f : EthFrame) (time : Nat), Keeps (.ethFrameReceived port f time) [.now, .out, .tenants, .pool,
    .parts, .views, .net, .doms]) ∧
  (∀ (time : Nat), Keeps (.prpSupervision time) [.now, .out, .net]) ∧
  (∀ (port : Fin 5) (up : Bool) (time : Nat), Keeps (.netLinkChange port up time) [.now, .out, .power, .pool, .net,
    .recorder]) ∧
  (∀ (t : Fin 16) (r : Req), AsksTo (.timeStatus t r) []) ∧
  (∀ (t : Fin 16) (r : Req), AsksTo (.netStatus t r) []) ∧
  (∀ (t : Fin 16) (r : Req), AsksTo (.timeSet t r) [.power, .ident, .zones, .disp, .cmps, .pair, .time, .net, .loops,
    .injs, .valves, .fbs, .anas, .dos, .cans, .safe, .display, .config, .supply]) ∧
  (∀ (t : Fin 16) (r : Req), AsksTo (.netLaunch t r) [.net]) ∧
  (∀ (slot : Fin 64) (time : Nat), Keeps (.loopSample slot time) [.now, .out, .power, .pool, .parts, .views, .pair,
    .loops, .injs, .trace, .valves, .anas, .recorder, .doms]) ∧
  (∀ (slot : Fin 64) (time : Nat), Keeps (.loopFbTimeout slot time) [.now, .out, .power, .pool, .parts, .views,
    .loops, .injs, .valves, .anas, .recorder, .doms]) ∧
  (∀ (g : Fin 4) (time : Nat), Keeps (.injDurationEnd g time) [.now, .out, .power, .pool, .injs, .recorder]) ∧
  (∀ (v : Fin 16) (time : Nat), Keeps (.valveUpdate v time) [.now, .out, .valves]) ∧
  (∀ (v : Fin 16) (bits : BitVec 40) (time : Nat), Keeps (.valveUplinkReceived v bits time) [.now, .out, .parts,
    .views, .valves, .doms]) ∧
  (∀ (v : Fin 16) (time : Nat), Keeps (.valveLinkFault v time) [.now, .out, .parts, .views, .valves, .doms]) ∧
  (∀ (v : Fin 16) (time : Nat), Keeps (.valveStill v time) [.now, .out, .valves]) ∧
  (∀ (t : Fin 16) (r : Req), AsksTo (.loopRead t r) []) ∧
  (∀ (t : Fin 16) (r : Req), AsksTo (.loopCtrlRun t r) [.power, .loops, .injs, .recorder]) ∧
  (∀ (t : Fin 16) (r : Req), AsksTo (.loopCtrlTrack t r) [.power, .loops, .injs, .recorder]) ∧
  (∀ (t : Fin 16) (r : Req), AsksTo (.loopCtrlStop t r) [.power, .loops, .injs, .recorder]) ∧
  (∀ (t : Fin 16) (r : Req), AsksTo (.injStart t r) [.injs]) ∧
  (∀ (t : Fin 16) (r : Req), AsksTo (.injStop t r) [.power, .injs, .recorder]) ∧
  (∀ (t : Fin 16) (r : Req), AsksTo (.traceArm t r) [.trace]) ∧
  (∀ (t : Fin 16) (r : Req), AsksTo (.traceTrigger t r) [.trace]) ∧
  (∀ (t : Fin 16) (r : Req), AsksTo (.traceStatus t r) []) ∧
  (∀ (t : Fin 16) (r : Req), AsksTo (.valveRead t r) []) ∧
  (∀ (t : Fin 16) (r : Req), AsksTo (.valvePosSet t r) [.valves]) ∧
  (∀ (port : Fin 8) (levels : BitVec 3) (time : Nat), Keeps (.fbEdge port levels time) [.now, .out, .parts, .views,
    .fbs, .doms]) ∧
  (∀ (port : Fin 8) (serial : Option SerialRead) (time : Nat), Keeps (.fbSample port serial time) [.now, .out, .fresh,
    .parts, .views, .fbs, .doms]) ∧
  (∀ (port : Fin 8) (levels : BitVec 3) (time : Nat), Keeps (.fbIndexCapture port levels time) [.now, .out, .power,
    .pool, .parts, .views, .fbs, .recorder, .doms]) ∧
  (∀ (port : Fin 8) (time : Nat), Keeps (.leapPulseEnd port time) [.now, .out, .fbs]) ∧
  (∀ (t : Fin 16) (r : Req), AsksTo (.fbRead t r) []) ∧
  (∀ (t : Fin 16) (r : Req), AsksTo (.fbPosSet t r) [.fbs]) ∧
  (∀ (t : Fin 16) (r : Req), AsksTo (.fbLeapArm t r) [.fbs]) ∧
  (∀ (t : Fin 16) (r : Req), AsksTo (.fbLeapDisarm t r) [.fbs]) ∧
  (∀ (meas : List AnaMeas) (field : List Nat) (time : Nat), Keeps (.anaSample meas field time) [.now, .out, .tenants,
    .pool, .parts, .views, .anas, .grpField, .grpLow, .doms]) ∧
  (∀ (ch : Fin 32) (time : Nat), Keeps (.anaMiswireOpen ch time) [.now, .out, .tenants, .pool, .parts, .views, .anas,
    .doms]) ∧
  (∀ (ch : Fin 32) (time : Nat), Keeps (.anaMiswireRetry ch time) [.now, .out, .anas]) ∧
  (∀ (t : Fin 16) (r : Req), AsksTo (.anaRead t r) []) ∧
  (∀ (t : Fin 16) (r : Req), AsksTo (.anaTest t r) [.anas]) ∧
  (∀ (ch : Fin 32) (code4 code20 : Nat) (time : Nat), Keeps (.anaTestDone ch code4 code20 time) [.now, .out, .tenants,
    .pool, .parts, .views, .anas, .doms]) ∧
  (∀ (t : Fin 16) (r : Req), AsksTo (.hartCmd t r) [.anas]) ∧
  (∀ (ch : Fin 32) (respCode devStatus : Byte) (data : List Byte) (sumOk : Bool) (time : Nat), Keeps
    (.hartReplyReceived ch respCode devStatus data sumOk time) [.now, .out, .tenants, .pool, .parts, .views, .anas,
    .doms]) ∧
  (∀ (ch : Fin 32) (time : Nat), Keeps (.hartTimeout ch time) [.now, .out, .tenants, .pool, .parts, .views, .anas,
    .doms]) ∧
  (∀ (k : Fin 64) (level : Bool) (time : Nat), Keeps (.diChange k level time) [.now, .out, .fresh, .power, .pool,
    .chains, .strs, .ptos, .groups, .parts, .views, .dis, .recorder, .doms]) ∧
  (∀ (k : Fin 32) (time : Nat), Keeps (.doOverload k time) [.now, .out, .dos, .fdpFault, .fdpTime]) ∧
  (∀ (k : Fin 32) (time : Nat), Keeps (.doRetry k time) [.now, .out, .dos, .fdpFault, .fdpTime]) ∧
  (∀ (k : Fin 32) (time : Nat), Keeps (.doReadbackMismatch k time) [.now, .out, .dos, .fdpFault, .fdpTime]) ∧
  (∀ (g : Fin 4) (time : Nat), Keeps (.vsupLow g time) [.now, .out, .dos, .vsupLow, .fdpFault, .fdpTime]) ∧
  (∀ (g : Fin 4) (time : Nat), Keeps (.vsupRestored g time) [.now, .out, .dos, .vsupLow, .fdpFault, .fdpTime]) ∧
  (∀ (t : Fin 16) (r : Req), AsksTo (.digRead t r) [.fresh]) ∧
  (∀ (k : Fin 8) (f : CanFrame) (time : Nat), Keeps (.canFrameReceived k f time) [.now, .out, .fresh, .power, .pool,
    .parts, .views, .cans, .recorder, .doms]) ∧
  (∀ (k : Fin 8) (o : Option (Fin 64)) (sof : Nat) (tdcNs : Option Nat) (time : Nat), Keeps (.canTxDone k o sof tdcNs
    time) [.now, .out, .power, .pool, .parts, .views, .cans, .recorder, .doms]) ∧
  (∀ (k : Fin 8) (o : Option (Fin 64)) (time : Nat), Keeps (.canTxTimeout k o time) [.now, .out, .pool, .cans]) ∧
  (∀ (k : Fin 8) (time : Nat), Keeps (.canRecoveryDone k time) [.now, .out, .power, .pool, .parts, .views, .cans,
    .recorder, .doms]) ∧
  (∀ (p : Fin 12) (k : Fin 8) (o : Fin 64), Keeps (.objAckRead p k o) [.out, .cans]) ∧
  (∀ (t : Fin 16) (r : Req), AsksTo (.canStatus t r) []) ∧
  (∀ (t : Fin 16) (r : Req), AsksTo (.canRecover t r) [.cans]) ∧
  (∀ (t : Fin 16) (r : Req), AsksTo (.canObjRead t r) []) ∧
  (∀ (k : Fin 8) (err : CanErr) (time : Nat), Keeps (.canBusError k err time) [.now, .out, .power, .pool, .parts,
    .views, .cans, .recorder, .doms]) ∧
  (∀ (set : Fin 14) (time : Nat), Keeps (.snapshotRequestReceived set time) [.now, .out]) ∧
  (∀ (c : Fin 64) (time : Nat), Keeps (.resyncRequestReceived c time) [.now, .out, .tiles]) ∧
  (∀ (image : PartnerImage) (atTakeup : Bool) (time : Nat), AsksTo (.partnerImageReceived image atTakeup time)
    [.fresh, .power, .ident, .chains, .tiles, .strs, .ptos, .groups, .disp, .pair, .time, .loops, .injs, .valves,
    .fbs, .anas, .dos, .fdpFault, .fdpTime, .cans, .recorder, .memories, .config]) ∧
  (∀ (port : Fin 8) (pos : Option Word) (leap : Option Word) (arm : Bool) (time : Nat), Keeps (.fbForwardReceived port
    pos leap arm time) [.now, .out, .fbs]) ∧
  (∀ (ch : Fin 32) (time : Nat), Keeps (.hartSecondaryMasterFrame ch time) [.now, .out]) ∧
  (∀ (time : Nat), Keeps (.prpEntryForgotten time) [.now, .out, .net])

/-- Chapters 16 to 20 (safety, power, start, firmware, recorder, display): what each command may change; all else in the
module stays. -/
def Obligations.SafetyAndPowerFrames : Prop :=
  (∀ (t : Fin 16) (r : Req), AsksTo (.sysIdent t r) [.fresh]) ∧
  (∀ (t : Fin 16) (r : Req), AsksTo (.sysState t r) []) ∧
  (∀ (t : Fin 16) (r : Req) (boot : BootCheck), AsksTo (.sysReset t r boot) [.power, .ident, .chains, .tiles, .bufA,
    .bufB, .readB, .ptos, .bals, .strLimits, .groups, .disp, .slices, .cmps, .pair, .time, .net, .loops, .injs,
    .trace, .valves, .fbs, .anas, .grpField, .grpLow, .dis, .dos, .fdpFault, .fdpTime, .cans, .safe, .recorder,
    .display, .memories, .config, .supply]) ∧
  (Keeps .configEffectiveTick [.out, .fresh, .power, .ident, .cfg, .tenants, .pool, .chains, .tiles, .strs, .ptos,
    .groups, .parts, .views, .time, .loops, .injs, .valves, .fbs, .anas, .dos, .fdpFault, .fdpTime, .cans, .recorder,
    .memories, .config, .doms]) ∧
  (∀ (time : Nat), AsksTo (.hibernateReceived time) [.power, .ident, .chains, .tiles, .bufA, .bufB, .readB, .ptos,
    .bals, .strLimits, .groups, .disp, .slices, .cmps, .pair, .time, .net, .loops, .injs, .trace, .valves, .fbs,
    .anas, .grpField, .grpLow, .dis, .dos, .fdpFault, .fdpTime, .cans, .safe, .recorder, .display, .memories, .config,
    .supply]) ∧
  (∀ (x : SafeSense), Keeps (.safeCycle x) [.out, .safe]) ∧
  (∀ (k : Fin 4) (readA readB : BitVec 24), Keeps (.safeTestPulse k readA readB) [.out, .safe]) ∧
  (Keeps .safeSupplyLow [.out, .safe]) ∧
  (∀ (entering : Bool) (volt : Nat), Keeps (.safeSupplyBand entering volt) [.out, .safe]) ∧
  (∀ (selfTestOk : Bool) (volt : Nat), Keeps (.safeStart selfTestOk volt) [.out, .safe]) ∧
  (∀ (time : Nat), Keeps (.safeStatusReport time) [.now, .out, .power, .pool, .safe, .recorder]) ∧
  (∀ (time : Nat), Keeps (.safePartnerStatus time) [.now, .out]) ∧
  (∀ (t : Fin 16) (r : Req), AsksTo (.safeStatus t r) [.fresh]) ∧
  (∀ (t : Fin 16) (r : Req), AsksTo (.safeConfirm t r) [.safe]) ∧
  (∀ (t : Fin 16) (r : Req) (answers : Bool), AsksTo (.safeStopReq t r answers) [.safe]) ∧
  (∀ (boot : BootCheck) (volt : Nat), Keeps (.powerOn boot volt) [.now, .out, .power, .ident, .cfg, .ptos, .time,
    .config, .supply, .doms]) ∧
  (∀ (time : Nat), AsksTo (.keeperStart time) [.fresh, .power, .ident, .chains, .tiles, .bufA, .bufB, .readB, .strs,
    .ptos, .bals, .strLimits, .groups, .disp, .slices, .cmps, .pair, .time, .net, .loops, .injs, .trace, .valves,
    .fbs, .anas, .grpField, .grpLow, .dis, .dos, .fdpFault, .fdpTime, .cans, .safe, .recorder, .display, .memories,
    .config, .supply]) ∧
  (∀ (written : Bool) (time : Nat), Keeps (.cfgRepairWrite written time) [.now, .out, .cfg, .config]) ∧
  (∀ (time : Nat), Keeps (.fwTrialConfirm time) [.now, .out, .ident]) ∧
  (∀ (time : Nat), Keeps (.defaultTripRepeat time) [.now, .out, .chains]) ∧
  (∀ (boot : BootCheck) (time : Nat), AsksTo (.defaultCommitReset boot time) [.power, .ident, .chains, .tiles, .bufA,
    .bufB, .readB, .ptos, .bals, .strLimits, .groups, .disp, .slices, .cmps, .pair, .time, .net, .loops, .injs,
    .trace, .valves, .fbs, .anas, .grpField, .grpLow, .dis, .dos, .fdpFault, .fdpTime, .cans, .safe, .recorder,
    .display, .memories, .config, .supply]) ∧
  (∀ (c : Fin 64) (e : RingEnd) (load : Bool) (time : Nat), Keeps (.cableTest c e load time) [.now, .out, .chains]) ∧
  (∀ (t : Fin 16) (r : Req), AsksTo (.fwStatus t r) []) ∧
  (∀ (t : Fin 16) (r : Req) (boot : BootCheck), AsksTo (.fwActivate t r boot) [.power, .ident, .chains, .tiles, .bufA,
    .bufB, .readB, .ptos, .bals, .strLimits, .groups, .disp, .slices, .cmps, .pair, .time, .net, .loops, .injs,
    .trace, .valves, .fbs, .anas, .grpField, .grpLow, .dis, .dos, .fdpFault, .fdpTime, .cans, .safe, .recorder,
    .display, .memories, .config, .supply]) ∧
  (∀ (t : Fin 16) (r : Req), AsksTo (.certRead t r) []) ∧
  (∀ (t : Fin 16) (r : Req), AsksTo (.certClear t r) [.ident]) ∧
  (∀ (d : Fin 50) (pll : Bool) (time : Nat), Keeps (.domainLost d pll time) [.now, .out, .fresh, .power, .ident, .cfg,
    .tenants, .pool, .chains, .tiles, .ledger, .bufA, .bufB, .readB, .strs, .ptos, .bals, .strLimits, .groups, .disp,
    .parts, .slices, .views, .cmps, .pair, .time, .net, .loops, .injs, .trace, .valves, .fbs, .anas, .grpField,
    .grpLow, .dis, .dos, .fdpFault, .fdpTime, .cans, .safe, .recorder, .display, .memories, .config, .supply, .doms])
    ∧
  (∀ (d : Fin 50) (good : Bool) (time : Nat), Keeps (.domainRetry d good time) [.now, .out, .power, .ident, .cfg,
    .tenants, .pool, .chains, .tiles, .ledger, .bufA, .bufB, .readB, .ptos, .bals, .strLimits, .groups, .disp, .parts,
    .slices, .views, .cmps, .pair, .time, .net, .loops, .injs, .trace, .valves, .fbs, .anas, .grpField, .grpLow, .dis,
    .dos, .fdpFault, .fdpTime, .cans, .safe, .recorder, .display, .memories, .config, .supply, .doms]) ∧
  (∀ (d : Fin 50) (time : Nat), Keeps (.timeWheelFire d time) [.now, .out, .doms]) ∧
  (∀ (x2 : Bool) (returned : Bool) (volt : Nat) (time : Nat), Keeps (.supplyLost x2 returned volt time) [.now, .out,
    .power, .pool, .recorder, .supply]) ∧
  (∀ (time : Nat), AsksTo (.brownOut time) [.power, .ident, .chains, .tiles, .bufA, .bufB, .readB, .ptos, .bals,
    .strLimits, .groups, .disp, .slices, .cmps, .pair, .time, .net, .loops, .injs, .trace, .valves, .fbs, .anas,
    .grpField, .grpLow, .dis, .dos, .fdpFault, .fdpTime, .cans, .safe, .recorder, .display, .memories, .config,
    .supply]) ∧
  (∀ (boot : BootCheck) (time : Nat), Keeps (.supplyRestored boot time) [.now, .out, .power, .ident, .cfg, .ptos,
    .config, .supply, .doms]) ∧
  (∀ (boot : BootCheck) (time : Nat), AsksTo (.keeperWdt boot time) [.power, .ident, .chains, .tiles, .bufA, .bufB,
    .readB, .ptos, .bals, .strLimits, .groups, .disp, .slices, .cmps, .pair, .time, .net, .loops, .injs, .trace,
    .valves, .fbs, .anas, .grpField, .grpLow, .dis, .dos, .fdpFault, .fdpTime, .cans, .safe, .recorder, .display,
    .memories, .config, .supply]) ∧
  (∀ (kind : FaultKind) (boot : BootCheck) (time : Nat), AsksTo (.moduleFault kind boot time) [.power, .ident,
    .chains, .tiles, .bufA, .bufB, .readB, .strs, .ptos, .bals, .strLimits, .groups, .disp, .slices, .cmps, .pair,
    .time, .net, .loops, .injs, .trace, .valves, .fbs, .anas, .grpField, .grpLow, .dis, .dos, .fdpFault, .fdpTime,
    .cans, .safe, .recorder, .display, .memories, .config, .supply]) ∧
  (∀ (sensors : List Int) (time : Nat), AsksTo (.thermRead sensors time) [.power, .ident, .chains, .tiles, .bufA,
    .bufB, .readB, .ptos, .bals, .strLimits, .groups, .disp, .slices, .cmps, .pair, .time, .net, .loops, .injs,
    .trace, .valves, .fbs, .anas, .grpField, .grpLow, .dis, .dos, .fdpFault, .fdpTime, .cans, .safe, .recorder,
    .display, .memories, .config, .supply]) ∧
  (∀ (boot : BootCheck) (time : Nat), Keeps (.thermRestart boot time) [.now, .out, .power, .ident, .cfg, .ptos,
    .config, .supply, .doms]) ∧
  (∀ (by_ : WakeBy) (boot : BootCheck) (time : Nat), Keeps (.hibernateWake by_ boot time) [.now, .out, .power, .ident,
    .cfg, .ptos, .config, .supply, .doms]) ∧
  (∀ (t : Fin 16) (r : Req), AsksTo (.pwrStatus t r) [.fresh]) ∧
  (∀ (t : Fin 16) (r : Req), AsksTo (.pwrHibernate t r) [.power, .ident, .chains, .tiles, .ledger, .bufA, .bufB,
    .readB, .ptos, .bals, .strLimits, .groups, .disp, .slices, .cmps, .pair, .time, .net, .loops, .injs, .trace,
    .valves, .fbs, .anas, .grpField, .grpLow, .dis, .dos, .fdpFault, .fdpTime, .cans, .safe, .recorder, .display,
    .memories, .config, .supply]) ∧
  (∀ (t : Fin 16) (r : Req), AsksTo (.recStatus t r) [.fresh]) ∧
  (∀ (t : Fin 16) (r : Req), AsksTo (.recClear t r) [.power, .recorder]) ∧
  (∀ (time : Nat), Keeps (.displayLatch time) [.now, .out, .display]) ∧
  (∀ (p : Fin 12), Keeps (.dspCommitWrite p) [.out, .display]) ∧
  (∀ (t : Fin 16) (r : Req), AsksTo (.dispRead t r) [.fresh]) ∧
  (∀ (t : Fin 16) (r : Req), AsksTo (.dispTest t r) [.display]) ∧
  (∀ (time : Nat), Keeps (.dispTestEnd time) [.now, .out, .display]) ∧
  (AsksTo .alwaysOnRailLoss [.power, .ident, .chains, .tiles, .bufA, .bufB, .readB, .strs, .ptos, .bals, .zones,
    .strLimits, .groups, .disp, .slices, .cmps, .pair, .time, .net, .loops, .injs, .trace, .valves, .fbs, .anas,
    .grpField, .grpLow, .dis, .dos, .vsupLow, .fdpFault, .fdpTime, .cans, .safe, .recorder, .display, .memories,
    .config, .supply]) ∧
  (∀ (time : Nat), Keeps (.hibernatePartnerTimeout time) [.now, .out, .power, .tenants, .pool, .parts, .views,
    .supply, .doms]) ∧
  (∀ (words : List Word) (time : Nat), Keeps (.safePartnerStatusReceived words time) [.now, .out, .safe])

/-- A command of one analog channel, digital output, feedback port, valve port, CAN controller, string or view leaves
all the others of its kind as they are. -/
def Obligations.OtherChannelsStay : Prop :=
  (∀ (ch : Fin 32) (s u : State) (k : Nat), k ≠ ch.val + 1 →
    (∀ time, exec (.anaMiswireOpen ch time) s = .next u → u.ana k = s.ana k) ∧
    (∀ time, exec (.anaMiswireRetry ch time) s = .next u → u.ana k = s.ana k) ∧
    (∀ a b time, exec (.anaTestDone ch a b time) s = .next u → u.ana k = s.ana k) ∧
    (∀ a b l good time, exec (.hartReplyReceived ch a b l good time) s = .next u → u.ana k = s.ana k) ∧
    (∀ time, exec (.hartTimeout ch time) s = .next u → u.ana k = s.ana k)) ∧
  (∀ (n : Fin 32) (s u : State) (k : Nat), k ≠ n.val + 1 →
    (∀ time, exec (.doOverload n time) s = .next u → u.dout k = s.dout k) ∧
    (∀ time, exec (.doRetry n time) s = .next u → u.dout k = s.dout k) ∧
    (∀ time, exec (.doReadbackMismatch n time) s = .next u → u.dout k = s.dout k)) ∧
  (∀ (port : Fin 8) (s u : State) (k : Nat), k ≠ port.val + 1 →
    (∀ levels time, exec (.fbEdge port levels time) s = .next u → u.fb k = s.fb k) ∧
    (∀ levels time, exec (.fbIndexCapture port levels time) s = .next u → u.fb k = s.fb k) ∧
    (∀ a b c time, exec (.fbForwardReceived port a b c time) s = .next u → u.fb k = s.fb k) ∧
    (∀ time, exec (.leapPulseEnd port time) s = .next u → u.fb k = s.fb k)) ∧
  (∀ (v : Fin 16) (s u : State) (k : Nat), k ≠ v.val + 1 →
    (∀ time, exec (.valveUpdate v time) s = .next u → u.valve k = s.valve k) ∧
    (∀ time, exec (.valveStill v time) s = .next u → u.valve k = s.valve k) ∧
    (∀ bits time, exec (.valveUplinkReceived v bits time) s = .next u → u.valve k = s.valve k) ∧
    (∀ time, exec (.valveLinkFault v time) s = .next u → u.valve k = s.valve k)) ∧
  (∀ (n : Fin 8) (s u : State) (k : Nat), k ≠ n.val →
    (∀ o sof tdc time, exec (.canTxDone n o sof tdc time) s = .next u → u.can k = s.can k) ∧
    (∀ o time, exec (.canTxTimeout n o time) s = .next u → u.can k = s.can k) ∧
    (∀ err time, exec (.canBusError n err time) s = .next u → u.can k = s.can k) ∧
    (∀ time, exec (.canRecoveryDone n time) s = .next u → u.can k = s.can k) ∧
    (∀ p o, exec (.objAckRead p n o) s = .next u → u.can k = s.can k)) ∧
  (∀ (c : Fin 64) (s u : State) (k : Nat), k ≠ c.val →
    (∀ time, exec (.prechargeStart c time) s = .next u → u.str k = s.str k) ∧
    (∀ time, exec (.closePreOff c time) s = .next u → u.str k = s.str k) ∧
    (∀ time, exec (.openFinal c time) s = .next u → u.str k = s.str k) ∧
    (∀ time, exec (.tripRepeat c time) s = .next u → u.chain k = s.chain k) ∧
    (∀ p, exec (.silentMonitor c p) s = .next u → u.chain k = s.chain k)) ∧
  (∀ (v : Fin 13) (s u : State) (k : Nat), k ≠ v.val →
    (exec (.evfClaimRead v) s = .next u → u.view k = s.view k) ∧
    (∀ src time, exec (.evfSourceEvent v src time) s = .next u → u.view k = s.view k) ∧
    (∀ bank w, exec (.evfSetenWrite v bank w) s = .next u → u.view k = s.view k) ∧
    (∀ bank w, exec (.evfClrenWrite v bank w) s = .next u → u.view k = s.view k) ∧
    (∀ bank w, exec (.evfSetpendWrite v bank w) s = .next u → u.view k = s.view k) ∧
    (∀ bank w, exec (.evfClrpendWrite v bank w) s = .next u → u.view k = s.view k))
end

