-- ==== Sys2Proof/Laws/State.lean ====
section
/-! SUPPORT. What each update of one group of state leaves as it was: one lemma per field and update, and
what the read of the group gives after it. Later proofs unfold no record update. -/

namespace Sys2Proof.Machine

/-! ### modChain -/

section
variable (s : State) (c : Nat) (f : Chain → Chain)
@[simp] theorem State.modChain_pending : (State.modChain s c f).pending = s.pending := rfl
@[simp] theorem State.modChain_now : (State.modChain s c f).now = s.now := rfl
@[simp] theorem State.modChain_out : (State.modChain s c f).out = s.out := rfl
@[simp] theorem State.modChain_fresh : (State.modChain s c f).fresh = s.fresh := rfl
@[simp] theorem State.modChain_power : (State.modChain s c f).power = s.power := rfl
@[simp] theorem State.modChain_ident : (State.modChain s c f).ident = s.ident := rfl
@[simp] theorem State.modChain_cfg : (State.modChain s c f).cfg = s.cfg := rfl
@[simp] theorem State.modChain_tenants : (State.modChain s c f).tenants = s.tenants := rfl
@[simp] theorem State.modChain_pool : (State.modChain s c f).pool = s.pool := rfl
@[simp] theorem State.modChain_tiles : (State.modChain s c f).tiles = s.tiles := rfl
@[simp] theorem State.modChain_ledger : (State.modChain s c f).ledger = s.ledger := rfl
@[simp] theorem State.modChain_bufA : (State.modChain s c f).bufA = s.bufA := rfl
@[simp] theorem State.modChain_bufB : (State.modChain s c f).bufB = s.bufB := rfl
@[simp] theorem State.modChain_readB : (State.modChain s c f).readB = s.readB := rfl
@[simp] theorem State.modChain_strs : (State.modChain s c f).strs = s.strs := rfl
@[simp] theorem State.modChain_ptos : (State.modChain s c f).ptos = s.ptos := rfl
@[simp] theorem State.modChain_bals : (State.modChain s c f).bals = s.bals := rfl
@[simp] theorem State.modChain_zones : (State.modChain s c f).zones = s.zones := rfl
@[simp] theorem State.modChain_strLimits : (State.modChain s c f).strLimits = s.strLimits := rfl
@[simp] theorem State.modChain_groups : (State.modChain s c f).groups = s.groups := rfl
@[simp] theorem State.modChain_disp : (State.modChain s c f).disp = s.disp := rfl
@[simp] theorem State.modChain_parts : (State.modChain s c f).parts = s.parts := rfl
@[simp] theorem State.modChain_slices : (State.modChain s c f).slices = s.slices := rfl
@[simp] theorem State.modChain_views : (State.modChain s c f).views = s.views := rfl
@[simp] theorem State.modChain_cmps : (State.modChain s c f).cmps = s.cmps := rfl
@[simp] theorem State.modChain_pair : (State.modChain s c f).pair = s.pair := rfl
@[simp] theorem State.modChain_time : (State.modChain s c f).time = s.time := rfl
@[simp] theorem State.modChain_net : (State.modChain s c f).net = s.net := rfl
@[simp] theorem State.modChain_loops : (State.modChain s c f).loops = s.loops := rfl
@[simp] theorem State.modChain_injs : (State.modChain s c f).injs = s.injs := rfl
@[simp] theorem State.modChain_trace : (State.modChain s c f).trace = s.trace := rfl
@[simp] theorem State.modChain_valves : (State.modChain s c f).valves = s.valves := rfl
@[simp] theorem State.modChain_fbs : (State.modChain s c f).fbs = s.fbs := rfl
@[simp] theorem State.modChain_anas : (State.modChain s c f).anas = s.anas := rfl
@[simp] theorem State.modChain_grpField : (State.modChain s c f).grpField = s.grpField := rfl
@[simp] theorem State.modChain_grpLow : (State.modChain s c f).grpLow = s.grpLow := rfl
@[simp] theorem State.modChain_dis : (State.modChain s c f).dis = s.dis := rfl
@[simp] theorem State.modChain_dos : (State.modChain s c f).dos = s.dos := rfl
@[simp] theorem State.modChain_vsupLow : (State.modChain s c f).vsupLow = s.vsupLow := rfl
@[simp] theorem State.modChain_fdpFault : (State.modChain s c f).fdpFault = s.fdpFault := rfl
@[simp] theorem State.modChain_fdpTime : (State.modChain s c f).fdpTime = s.fdpTime := rfl
@[simp] theorem State.modChain_cans : (State.modChain s c f).cans = s.cans := rfl
@[simp] theorem State.modChain_safe : (State.modChain s c f).safe = s.safe := rfl
@[simp] theorem State.modChain_recorder : (State.modChain s c f).recorder = s.recorder := rfl
@[simp] theorem State.modChain_display : (State.modChain s c f).display = s.display := rfl
end

/-! ### modTile -/

section
variable (s : State) (c : Nat) (f : Tile → Tile)
@[simp] theorem State.modTile_pending : (State.modTile s c f).pending = s.pending := rfl
@[simp] theorem State.modTile_now : (State.modTile s c f).now = s.now := rfl
@[simp] theorem State.modTile_out : (State.modTile s c f).out = s.out := rfl
@[simp] theorem State.modTile_fresh : (State.modTile s c f).fresh = s.fresh := rfl
@[simp] theorem State.modTile_power : (State.modTile s c f).power = s.power := rfl
@[simp] theorem State.modTile_ident : (State.modTile s c f).ident = s.ident := rfl
@[simp] theorem State.modTile_cfg : (State.modTile s c f).cfg = s.cfg := rfl
@[simp] theorem State.modTile_tenants : (State.modTile s c f).tenants = s.tenants := rfl
@[simp] theorem State.modTile_pool : (State.modTile s c f).pool = s.pool := rfl
@[simp] theorem State.modTile_chains : (State.modTile s c f).chains = s.chains := rfl
@[simp] theorem State.modTile_ledger : (State.modTile s c f).ledger = s.ledger := rfl
@[simp] theorem State.modTile_bufA : (State.modTile s c f).bufA = s.bufA := rfl
@[simp] theorem State.modTile_bufB : (State.modTile s c f).bufB = s.bufB := rfl
@[simp] theorem State.modTile_readB : (State.modTile s c f).readB = s.readB := rfl
@[simp] theorem State.modTile_strs : (State.modTile s c f).strs = s.strs := rfl
@[simp] theorem State.modTile_ptos : (State.modTile s c f).ptos = s.ptos := rfl
@[simp] theorem State.modTile_bals : (State.modTile s c f).bals = s.bals := rfl
@[simp] theorem State.modTile_zones : (State.modTile s c f).zones = s.zones := rfl
@[simp] theorem State.modTile_strLimits : (State.modTile s c f).strLimits = s.strLimits := rfl
@[simp] theorem State.modTile_groups : (State.modTile s c f).groups = s.groups := rfl
@[simp] theorem State.modTile_disp : (State.modTile s c f).disp = s.disp := rfl
@[simp] theorem State.modTile_parts : (State.modTile s c f).parts = s.parts := rfl
@[simp] theorem State.modTile_slices : (State.modTile s c f).slices = s.slices := rfl
@[simp] theorem State.modTile_views : (State.modTile s c f).views = s.views := rfl
@[simp] theorem State.modTile_cmps : (State.modTile s c f).cmps = s.cmps := rfl
@[simp] theorem State.modTile_pair : (State.modTile s c f).pair = s.pair := rfl
@[simp] theorem State.modTile_time : (State.modTile s c f).time = s.time := rfl
@[simp] theorem State.modTile_net : (State.modTile s c f).net = s.net := rfl
@[simp] theorem State.modTile_loops : (State.modTile s c f).loops = s.loops := rfl
@[simp] theorem State.modTile_injs : (State.modTile s c f).injs = s.injs := rfl
@[simp] theorem State.modTile_trace : (State.modTile s c f).trace = s.trace := rfl
@[simp] theorem State.modTile_valves : (State.modTile s c f).valves = s.valves := rfl
@[simp] theorem State.modTile_fbs : (State.modTile s c f).fbs = s.fbs := rfl
@[simp] theorem State.modTile_anas : (State.modTile s c f).anas = s.anas := rfl
@[simp] theorem State.modTile_grpField : (State.modTile s c f).grpField = s.grpField := rfl
@[simp] theorem State.modTile_grpLow : (State.modTile s c f).grpLow = s.grpLow := rfl
@[simp] theorem State.modTile_dis : (State.modTile s c f).dis = s.dis := rfl
@[simp] theorem State.modTile_dos : (State.modTile s c f).dos = s.dos := rfl
@[simp] theorem State.modTile_vsupLow : (State.modTile s c f).vsupLow = s.vsupLow := rfl
@[simp] theorem State.modTile_fdpFault : (State.modTile s c f).fdpFault = s.fdpFault := rfl
@[simp] theorem State.modTile_fdpTime : (State.modTile s c f).fdpTime = s.fdpTime := rfl
@[simp] theorem State.modTile_cans : (State.modTile s c f).cans = s.cans := rfl
@[simp] theorem State.modTile_safe : (State.modTile s c f).safe = s.safe := rfl
@[simp] theorem State.modTile_recorder : (State.modTile s c f).recorder = s.recorder := rfl
@[simp] theorem State.modTile_display : (State.modTile s c f).display = s.display := rfl
end

/-! ### modStr -/

section
variable (s : State) (c : Nat) (f : Str → Str)
@[simp] theorem State.modStr_pending : (State.modStr s c f).pending = s.pending := rfl
@[simp] theorem State.modStr_now : (State.modStr s c f).now = s.now := rfl
@[simp] theorem State.modStr_out : (State.modStr s c f).out = s.out := rfl
@[simp] theorem State.modStr_fresh : (State.modStr s c f).fresh = s.fresh := rfl
@[simp] theorem State.modStr_power : (State.modStr s c f).power = s.power := rfl
@[simp] theorem State.modStr_ident : (State.modStr s c f).ident = s.ident := rfl
@[simp] theorem State.modStr_cfg : (State.modStr s c f).cfg = s.cfg := rfl
@[simp] theorem State.modStr_tenants : (State.modStr s c f).tenants = s.tenants := rfl
@[simp] theorem State.modStr_pool : (State.modStr s c f).pool = s.pool := rfl
@[simp] theorem State.modStr_chains : (State.modStr s c f).chains = s.chains := rfl
@[simp] theorem State.modStr_tiles : (State.modStr s c f).tiles = s.tiles := rfl
@[simp] theorem State.modStr_ledger : (State.modStr s c f).ledger = s.ledger := rfl
@[simp] theorem State.modStr_bufA : (State.modStr s c f).bufA = s.bufA := rfl
@[simp] theorem State.modStr_bufB : (State.modStr s c f).bufB = s.bufB := rfl
@[simp] theorem State.modStr_readB : (State.modStr s c f).readB = s.readB := rfl
@[simp] theorem State.modStr_ptos : (State.modStr s c f).ptos = s.ptos := rfl
@[simp] theorem State.modStr_bals : (State.modStr s c f).bals = s.bals := rfl
@[simp] theorem State.modStr_zones : (State.modStr s c f).zones = s.zones := rfl
@[simp] theorem State.modStr_strLimits : (State.modStr s c f).strLimits = s.strLimits := rfl
@[simp] theorem State.modStr_groups : (State.modStr s c f).groups = s.groups := rfl
@[simp] theorem State.modStr_disp : (State.modStr s c f).disp = s.disp := rfl
@[simp] theorem State.modStr_parts : (State.modStr s c f).parts = s.parts := rfl
@[simp] theorem State.modStr_slices : (State.modStr s c f).slices = s.slices := rfl
@[simp] theorem State.modStr_views : (State.modStr s c f).views = s.views := rfl
@[simp] theorem State.modStr_cmps : (State.modStr s c f).cmps = s.cmps := rfl
@[simp] theorem State.modStr_pair : (State.modStr s c f).pair = s.pair := rfl
@[simp] theorem State.modStr_time : (State.modStr s c f).time = s.time := rfl
@[simp] theorem State.modStr_net : (State.modStr s c f).net = s.net := rfl
@[simp] theorem State.modStr_loops : (State.modStr s c f).loops = s.loops := rfl
@[simp] theorem State.modStr_injs : (State.modStr s c f).injs = s.injs := rfl
@[simp] theorem State.modStr_trace : (State.modStr s c f).trace = s.trace := rfl
@[simp] theorem State.modStr_valves : (State.modStr s c f).valves = s.valves := rfl
@[simp] theorem State.modStr_fbs : (State.modStr s c f).fbs = s.fbs := rfl
@[simp] theorem State.modStr_anas : (State.modStr s c f).anas = s.anas := rfl
@[simp] theorem State.modStr_grpField : (State.modStr s c f).grpField = s.grpField := rfl
@[simp] theorem State.modStr_grpLow : (State.modStr s c f).grpLow = s.grpLow := rfl
@[simp] theorem State.modStr_dis : (State.modStr s c f).dis = s.dis := rfl
@[simp] theorem State.modStr_dos : (State.modStr s c f).dos = s.dos := rfl
@[simp] theorem State.modStr_vsupLow : (State.modStr s c f).vsupLow = s.vsupLow := rfl
@[simp] theorem State.modStr_fdpFault : (State.modStr s c f).fdpFault = s.fdpFault := rfl
@[simp] theorem State.modStr_fdpTime : (State.modStr s c f).fdpTime = s.fdpTime := rfl
@[simp] theorem State.modStr_cans : (State.modStr s c f).cans = s.cans := rfl
@[simp] theorem State.modStr_safe : (State.modStr s c f).safe = s.safe := rfl
@[simp] theorem State.modStr_recorder : (State.modStr s c f).recorder = s.recorder := rfl
@[simp] theorem State.modStr_display : (State.modStr s c f).display = s.display := rfl
end

/-! ### modPto -/

section
variable (s : State) (k : Nat) (f : Pto → Pto)
@[simp] theorem State.modPto_pending : (State.modPto s k f).pending = s.pending := rfl
@[simp] theorem State.modPto_now : (State.modPto s k f).now = s.now := rfl
@[simp] theorem State.modPto_out : (State.modPto s k f).out = s.out := rfl
@[simp] theorem State.modPto_fresh : (State.modPto s k f).fresh = s.fresh := rfl
@[simp] theorem State.modPto_power : (State.modPto s k f).power = s.power := rfl
@[simp] theorem State.modPto_ident : (State.modPto s k f).ident = s.ident := rfl
@[simp] theorem State.modPto_cfg : (State.modPto s k f).cfg = s.cfg := rfl
@[simp] theorem State.modPto_tenants : (State.modPto s k f).tenants = s.tenants := rfl
@[simp] theorem State.modPto_pool : (State.modPto s k f).pool = s.pool := rfl
@[simp] theorem State.modPto_chains : (State.modPto s k f).chains = s.chains := rfl
@[simp] theorem State.modPto_tiles : (State.modPto s k f).tiles = s.tiles := rfl
@[simp] theorem State.modPto_ledger : (State.modPto s k f).ledger = s.ledger := rfl
@[simp] theorem State.modPto_bufA : (State.modPto s k f).bufA = s.bufA := rfl
@[simp] theorem State.modPto_bufB : (State.modPto s k f).bufB = s.bufB := rfl
@[simp] theorem State.modPto_readB : (State.modPto s k f).readB = s.readB := rfl
@[simp] theorem State.modPto_strs : (State.modPto s k f).strs = s.strs := rfl
@[simp] theorem State.modPto_bals : (State.modPto s k f).bals = s.bals := rfl
@[simp] theorem State.modPto_zones : (State.modPto s k f).zones = s.zones := rfl
@[simp] theorem State.modPto_strLimits : (State.modPto s k f).strLimits = s.strLimits := rfl
@[simp] theorem State.modPto_groups : (State.modPto s k f).groups = s.groups := rfl
@[simp] theorem State.modPto_disp : (State.modPto s k f).disp = s.disp := rfl
@[simp] theorem State.modPto_parts : (State.modPto s k f).parts = s.parts := rfl
@[simp] theorem State.modPto_slices : (State.modPto s k f).slices = s.slices := rfl
@[simp] theorem State.modPto_views : (State.modPto s k f).views = s.views := rfl
@[simp] theorem State.modPto_cmps : (State.modPto s k f).cmps = s.cmps := rfl
@[simp] theorem State.modPto_pair : (State.modPto s k f).pair = s.pair := rfl
@[simp] theorem State.modPto_time : (State.modPto s k f).time = s.time := rfl
@[simp] theorem State.modPto_net : (State.modPto s k f).net = s.net := rfl
@[simp] theorem State.modPto_loops : (State.modPto s k f).loops = s.loops := rfl
@[simp] theorem State.modPto_injs : (State.modPto s k f).injs = s.injs := rfl
@[simp] theorem State.modPto_trace : (State.modPto s k f).trace = s.trace := rfl
@[simp] theorem State.modPto_valves : (State.modPto s k f).valves = s.valves := rfl
@[simp] theorem State.modPto_fbs : (State.modPto s k f).fbs = s.fbs := rfl
@[simp] theorem State.modPto_anas : (State.modPto s k f).anas = s.anas := rfl
@[simp] theorem State.modPto_grpField : (State.modPto s k f).grpField = s.grpField := rfl
@[simp] theorem State.modPto_grpLow : (State.modPto s k f).grpLow = s.grpLow := rfl
@[simp] theorem State.modPto_dis : (State.modPto s k f).dis = s.dis := rfl
@[simp] theorem State.modPto_dos : (State.modPto s k f).dos = s.dos := rfl
@[simp] theorem State.modPto_vsupLow : (State.modPto s k f).vsupLow = s.vsupLow := rfl
@[simp] theorem State.modPto_fdpFault : (State.modPto s k f).fdpFault = s.fdpFault := rfl
@[simp] theorem State.modPto_fdpTime : (State.modPto s k f).fdpTime = s.fdpTime := rfl
@[simp] theorem State.modPto_cans : (State.modPto s k f).cans = s.cans := rfl
@[simp] theorem State.modPto_safe : (State.modPto s k f).safe = s.safe := rfl
@[simp] theorem State.modPto_recorder : (State.modPto s k f).recorder = s.recorder := rfl
@[simp] theorem State.modPto_display : (State.modPto s k f).display = s.display := rfl
end

/-! ### modBal -/

section
variable (s : State) (c : Nat) (f : Bal → Bal)
@[simp] theorem State.modBal_pending : (State.modBal s c f).pending = s.pending := rfl
@[simp] theorem State.modBal_now : (State.modBal s c f).now = s.now := rfl
@[simp] theorem State.modBal_out : (State.modBal s c f).out = s.out := rfl
@[simp] theorem State.modBal_fresh : (State.modBal s c f).fresh = s.fresh := rfl
@[simp] theorem State.modBal_power : (State.modBal s c f).power = s.power := rfl
@[simp] theorem State.modBal_ident : (State.modBal s c f).ident = s.ident := rfl
@[simp] theorem State.modBal_cfg : (State.modBal s c f).cfg = s.cfg := rfl
@[simp] theorem State.modBal_tenants : (State.modBal s c f).tenants = s.tenants := rfl
@[simp] theorem State.modBal_pool : (State.modBal s c f).pool = s.pool := rfl
@[simp] theorem State.modBal_chains : (State.modBal s c f).chains = s.chains := rfl
@[simp] theorem State.modBal_tiles : (State.modBal s c f).tiles = s.tiles := rfl
@[simp] theorem State.modBal_ledger : (State.modBal s c f).ledger = s.ledger := rfl
@[simp] theorem State.modBal_bufA : (State.modBal s c f).bufA = s.bufA := rfl
@[simp] theorem State.modBal_bufB : (State.modBal s c f).bufB = s.bufB := rfl
@[simp] theorem State.modBal_readB : (State.modBal s c f).readB = s.readB := rfl
@[simp] theorem State.modBal_strs : (State.modBal s c f).strs = s.strs := rfl
@[simp] theorem State.modBal_ptos : (State.modBal s c f).ptos = s.ptos := rfl
@[simp] theorem State.modBal_zones : (State.modBal s c f).zones = s.zones := rfl
@[simp] theorem State.modBal_strLimits : (State.modBal s c f).strLimits = s.strLimits := rfl
@[simp] theorem State.modBal_groups : (State.modBal s c f).groups = s.groups := rfl
@[simp] theorem State.modBal_disp : (State.modBal s c f).disp = s.disp := rfl
@[simp] theorem State.modBal_parts : (State.modBal s c f).parts = s.parts := rfl
@[simp] theorem State.modBal_slices : (State.modBal s c f).slices = s.slices := rfl
@[simp] theorem State.modBal_views : (State.modBal s c f).views = s.views := rfl
@[simp] theorem State.modBal_cmps : (State.modBal s c f).cmps = s.cmps := rfl
@[simp] theorem State.modBal_pair : (State.modBal s c f).pair = s.pair := rfl
@[simp] theorem State.modBal_time : (State.modBal s c f).time = s.time := rfl
@[simp] theorem State.modBal_net : (State.modBal s c f).net = s.net := rfl
@[simp] theorem State.modBal_loops : (State.modBal s c f).loops = s.loops := rfl
@[simp] theorem State.modBal_injs : (State.modBal s c f).injs = s.injs := rfl
@[simp] theorem State.modBal_trace : (State.modBal s c f).trace = s.trace := rfl
@[simp] theorem State.modBal_valves : (State.modBal s c f).valves = s.valves := rfl
@[simp] theorem State.modBal_fbs : (State.modBal s c f).fbs = s.fbs := rfl
@[simp] theorem State.modBal_anas : (State.modBal s c f).anas = s.anas := rfl
@[simp] theorem State.modBal_grpField : (State.modBal s c f).grpField = s.grpField := rfl
@[simp] theorem State.modBal_grpLow : (State.modBal s c f).grpLow = s.grpLow := rfl
@[simp] theorem State.modBal_dis : (State.modBal s c f).dis = s.dis := rfl
@[simp] theorem State.modBal_dos : (State.modBal s c f).dos = s.dos := rfl
@[simp] theorem State.modBal_vsupLow : (State.modBal s c f).vsupLow = s.vsupLow := rfl
@[simp] theorem State.modBal_fdpFault : (State.modBal s c f).fdpFault = s.fdpFault := rfl
@[simp] theorem State.modBal_fdpTime : (State.modBal s c f).fdpTime = s.fdpTime := rfl
@[simp] theorem State.modBal_cans : (State.modBal s c f).cans = s.cans := rfl
@[simp] theorem State.modBal_safe : (State.modBal s c f).safe = s.safe := rfl
@[simp] theorem State.modBal_recorder : (State.modBal s c f).recorder = s.recorder := rfl
@[simp] theorem State.modBal_display : (State.modBal s c f).display = s.display := rfl
end

/-! ### modZone -/

section
variable (s : State) (z : Nat) (f : Zone → Zone)
@[simp] theorem State.modZone_pending : (State.modZone s z f).pending = s.pending := rfl
@[simp] theorem State.modZone_now : (State.modZone s z f).now = s.now := rfl
@[simp] theorem State.modZone_out : (State.modZone s z f).out = s.out := rfl
@[simp] theorem State.modZone_fresh : (State.modZone s z f).fresh = s.fresh := rfl
@[simp] theorem State.modZone_power : (State.modZone s z f).power = s.power := rfl
@[simp] theorem State.modZone_ident : (State.modZone s z f).ident = s.ident := rfl
@[simp] theorem State.modZone_cfg : (State.modZone s z f).cfg = s.cfg := rfl
@[simp] theorem State.modZone_tenants : (State.modZone s z f).tenants = s.tenants := rfl
@[simp] theorem State.modZone_pool : (State.modZone s z f).pool = s.pool := rfl
@[simp] theorem State.modZone_chains : (State.modZone s z f).chains = s.chains := rfl
@[simp] theorem State.modZone_tiles : (State.modZone s z f).tiles = s.tiles := rfl
@[simp] theorem State.modZone_ledger : (State.modZone s z f).ledger = s.ledger := rfl
@[simp] theorem State.modZone_bufA : (State.modZone s z f).bufA = s.bufA := rfl
@[simp] theorem State.modZone_bufB : (State.modZone s z f).bufB = s.bufB := rfl
@[simp] theorem State.modZone_readB : (State.modZone s z f).readB = s.readB := rfl
@[simp] theorem State.modZone_strs : (State.modZone s z f).strs = s.strs := rfl
@[simp] theorem State.modZone_ptos : (State.modZone s z f).ptos = s.ptos := rfl
@[simp] theorem State.modZone_bals : (State.modZone s z f).bals = s.bals := rfl
@[simp] theorem State.modZone_strLimits : (State.modZone s z f).strLimits = s.strLimits := rfl
@[simp] theorem State.modZone_groups : (State.modZone s z f).groups = s.groups := rfl
@[simp] theorem State.modZone_disp : (State.modZone s z f).disp = s.disp := rfl
@[simp] theorem State.modZone_parts : (State.modZone s z f).parts = s.parts := rfl
@[simp] theorem State.modZone_slices : (State.modZone s z f).slices = s.slices := rfl
@[simp] theorem State.modZone_views : (State.modZone s z f).views = s.views := rfl
@[simp] theorem State.modZone_cmps : (State.modZone s z f).cmps = s.cmps := rfl
@[simp] theorem State.modZone_pair : (State.modZone s z f).pair = s.pair := rfl
@[simp] theorem State.modZone_time : (State.modZone s z f).time = s.time := rfl
@[simp] theorem State.modZone_net : (State.modZone s z f).net = s.net := rfl
@[simp] theorem State.modZone_loops : (State.modZone s z f).loops = s.loops := rfl
@[simp] theorem State.modZone_injs : (State.modZone s z f).injs = s.injs := rfl
@[simp] theorem State.modZone_trace : (State.modZone s z f).trace = s.trace := rfl
@[simp] theorem State.modZone_valves : (State.modZone s z f).valves = s.valves := rfl
@[simp] theorem State.modZone_fbs : (State.modZone s z f).fbs = s.fbs := rfl
@[simp] theorem State.modZone_anas : (State.modZone s z f).anas = s.anas := rfl
@[simp] theorem State.modZone_grpField : (State.modZone s z f).grpField = s.grpField := rfl
@[simp] theorem State.modZone_grpLow : (State.modZone s z f).grpLow = s.grpLow := rfl
@[simp] theorem State.modZone_dis : (State.modZone s z f).dis = s.dis := rfl
@[simp] theorem State.modZone_dos : (State.modZone s z f).dos = s.dos := rfl
@[simp] theorem State.modZone_vsupLow : (State.modZone s z f).vsupLow = s.vsupLow := rfl
@[simp] theorem State.modZone_fdpFault : (State.modZone s z f).fdpFault = s.fdpFault := rfl
@[simp] theorem State.modZone_fdpTime : (State.modZone s z f).fdpTime = s.fdpTime := rfl
@[simp] theorem State.modZone_cans : (State.modZone s z f).cans = s.cans := rfl
@[simp] theorem State.modZone_safe : (State.modZone s z f).safe = s.safe := rfl
@[simp] theorem State.modZone_recorder : (State.modZone s z f).recorder = s.recorder := rfl
@[simp] theorem State.modZone_display : (State.modZone s z f).display = s.display := rfl
end

/-! ### modGroup -/

section
variable (s : State) (g : Nat) (f : Group → Group)
@[simp] theorem State.modGroup_pending : (State.modGroup s g f).pending = s.pending := rfl
@[simp] theorem State.modGroup_now : (State.modGroup s g f).now = s.now := rfl
@[simp] theorem State.modGroup_out : (State.modGroup s g f).out = s.out := rfl
@[simp] theorem State.modGroup_fresh : (State.modGroup s g f).fresh = s.fresh := rfl
@[simp] theorem State.modGroup_power : (State.modGroup s g f).power = s.power := rfl
@[simp] theorem State.modGroup_ident : (State.modGroup s g f).ident = s.ident := rfl
@[simp] theorem State.modGroup_cfg : (State.modGroup s g f).cfg = s.cfg := rfl
@[simp] theorem State.modGroup_tenants : (State.modGroup s g f).tenants = s.tenants := rfl
@[simp] theorem State.modGroup_pool : (State.modGroup s g f).pool = s.pool := rfl
@[simp] theorem State.modGroup_chains : (State.modGroup s g f).chains = s.chains := rfl
@[simp] theorem State.modGroup_tiles : (State.modGroup s g f).tiles = s.tiles := rfl
@[simp] theorem State.modGroup_ledger : (State.modGroup s g f).ledger = s.ledger := rfl
@[simp] theorem State.modGroup_bufA : (State.modGroup s g f).bufA = s.bufA := rfl
@[simp] theorem State.modGroup_bufB : (State.modGroup s g f).bufB = s.bufB := rfl
@[simp] theorem State.modGroup_readB : (State.modGroup s g f).readB = s.readB := rfl
@[simp] theorem State.modGroup_strs : (State.modGroup s g f).strs = s.strs := rfl
@[simp] theorem State.modGroup_ptos : (State.modGroup s g f).ptos = s.ptos := rfl
@[simp] theorem State.modGroup_bals : (State.modGroup s g f).bals = s.bals := rfl
@[simp] theorem State.modGroup_zones : (State.modGroup s g f).zones = s.zones := rfl
@[simp] theorem State.modGroup_strLimits : (State.modGroup s g f).strLimits = s.strLimits := rfl
@[simp] theorem State.modGroup_disp : (State.modGroup s g f).disp = s.disp := rfl
@[simp] theorem State.modGroup_parts : (State.modGroup s g f).parts = s.parts := rfl
@[simp] theorem State.modGroup_slices : (State.modGroup s g f).slices = s.slices := rfl
@[simp] theorem State.modGroup_views : (State.modGroup s g f).views = s.views := rfl
@[simp] theorem State.modGroup_cmps : (State.modGroup s g f).cmps = s.cmps := rfl
@[simp] theorem State.modGroup_pair : (State.modGroup s g f).pair = s.pair := rfl
@[simp] theorem State.modGroup_time : (State.modGroup s g f).time = s.time := rfl
@[simp] theorem State.modGroup_net : (State.modGroup s g f).net = s.net := rfl
@[simp] theorem State.modGroup_loops : (State.modGroup s g f).loops = s.loops := rfl
@[simp] theorem State.modGroup_injs : (State.modGroup s g f).injs = s.injs := rfl
@[simp] theorem State.modGroup_trace : (State.modGroup s g f).trace = s.trace := rfl
@[simp] theorem State.modGroup_valves : (State.modGroup s g f).valves = s.valves := rfl
@[simp] theorem State.modGroup_fbs : (State.modGroup s g f).fbs = s.fbs := rfl
@[simp] theorem State.modGroup_anas : (State.modGroup s g f).anas = s.anas := rfl
@[simp] theorem State.modGroup_grpField : (State.modGroup s g f).grpField = s.grpField := rfl
@[simp] theorem State.modGroup_grpLow : (State.modGroup s g f).grpLow = s.grpLow := rfl
@[simp] theorem State.modGroup_dis : (State.modGroup s g f).dis = s.dis := rfl
@[simp] theorem State.modGroup_dos : (State.modGroup s g f).dos = s.dos := rfl
@[simp] theorem State.modGroup_vsupLow : (State.modGroup s g f).vsupLow = s.vsupLow := rfl
@[simp] theorem State.modGroup_fdpFault : (State.modGroup s g f).fdpFault = s.fdpFault := rfl
@[simp] theorem State.modGroup_fdpTime : (State.modGroup s g f).fdpTime = s.fdpTime := rfl
@[simp] theorem State.modGroup_cans : (State.modGroup s g f).cans = s.cans := rfl
@[simp] theorem State.modGroup_safe : (State.modGroup s g f).safe = s.safe := rfl
@[simp] theorem State.modGroup_recorder : (State.modGroup s g f).recorder = s.recorder := rfl
@[simp] theorem State.modGroup_display : (State.modGroup s g f).display = s.display := rfl
end

/-! ### modPart -/

section
variable (s : State) (p : Nat) (f : Part → Part)
@[simp] theorem State.modPart_pending : (State.modPart s p f).pending = s.pending := rfl
@[simp] theorem State.modPart_now : (State.modPart s p f).now = s.now := rfl
@[simp] theorem State.modPart_out : (State.modPart s p f).out = s.out := rfl
@[simp] theorem State.modPart_fresh : (State.modPart s p f).fresh = s.fresh := rfl
@[simp] theorem State.modPart_power : (State.modPart s p f).power = s.power := rfl
@[simp] theorem State.modPart_ident : (State.modPart s p f).ident = s.ident := rfl
@[simp] theorem State.modPart_cfg : (State.modPart s p f).cfg = s.cfg := rfl
@[simp] theorem State.modPart_tenants : (State.modPart s p f).tenants = s.tenants := rfl
@[simp] theorem State.modPart_pool : (State.modPart s p f).pool = s.pool := rfl
@[simp] theorem State.modPart_chains : (State.modPart s p f).chains = s.chains := rfl
@[simp] theorem State.modPart_tiles : (State.modPart s p f).tiles = s.tiles := rfl
@[simp] theorem State.modPart_ledger : (State.modPart s p f).ledger = s.ledger := rfl
@[simp] theorem State.modPart_bufA : (State.modPart s p f).bufA = s.bufA := rfl
@[simp] theorem State.modPart_bufB : (State.modPart s p f).bufB = s.bufB := rfl
@[simp] theorem State.modPart_readB : (State.modPart s p f).readB = s.readB := rfl
@[simp] theorem State.modPart_strs : (State.modPart s p f).strs = s.strs := rfl
@[simp] theorem State.modPart_ptos : (State.modPart s p f).ptos = s.ptos := rfl
@[simp] theorem State.modPart_bals : (State.modPart s p f).bals = s.bals := rfl
@[simp] theorem State.modPart_zones : (State.modPart s p f).zones = s.zones := rfl
@[simp] theorem State.modPart_strLimits : (State.modPart s p f).strLimits = s.strLimits := rfl
@[simp] theorem State.modPart_groups : (State.modPart s p f).groups = s.groups := rfl
@[simp] theorem State.modPart_disp : (State.modPart s p f).disp = s.disp := rfl
@[simp] theorem State.modPart_slices : (State.modPart s p f).slices = s.slices := rfl
@[simp] theorem State.modPart_views : (State.modPart s p f).views = s.views := rfl
@[simp] theorem State.modPart_cmps : (State.modPart s p f).cmps = s.cmps := rfl
@[simp] theorem State.modPart_pair : (State.modPart s p f).pair = s.pair := rfl
@[simp] theorem State.modPart_time : (State.modPart s p f).time = s.time := rfl
@[simp] theorem State.modPart_net : (State.modPart s p f).net = s.net := rfl
@[simp] theorem State.modPart_loops : (State.modPart s p f).loops = s.loops := rfl
@[simp] theorem State.modPart_injs : (State.modPart s p f).injs = s.injs := rfl
@[simp] theorem State.modPart_trace : (State.modPart s p f).trace = s.trace := rfl
@[simp] theorem State.modPart_valves : (State.modPart s p f).valves = s.valves := rfl
@[simp] theorem State.modPart_fbs : (State.modPart s p f).fbs = s.fbs := rfl
@[simp] theorem State.modPart_anas : (State.modPart s p f).anas = s.anas := rfl
@[simp] theorem State.modPart_grpField : (State.modPart s p f).grpField = s.grpField := rfl
@[simp] theorem State.modPart_grpLow : (State.modPart s p f).grpLow = s.grpLow := rfl
@[simp] theorem State.modPart_dis : (State.modPart s p f).dis = s.dis := rfl
@[simp] theorem State.modPart_dos : (State.modPart s p f).dos = s.dos := rfl
@[simp] theorem State.modPart_vsupLow : (State.modPart s p f).vsupLow = s.vsupLow := rfl
@[simp] theorem State.modPart_fdpFault : (State.modPart s p f).fdpFault = s.fdpFault := rfl
@[simp] theorem State.modPart_fdpTime : (State.modPart s p f).fdpTime = s.fdpTime := rfl
@[simp] theorem State.modPart_cans : (State.modPart s p f).cans = s.cans := rfl
@[simp] theorem State.modPart_safe : (State.modPart s p f).safe = s.safe := rfl
@[simp] theorem State.modPart_recorder : (State.modPart s p f).recorder = s.recorder := rfl
@[simp] theorem State.modPart_display : (State.modPart s p f).display = s.display := rfl
end

/-! ### modView -/

section
variable (s : State) (v : Nat) (f : View → View)
@[simp] theorem State.modView_pending : (State.modView s v f).pending = s.pending := rfl
@[simp] theorem State.modView_now : (State.modView s v f).now = s.now := rfl
@[simp] theorem State.modView_out : (State.modView s v f).out = s.out := rfl
@[simp] theorem State.modView_fresh : (State.modView s v f).fresh = s.fresh := rfl
@[simp] theorem State.modView_power : (State.modView s v f).power = s.power := rfl
@[simp] theorem State.modView_ident : (State.modView s v f).ident = s.ident := rfl
@[simp] theorem State.modView_cfg : (State.modView s v f).cfg = s.cfg := rfl
@[simp] theorem State.modView_tenants : (State.modView s v f).tenants = s.tenants := rfl
@[simp] theorem State.modView_pool : (State.modView s v f).pool = s.pool := rfl
@[simp] theorem State.modView_chains : (State.modView s v f).chains = s.chains := rfl
@[simp] theorem State.modView_tiles : (State.modView s v f).tiles = s.tiles := rfl
@[simp] theorem State.modView_ledger : (State.modView s v f).ledger = s.ledger := rfl
@[simp] theorem State.modView_bufA : (State.modView s v f).bufA = s.bufA := rfl
@[simp] theorem State.modView_bufB : (State.modView s v f).bufB = s.bufB := rfl
@[simp] theorem State.modView_readB : (State.modView s v f).readB = s.readB := rfl
@[simp] theorem State.modView_strs : (State.modView s v f).strs = s.strs := rfl
@[simp] theorem State.modView_ptos : (State.modView s v f).ptos = s.ptos := rfl
@[simp] theorem State.modView_bals : (State.modView s v f).bals = s.bals := rfl
@[simp] theorem State.modView_zones : (State.modView s v f).zones = s.zones := rfl
@[simp] theorem State.modView_strLimits : (State.modView s v f).strLimits = s.strLimits := rfl
@[simp] theorem State.modView_groups : (State.modView s v f).groups = s.groups := rfl
@[simp] theorem State.modView_disp : (State.modView s v f).disp = s.disp := rfl
@[simp] theorem State.modView_parts : (State.modView s v f).parts = s.parts := rfl
@[simp] theorem State.modView_slices : (State.modView s v f).slices = s.slices := rfl
@[simp] theorem State.modView_cmps : (State.modView s v f).cmps = s.cmps := rfl
@[simp] theorem State.modView_pair : (State.modView s v f).pair = s.pair := rfl
@[simp] theorem State.modView_time : (State.modView s v f).time = s.time := rfl
@[simp] theorem State.modView_net : (State.modView s v f).net = s.net := rfl
@[simp] theorem State.modView_loops : (State.modView s v f).loops = s.loops := rfl
@[simp] theorem State.modView_injs : (State.modView s v f).injs = s.injs := rfl
@[simp] theorem State.modView_trace : (State.modView s v f).trace = s.trace := rfl
@[simp] theorem State.modView_valves : (State.modView s v f).valves = s.valves := rfl
@[simp] theorem State.modView_fbs : (State.modView s v f).fbs = s.fbs := rfl
@[simp] theorem State.modView_anas : (State.modView s v f).anas = s.anas := rfl
@[simp] theorem State.modView_grpField : (State.modView s v f).grpField = s.grpField := rfl
@[simp] theorem State.modView_grpLow : (State.modView s v f).grpLow = s.grpLow := rfl
@[simp] theorem State.modView_dis : (State.modView s v f).dis = s.dis := rfl
@[simp] theorem State.modView_dos : (State.modView s v f).dos = s.dos := rfl
@[simp] theorem State.modView_vsupLow : (State.modView s v f).vsupLow = s.vsupLow := rfl
@[simp] theorem State.modView_fdpFault : (State.modView s v f).fdpFault = s.fdpFault := rfl
@[simp] theorem State.modView_fdpTime : (State.modView s v f).fdpTime = s.fdpTime := rfl
@[simp] theorem State.modView_cans : (State.modView s v f).cans = s.cans := rfl
@[simp] theorem State.modView_safe : (State.modView s v f).safe = s.safe := rfl
@[simp] theorem State.modView_recorder : (State.modView s v f).recorder = s.recorder := rfl
@[simp] theorem State.modView_display : (State.modView s v f).display = s.display := rfl
end

/-! ### modCmp -/

section
variable (s : State) (p u : Nat) (f : Cmp → Cmp)
@[simp] theorem State.modCmp_pending : (State.modCmp s p u f).pending = s.pending := rfl
@[simp] theorem State.modCmp_now : (State.modCmp s p u f).now = s.now := rfl
@[simp] theorem State.modCmp_out : (State.modCmp s p u f).out = s.out := rfl
@[simp] theorem State.modCmp_fresh : (State.modCmp s p u f).fresh = s.fresh := rfl
@[simp] theorem State.modCmp_power : (State.modCmp s p u f).power = s.power := rfl
@[simp] theorem State.modCmp_ident : (State.modCmp s p u f).ident = s.ident := rfl
@[simp] theorem State.modCmp_cfg : (State.modCmp s p u f).cfg = s.cfg := rfl
@[simp] theorem State.modCmp_tenants : (State.modCmp s p u f).tenants = s.tenants := rfl
@[simp] theorem State.modCmp_pool : (State.modCmp s p u f).pool = s.pool := rfl
@[simp] theorem State.modCmp_chains : (State.modCmp s p u f).chains = s.chains := rfl
@[simp] theorem State.modCmp_tiles : (State.modCmp s p u f).tiles = s.tiles := rfl
@[simp] theorem State.modCmp_ledger : (State.modCmp s p u f).ledger = s.ledger := rfl
@[simp] theorem State.modCmp_bufA : (State.modCmp s p u f).bufA = s.bufA := rfl
@[simp] theorem State.modCmp_bufB : (State.modCmp s p u f).bufB = s.bufB := rfl
@[simp] theorem State.modCmp_readB : (State.modCmp s p u f).readB = s.readB := rfl
@[simp] theorem State.modCmp_strs : (State.modCmp s p u f).strs = s.strs := rfl
@[simp] theorem State.modCmp_ptos : (State.modCmp s p u f).ptos = s.ptos := rfl
@[simp] theorem State.modCmp_bals : (State.modCmp s p u f).bals = s.bals := rfl
@[simp] theorem State.modCmp_zones : (State.modCmp s p u f).zones = s.zones := rfl
@[simp] theorem State.modCmp_strLimits : (State.modCmp s p u f).strLimits = s.strLimits := rfl
@[simp] theorem State.modCmp_groups : (State.modCmp s p u f).groups = s.groups := rfl
@[simp] theorem State.modCmp_disp : (State.modCmp s p u f).disp = s.disp := rfl
@[simp] theorem State.modCmp_parts : (State.modCmp s p u f).parts = s.parts := rfl
@[simp] theorem State.modCmp_slices : (State.modCmp s p u f).slices = s.slices := rfl
@[simp] theorem State.modCmp_views : (State.modCmp s p u f).views = s.views := rfl
@[simp] theorem State.modCmp_pair : (State.modCmp s p u f).pair = s.pair := rfl
@[simp] theorem State.modCmp_time : (State.modCmp s p u f).time = s.time := rfl
@[simp] theorem State.modCmp_net : (State.modCmp s p u f).net = s.net := rfl
@[simp] theorem State.modCmp_loops : (State.modCmp s p u f).loops = s.loops := rfl
@[simp] theorem State.modCmp_injs : (State.modCmp s p u f).injs = s.injs := rfl
@[simp] theorem State.modCmp_trace : (State.modCmp s p u f).trace = s.trace := rfl
@[simp] theorem State.modCmp_valves : (State.modCmp s p u f).valves = s.valves := rfl
@[simp] theorem State.modCmp_fbs : (State.modCmp s p u f).fbs = s.fbs := rfl
@[simp] theorem State.modCmp_anas : (State.modCmp s p u f).anas = s.anas := rfl
@[simp] theorem State.modCmp_grpField : (State.modCmp s p u f).grpField = s.grpField := rfl
@[simp] theorem State.modCmp_grpLow : (State.modCmp s p u f).grpLow = s.grpLow := rfl
@[simp] theorem State.modCmp_dis : (State.modCmp s p u f).dis = s.dis := rfl
@[simp] theorem State.modCmp_dos : (State.modCmp s p u f).dos = s.dos := rfl
@[simp] theorem State.modCmp_vsupLow : (State.modCmp s p u f).vsupLow = s.vsupLow := rfl
@[simp] theorem State.modCmp_fdpFault : (State.modCmp s p u f).fdpFault = s.fdpFault := rfl
@[simp] theorem State.modCmp_fdpTime : (State.modCmp s p u f).fdpTime = s.fdpTime := rfl
@[simp] theorem State.modCmp_cans : (State.modCmp s p u f).cans = s.cans := rfl
@[simp] theorem State.modCmp_safe : (State.modCmp s p u f).safe = s.safe := rfl
@[simp] theorem State.modCmp_recorder : (State.modCmp s p u f).recorder = s.recorder := rfl
@[simp] theorem State.modCmp_display : (State.modCmp s p u f).display = s.display := rfl
end

/-! ### modLoop -/

section
variable (s : State) (i : Nat) (f : Loop → Loop)
@[simp] theorem State.modLoop_pending : (State.modLoop s i f).pending = s.pending := rfl
@[simp] theorem State.modLoop_now : (State.modLoop s i f).now = s.now := rfl
@[simp] theorem State.modLoop_out : (State.modLoop s i f).out = s.out := rfl
@[simp] theorem State.modLoop_fresh : (State.modLoop s i f).fresh = s.fresh := rfl
@[simp] theorem State.modLoop_power : (State.modLoop s i f).power = s.power := rfl
@[simp] theorem State.modLoop_ident : (State.modLoop s i f).ident = s.ident := rfl
@[simp] theorem State.modLoop_cfg : (State.modLoop s i f).cfg = s.cfg := rfl
@[simp] theorem State.modLoop_tenants : (State.modLoop s i f).tenants = s.tenants := rfl
@[simp] theorem State.modLoop_pool : (State.modLoop s i f).pool = s.pool := rfl
@[simp] theorem State.modLoop_chains : (State.modLoop s i f).chains = s.chains := rfl
@[simp] theorem State.modLoop_tiles : (State.modLoop s i f).tiles = s.tiles := rfl
@[simp] theorem State.modLoop_ledger : (State.modLoop s i f).ledger = s.ledger := rfl
@[simp] theorem State.modLoop_bufA : (State.modLoop s i f).bufA = s.bufA := rfl
@[simp] theorem State.modLoop_bufB : (State.modLoop s i f).bufB = s.bufB := rfl
@[simp] theorem State.modLoop_readB : (State.modLoop s i f).readB = s.readB := rfl
@[simp] theorem State.modLoop_strs : (State.modLoop s i f).strs = s.strs := rfl
@[simp] theorem State.modLoop_ptos : (State.modLoop s i f).ptos = s.ptos := rfl
@[simp] theorem State.modLoop_bals : (State.modLoop s i f).bals = s.bals := rfl
@[simp] theorem State.modLoop_zones : (State.modLoop s i f).zones = s.zones := rfl
@[simp] theorem State.modLoop_strLimits : (State.modLoop s i f).strLimits = s.strLimits := rfl
@[simp] theorem State.modLoop_groups : (State.modLoop s i f).groups = s.groups := rfl
@[simp] theorem State.modLoop_disp : (State.modLoop s i f).disp = s.disp := rfl
@[simp] theorem State.modLoop_parts : (State.modLoop s i f).parts = s.parts := rfl
@[simp] theorem State.modLoop_slices : (State.modLoop s i f).slices = s.slices := rfl
@[simp] theorem State.modLoop_views : (State.modLoop s i f).views = s.views := rfl
@[simp] theorem State.modLoop_cmps : (State.modLoop s i f).cmps = s.cmps := rfl
@[simp] theorem State.modLoop_pair : (State.modLoop s i f).pair = s.pair := rfl
@[simp] theorem State.modLoop_time : (State.modLoop s i f).time = s.time := rfl
@[simp] theorem State.modLoop_net : (State.modLoop s i f).net = s.net := rfl
@[simp] theorem State.modLoop_injs : (State.modLoop s i f).injs = s.injs := rfl
@[simp] theorem State.modLoop_trace : (State.modLoop s i f).trace = s.trace := rfl
@[simp] theorem State.modLoop_valves : (State.modLoop s i f).valves = s.valves := rfl
@[simp] theorem State.modLoop_fbs : (State.modLoop s i f).fbs = s.fbs := rfl
@[simp] theorem State.modLoop_anas : (State.modLoop s i f).anas = s.anas := rfl
@[simp] theorem State.modLoop_grpField : (State.modLoop s i f).grpField = s.grpField := rfl
@[simp] theorem State.modLoop_grpLow : (State.modLoop s i f).grpLow = s.grpLow := rfl
@[simp] theorem State.modLoop_dis : (State.modLoop s i f).dis = s.dis := rfl
@[simp] theorem State.modLoop_dos : (State.modLoop s i f).dos = s.dos := rfl
@[simp] theorem State.modLoop_vsupLow : (State.modLoop s i f).vsupLow = s.vsupLow := rfl
@[simp] theorem State.modLoop_fdpFault : (State.modLoop s i f).fdpFault = s.fdpFault := rfl
@[simp] theorem State.modLoop_fdpTime : (State.modLoop s i f).fdpTime = s.fdpTime := rfl
@[simp] theorem State.modLoop_cans : (State.modLoop s i f).cans = s.cans := rfl
@[simp] theorem State.modLoop_safe : (State.modLoop s i f).safe = s.safe := rfl
@[simp] theorem State.modLoop_recorder : (State.modLoop s i f).recorder = s.recorder := rfl
@[simp] theorem State.modLoop_display : (State.modLoop s i f).display = s.display := rfl
end

/-! ### modInj -/

section
variable (s : State) (g : Nat) (f : Inj → Inj)
@[simp] theorem State.modInj_pending : (State.modInj s g f).pending = s.pending := rfl
@[simp] theorem State.modInj_now : (State.modInj s g f).now = s.now := rfl
@[simp] theorem State.modInj_out : (State.modInj s g f).out = s.out := rfl
@[simp] theorem State.modInj_fresh : (State.modInj s g f).fresh = s.fresh := rfl
@[simp] theorem State.modInj_power : (State.modInj s g f).power = s.power := rfl
@[simp] theorem State.modInj_ident : (State.modInj s g f).ident = s.ident := rfl
@[simp] theorem State.modInj_cfg : (State.modInj s g f).cfg = s.cfg := rfl
@[simp] theorem State.modInj_tenants : (State.modInj s g f).tenants = s.tenants := rfl
@[simp] theorem State.modInj_pool : (State.modInj s g f).pool = s.pool := rfl
@[simp] theorem State.modInj_chains : (State.modInj s g f).chains = s.chains := rfl
@[simp] theorem State.modInj_tiles : (State.modInj s g f).tiles = s.tiles := rfl
@[simp] theorem State.modInj_ledger : (State.modInj s g f).ledger = s.ledger := rfl
@[simp] theorem State.modInj_bufA : (State.modInj s g f).bufA = s.bufA := rfl
@[simp] theorem State.modInj_bufB : (State.modInj s g f).bufB = s.bufB := rfl
@[simp] theorem State.modInj_readB : (State.modInj s g f).readB = s.readB := rfl
@[simp] theorem State.modInj_strs : (State.modInj s g f).strs = s.strs := rfl
@[simp] theorem State.modInj_ptos : (State.modInj s g f).ptos = s.ptos := rfl
@[simp] theorem State.modInj_bals : (State.modInj s g f).bals = s.bals := rfl
@[simp] theorem State.modInj_zones : (State.modInj s g f).zones = s.zones := rfl
@[simp] theorem State.modInj_strLimits : (State.modInj s g f).strLimits = s.strLimits := rfl
@[simp] theorem State.modInj_groups : (State.modInj s g f).groups = s.groups := rfl
@[simp] theorem State.modInj_disp : (State.modInj s g f).disp = s.disp := rfl
@[simp] theorem State.modInj_parts : (State.modInj s g f).parts = s.parts := rfl
@[simp] theorem State.modInj_slices : (State.modInj s g f).slices = s.slices := rfl
@[simp] theorem State.modInj_views : (State.modInj s g f).views = s.views := rfl
@[simp] theorem State.modInj_cmps : (State.modInj s g f).cmps = s.cmps := rfl
@[simp] theorem State.modInj_pair : (State.modInj s g f).pair = s.pair := rfl
@[simp] theorem State.modInj_time : (State.modInj s g f).time = s.time := rfl
@[simp] theorem State.modInj_net : (State.modInj s g f).net = s.net := rfl
@[simp] theorem State.modInj_loops : (State.modInj s g f).loops = s.loops := rfl
@[simp] theorem State.modInj_trace : (State.modInj s g f).trace = s.trace := rfl
@[simp] theorem State.modInj_valves : (State.modInj s g f).valves = s.valves := rfl
@[simp] theorem State.modInj_fbs : (State.modInj s g f).fbs = s.fbs := rfl
@[simp] theorem State.modInj_anas : (State.modInj s g f).anas = s.anas := rfl
@[simp] theorem State.modInj_grpField : (State.modInj s g f).grpField = s.grpField := rfl
@[simp] theorem State.modInj_grpLow : (State.modInj s g f).grpLow = s.grpLow := rfl
@[simp] theorem State.modInj_dis : (State.modInj s g f).dis = s.dis := rfl
@[simp] theorem State.modInj_dos : (State.modInj s g f).dos = s.dos := rfl
@[simp] theorem State.modInj_vsupLow : (State.modInj s g f).vsupLow = s.vsupLow := rfl
@[simp] theorem State.modInj_fdpFault : (State.modInj s g f).fdpFault = s.fdpFault := rfl
@[simp] theorem State.modInj_fdpTime : (State.modInj s g f).fdpTime = s.fdpTime := rfl
@[simp] theorem State.modInj_cans : (State.modInj s g f).cans = s.cans := rfl
@[simp] theorem State.modInj_safe : (State.modInj s g f).safe = s.safe := rfl
@[simp] theorem State.modInj_recorder : (State.modInj s g f).recorder = s.recorder := rfl
@[simp] theorem State.modInj_display : (State.modInj s g f).display = s.display := rfl
end

/-! ### modValve -/

section
variable (s : State) (v : Nat) (f : Valve → Valve)
@[simp] theorem State.modValve_pending : (State.modValve s v f).pending = s.pending := rfl
@[simp] theorem State.modValve_now : (State.modValve s v f).now = s.now := rfl
@[simp] theorem State.modValve_out : (State.modValve s v f).out = s.out := rfl
@[simp] theorem State.modValve_fresh : (State.modValve s v f).fresh = s.fresh := rfl
@[simp] theorem State.modValve_power : (State.modValve s v f).power = s.power := rfl
@[simp] theorem State.modValve_ident : (State.modValve s v f).ident = s.ident := rfl
@[simp] theorem State.modValve_cfg : (State.modValve s v f).cfg = s.cfg := rfl
@[simp] theorem State.modValve_tenants : (State.modValve s v f).tenants = s.tenants := rfl
@[simp] theorem State.modValve_pool : (State.modValve s v f).pool = s.pool := rfl
@[simp] theorem State.modValve_chains : (State.modValve s v f).chains = s.chains := rfl
@[simp] theorem State.modValve_tiles : (State.modValve s v f).tiles = s.tiles := rfl
@[simp] theorem State.modValve_ledger : (State.modValve s v f).ledger = s.ledger := rfl
@[simp] theorem State.modValve_bufA : (State.modValve s v f).bufA = s.bufA := rfl
@[simp] theorem State.modValve_bufB : (State.modValve s v f).bufB = s.bufB := rfl
@[simp] theorem State.modValve_readB : (State.modValve s v f).readB = s.readB := rfl
@[simp] theorem State.modValve_strs : (State.modValve s v f).strs = s.strs := rfl
@[simp] theorem State.modValve_ptos : (State.modValve s v f).ptos = s.ptos := rfl
@[simp] theorem State.modValve_bals : (State.modValve s v f).bals = s.bals := rfl
@[simp] theorem State.modValve_zones : (State.modValve s v f).zones = s.zones := rfl
@[simp] theorem State.modValve_strLimits : (State.modValve s v f).strLimits = s.strLimits := rfl
@[simp] theorem State.modValve_groups : (State.modValve s v f).groups = s.groups := rfl
@[simp] theorem State.modValve_disp : (State.modValve s v f).disp = s.disp := rfl
@[simp] theorem State.modValve_parts : (State.modValve s v f).parts = s.parts := rfl
@[simp] theorem State.modValve_slices : (State.modValve s v f).slices = s.slices := rfl
@[simp] theorem State.modValve_views : (State.modValve s v f).views = s.views := rfl
@[simp] theorem State.modValve_cmps : (State.modValve s v f).cmps = s.cmps := rfl
@[simp] theorem State.modValve_pair : (State.modValve s v f).pair = s.pair := rfl
@[simp] theorem State.modValve_time : (State.modValve s v f).time = s.time := rfl
@[simp] theorem State.modValve_net : (State.modValve s v f).net = s.net := rfl
@[simp] theorem State.modValve_loops : (State.modValve s v f).loops = s.loops := rfl
@[simp] theorem State.modValve_injs : (State.modValve s v f).injs = s.injs := rfl
@[simp] theorem State.modValve_trace : (State.modValve s v f).trace = s.trace := rfl
@[simp] theorem State.modValve_fbs : (State.modValve s v f).fbs = s.fbs := rfl
@[simp] theorem State.modValve_anas : (State.modValve s v f).anas = s.anas := rfl
@[simp] theorem State.modValve_grpField : (State.modValve s v f).grpField = s.grpField := rfl
@[simp] theorem State.modValve_grpLow : (State.modValve s v f).grpLow = s.grpLow := rfl
@[simp] theorem State.modValve_dis : (State.modValve s v f).dis = s.dis := rfl
@[simp] theorem State.modValve_dos : (State.modValve s v f).dos = s.dos := rfl
@[simp] theorem State.modValve_vsupLow : (State.modValve s v f).vsupLow = s.vsupLow := rfl
@[simp] theorem State.modValve_fdpFault : (State.modValve s v f).fdpFault = s.fdpFault := rfl
@[simp] theorem State.modValve_fdpTime : (State.modValve s v f).fdpTime = s.fdpTime := rfl
@[simp] theorem State.modValve_cans : (State.modValve s v f).cans = s.cans := rfl
@[simp] theorem State.modValve_safe : (State.modValve s v f).safe = s.safe := rfl
@[simp] theorem State.modValve_recorder : (State.modValve s v f).recorder = s.recorder := rfl
@[simp] theorem State.modValve_display : (State.modValve s v f).display = s.display := rfl
end

/-! ### modFb -/

section
variable (s : State) (p : Nat) (f : Fb → Fb)
@[simp] theorem State.modFb_pending : (State.modFb s p f).pending = s.pending := rfl
@[simp] theorem State.modFb_now : (State.modFb s p f).now = s.now := rfl
@[simp] theorem State.modFb_out : (State.modFb s p f).out = s.out := rfl
@[simp] theorem State.modFb_fresh : (State.modFb s p f).fresh = s.fresh := rfl
@[simp] theorem State.modFb_power : (State.modFb s p f).power = s.power := rfl
@[simp] theorem State.modFb_ident : (State.modFb s p f).ident = s.ident := rfl
@[simp] theorem State.modFb_cfg : (State.modFb s p f).cfg = s.cfg := rfl
@[simp] theorem State.modFb_tenants : (State.modFb s p f).tenants = s.tenants := rfl
@[simp] theorem State.modFb_pool : (State.modFb s p f).pool = s.pool := rfl
@[simp] theorem State.modFb_chains : (State.modFb s p f).chains = s.chains := rfl
@[simp] theorem State.modFb_tiles : (State.modFb s p f).tiles = s.tiles := rfl
@[simp] theorem State.modFb_ledger : (State.modFb s p f).ledger = s.ledger := rfl
@[simp] theorem State.modFb_bufA : (State.modFb s p f).bufA = s.bufA := rfl
@[simp] theorem State.modFb_bufB : (State.modFb s p f).bufB = s.bufB := rfl
@[simp] theorem State.modFb_readB : (State.modFb s p f).readB = s.readB := rfl
@[simp] theorem State.modFb_strs : (State.modFb s p f).strs = s.strs := rfl
@[simp] theorem State.modFb_ptos : (State.modFb s p f).ptos = s.ptos := rfl
@[simp] theorem State.modFb_bals : (State.modFb s p f).bals = s.bals := rfl
@[simp] theorem State.modFb_zones : (State.modFb s p f).zones = s.zones := rfl
@[simp] theorem State.modFb_strLimits : (State.modFb s p f).strLimits = s.strLimits := rfl
@[simp] theorem State.modFb_groups : (State.modFb s p f).groups = s.groups := rfl
@[simp] theorem State.modFb_disp : (State.modFb s p f).disp = s.disp := rfl
@[simp] theorem State.modFb_parts : (State.modFb s p f).parts = s.parts := rfl
@[simp] theorem State.modFb_slices : (State.modFb s p f).slices = s.slices := rfl
@[simp] theorem State.modFb_views : (State.modFb s p f).views = s.views := rfl
@[simp] theorem State.modFb_cmps : (State.modFb s p f).cmps = s.cmps := rfl
@[simp] theorem State.modFb_pair : (State.modFb s p f).pair = s.pair := rfl
@[simp] theorem State.modFb_time : (State.modFb s p f).time = s.time := rfl
@[simp] theorem State.modFb_net : (State.modFb s p f).net = s.net := rfl
@[simp] theorem State.modFb_loops : (State.modFb s p f).loops = s.loops := rfl
@[simp] theorem State.modFb_injs : (State.modFb s p f).injs = s.injs := rfl
@[simp] theorem State.modFb_trace : (State.modFb s p f).trace = s.trace := rfl
@[simp] theorem State.modFb_valves : (State.modFb s p f).valves = s.valves := rfl
@[simp] theorem State.modFb_anas : (State.modFb s p f).anas = s.anas := rfl
@[simp] theorem State.modFb_grpField : (State.modFb s p f).grpField = s.grpField := rfl
@[simp] theorem State.modFb_grpLow : (State.modFb s p f).grpLow = s.grpLow := rfl
@[simp] theorem State.modFb_dis : (State.modFb s p f).dis = s.dis := rfl
@[simp] theorem State.modFb_dos : (State.modFb s p f).dos = s.dos := rfl
@[simp] theorem State.modFb_vsupLow : (State.modFb s p f).vsupLow = s.vsupLow := rfl
@[simp] theorem State.modFb_fdpFault : (State.modFb s p f).fdpFault = s.fdpFault := rfl
@[simp] theorem State.modFb_fdpTime : (State.modFb s p f).fdpTime = s.fdpTime := rfl
@[simp] theorem State.modFb_cans : (State.modFb s p f).cans = s.cans := rfl
@[simp] theorem State.modFb_safe : (State.modFb s p f).safe = s.safe := rfl
@[simp] theorem State.modFb_recorder : (State.modFb s p f).recorder = s.recorder := rfl
@[simp] theorem State.modFb_display : (State.modFb s p f).display = s.display := rfl
end

/-! ### modAna -/

section
variable (s : State) (ch : Nat) (f : Ana → Ana)
@[simp] theorem State.modAna_pending : (State.modAna s ch f).pending = s.pending := rfl
@[simp] theorem State.modAna_now : (State.modAna s ch f).now = s.now := rfl
@[simp] theorem State.modAna_out : (State.modAna s ch f).out = s.out := rfl
@[simp] theorem State.modAna_fresh : (State.modAna s ch f).fresh = s.fresh := rfl
@[simp] theorem State.modAna_power : (State.modAna s ch f).power = s.power := rfl
@[simp] theorem State.modAna_ident : (State.modAna s ch f).ident = s.ident := rfl
@[simp] theorem State.modAna_cfg : (State.modAna s ch f).cfg = s.cfg := rfl
@[simp] theorem State.modAna_tenants : (State.modAna s ch f).tenants = s.tenants := rfl
@[simp] theorem State.modAna_pool : (State.modAna s ch f).pool = s.pool := rfl
@[simp] theorem State.modAna_chains : (State.modAna s ch f).chains = s.chains := rfl
@[simp] theorem State.modAna_tiles : (State.modAna s ch f).tiles = s.tiles := rfl
@[simp] theorem State.modAna_ledger : (State.modAna s ch f).ledger = s.ledger := rfl
@[simp] theorem State.modAna_bufA : (State.modAna s ch f).bufA = s.bufA := rfl
@[simp] theorem State.modAna_bufB : (State.modAna s ch f).bufB = s.bufB := rfl
@[simp] theorem State.modAna_readB : (State.modAna s ch f).readB = s.readB := rfl
@[simp] theorem State.modAna_strs : (State.modAna s ch f).strs = s.strs := rfl
@[simp] theorem State.modAna_ptos : (State.modAna s ch f).ptos = s.ptos := rfl
@[simp] theorem State.modAna_bals : (State.modAna s ch f).bals = s.bals := rfl
@[simp] theorem State.modAna_zones : (State.modAna s ch f).zones = s.zones := rfl
@[simp] theorem State.modAna_strLimits : (State.modAna s ch f).strLimits = s.strLimits := rfl
@[simp] theorem State.modAna_groups : (State.modAna s ch f).groups = s.groups := rfl
@[simp] theorem State.modAna_disp : (State.modAna s ch f).disp = s.disp := rfl
@[simp] theorem State.modAna_parts : (State.modAna s ch f).parts = s.parts := rfl
@[simp] theorem State.modAna_slices : (State.modAna s ch f).slices = s.slices := rfl
@[simp] theorem State.modAna_views : (State.modAna s ch f).views = s.views := rfl
@[simp] theorem State.modAna_cmps : (State.modAna s ch f).cmps = s.cmps := rfl
@[simp] theorem State.modAna_pair : (State.modAna s ch f).pair = s.pair := rfl
@[simp] theorem State.modAna_time : (State.modAna s ch f).time = s.time := rfl
@[simp] theorem State.modAna_net : (State.modAna s ch f).net = s.net := rfl
@[simp] theorem State.modAna_loops : (State.modAna s ch f).loops = s.loops := rfl
@[simp] theorem State.modAna_injs : (State.modAna s ch f).injs = s.injs := rfl
@[simp] theorem State.modAna_trace : (State.modAna s ch f).trace = s.trace := rfl
@[simp] theorem State.modAna_valves : (State.modAna s ch f).valves = s.valves := rfl
@[simp] theorem State.modAna_fbs : (State.modAna s ch f).fbs = s.fbs := rfl
@[simp] theorem State.modAna_grpField : (State.modAna s ch f).grpField = s.grpField := rfl
@[simp] theorem State.modAna_grpLow : (State.modAna s ch f).grpLow = s.grpLow := rfl
@[simp] theorem State.modAna_dis : (State.modAna s ch f).dis = s.dis := rfl
@[simp] theorem State.modAna_dos : (State.modAna s ch f).dos = s.dos := rfl
@[simp] theorem State.modAna_vsupLow : (State.modAna s ch f).vsupLow = s.vsupLow := rfl
@[simp] theorem State.modAna_fdpFault : (State.modAna s ch f).fdpFault = s.fdpFault := rfl
@[simp] theorem State.modAna_fdpTime : (State.modAna s ch f).fdpTime = s.fdpTime := rfl
@[simp] theorem State.modAna_cans : (State.modAna s ch f).cans = s.cans := rfl
@[simp] theorem State.modAna_safe : (State.modAna s ch f).safe = s.safe := rfl
@[simp] theorem State.modAna_recorder : (State.modAna s ch f).recorder = s.recorder := rfl
@[simp] theorem State.modAna_display : (State.modAna s ch f).display = s.display := rfl
end

/-! ### modDi -/

section
variable (s : State) (k : Nat) (f : Di → Di)
@[simp] theorem State.modDi_pending : (State.modDi s k f).pending = s.pending := rfl
@[simp] theorem State.modDi_now : (State.modDi s k f).now = s.now := rfl
@[simp] theorem State.modDi_out : (State.modDi s k f).out = s.out := rfl
@[simp] theorem State.modDi_fresh : (State.modDi s k f).fresh = s.fresh := rfl
@[simp] theorem State.modDi_power : (State.modDi s k f).power = s.power := rfl
@[simp] theorem State.modDi_ident : (State.modDi s k f).ident = s.ident := rfl
@[simp] theorem State.modDi_cfg : (State.modDi s k f).cfg = s.cfg := rfl
@[simp] theorem State.modDi_tenants : (State.modDi s k f).tenants = s.tenants := rfl
@[simp] theorem State.modDi_pool : (State.modDi s k f).pool = s.pool := rfl
@[simp] theorem State.modDi_chains : (State.modDi s k f).chains = s.chains := rfl
@[simp] theorem State.modDi_tiles : (State.modDi s k f).tiles = s.tiles := rfl
@[simp] theorem State.modDi_ledger : (State.modDi s k f).ledger = s.ledger := rfl
@[simp] theorem State.modDi_bufA : (State.modDi s k f).bufA = s.bufA := rfl
@[simp] theorem State.modDi_bufB : (State.modDi s k f).bufB = s.bufB := rfl
@[simp] theorem State.modDi_readB : (State.modDi s k f).readB = s.readB := rfl
@[simp] theorem State.modDi_strs : (State.modDi s k f).strs = s.strs := rfl
@[simp] theorem State.modDi_ptos : (State.modDi s k f).ptos = s.ptos := rfl
@[simp] theorem State.modDi_bals : (State.modDi s k f).bals = s.bals := rfl
@[simp] theorem State.modDi_zones : (State.modDi s k f).zones = s.zones := rfl
@[simp] theorem State.modDi_strLimits : (State.modDi s k f).strLimits = s.strLimits := rfl
@[simp] theorem State.modDi_groups : (State.modDi s k f).groups = s.groups := rfl
@[simp] theorem State.modDi_disp : (State.modDi s k f).disp = s.disp := rfl
@[simp] theorem State.modDi_parts : (State.modDi s k f).parts = s.parts := rfl
@[simp] theorem State.modDi_slices : (State.modDi s k f).slices = s.slices := rfl
@[simp] theorem State.modDi_views : (State.modDi s k f).views = s.views := rfl
@[simp] theorem State.modDi_cmps : (State.modDi s k f).cmps = s.cmps := rfl
@[simp] theorem State.modDi_pair : (State.modDi s k f).pair = s.pair := rfl
@[simp] theorem State.modDi_time : (State.modDi s k f).time = s.time := rfl
@[simp] theorem State.modDi_net : (State.modDi s k f).net = s.net := rfl
@[simp] theorem State.modDi_loops : (State.modDi s k f).loops = s.loops := rfl
@[simp] theorem State.modDi_injs : (State.modDi s k f).injs = s.injs := rfl
@[simp] theorem State.modDi_trace : (State.modDi s k f).trace = s.trace := rfl
@[simp] theorem State.modDi_valves : (State.modDi s k f).valves = s.valves := rfl
@[simp] theorem State.modDi_fbs : (State.modDi s k f).fbs = s.fbs := rfl
@[simp] theorem State.modDi_anas : (State.modDi s k f).anas = s.anas := rfl
@[simp] theorem State.modDi_grpField : (State.modDi s k f).grpField = s.grpField := rfl
@[simp] theorem State.modDi_grpLow : (State.modDi s k f).grpLow = s.grpLow := rfl
@[simp] theorem State.modDi_dos : (State.modDi s k f).dos = s.dos := rfl
@[simp] theorem State.modDi_vsupLow : (State.modDi s k f).vsupLow = s.vsupLow := rfl
@[simp] theorem State.modDi_fdpFault : (State.modDi s k f).fdpFault = s.fdpFault := rfl
@[simp] theorem State.modDi_fdpTime : (State.modDi s k f).fdpTime = s.fdpTime := rfl
@[simp] theorem State.modDi_cans : (State.modDi s k f).cans = s.cans := rfl
@[simp] theorem State.modDi_safe : (State.modDi s k f).safe = s.safe := rfl
@[simp] theorem State.modDi_recorder : (State.modDi s k f).recorder = s.recorder := rfl
@[simp] theorem State.modDi_display : (State.modDi s k f).display = s.display := rfl
end

/-! ### modDo -/

section
variable (s : State) (k : Nat) (f : Do → Do)
@[simp] theorem State.modDo_pending : (State.modDo s k f).pending = s.pending := rfl
@[simp] theorem State.modDo_now : (State.modDo s k f).now = s.now := rfl
@[simp] theorem State.modDo_out : (State.modDo s k f).out = s.out := rfl
@[simp] theorem State.modDo_fresh : (State.modDo s k f).fresh = s.fresh := rfl
@[simp] theorem State.modDo_power : (State.modDo s k f).power = s.power := rfl
@[simp] theorem State.modDo_ident : (State.modDo s k f).ident = s.ident := rfl
@[simp] theorem State.modDo_cfg : (State.modDo s k f).cfg = s.cfg := rfl
@[simp] theorem State.modDo_tenants : (State.modDo s k f).tenants = s.tenants := rfl
@[simp] theorem State.modDo_pool : (State.modDo s k f).pool = s.pool := rfl
@[simp] theorem State.modDo_chains : (State.modDo s k f).chains = s.chains := rfl
@[simp] theorem State.modDo_tiles : (State.modDo s k f).tiles = s.tiles := rfl
@[simp] theorem State.modDo_ledger : (State.modDo s k f).ledger = s.ledger := rfl
@[simp] theorem State.modDo_bufA : (State.modDo s k f).bufA = s.bufA := rfl
@[simp] theorem State.modDo_bufB : (State.modDo s k f).bufB = s.bufB := rfl
@[simp] theorem State.modDo_readB : (State.modDo s k f).readB = s.readB := rfl
@[simp] theorem State.modDo_strs : (State.modDo s k f).strs = s.strs := rfl
@[simp] theorem State.modDo_ptos : (State.modDo s k f).ptos = s.ptos := rfl
@[simp] theorem State.modDo_bals : (State.modDo s k f).bals = s.bals := rfl
@[simp] theorem State.modDo_zones : (State.modDo s k f).zones = s.zones := rfl
@[simp] theorem State.modDo_strLimits : (State.modDo s k f).strLimits = s.strLimits := rfl
@[simp] theorem State.modDo_groups : (State.modDo s k f).groups = s.groups := rfl
@[simp] theorem State.modDo_disp : (State.modDo s k f).disp = s.disp := rfl
@[simp] theorem State.modDo_parts : (State.modDo s k f).parts = s.parts := rfl
@[simp] theorem State.modDo_slices : (State.modDo s k f).slices = s.slices := rfl
@[simp] theorem State.modDo_views : (State.modDo s k f).views = s.views := rfl
@[simp] theorem State.modDo_cmps : (State.modDo s k f).cmps = s.cmps := rfl
@[simp] theorem State.modDo_pair : (State.modDo s k f).pair = s.pair := rfl
@[simp] theorem State.modDo_time : (State.modDo s k f).time = s.time := rfl
@[simp] theorem State.modDo_net : (State.modDo s k f).net = s.net := rfl
@[simp] theorem State.modDo_loops : (State.modDo s k f).loops = s.loops := rfl
@[simp] theorem State.modDo_injs : (State.modDo s k f).injs = s.injs := rfl
@[simp] theorem State.modDo_trace : (State.modDo s k f).trace = s.trace := rfl
@[simp] theorem State.modDo_valves : (State.modDo s k f).valves = s.valves := rfl
@[simp] theorem State.modDo_fbs : (State.modDo s k f).fbs = s.fbs := rfl
@[simp] theorem State.modDo_anas : (State.modDo s k f).anas = s.anas := rfl
@[simp] theorem State.modDo_grpField : (State.modDo s k f).grpField = s.grpField := rfl
@[simp] theorem State.modDo_grpLow : (State.modDo s k f).grpLow = s.grpLow := rfl
@[simp] theorem State.modDo_dis : (State.modDo s k f).dis = s.dis := rfl
@[simp] theorem State.modDo_vsupLow : (State.modDo s k f).vsupLow = s.vsupLow := rfl
@[simp] theorem State.modDo_fdpFault : (State.modDo s k f).fdpFault = s.fdpFault := rfl
@[simp] theorem State.modDo_fdpTime : (State.modDo s k f).fdpTime = s.fdpTime := rfl
@[simp] theorem State.modDo_cans : (State.modDo s k f).cans = s.cans := rfl
@[simp] theorem State.modDo_safe : (State.modDo s k f).safe = s.safe := rfl
@[simp] theorem State.modDo_recorder : (State.modDo s k f).recorder = s.recorder := rfl
@[simp] theorem State.modDo_display : (State.modDo s k f).display = s.display := rfl
end

/-! ### modCan -/

section
variable (s : State) (k : Nat) (f : Can → Can)
@[simp] theorem State.modCan_pending : (State.modCan s k f).pending = s.pending := rfl
@[simp] theorem State.modCan_now : (State.modCan s k f).now = s.now := rfl
@[simp] theorem State.modCan_out : (State.modCan s k f).out = s.out := rfl
@[simp] theorem State.modCan_fresh : (State.modCan s k f).fresh = s.fresh := rfl
@[simp] theorem State.modCan_power : (State.modCan s k f).power = s.power := rfl
@[simp] theorem State.modCan_ident : (State.modCan s k f).ident = s.ident := rfl
@[simp] theorem State.modCan_cfg : (State.modCan s k f).cfg = s.cfg := rfl
@[simp] theorem State.modCan_tenants : (State.modCan s k f).tenants = s.tenants := rfl
@[simp] theorem State.modCan_pool : (State.modCan s k f).pool = s.pool := rfl
@[simp] theorem State.modCan_chains : (State.modCan s k f).chains = s.chains := rfl
@[simp] theorem State.modCan_tiles : (State.modCan s k f).tiles = s.tiles := rfl
@[simp] theorem State.modCan_ledger : (State.modCan s k f).ledger = s.ledger := rfl
@[simp] theorem State.modCan_bufA : (State.modCan s k f).bufA = s.bufA := rfl
@[simp] theorem State.modCan_bufB : (State.modCan s k f).bufB = s.bufB := rfl
@[simp] theorem State.modCan_readB : (State.modCan s k f).readB = s.readB := rfl
@[simp] theorem State.modCan_strs : (State.modCan s k f).strs = s.strs := rfl
@[simp] theorem State.modCan_ptos : (State.modCan s k f).ptos = s.ptos := rfl
@[simp] theorem State.modCan_bals : (State.modCan s k f).bals = s.bals := rfl
@[simp] theorem State.modCan_zones : (State.modCan s k f).zones = s.zones := rfl
@[simp] theorem State.modCan_strLimits : (State.modCan s k f).strLimits = s.strLimits := rfl
@[simp] theorem State.modCan_groups : (State.modCan s k f).groups = s.groups := rfl
@[simp] theorem State.modCan_disp : (State.modCan s k f).disp = s.disp := rfl
@[simp] theorem State.modCan_parts : (State.modCan s k f).parts = s.parts := rfl
@[simp] theorem State.modCan_slices : (State.modCan s k f).slices = s.slices := rfl
@[simp] theorem State.modCan_views : (State.modCan s k f).views = s.views := rfl
@[simp] theorem State.modCan_cmps : (State.modCan s k f).cmps = s.cmps := rfl
@[simp] theorem State.modCan_pair : (State.modCan s k f).pair = s.pair := rfl
@[simp] theorem State.modCan_time : (State.modCan s k f).time = s.time := rfl
@[simp] theorem State.modCan_net : (State.modCan s k f).net = s.net := rfl
@[simp] theorem State.modCan_loops : (State.modCan s k f).loops = s.loops := rfl
@[simp] theorem State.modCan_injs : (State.modCan s k f).injs = s.injs := rfl
@[simp] theorem State.modCan_trace : (State.modCan s k f).trace = s.trace := rfl
@[simp] theorem State.modCan_valves : (State.modCan s k f).valves = s.valves := rfl
@[simp] theorem State.modCan_fbs : (State.modCan s k f).fbs = s.fbs := rfl
@[simp] theorem State.modCan_anas : (State.modCan s k f).anas = s.anas := rfl
@[simp] theorem State.modCan_grpField : (State.modCan s k f).grpField = s.grpField := rfl
@[simp] theorem State.modCan_grpLow : (State.modCan s k f).grpLow = s.grpLow := rfl
@[simp] theorem State.modCan_dis : (State.modCan s k f).dis = s.dis := rfl
@[simp] theorem State.modCan_dos : (State.modCan s k f).dos = s.dos := rfl
@[simp] theorem State.modCan_vsupLow : (State.modCan s k f).vsupLow = s.vsupLow := rfl
@[simp] theorem State.modCan_fdpFault : (State.modCan s k f).fdpFault = s.fdpFault := rfl
@[simp] theorem State.modCan_fdpTime : (State.modCan s k f).fdpTime = s.fdpTime := rfl
@[simp] theorem State.modCan_safe : (State.modCan s k f).safe = s.safe := rfl
@[simp] theorem State.modCan_recorder : (State.modCan s k f).recorder = s.recorder := rfl
@[simp] theorem State.modCan_display : (State.modCan s k f).display = s.display := rfl
end

/-! ### modPair -/

section
variable (s : State) (f : Pair → Pair)
@[simp] theorem State.modPair_pending : (State.modPair s f).pending = s.pending := rfl
@[simp] theorem State.modPair_now : (State.modPair s f).now = s.now := rfl
@[simp] theorem State.modPair_out : (State.modPair s f).out = s.out := rfl
@[simp] theorem State.modPair_fresh : (State.modPair s f).fresh = s.fresh := rfl
@[simp] theorem State.modPair_power : (State.modPair s f).power = s.power := rfl
@[simp] theorem State.modPair_ident : (State.modPair s f).ident = s.ident := rfl
@[simp] theorem State.modPair_cfg : (State.modPair s f).cfg = s.cfg := rfl
@[simp] theorem State.modPair_tenants : (State.modPair s f).tenants = s.tenants := rfl
@[simp] theorem State.modPair_pool : (State.modPair s f).pool = s.pool := rfl
@[simp] theorem State.modPair_chains : (State.modPair s f).chains = s.chains := rfl
@[simp] theorem State.modPair_tiles : (State.modPair s f).tiles = s.tiles := rfl
@[simp] theorem State.modPair_ledger : (State.modPair s f).ledger = s.ledger := rfl
@[simp] theorem State.modPair_bufA : (State.modPair s f).bufA = s.bufA := rfl
@[simp] theorem State.modPair_bufB : (State.modPair s f).bufB = s.bufB := rfl
@[simp] theorem State.modPair_readB : (State.modPair s f).readB = s.readB := rfl
@[simp] theorem State.modPair_strs : (State.modPair s f).strs = s.strs := rfl
@[simp] theorem State.modPair_ptos : (State.modPair s f).ptos = s.ptos := rfl
@[simp] theorem State.modPair_bals : (State.modPair s f).bals = s.bals := rfl
@[simp] theorem State.modPair_zones : (State.modPair s f).zones = s.zones := rfl
@[simp] theorem State.modPair_strLimits : (State.modPair s f).strLimits = s.strLimits := rfl
@[simp] theorem State.modPair_groups : (State.modPair s f).groups = s.groups := rfl
@[simp] theorem State.modPair_disp : (State.modPair s f).disp = s.disp := rfl
@[simp] theorem State.modPair_parts : (State.modPair s f).parts = s.parts := rfl
@[simp] theorem State.modPair_slices : (State.modPair s f).slices = s.slices := rfl
@[simp] theorem State.modPair_views : (State.modPair s f).views = s.views := rfl
@[simp] theorem State.modPair_cmps : (State.modPair s f).cmps = s.cmps := rfl
@[simp] theorem State.modPair_time : (State.modPair s f).time = s.time := rfl
@[simp] theorem State.modPair_net : (State.modPair s f).net = s.net := rfl
@[simp] theorem State.modPair_loops : (State.modPair s f).loops = s.loops := rfl
@[simp] theorem State.modPair_injs : (State.modPair s f).injs = s.injs := rfl
@[simp] theorem State.modPair_trace : (State.modPair s f).trace = s.trace := rfl
@[simp] theorem State.modPair_valves : (State.modPair s f).valves = s.valves := rfl
@[simp] theorem State.modPair_fbs : (State.modPair s f).fbs = s.fbs := rfl
@[simp] theorem State.modPair_anas : (State.modPair s f).anas = s.anas := rfl
@[simp] theorem State.modPair_grpField : (State.modPair s f).grpField = s.grpField := rfl
@[simp] theorem State.modPair_grpLow : (State.modPair s f).grpLow = s.grpLow := rfl
@[simp] theorem State.modPair_dis : (State.modPair s f).dis = s.dis := rfl
@[simp] theorem State.modPair_dos : (State.modPair s f).dos = s.dos := rfl
@[simp] theorem State.modPair_vsupLow : (State.modPair s f).vsupLow = s.vsupLow := rfl
@[simp] theorem State.modPair_fdpFault : (State.modPair s f).fdpFault = s.fdpFault := rfl
@[simp] theorem State.modPair_fdpTime : (State.modPair s f).fdpTime = s.fdpTime := rfl
@[simp] theorem State.modPair_cans : (State.modPair s f).cans = s.cans := rfl
@[simp] theorem State.modPair_safe : (State.modPair s f).safe = s.safe := rfl
@[simp] theorem State.modPair_recorder : (State.modPair s f).recorder = s.recorder := rfl
@[simp] theorem State.modPair_display : (State.modPair s f).display = s.display := rfl
end

/-! ### modSafe -/

section
variable (s : State) (f : SafeEval → SafeEval)
@[simp] theorem State.modSafe_pending : (State.modSafe s f).pending = s.pending := rfl
@[simp] theorem State.modSafe_now : (State.modSafe s f).now = s.now := rfl
@[simp] theorem State.modSafe_out : (State.modSafe s f).out = s.out := rfl
@[simp] theorem State.modSafe_fresh : (State.modSafe s f).fresh = s.fresh := rfl
@[simp] theorem State.modSafe_power : (State.modSafe s f).power = s.power := rfl
@[simp] theorem State.modSafe_ident : (State.modSafe s f).ident = s.ident := rfl
@[simp] theorem State.modSafe_cfg : (State.modSafe s f).cfg = s.cfg := rfl
@[simp] theorem State.modSafe_tenants : (State.modSafe s f).tenants = s.tenants := rfl
@[simp] theorem State.modSafe_pool : (State.modSafe s f).pool = s.pool := rfl
@[simp] theorem State.modSafe_chains : (State.modSafe s f).chains = s.chains := rfl
@[simp] theorem State.modSafe_tiles : (State.modSafe s f).tiles = s.tiles := rfl
@[simp] theorem State.modSafe_ledger : (State.modSafe s f).ledger = s.ledger := rfl
@[simp] theorem State.modSafe_bufA : (State.modSafe s f).bufA = s.bufA := rfl
@[simp] theorem State.modSafe_bufB : (State.modSafe s f).bufB = s.bufB := rfl
@[simp] theorem State.modSafe_readB : (State.modSafe s f).readB = s.readB := rfl
@[simp] theorem State.modSafe_strs : (State.modSafe s f).strs = s.strs := rfl
@[simp] theorem State.modSafe_ptos : (State.modSafe s f).ptos = s.ptos := rfl
@[simp] theorem State.modSafe_bals : (State.modSafe s f).bals = s.bals := rfl
@[simp] theorem State.modSafe_zones : (State.modSafe s f).zones = s.zones := rfl
@[simp] theorem State.modSafe_strLimits : (State.modSafe s f).strLimits = s.strLimits := rfl
@[simp] theorem State.modSafe_groups : (State.modSafe s f).groups = s.groups := rfl
@[simp] theorem State.modSafe_disp : (State.modSafe s f).disp = s.disp := rfl
@[simp] theorem State.modSafe_parts : (State.modSafe s f).parts = s.parts := rfl
@[simp] theorem State.modSafe_slices : (State.modSafe s f).slices = s.slices := rfl
@[simp] theorem State.modSafe_views : (State.modSafe s f).views = s.views := rfl
@[simp] theorem State.modSafe_cmps : (State.modSafe s f).cmps = s.cmps := rfl
@[simp] theorem State.modSafe_pair : (State.modSafe s f).pair = s.pair := rfl
@[simp] theorem State.modSafe_time : (State.modSafe s f).time = s.time := rfl
@[simp] theorem State.modSafe_net : (State.modSafe s f).net = s.net := rfl
@[simp] theorem State.modSafe_loops : (State.modSafe s f).loops = s.loops := rfl
@[simp] theorem State.modSafe_injs : (State.modSafe s f).injs = s.injs := rfl
@[simp] theorem State.modSafe_trace : (State.modSafe s f).trace = s.trace := rfl
@[simp] theorem State.modSafe_valves : (State.modSafe s f).valves = s.valves := rfl
@[simp] theorem State.modSafe_fbs : (State.modSafe s f).fbs = s.fbs := rfl
@[simp] theorem State.modSafe_anas : (State.modSafe s f).anas = s.anas := rfl
@[simp] theorem State.modSafe_grpField : (State.modSafe s f).grpField = s.grpField := rfl
@[simp] theorem State.modSafe_grpLow : (State.modSafe s f).grpLow = s.grpLow := rfl
@[simp] theorem State.modSafe_dis : (State.modSafe s f).dis = s.dis := rfl
@[simp] theorem State.modSafe_dos : (State.modSafe s f).dos = s.dos := rfl
@[simp] theorem State.modSafe_vsupLow : (State.modSafe s f).vsupLow = s.vsupLow := rfl
@[simp] theorem State.modSafe_fdpFault : (State.modSafe s f).fdpFault = s.fdpFault := rfl
@[simp] theorem State.modSafe_fdpTime : (State.modSafe s f).fdpTime = s.fdpTime := rfl
@[simp] theorem State.modSafe_cans : (State.modSafe s f).cans = s.cans := rfl
@[simp] theorem State.modSafe_recorder : (State.modSafe s f).recorder = s.recorder := rfl
@[simp] theorem State.modSafe_display : (State.modSafe s f).display = s.display := rfl
end

/-! ### modPower -/

section
variable (s : State) (f : Power → Power)
@[simp] theorem State.modPower_pending : (State.modPower s f).pending = s.pending := rfl
@[simp] theorem State.modPower_now : (State.modPower s f).now = s.now := rfl
@[simp] theorem State.modPower_out : (State.modPower s f).out = s.out := rfl
@[simp] theorem State.modPower_fresh : (State.modPower s f).fresh = s.fresh := rfl
@[simp] theorem State.modPower_ident : (State.modPower s f).ident = s.ident := rfl
@[simp] theorem State.modPower_cfg : (State.modPower s f).cfg = s.cfg := rfl
@[simp] theorem State.modPower_tenants : (State.modPower s f).tenants = s.tenants := rfl
@[simp] theorem State.modPower_pool : (State.modPower s f).pool = s.pool := rfl
@[simp] theorem State.modPower_chains : (State.modPower s f).chains = s.chains := rfl
@[simp] theorem State.modPower_tiles : (State.modPower s f).tiles = s.tiles := rfl
@[simp] theorem State.modPower_ledger : (State.modPower s f).ledger = s.ledger := rfl
@[simp] theorem State.modPower_bufA : (State.modPower s f).bufA = s.bufA := rfl
@[simp] theorem State.modPower_bufB : (State.modPower s f).bufB = s.bufB := rfl
@[simp] theorem State.modPower_readB : (State.modPower s f).readB = s.readB := rfl
@[simp] theorem State.modPower_strs : (State.modPower s f).strs = s.strs := rfl
@[simp] theorem State.modPower_ptos : (State.modPower s f).ptos = s.ptos := rfl
@[simp] theorem State.modPower_bals : (State.modPower s f).bals = s.bals := rfl
@[simp] theorem State.modPower_zones : (State.modPower s f).zones = s.zones := rfl
@[simp] theorem State.modPower_strLimits : (State.modPower s f).strLimits = s.strLimits := rfl
@[simp] theorem State.modPower_groups : (State.modPower s f).groups = s.groups := rfl
@[simp] theorem State.modPower_disp : (State.modPower s f).disp = s.disp := rfl
@[simp] theorem State.modPower_parts : (State.modPower s f).parts = s.parts := rfl
@[simp] theorem State.modPower_slices : (State.modPower s f).slices = s.slices := rfl
@[simp] theorem State.modPower_views : (State.modPower s f).views = s.views := rfl
@[simp] theorem State.modPower_cmps : (State.modPower s f).cmps = s.cmps := rfl
@[simp] theorem State.modPower_pair : (State.modPower s f).pair = s.pair := rfl
@[simp] theorem State.modPower_time : (State.modPower s f).time = s.time := rfl
@[simp] theorem State.modPower_net : (State.modPower s f).net = s.net := rfl
@[simp] theorem State.modPower_loops : (State.modPower s f).loops = s.loops := rfl
@[simp] theorem State.modPower_injs : (State.modPower s f).injs = s.injs := rfl
@[simp] theorem State.modPower_trace : (State.modPower s f).trace = s.trace := rfl
@[simp] theorem State.modPower_valves : (State.modPower s f).valves = s.valves := rfl
@[simp] theorem State.modPower_fbs : (State.modPower s f).fbs = s.fbs := rfl
@[simp] theorem State.modPower_anas : (State.modPower s f).anas = s.anas := rfl
@[simp] theorem State.modPower_grpField : (State.modPower s f).grpField = s.grpField := rfl
@[simp] theorem State.modPower_grpLow : (State.modPower s f).grpLow = s.grpLow := rfl
@[simp] theorem State.modPower_dis : (State.modPower s f).dis = s.dis := rfl
@[simp] theorem State.modPower_dos : (State.modPower s f).dos = s.dos := rfl
@[simp] theorem State.modPower_vsupLow : (State.modPower s f).vsupLow = s.vsupLow := rfl
@[simp] theorem State.modPower_fdpFault : (State.modPower s f).fdpFault = s.fdpFault := rfl
@[simp] theorem State.modPower_fdpTime : (State.modPower s f).fdpTime = s.fdpTime := rfl
@[simp] theorem State.modPower_cans : (State.modPower s f).cans = s.cans := rfl
@[simp] theorem State.modPower_safe : (State.modPower s f).safe = s.safe := rfl
@[simp] theorem State.modPower_recorder : (State.modPower s f).recorder = s.recorder := rfl
@[simp] theorem State.modPower_display : (State.modPower s f).display = s.display := rfl
end

/-! ### modCfg -/

section
variable (s : State) (f : Cfg → Cfg)
@[simp] theorem State.modCfg_pending : (State.modCfg s f).pending = s.pending := rfl
@[simp] theorem State.modCfg_now : (State.modCfg s f).now = s.now := rfl
@[simp] theorem State.modCfg_out : (State.modCfg s f).out = s.out := rfl
@[simp] theorem State.modCfg_fresh : (State.modCfg s f).fresh = s.fresh := rfl
@[simp] theorem State.modCfg_power : (State.modCfg s f).power = s.power := rfl
@[simp] theorem State.modCfg_ident : (State.modCfg s f).ident = s.ident := rfl
@[simp] theorem State.modCfg_tenants : (State.modCfg s f).tenants = s.tenants := rfl
@[simp] theorem State.modCfg_pool : (State.modCfg s f).pool = s.pool := rfl
@[simp] theorem State.modCfg_chains : (State.modCfg s f).chains = s.chains := rfl
@[simp] theorem State.modCfg_tiles : (State.modCfg s f).tiles = s.tiles := rfl
@[simp] theorem State.modCfg_ledger : (State.modCfg s f).ledger = s.ledger := rfl
@[simp] theorem State.modCfg_bufA : (State.modCfg s f).bufA = s.bufA := rfl
@[simp] theorem State.modCfg_bufB : (State.modCfg s f).bufB = s.bufB := rfl
@[simp] theorem State.modCfg_readB : (State.modCfg s f).readB = s.readB := rfl
@[simp] theorem State.modCfg_strs : (State.modCfg s f).strs = s.strs := rfl
@[simp] theorem State.modCfg_ptos : (State.modCfg s f).ptos = s.ptos := rfl
@[simp] theorem State.modCfg_bals : (State.modCfg s f).bals = s.bals := rfl
@[simp] theorem State.modCfg_zones : (State.modCfg s f).zones = s.zones := rfl
@[simp] theorem State.modCfg_strLimits : (State.modCfg s f).strLimits = s.strLimits := rfl
@[simp] theorem State.modCfg_groups : (State.modCfg s f).groups = s.groups := rfl
@[simp] theorem State.modCfg_disp : (State.modCfg s f).disp = s.disp := rfl
@[simp] theorem State.modCfg_parts : (State.modCfg s f).parts = s.parts := rfl
@[simp] theorem State.modCfg_slices : (State.modCfg s f).slices = s.slices := rfl
@[simp] theorem State.modCfg_views : (State.modCfg s f).views = s.views := rfl
@[simp] theorem State.modCfg_cmps : (State.modCfg s f).cmps = s.cmps := rfl
@[simp] theorem State.modCfg_pair : (State.modCfg s f).pair = s.pair := rfl
@[simp] theorem State.modCfg_time : (State.modCfg s f).time = s.time := rfl
@[simp] theorem State.modCfg_net : (State.modCfg s f).net = s.net := rfl
@[simp] theorem State.modCfg_loops : (State.modCfg s f).loops = s.loops := rfl
@[simp] theorem State.modCfg_injs : (State.modCfg s f).injs = s.injs := rfl
@[simp] theorem State.modCfg_trace : (State.modCfg s f).trace = s.trace := rfl
@[simp] theorem State.modCfg_valves : (State.modCfg s f).valves = s.valves := rfl
@[simp] theorem State.modCfg_fbs : (State.modCfg s f).fbs = s.fbs := rfl
@[simp] theorem State.modCfg_anas : (State.modCfg s f).anas = s.anas := rfl
@[simp] theorem State.modCfg_grpField : (State.modCfg s f).grpField = s.grpField := rfl
@[simp] theorem State.modCfg_grpLow : (State.modCfg s f).grpLow = s.grpLow := rfl
@[simp] theorem State.modCfg_dis : (State.modCfg s f).dis = s.dis := rfl
@[simp] theorem State.modCfg_dos : (State.modCfg s f).dos = s.dos := rfl
@[simp] theorem State.modCfg_vsupLow : (State.modCfg s f).vsupLow = s.vsupLow := rfl
@[simp] theorem State.modCfg_fdpFault : (State.modCfg s f).fdpFault = s.fdpFault := rfl
@[simp] theorem State.modCfg_fdpTime : (State.modCfg s f).fdpTime = s.fdpTime := rfl
@[simp] theorem State.modCfg_cans : (State.modCfg s f).cans = s.cans := rfl
@[simp] theorem State.modCfg_safe : (State.modCfg s f).safe = s.safe := rfl
@[simp] theorem State.modCfg_recorder : (State.modCfg s f).recorder = s.recorder := rfl
@[simp] theorem State.modCfg_display : (State.modCfg s f).display = s.display := rfl
end

/-! ### modTime -/

section
variable (s : State) (f : TimeUnit → TimeUnit)
@[simp] theorem State.modTime_pending : (State.modTime s f).pending = s.pending := rfl
@[simp] theorem State.modTime_now : (State.modTime s f).now = s.now := rfl
@[simp] theorem State.modTime_out : (State.modTime s f).out = s.out := rfl
@[simp] theorem State.modTime_fresh : (State.modTime s f).fresh = s.fresh := rfl
@[simp] theorem State.modTime_power : (State.modTime s f).power = s.power := rfl
@[simp] theorem State.modTime_ident : (State.modTime s f).ident = s.ident := rfl
@[simp] theorem State.modTime_cfg : (State.modTime s f).cfg = s.cfg := rfl
@[simp] theorem State.modTime_tenants : (State.modTime s f).tenants = s.tenants := rfl
@[simp] theorem State.modTime_pool : (State.modTime s f).pool = s.pool := rfl
@[simp] theorem State.modTime_chains : (State.modTime s f).chains = s.chains := rfl
@[simp] theorem State.modTime_tiles : (State.modTime s f).tiles = s.tiles := rfl
@[simp] theorem State.modTime_ledger : (State.modTime s f).ledger = s.ledger := rfl
@[simp] theorem State.modTime_bufA : (State.modTime s f).bufA = s.bufA := rfl
@[simp] theorem State.modTime_bufB : (State.modTime s f).bufB = s.bufB := rfl
@[simp] theorem State.modTime_readB : (State.modTime s f).readB = s.readB := rfl
@[simp] theorem State.modTime_strs : (State.modTime s f).strs = s.strs := rfl
@[simp] theorem State.modTime_ptos : (State.modTime s f).ptos = s.ptos := rfl
@[simp] theorem State.modTime_bals : (State.modTime s f).bals = s.bals := rfl
@[simp] theorem State.modTime_zones : (State.modTime s f).zones = s.zones := rfl
@[simp] theorem State.modTime_strLimits : (State.modTime s f).strLimits = s.strLimits := rfl
@[simp] theorem State.modTime_groups : (State.modTime s f).groups = s.groups := rfl
@[simp] theorem State.modTime_disp : (State.modTime s f).disp = s.disp := rfl
@[simp] theorem State.modTime_parts : (State.modTime s f).parts = s.parts := rfl
@[simp] theorem State.modTime_slices : (State.modTime s f).slices = s.slices := rfl
@[simp] theorem State.modTime_views : (State.modTime s f).views = s.views := rfl
@[simp] theorem State.modTime_cmps : (State.modTime s f).cmps = s.cmps := rfl
@[simp] theorem State.modTime_pair : (State.modTime s f).pair = s.pair := rfl
@[simp] theorem State.modTime_net : (State.modTime s f).net = s.net := rfl
@[simp] theorem State.modTime_loops : (State.modTime s f).loops = s.loops := rfl
@[simp] theorem State.modTime_injs : (State.modTime s f).injs = s.injs := rfl
@[simp] theorem State.modTime_trace : (State.modTime s f).trace = s.trace := rfl
@[simp] theorem State.modTime_valves : (State.modTime s f).valves = s.valves := rfl
@[simp] theorem State.modTime_fbs : (State.modTime s f).fbs = s.fbs := rfl
@[simp] theorem State.modTime_anas : (State.modTime s f).anas = s.anas := rfl
@[simp] theorem State.modTime_grpField : (State.modTime s f).grpField = s.grpField := rfl
@[simp] theorem State.modTime_grpLow : (State.modTime s f).grpLow = s.grpLow := rfl
@[simp] theorem State.modTime_dis : (State.modTime s f).dis = s.dis := rfl
@[simp] theorem State.modTime_dos : (State.modTime s f).dos = s.dos := rfl
@[simp] theorem State.modTime_vsupLow : (State.modTime s f).vsupLow = s.vsupLow := rfl
@[simp] theorem State.modTime_fdpFault : (State.modTime s f).fdpFault = s.fdpFault := rfl
@[simp] theorem State.modTime_fdpTime : (State.modTime s f).fdpTime = s.fdpTime := rfl
@[simp] theorem State.modTime_cans : (State.modTime s f).cans = s.cans := rfl
@[simp] theorem State.modTime_safe : (State.modTime s f).safe = s.safe := rfl
@[simp] theorem State.modTime_recorder : (State.modTime s f).recorder = s.recorder := rfl
@[simp] theorem State.modTime_display : (State.modTime s f).display = s.display := rfl
end

/-! ### modNet -/

section
variable (s : State) (f : Net → Net)
@[simp] theorem State.modNet_pending : (State.modNet s f).pending = s.pending := rfl
@[simp] theorem State.modNet_now : (State.modNet s f).now = s.now := rfl
@[simp] theorem State.modNet_out : (State.modNet s f).out = s.out := rfl
@[simp] theorem State.modNet_fresh : (State.modNet s f).fresh = s.fresh := rfl
@[simp] theorem State.modNet_power : (State.modNet s f).power = s.power := rfl
@[simp] theorem State.modNet_ident : (State.modNet s f).ident = s.ident := rfl
@[simp] theorem State.modNet_cfg : (State.modNet s f).cfg = s.cfg := rfl
@[simp] theorem State.modNet_tenants : (State.modNet s f).tenants = s.tenants := rfl
@[simp] theorem State.modNet_pool : (State.modNet s f).pool = s.pool := rfl
@[simp] theorem State.modNet_chains : (State.modNet s f).chains = s.chains := rfl
@[simp] theorem State.modNet_tiles : (State.modNet s f).tiles = s.tiles := rfl
@[simp] theorem State.modNet_ledger : (State.modNet s f).ledger = s.ledger := rfl
@[simp] theorem State.modNet_bufA : (State.modNet s f).bufA = s.bufA := rfl
@[simp] theorem State.modNet_bufB : (State.modNet s f).bufB = s.bufB := rfl
@[simp] theorem State.modNet_readB : (State.modNet s f).readB = s.readB := rfl
@[simp] theorem State.modNet_strs : (State.modNet s f).strs = s.strs := rfl
@[simp] theorem State.modNet_ptos : (State.modNet s f).ptos = s.ptos := rfl
@[simp] theorem State.modNet_bals : (State.modNet s f).bals = s.bals := rfl
@[simp] theorem State.modNet_zones : (State.modNet s f).zones = s.zones := rfl
@[simp] theorem State.modNet_strLimits : (State.modNet s f).strLimits = s.strLimits := rfl
@[simp] theorem State.modNet_groups : (State.modNet s f).groups = s.groups := rfl
@[simp] theorem State.modNet_disp : (State.modNet s f).disp = s.disp := rfl
@[simp] theorem State.modNet_parts : (State.modNet s f).parts = s.parts := rfl
@[simp] theorem State.modNet_slices : (State.modNet s f).slices = s.slices := rfl
@[simp] theorem State.modNet_views : (State.modNet s f).views = s.views := rfl
@[simp] theorem State.modNet_cmps : (State.modNet s f).cmps = s.cmps := rfl
@[simp] theorem State.modNet_pair : (State.modNet s f).pair = s.pair := rfl
@[simp] theorem State.modNet_time : (State.modNet s f).time = s.time := rfl
@[simp] theorem State.modNet_loops : (State.modNet s f).loops = s.loops := rfl
@[simp] theorem State.modNet_injs : (State.modNet s f).injs = s.injs := rfl
@[simp] theorem State.modNet_trace : (State.modNet s f).trace = s.trace := rfl
@[simp] theorem State.modNet_valves : (State.modNet s f).valves = s.valves := rfl
@[simp] theorem State.modNet_fbs : (State.modNet s f).fbs = s.fbs := rfl
@[simp] theorem State.modNet_anas : (State.modNet s f).anas = s.anas := rfl
@[simp] theorem State.modNet_grpField : (State.modNet s f).grpField = s.grpField := rfl
@[simp] theorem State.modNet_grpLow : (State.modNet s f).grpLow = s.grpLow := rfl
@[simp] theorem State.modNet_dis : (State.modNet s f).dis = s.dis := rfl
@[simp] theorem State.modNet_dos : (State.modNet s f).dos = s.dos := rfl
@[simp] theorem State.modNet_vsupLow : (State.modNet s f).vsupLow = s.vsupLow := rfl
@[simp] theorem State.modNet_fdpFault : (State.modNet s f).fdpFault = s.fdpFault := rfl
@[simp] theorem State.modNet_fdpTime : (State.modNet s f).fdpTime = s.fdpTime := rfl
@[simp] theorem State.modNet_cans : (State.modNet s f).cans = s.cans := rfl
@[simp] theorem State.modNet_safe : (State.modNet s f).safe = s.safe := rfl
@[simp] theorem State.modNet_recorder : (State.modNet s f).recorder = s.recorder := rfl
@[simp] theorem State.modNet_display : (State.modNet s f).display = s.display := rfl
end

/-! ### modDisp -/

section
variable (s : State) (f : Disp → Disp)
@[simp] theorem State.modDisp_pending : (State.modDisp s f).pending = s.pending := rfl
@[simp] theorem State.modDisp_now : (State.modDisp s f).now = s.now := rfl
@[simp] theorem State.modDisp_out : (State.modDisp s f).out = s.out := rfl
@[simp] theorem State.modDisp_fresh : (State.modDisp s f).fresh = s.fresh := rfl
@[simp] theorem State.modDisp_power : (State.modDisp s f).power = s.power := rfl
@[simp] theorem State.modDisp_ident : (State.modDisp s f).ident = s.ident := rfl
@[simp] theorem State.modDisp_cfg : (State.modDisp s f).cfg = s.cfg := rfl
@[simp] theorem State.modDisp_tenants : (State.modDisp s f).tenants = s.tenants := rfl
@[simp] theorem State.modDisp_pool : (State.modDisp s f).pool = s.pool := rfl
@[simp] theorem State.modDisp_chains : (State.modDisp s f).chains = s.chains := rfl
@[simp] theorem State.modDisp_tiles : (State.modDisp s f).tiles = s.tiles := rfl
@[simp] theorem State.modDisp_ledger : (State.modDisp s f).ledger = s.ledger := rfl
@[simp] theorem State.modDisp_bufA : (State.modDisp s f).bufA = s.bufA := rfl
@[simp] theorem State.modDisp_bufB : (State.modDisp s f).bufB = s.bufB := rfl
@[simp] theorem State.modDisp_readB : (State.modDisp s f).readB = s.readB := rfl
@[simp] theorem State.modDisp_strs : (State.modDisp s f).strs = s.strs := rfl
@[simp] theorem State.modDisp_ptos : (State.modDisp s f).ptos = s.ptos := rfl
@[simp] theorem State.modDisp_bals : (State.modDisp s f).bals = s.bals := rfl
@[simp] theorem State.modDisp_zones : (State.modDisp s f).zones = s.zones := rfl
@[simp] theorem State.modDisp_strLimits : (State.modDisp s f).strLimits = s.strLimits := rfl
@[simp] theorem State.modDisp_groups : (State.modDisp s f).groups = s.groups := rfl
@[simp] theorem State.modDisp_parts : (State.modDisp s f).parts = s.parts := rfl
@[simp] theorem State.modDisp_slices : (State.modDisp s f).slices = s.slices := rfl
@[simp] theorem State.modDisp_views : (State.modDisp s f).views = s.views := rfl
@[simp] theorem State.modDisp_cmps : (State.modDisp s f).cmps = s.cmps := rfl
@[simp] theorem State.modDisp_pair : (State.modDisp s f).pair = s.pair := rfl
@[simp] theorem State.modDisp_time : (State.modDisp s f).time = s.time := rfl
@[simp] theorem State.modDisp_net : (State.modDisp s f).net = s.net := rfl
@[simp] theorem State.modDisp_loops : (State.modDisp s f).loops = s.loops := rfl
@[simp] theorem State.modDisp_injs : (State.modDisp s f).injs = s.injs := rfl
@[simp] theorem State.modDisp_trace : (State.modDisp s f).trace = s.trace := rfl
@[simp] theorem State.modDisp_valves : (State.modDisp s f).valves = s.valves := rfl
@[simp] theorem State.modDisp_fbs : (State.modDisp s f).fbs = s.fbs := rfl
@[simp] theorem State.modDisp_anas : (State.modDisp s f).anas = s.anas := rfl
@[simp] theorem State.modDisp_grpField : (State.modDisp s f).grpField = s.grpField := rfl
@[simp] theorem State.modDisp_grpLow : (State.modDisp s f).grpLow = s.grpLow := rfl
@[simp] theorem State.modDisp_dis : (State.modDisp s f).dis = s.dis := rfl
@[simp] theorem State.modDisp_dos : (State.modDisp s f).dos = s.dos := rfl
@[simp] theorem State.modDisp_vsupLow : (State.modDisp s f).vsupLow = s.vsupLow := rfl
@[simp] theorem State.modDisp_fdpFault : (State.modDisp s f).fdpFault = s.fdpFault := rfl
@[simp] theorem State.modDisp_fdpTime : (State.modDisp s f).fdpTime = s.fdpTime := rfl
@[simp] theorem State.modDisp_cans : (State.modDisp s f).cans = s.cans := rfl
@[simp] theorem State.modDisp_safe : (State.modDisp s f).safe = s.safe := rfl
@[simp] theorem State.modDisp_recorder : (State.modDisp s f).recorder = s.recorder := rfl
@[simp] theorem State.modDisp_display : (State.modDisp s f).display = s.display := rfl
end

/-! ### modTrace -/

section
variable (s : State) (f : Trace → Trace)
@[simp] theorem State.modTrace_pending : (State.modTrace s f).pending = s.pending := rfl
@[simp] theorem State.modTrace_now : (State.modTrace s f).now = s.now := rfl
@[simp] theorem State.modTrace_out : (State.modTrace s f).out = s.out := rfl
@[simp] theorem State.modTrace_fresh : (State.modTrace s f).fresh = s.fresh := rfl
@[simp] theorem State.modTrace_power : (State.modTrace s f).power = s.power := rfl
@[simp] theorem State.modTrace_ident : (State.modTrace s f).ident = s.ident := rfl
@[simp] theorem State.modTrace_cfg : (State.modTrace s f).cfg = s.cfg := rfl
@[simp] theorem State.modTrace_tenants : (State.modTrace s f).tenants = s.tenants := rfl
@[simp] theorem State.modTrace_pool : (State.modTrace s f).pool = s.pool := rfl
@[simp] theorem State.modTrace_chains : (State.modTrace s f).chains = s.chains := rfl
@[simp] theorem State.modTrace_tiles : (State.modTrace s f).tiles = s.tiles := rfl
@[simp] theorem State.modTrace_ledger : (State.modTrace s f).ledger = s.ledger := rfl
@[simp] theorem State.modTrace_bufA : (State.modTrace s f).bufA = s.bufA := rfl
@[simp] theorem State.modTrace_bufB : (State.modTrace s f).bufB = s.bufB := rfl
@[simp] theorem State.modTrace_readB : (State.modTrace s f).readB = s.readB := rfl
@[simp] theorem State.modTrace_strs : (State.modTrace s f).strs = s.strs := rfl
@[simp] theorem State.modTrace_ptos : (State.modTrace s f).ptos = s.ptos := rfl
@[simp] theorem State.modTrace_bals : (State.modTrace s f).bals = s.bals := rfl
@[simp] theorem State.modTrace_zones : (State.modTrace s f).zones = s.zones := rfl
@[simp] theorem State.modTrace_strLimits : (State.modTrace s f).strLimits = s.strLimits := rfl
@[simp] theorem State.modTrace_groups : (State.modTrace s f).groups = s.groups := rfl
@[simp] theorem State.modTrace_disp : (State.modTrace s f).disp = s.disp := rfl
@[simp] theorem State.modTrace_parts : (State.modTrace s f).parts = s.parts := rfl
@[simp] theorem State.modTrace_slices : (State.modTrace s f).slices = s.slices := rfl
@[simp] theorem State.modTrace_views : (State.modTrace s f).views = s.views := rfl
@[simp] theorem State.modTrace_cmps : (State.modTrace s f).cmps = s.cmps := rfl
@[simp] theorem State.modTrace_pair : (State.modTrace s f).pair = s.pair := rfl
@[simp] theorem State.modTrace_time : (State.modTrace s f).time = s.time := rfl
@[simp] theorem State.modTrace_net : (State.modTrace s f).net = s.net := rfl
@[simp] theorem State.modTrace_loops : (State.modTrace s f).loops = s.loops := rfl
@[simp] theorem State.modTrace_injs : (State.modTrace s f).injs = s.injs := rfl
@[simp] theorem State.modTrace_valves : (State.modTrace s f).valves = s.valves := rfl
@[simp] theorem State.modTrace_fbs : (State.modTrace s f).fbs = s.fbs := rfl
@[simp] theorem State.modTrace_anas : (State.modTrace s f).anas = s.anas := rfl
@[simp] theorem State.modTrace_grpField : (State.modTrace s f).grpField = s.grpField := rfl
@[simp] theorem State.modTrace_grpLow : (State.modTrace s f).grpLow = s.grpLow := rfl
@[simp] theorem State.modTrace_dis : (State.modTrace s f).dis = s.dis := rfl
@[simp] theorem State.modTrace_dos : (State.modTrace s f).dos = s.dos := rfl
@[simp] theorem State.modTrace_vsupLow : (State.modTrace s f).vsupLow = s.vsupLow := rfl
@[simp] theorem State.modTrace_fdpFault : (State.modTrace s f).fdpFault = s.fdpFault := rfl
@[simp] theorem State.modTrace_fdpTime : (State.modTrace s f).fdpTime = s.fdpTime := rfl
@[simp] theorem State.modTrace_cans : (State.modTrace s f).cans = s.cans := rfl
@[simp] theorem State.modTrace_safe : (State.modTrace s f).safe = s.safe := rfl
@[simp] theorem State.modTrace_recorder : (State.modTrace s f).recorder = s.recorder := rfl
@[simp] theorem State.modTrace_display : (State.modTrace s f).display = s.display := rfl
end

/-! ### emit -/

section
variable (s : State) (o : Out)
@[simp] theorem State.emit_pending : (State.emit s o).pending = s.pending := rfl
@[simp] theorem State.emit_now : (State.emit s o).now = s.now := rfl
@[simp] theorem State.emit_fresh : (State.emit s o).fresh = s.fresh := rfl
@[simp] theorem State.emit_power : (State.emit s o).power = s.power := rfl
@[simp] theorem State.emit_ident : (State.emit s o).ident = s.ident := rfl
@[simp] theorem State.emit_cfg : (State.emit s o).cfg = s.cfg := rfl
@[simp] theorem State.emit_tenants : (State.emit s o).tenants = s.tenants := rfl
@[simp] theorem State.emit_pool : (State.emit s o).pool = s.pool := rfl
@[simp] theorem State.emit_chains : (State.emit s o).chains = s.chains := rfl
@[simp] theorem State.emit_tiles : (State.emit s o).tiles = s.tiles := rfl
@[simp] theorem State.emit_ledger : (State.emit s o).ledger = s.ledger := rfl
@[simp] theorem State.emit_bufA : (State.emit s o).bufA = s.bufA := rfl
@[simp] theorem State.emit_bufB : (State.emit s o).bufB = s.bufB := rfl
@[simp] theorem State.emit_readB : (State.emit s o).readB = s.readB := rfl
@[simp] theorem State.emit_strs : (State.emit s o).strs = s.strs := rfl
@[simp] theorem State.emit_ptos : (State.emit s o).ptos = s.ptos := rfl
@[simp] theorem State.emit_bals : (State.emit s o).bals = s.bals := rfl
@[simp] theorem State.emit_zones : (State.emit s o).zones = s.zones := rfl
@[simp] theorem State.emit_strLimits : (State.emit s o).strLimits = s.strLimits := rfl
@[simp] theorem State.emit_groups : (State.emit s o).groups = s.groups := rfl
@[simp] theorem State.emit_disp : (State.emit s o).disp = s.disp := rfl
@[simp] theorem State.emit_parts : (State.emit s o).parts = s.parts := rfl
@[simp] theorem State.emit_slices : (State.emit s o).slices = s.slices := rfl
@[simp] theorem State.emit_views : (State.emit s o).views = s.views := rfl
@[simp] theorem State.emit_cmps : (State.emit s o).cmps = s.cmps := rfl
@[simp] theorem State.emit_pair : (State.emit s o).pair = s.pair := rfl
@[simp] theorem State.emit_time : (State.emit s o).time = s.time := rfl
@[simp] theorem State.emit_net : (State.emit s o).net = s.net := rfl
@[simp] theorem State.emit_loops : (State.emit s o).loops = s.loops := rfl
@[simp] theorem State.emit_injs : (State.emit s o).injs = s.injs := rfl
@[simp] theorem State.emit_trace : (State.emit s o).trace = s.trace := rfl
@[simp] theorem State.emit_valves : (State.emit s o).valves = s.valves := rfl
@[simp] theorem State.emit_fbs : (State.emit s o).fbs = s.fbs := rfl
@[simp] theorem State.emit_anas : (State.emit s o).anas = s.anas := rfl
@[simp] theorem State.emit_grpField : (State.emit s o).grpField = s.grpField := rfl
@[simp] theorem State.emit_grpLow : (State.emit s o).grpLow = s.grpLow := rfl
@[simp] theorem State.emit_dis : (State.emit s o).dis = s.dis := rfl
@[simp] theorem State.emit_dos : (State.emit s o).dos = s.dos := rfl
@[simp] theorem State.emit_vsupLow : (State.emit s o).vsupLow = s.vsupLow := rfl
@[simp] theorem State.emit_fdpFault : (State.emit s o).fdpFault = s.fdpFault := rfl
@[simp] theorem State.emit_fdpTime : (State.emit s o).fdpTime = s.fdpTime := rfl
@[simp] theorem State.emit_cans : (State.emit s o).cans = s.cans := rfl
@[simp] theorem State.emit_safe : (State.emit s o).safe = s.safe := rfl
@[simp] theorem State.emit_recorder : (State.emit s o).recorder = s.recorder := rfl
@[simp] theorem State.emit_display : (State.emit s o).display = s.display := rfl
end

/-! ### tookFree -/

section
variable (s : State)
@[simp] theorem State.tookFree_pending : (State.tookFree s).pending = s.pending := rfl
@[simp] theorem State.tookFree_now : (State.tookFree s).now = s.now := rfl
@[simp] theorem State.tookFree_out : (State.tookFree s).out = s.out := rfl
@[simp] theorem State.tookFree_power : (State.tookFree s).power = s.power := rfl
@[simp] theorem State.tookFree_ident : (State.tookFree s).ident = s.ident := rfl
@[simp] theorem State.tookFree_cfg : (State.tookFree s).cfg = s.cfg := rfl
@[simp] theorem State.tookFree_tenants : (State.tookFree s).tenants = s.tenants := rfl
@[simp] theorem State.tookFree_pool : (State.tookFree s).pool = s.pool := rfl
@[simp] theorem State.tookFree_chains : (State.tookFree s).chains = s.chains := rfl
@[simp] theorem State.tookFree_tiles : (State.tookFree s).tiles = s.tiles := rfl
@[simp] theorem State.tookFree_ledger : (State.tookFree s).ledger = s.ledger := rfl
@[simp] theorem State.tookFree_bufA : (State.tookFree s).bufA = s.bufA := rfl
@[simp] theorem State.tookFree_bufB : (State.tookFree s).bufB = s.bufB := rfl
@[simp] theorem State.tookFree_readB : (State.tookFree s).readB = s.readB := rfl
@[simp] theorem State.tookFree_strs : (State.tookFree s).strs = s.strs := rfl
@[simp] theorem State.tookFree_ptos : (State.tookFree s).ptos = s.ptos := rfl
@[simp] theorem State.tookFree_bals : (State.tookFree s).bals = s.bals := rfl
@[simp] theorem State.tookFree_zones : (State.tookFree s).zones = s.zones := rfl
@[simp] theorem State.tookFree_strLimits : (State.tookFree s).strLimits = s.strLimits := rfl
@[simp] theorem State.tookFree_groups : (State.tookFree s).groups = s.groups := rfl
@[simp] theorem State.tookFree_disp : (State.tookFree s).disp = s.disp := rfl
@[simp] theorem State.tookFree_parts : (State.tookFree s).parts = s.parts := rfl
@[simp] theorem State.tookFree_slices : (State.tookFree s).slices = s.slices := rfl
@[simp] theorem State.tookFree_views : (State.tookFree s).views = s.views := rfl
@[simp] theorem State.tookFree_cmps : (State.tookFree s).cmps = s.cmps := rfl
@[simp] theorem State.tookFree_pair : (State.tookFree s).pair = s.pair := rfl
@[simp] theorem State.tookFree_time : (State.tookFree s).time = s.time := rfl
@[simp] theorem State.tookFree_net : (State.tookFree s).net = s.net := rfl
@[simp] theorem State.tookFree_loops : (State.tookFree s).loops = s.loops := rfl
@[simp] theorem State.tookFree_injs : (State.tookFree s).injs = s.injs := rfl
@[simp] theorem State.tookFree_trace : (State.tookFree s).trace = s.trace := rfl
@[simp] theorem State.tookFree_valves : (State.tookFree s).valves = s.valves := rfl
@[simp] theorem State.tookFree_fbs : (State.tookFree s).fbs = s.fbs := rfl
@[simp] theorem State.tookFree_anas : (State.tookFree s).anas = s.anas := rfl
@[simp] theorem State.tookFree_grpField : (State.tookFree s).grpField = s.grpField := rfl
@[simp] theorem State.tookFree_grpLow : (State.tookFree s).grpLow = s.grpLow := rfl
@[simp] theorem State.tookFree_dis : (State.tookFree s).dis = s.dis := rfl
@[simp] theorem State.tookFree_dos : (State.tookFree s).dos = s.dos := rfl
@[simp] theorem State.tookFree_vsupLow : (State.tookFree s).vsupLow = s.vsupLow := rfl
@[simp] theorem State.tookFree_fdpFault : (State.tookFree s).fdpFault = s.fdpFault := rfl
@[simp] theorem State.tookFree_fdpTime : (State.tookFree s).fdpTime = s.fdpTime := rfl
@[simp] theorem State.tookFree_cans : (State.tookFree s).cans = s.cans := rfl
@[simp] theorem State.tookFree_safe : (State.tookFree s).safe = s.safe := rfl
@[simp] theorem State.tookFree_recorder : (State.tookFree s).recorder = s.recorder := rfl
@[simp] theorem State.tookFree_display : (State.tookFree s).display = s.display := rfl
end

/-! ### at -/

section
variable (s : State) (time : Nat)
@[simp] theorem State.at_pending : (State.at s time).pending = s.pending := rfl
@[simp] theorem State.at_fresh : (State.at s time).fresh = s.fresh := rfl
@[simp] theorem State.at_power : (State.at s time).power = s.power := rfl
@[simp] theorem State.at_ident : (State.at s time).ident = s.ident := rfl
@[simp] theorem State.at_cfg : (State.at s time).cfg = s.cfg := rfl
@[simp] theorem State.at_tenants : (State.at s time).tenants = s.tenants := rfl
@[simp] theorem State.at_pool : (State.at s time).pool = s.pool := rfl
@[simp] theorem State.at_chains : (State.at s time).chains = s.chains := rfl
@[simp] theorem State.at_tiles : (State.at s time).tiles = s.tiles := rfl
@[simp] theorem State.at_ledger : (State.at s time).ledger = s.ledger := rfl
@[simp] theorem State.at_bufA : (State.at s time).bufA = s.bufA := rfl
@[simp] theorem State.at_bufB : (State.at s time).bufB = s.bufB := rfl
@[simp] theorem State.at_readB : (State.at s time).readB = s.readB := rfl
@[simp] theorem State.at_strs : (State.at s time).strs = s.strs := rfl
@[simp] theorem State.at_ptos : (State.at s time).ptos = s.ptos := rfl
@[simp] theorem State.at_bals : (State.at s time).bals = s.bals := rfl
@[simp] theorem State.at_zones : (State.at s time).zones = s.zones := rfl
@[simp] theorem State.at_strLimits : (State.at s time).strLimits = s.strLimits := rfl
@[simp] theorem State.at_groups : (State.at s time).groups = s.groups := rfl
@[simp] theorem State.at_disp : (State.at s time).disp = s.disp := rfl
@[simp] theorem State.at_parts : (State.at s time).parts = s.parts := rfl
@[simp] theorem State.at_slices : (State.at s time).slices = s.slices := rfl
@[simp] theorem State.at_views : (State.at s time).views = s.views := rfl
@[simp] theorem State.at_cmps : (State.at s time).cmps = s.cmps := rfl
@[simp] theorem State.at_pair : (State.at s time).pair = s.pair := rfl
@[simp] theorem State.at_time : (State.at s time).time = s.time := rfl
@[simp] theorem State.at_net : (State.at s time).net = s.net := rfl
@[simp] theorem State.at_loops : (State.at s time).loops = s.loops := rfl
@[simp] theorem State.at_injs : (State.at s time).injs = s.injs := rfl
@[simp] theorem State.at_trace : (State.at s time).trace = s.trace := rfl
@[simp] theorem State.at_valves : (State.at s time).valves = s.valves := rfl
@[simp] theorem State.at_fbs : (State.at s time).fbs = s.fbs := rfl
@[simp] theorem State.at_anas : (State.at s time).anas = s.anas := rfl
@[simp] theorem State.at_grpField : (State.at s time).grpField = s.grpField := rfl
@[simp] theorem State.at_grpLow : (State.at s time).grpLow = s.grpLow := rfl
@[simp] theorem State.at_dis : (State.at s time).dis = s.dis := rfl
@[simp] theorem State.at_dos : (State.at s time).dos = s.dos := rfl
@[simp] theorem State.at_vsupLow : (State.at s time).vsupLow = s.vsupLow := rfl
@[simp] theorem State.at_fdpFault : (State.at s time).fdpFault = s.fdpFault := rfl
@[simp] theorem State.at_fdpTime : (State.at s time).fdpTime = s.fdpTime := rfl
@[simp] theorem State.at_cans : (State.at s time).cans = s.cans := rfl
@[simp] theorem State.at_safe : (State.at s time).safe = s.safe := rfl
@[simp] theorem State.at_recorder : (State.at s time).recorder = s.recorder := rfl
@[simp] theorem State.at_display : (State.at s time).display = s.display := rfl
end

/-! ### toOffset -/

section
variable (s : State) (off : Nat)
@[simp] theorem State.toOffset_pending : (State.toOffset s off).pending = s.pending := rfl
@[simp] theorem State.toOffset_fresh : (State.toOffset s off).fresh = s.fresh := rfl
@[simp] theorem State.toOffset_power : (State.toOffset s off).power = s.power := rfl
@[simp] theorem State.toOffset_ident : (State.toOffset s off).ident = s.ident := rfl
@[simp] theorem State.toOffset_cfg : (State.toOffset s off).cfg = s.cfg := rfl
@[simp] theorem State.toOffset_tenants : (State.toOffset s off).tenants = s.tenants := rfl
@[simp] theorem State.toOffset_pool : (State.toOffset s off).pool = s.pool := rfl
@[simp] theorem State.toOffset_chains : (State.toOffset s off).chains = s.chains := rfl
@[simp] theorem State.toOffset_tiles : (State.toOffset s off).tiles = s.tiles := rfl
@[simp] theorem State.toOffset_ledger : (State.toOffset s off).ledger = s.ledger := rfl
@[simp] theorem State.toOffset_bufA : (State.toOffset s off).bufA = s.bufA := rfl
@[simp] theorem State.toOffset_bufB : (State.toOffset s off).bufB = s.bufB := rfl
@[simp] theorem State.toOffset_readB : (State.toOffset s off).readB = s.readB := rfl
@[simp] theorem State.toOffset_strs : (State.toOffset s off).strs = s.strs := rfl
@[simp] theorem State.toOffset_ptos : (State.toOffset s off).ptos = s.ptos := rfl
@[simp] theorem State.toOffset_bals : (State.toOffset s off).bals = s.bals := rfl
@[simp] theorem State.toOffset_zones : (State.toOffset s off).zones = s.zones := rfl
@[simp] theorem State.toOffset_strLimits : (State.toOffset s off).strLimits = s.strLimits := rfl
@[simp] theorem State.toOffset_groups : (State.toOffset s off).groups = s.groups := rfl
@[simp] theorem State.toOffset_disp : (State.toOffset s off).disp = s.disp := rfl
@[simp] theorem State.toOffset_parts : (State.toOffset s off).parts = s.parts := rfl
@[simp] theorem State.toOffset_slices : (State.toOffset s off).slices = s.slices := rfl
@[simp] theorem State.toOffset_views : (State.toOffset s off).views = s.views := rfl
@[simp] theorem State.toOffset_cmps : (State.toOffset s off).cmps = s.cmps := rfl
@[simp] theorem State.toOffset_pair : (State.toOffset s off).pair = s.pair := rfl
@[simp] theorem State.toOffset_time : (State.toOffset s off).time = s.time := rfl
@[simp] theorem State.toOffset_net : (State.toOffset s off).net = s.net := rfl
@[simp] theorem State.toOffset_loops : (State.toOffset s off).loops = s.loops := rfl
@[simp] theorem State.toOffset_injs : (State.toOffset s off).injs = s.injs := rfl
@[simp] theorem State.toOffset_trace : (State.toOffset s off).trace = s.trace := rfl
@[simp] theorem State.toOffset_valves : (State.toOffset s off).valves = s.valves := rfl
@[simp] theorem State.toOffset_fbs : (State.toOffset s off).fbs = s.fbs := rfl
@[simp] theorem State.toOffset_anas : (State.toOffset s off).anas = s.anas := rfl
@[simp] theorem State.toOffset_grpField : (State.toOffset s off).grpField = s.grpField := rfl
@[simp] theorem State.toOffset_grpLow : (State.toOffset s off).grpLow = s.grpLow := rfl
@[simp] theorem State.toOffset_dis : (State.toOffset s off).dis = s.dis := rfl
@[simp] theorem State.toOffset_dos : (State.toOffset s off).dos = s.dos := rfl
@[simp] theorem State.toOffset_vsupLow : (State.toOffset s off).vsupLow = s.vsupLow := rfl
@[simp] theorem State.toOffset_fdpFault : (State.toOffset s off).fdpFault = s.fdpFault := rfl
@[simp] theorem State.toOffset_fdpTime : (State.toOffset s off).fdpTime = s.fdpTime := rfl
@[simp] theorem State.toOffset_cans : (State.toOffset s off).cans = s.cans := rfl
@[simp] theorem State.toOffset_safe : (State.toOffset s off).safe = s.safe := rfl
@[simp] theorem State.toOffset_recorder : (State.toOffset s off).recorder = s.recorder := rfl
@[simp] theorem State.toOffset_display : (State.toOffset s off).display = s.display := rfl
end

/-! ### setDom -/

section
variable (s : State) (d : Nat) (st : DomState)
@[simp] theorem State.setDom_pending : (State.setDom s d st).pending = s.pending := rfl
@[simp] theorem State.setDom_now : (State.setDom s d st).now = s.now := rfl
@[simp] theorem State.setDom_out : (State.setDom s d st).out = s.out := rfl
@[simp] theorem State.setDom_fresh : (State.setDom s d st).fresh = s.fresh := rfl
@[simp] theorem State.setDom_ident : (State.setDom s d st).ident = s.ident := rfl
@[simp] theorem State.setDom_cfg : (State.setDom s d st).cfg = s.cfg := rfl
@[simp] theorem State.setDom_tenants : (State.setDom s d st).tenants = s.tenants := rfl
@[simp] theorem State.setDom_pool : (State.setDom s d st).pool = s.pool := rfl
@[simp] theorem State.setDom_chains : (State.setDom s d st).chains = s.chains := rfl
@[simp] theorem State.setDom_tiles : (State.setDom s d st).tiles = s.tiles := rfl
@[simp] theorem State.setDom_ledger : (State.setDom s d st).ledger = s.ledger := rfl
@[simp] theorem State.setDom_bufA : (State.setDom s d st).bufA = s.bufA := rfl
@[simp] theorem State.setDom_bufB : (State.setDom s d st).bufB = s.bufB := rfl
@[simp] theorem State.setDom_readB : (State.setDom s d st).readB = s.readB := rfl
@[simp] theorem State.setDom_strs : (State.setDom s d st).strs = s.strs := rfl
@[simp] theorem State.setDom_ptos : (State.setDom s d st).ptos = s.ptos := rfl
@[simp] theorem State.setDom_bals : (State.setDom s d st).bals = s.bals := rfl
@[simp] theorem State.setDom_zones : (State.setDom s d st).zones = s.zones := rfl
@[simp] theorem State.setDom_strLimits : (State.setDom s d st).strLimits = s.strLimits := rfl
@[simp] theorem State.setDom_groups : (State.setDom s d st).groups = s.groups := rfl
@[simp] theorem State.setDom_disp : (State.setDom s d st).disp = s.disp := rfl
@[simp] theorem State.setDom_parts : (State.setDom s d st).parts = s.parts := rfl
@[simp] theorem State.setDom_slices : (State.setDom s d st).slices = s.slices := rfl
@[simp] theorem State.setDom_views : (State.setDom s d st).views = s.views := rfl
@[simp] theorem State.setDom_cmps : (State.setDom s d st).cmps = s.cmps := rfl
@[simp] theorem State.setDom_pair : (State.setDom s d st).pair = s.pair := rfl
@[simp] theorem State.setDom_time : (State.setDom s d st).time = s.time := rfl
@[simp] theorem State.setDom_net : (State.setDom s d st).net = s.net := rfl
@[simp] theorem State.setDom_loops : (State.setDom s d st).loops = s.loops := rfl
@[simp] theorem State.setDom_injs : (State.setDom s d st).injs = s.injs := rfl
@[simp] theorem State.setDom_trace : (State.setDom s d st).trace = s.trace := rfl
@[simp] theorem State.setDom_valves : (State.setDom s d st).valves = s.valves := rfl
@[simp] theorem State.setDom_fbs : (State.setDom s d st).fbs = s.fbs := rfl
@[simp] theorem State.setDom_anas : (State.setDom s d st).anas = s.anas := rfl
@[simp] theorem State.setDom_grpField : (State.setDom s d st).grpField = s.grpField := rfl
@[simp] theorem State.setDom_grpLow : (State.setDom s d st).grpLow = s.grpLow := rfl
@[simp] theorem State.setDom_dis : (State.setDom s d st).dis = s.dis := rfl
@[simp] theorem State.setDom_dos : (State.setDom s d st).dos = s.dos := rfl
@[simp] theorem State.setDom_vsupLow : (State.setDom s d st).vsupLow = s.vsupLow := rfl
@[simp] theorem State.setDom_fdpFault : (State.setDom s d st).fdpFault = s.fdpFault := rfl
@[simp] theorem State.setDom_fdpTime : (State.setDom s d st).fdpTime = s.fdpTime := rfl
@[simp] theorem State.setDom_cans : (State.setDom s d st).cans = s.cans := rfl
@[simp] theorem State.setDom_safe : (State.setDom s d st).safe = s.safe := rfl
@[simp] theorem State.setDom_recorder : (State.setDom s d st).recorder = s.recorder := rfl
@[simp] theorem State.setDom_display : (State.setDom s d st).display = s.display := rfl
end

/-! ### setTenant -/

section
variable (s : State) (t : Nat) (x : Tenant)
@[simp] theorem State.setTenant_pending : (State.setTenant s t x).pending = s.pending := rfl
@[simp] theorem State.setTenant_now : (State.setTenant s t x).now = s.now := rfl
@[simp] theorem State.setTenant_out : (State.setTenant s t x).out = s.out := rfl
@[simp] theorem State.setTenant_fresh : (State.setTenant s t x).fresh = s.fresh := rfl
@[simp] theorem State.setTenant_power : (State.setTenant s t x).power = s.power := rfl
@[simp] theorem State.setTenant_ident : (State.setTenant s t x).ident = s.ident := rfl
@[simp] theorem State.setTenant_cfg : (State.setTenant s t x).cfg = s.cfg := rfl
@[simp] theorem State.setTenant_chains : (State.setTenant s t x).chains = s.chains := rfl
@[simp] theorem State.setTenant_tiles : (State.setTenant s t x).tiles = s.tiles := rfl
@[simp] theorem State.setTenant_ledger : (State.setTenant s t x).ledger = s.ledger := rfl
@[simp] theorem State.setTenant_bufA : (State.setTenant s t x).bufA = s.bufA := rfl
@[simp] theorem State.setTenant_bufB : (State.setTenant s t x).bufB = s.bufB := rfl
@[simp] theorem State.setTenant_readB : (State.setTenant s t x).readB = s.readB := rfl
@[simp] theorem State.setTenant_strs : (State.setTenant s t x).strs = s.strs := rfl
@[simp] theorem State.setTenant_ptos : (State.setTenant s t x).ptos = s.ptos := rfl
@[simp] theorem State.setTenant_bals : (State.setTenant s t x).bals = s.bals := rfl
@[simp] theorem State.setTenant_zones : (State.setTenant s t x).zones = s.zones := rfl
@[simp] theorem State.setTenant_strLimits : (State.setTenant s t x).strLimits = s.strLimits := rfl
@[simp] theorem State.setTenant_groups : (State.setTenant s t x).groups = s.groups := rfl
@[simp] theorem State.setTenant_disp : (State.setTenant s t x).disp = s.disp := rfl
@[simp] theorem State.setTenant_parts : (State.setTenant s t x).parts = s.parts := rfl
@[simp] theorem State.setTenant_slices : (State.setTenant s t x).slices = s.slices := rfl
@[simp] theorem State.setTenant_views : (State.setTenant s t x).views = s.views := rfl
@[simp] theorem State.setTenant_cmps : (State.setTenant s t x).cmps = s.cmps := rfl
@[simp] theorem State.setTenant_pair : (State.setTenant s t x).pair = s.pair := rfl
@[simp] theorem State.setTenant_time : (State.setTenant s t x).time = s.time := rfl
@[simp] theorem State.setTenant_net : (State.setTenant s t x).net = s.net := rfl
@[simp] theorem State.setTenant_loops : (State.setTenant s t x).loops = s.loops := rfl
@[simp] theorem State.setTenant_injs : (State.setTenant s t x).injs = s.injs := rfl
@[simp] theorem State.setTenant_trace : (State.setTenant s t x).trace = s.trace := rfl
@[simp] theorem State.setTenant_valves : (State.setTenant s t x).valves = s.valves := rfl
@[simp] theorem State.setTenant_fbs : (State.setTenant s t x).fbs = s.fbs := rfl
@[simp] theorem State.setTenant_anas : (State.setTenant s t x).anas = s.anas := rfl
@[simp] theorem State.setTenant_grpField : (State.setTenant s t x).grpField = s.grpField := rfl
@[simp] theorem State.setTenant_grpLow : (State.setTenant s t x).grpLow = s.grpLow := rfl
@[simp] theorem State.setTenant_dis : (State.setTenant s t x).dis = s.dis := rfl
@[simp] theorem State.setTenant_dos : (State.setTenant s t x).dos = s.dos := rfl
@[simp] theorem State.setTenant_vsupLow : (State.setTenant s t x).vsupLow = s.vsupLow := rfl
@[simp] theorem State.setTenant_fdpFault : (State.setTenant s t x).fdpFault = s.fdpFault := rfl
@[simp] theorem State.setTenant_fdpTime : (State.setTenant s t x).fdpTime = s.fdpTime := rfl
@[simp] theorem State.setTenant_cans : (State.setTenant s t x).cans = s.cans := rfl
@[simp] theorem State.setTenant_safe : (State.setTenant s t x).safe = s.safe := rfl
@[simp] theorem State.setTenant_recorder : (State.setTenant s t x).recorder = s.recorder := rfl
@[simp] theorem State.setTenant_display : (State.setTenant s t x).display = s.display := rfl
end

/-! ### modTenant -/

section
variable (s : State) (t : Nat) (f : Tenant → Tenant)
@[simp] theorem State.modTenant_pending : (State.modTenant s t f).pending = s.pending := rfl
@[simp] theorem State.modTenant_now : (State.modTenant s t f).now = s.now := rfl
@[simp] theorem State.modTenant_out : (State.modTenant s t f).out = s.out := rfl
@[simp] theorem State.modTenant_fresh : (State.modTenant s t f).fresh = s.fresh := rfl
@[simp] theorem State.modTenant_power : (State.modTenant s t f).power = s.power := rfl
@[simp] theorem State.modTenant_ident : (State.modTenant s t f).ident = s.ident := rfl
@[simp] theorem State.modTenant_cfg : (State.modTenant s t f).cfg = s.cfg := rfl
@[simp] theorem State.modTenant_chains : (State.modTenant s t f).chains = s.chains := rfl
@[simp] theorem State.modTenant_tiles : (State.modTenant s t f).tiles = s.tiles := rfl
@[simp] theorem State.modTenant_ledger : (State.modTenant s t f).ledger = s.ledger := rfl
@[simp] theorem State.modTenant_bufA : (State.modTenant s t f).bufA = s.bufA := rfl
@[simp] theorem State.modTenant_bufB : (State.modTenant s t f).bufB = s.bufB := rfl
@[simp] theorem State.modTenant_readB : (State.modTenant s t f).readB = s.readB := rfl
@[simp] theorem State.modTenant_strs : (State.modTenant s t f).strs = s.strs := rfl
@[simp] theorem State.modTenant_ptos : (State.modTenant s t f).ptos = s.ptos := rfl
@[simp] theorem State.modTenant_bals : (State.modTenant s t f).bals = s.bals := rfl
@[simp] theorem State.modTenant_zones : (State.modTenant s t f).zones = s.zones := rfl
@[simp] theorem State.modTenant_strLimits : (State.modTenant s t f).strLimits = s.strLimits := rfl
@[simp] theorem State.modTenant_groups : (State.modTenant s t f).groups = s.groups := rfl
@[simp] theorem State.modTenant_disp : (State.modTenant s t f).disp = s.disp := rfl
@[simp] theorem State.modTenant_parts : (State.modTenant s t f).parts = s.parts := rfl
@[simp] theorem State.modTenant_slices : (State.modTenant s t f).slices = s.slices := rfl
@[simp] theorem State.modTenant_views : (State.modTenant s t f).views = s.views := rfl
@[simp] theorem State.modTenant_cmps : (State.modTenant s t f).cmps = s.cmps := rfl
@[simp] theorem State.modTenant_pair : (State.modTenant s t f).pair = s.pair := rfl
@[simp] theorem State.modTenant_time : (State.modTenant s t f).time = s.time := rfl
@[simp] theorem State.modTenant_net : (State.modTenant s t f).net = s.net := rfl
@[simp] theorem State.modTenant_loops : (State.modTenant s t f).loops = s.loops := rfl
@[simp] theorem State.modTenant_injs : (State.modTenant s t f).injs = s.injs := rfl
@[simp] theorem State.modTenant_trace : (State.modTenant s t f).trace = s.trace := rfl
@[simp] theorem State.modTenant_valves : (State.modTenant s t f).valves = s.valves := rfl
@[simp] theorem State.modTenant_fbs : (State.modTenant s t f).fbs = s.fbs := rfl
@[simp] theorem State.modTenant_anas : (State.modTenant s t f).anas = s.anas := rfl
@[simp] theorem State.modTenant_grpField : (State.modTenant s t f).grpField = s.grpField := rfl
@[simp] theorem State.modTenant_grpLow : (State.modTenant s t f).grpLow = s.grpLow := rfl
@[simp] theorem State.modTenant_dis : (State.modTenant s t f).dis = s.dis := rfl
@[simp] theorem State.modTenant_dos : (State.modTenant s t f).dos = s.dos := rfl
@[simp] theorem State.modTenant_vsupLow : (State.modTenant s t f).vsupLow = s.vsupLow := rfl
@[simp] theorem State.modTenant_fdpFault : (State.modTenant s t f).fdpFault = s.fdpFault := rfl
@[simp] theorem State.modTenant_fdpTime : (State.modTenant s t f).fdpTime = s.fdpTime := rfl
@[simp] theorem State.modTenant_cans : (State.modTenant s t f).cans = s.cans := rfl
@[simp] theorem State.modTenant_safe : (State.modTenant s t f).safe = s.safe := rfl
@[simp] theorem State.modTenant_recorder : (State.modTenant s t f).recorder = s.recorder := rfl
@[simp] theorem State.modTenant_display : (State.modTenant s t f).display = s.display := rfl
end

/-! ### poolTake -/

section
variable (s : State) (ch n : Nat)
@[simp] theorem State.poolTake_pending : (State.poolTake s ch n).pending = s.pending := rfl
@[simp] theorem State.poolTake_now : (State.poolTake s ch n).now = s.now := rfl
@[simp] theorem State.poolTake_out : (State.poolTake s ch n).out = s.out := rfl
@[simp] theorem State.poolTake_fresh : (State.poolTake s ch n).fresh = s.fresh := rfl
@[simp] theorem State.poolTake_power : (State.poolTake s ch n).power = s.power := rfl
@[simp] theorem State.poolTake_ident : (State.poolTake s ch n).ident = s.ident := rfl
@[simp] theorem State.poolTake_cfg : (State.poolTake s ch n).cfg = s.cfg := rfl
@[simp] theorem State.poolTake_tenants : (State.poolTake s ch n).tenants = s.tenants := rfl
@[simp] theorem State.poolTake_chains : (State.poolTake s ch n).chains = s.chains := rfl
@[simp] theorem State.poolTake_tiles : (State.poolTake s ch n).tiles = s.tiles := rfl
@[simp] theorem State.poolTake_ledger : (State.poolTake s ch n).ledger = s.ledger := rfl
@[simp] theorem State.poolTake_bufA : (State.poolTake s ch n).bufA = s.bufA := rfl
@[simp] theorem State.poolTake_bufB : (State.poolTake s ch n).bufB = s.bufB := rfl
@[simp] theorem State.poolTake_readB : (State.poolTake s ch n).readB = s.readB := rfl
@[simp] theorem State.poolTake_strs : (State.poolTake s ch n).strs = s.strs := rfl
@[simp] theorem State.poolTake_ptos : (State.poolTake s ch n).ptos = s.ptos := rfl
@[simp] theorem State.poolTake_bals : (State.poolTake s ch n).bals = s.bals := rfl
@[simp] theorem State.poolTake_zones : (State.poolTake s ch n).zones = s.zones := rfl
@[simp] theorem State.poolTake_strLimits : (State.poolTake s ch n).strLimits = s.strLimits := rfl
@[simp] theorem State.poolTake_groups : (State.poolTake s ch n).groups = s.groups := rfl
@[simp] theorem State.poolTake_disp : (State.poolTake s ch n).disp = s.disp := rfl
@[simp] theorem State.poolTake_parts : (State.poolTake s ch n).parts = s.parts := rfl
@[simp] theorem State.poolTake_slices : (State.poolTake s ch n).slices = s.slices := rfl
@[simp] theorem State.poolTake_views : (State.poolTake s ch n).views = s.views := rfl
@[simp] theorem State.poolTake_cmps : (State.poolTake s ch n).cmps = s.cmps := rfl
@[simp] theorem State.poolTake_pair : (State.poolTake s ch n).pair = s.pair := rfl
@[simp] theorem State.poolTake_time : (State.poolTake s ch n).time = s.time := rfl
@[simp] theorem State.poolTake_net : (State.poolTake s ch n).net = s.net := rfl
@[simp] theorem State.poolTake_loops : (State.poolTake s ch n).loops = s.loops := rfl
@[simp] theorem State.poolTake_injs : (State.poolTake s ch n).injs = s.injs := rfl
@[simp] theorem State.poolTake_trace : (State.poolTake s ch n).trace = s.trace := rfl
@[simp] theorem State.poolTake_valves : (State.poolTake s ch n).valves = s.valves := rfl
@[simp] theorem State.poolTake_fbs : (State.poolTake s ch n).fbs = s.fbs := rfl
@[simp] theorem State.poolTake_anas : (State.poolTake s ch n).anas = s.anas := rfl
@[simp] theorem State.poolTake_grpField : (State.poolTake s ch n).grpField = s.grpField := rfl
@[simp] theorem State.poolTake_grpLow : (State.poolTake s ch n).grpLow = s.grpLow := rfl
@[simp] theorem State.poolTake_dis : (State.poolTake s ch n).dis = s.dis := rfl
@[simp] theorem State.poolTake_dos : (State.poolTake s ch n).dos = s.dos := rfl
@[simp] theorem State.poolTake_vsupLow : (State.poolTake s ch n).vsupLow = s.vsupLow := rfl
@[simp] theorem State.poolTake_fdpFault : (State.poolTake s ch n).fdpFault = s.fdpFault := rfl
@[simp] theorem State.poolTake_fdpTime : (State.poolTake s ch n).fdpTime = s.fdpTime := rfl
@[simp] theorem State.poolTake_cans : (State.poolTake s ch n).cans = s.cans := rfl
@[simp] theorem State.poolTake_safe : (State.poolTake s ch n).safe = s.safe := rfl
@[simp] theorem State.poolTake_recorder : (State.poolTake s ch n).recorder = s.recorder := rfl
@[simp] theorem State.poolTake_display : (State.poolTake s ch n).display = s.display := rfl
end

/-! ### poolGive -/

section
variable (s : State) (ch n : Nat)
@[simp] theorem State.poolGive_pending : (State.poolGive s ch n).pending = s.pending := rfl
@[simp] theorem State.poolGive_now : (State.poolGive s ch n).now = s.now := rfl
@[simp] theorem State.poolGive_out : (State.poolGive s ch n).out = s.out := rfl
@[simp] theorem State.poolGive_fresh : (State.poolGive s ch n).fresh = s.fresh := rfl
@[simp] theorem State.poolGive_power : (State.poolGive s ch n).power = s.power := rfl
@[simp] theorem State.poolGive_ident : (State.poolGive s ch n).ident = s.ident := rfl
@[simp] theorem State.poolGive_cfg : (State.poolGive s ch n).cfg = s.cfg := rfl
@[simp] theorem State.poolGive_tenants : (State.poolGive s ch n).tenants = s.tenants := rfl
@[simp] theorem State.poolGive_chains : (State.poolGive s ch n).chains = s.chains := rfl
@[simp] theorem State.poolGive_tiles : (State.poolGive s ch n).tiles = s.tiles := rfl
@[simp] theorem State.poolGive_ledger : (State.poolGive s ch n).ledger = s.ledger := rfl
@[simp] theorem State.poolGive_bufA : (State.poolGive s ch n).bufA = s.bufA := rfl
@[simp] theorem State.poolGive_bufB : (State.poolGive s ch n).bufB = s.bufB := rfl
@[simp] theorem State.poolGive_readB : (State.poolGive s ch n).readB = s.readB := rfl
@[simp] theorem State.poolGive_strs : (State.poolGive s ch n).strs = s.strs := rfl
@[simp] theorem State.poolGive_ptos : (State.poolGive s ch n).ptos = s.ptos := rfl
@[simp] theorem State.poolGive_bals : (State.poolGive s ch n).bals = s.bals := rfl
@[simp] theorem State.poolGive_zones : (State.poolGive s ch n).zones = s.zones := rfl
@[simp] theorem State.poolGive_strLimits : (State.poolGive s ch n).strLimits = s.strLimits := rfl
@[simp] theorem State.poolGive_groups : (State.poolGive s ch n).groups = s.groups := rfl
@[simp] theorem State.poolGive_disp : (State.poolGive s ch n).disp = s.disp := rfl
@[simp] theorem State.poolGive_parts : (State.poolGive s ch n).parts = s.parts := rfl
@[simp] theorem State.poolGive_slices : (State.poolGive s ch n).slices = s.slices := rfl
@[simp] theorem State.poolGive_views : (State.poolGive s ch n).views = s.views := rfl
@[simp] theorem State.poolGive_cmps : (State.poolGive s ch n).cmps = s.cmps := rfl
@[simp] theorem State.poolGive_pair : (State.poolGive s ch n).pair = s.pair := rfl
@[simp] theorem State.poolGive_time : (State.poolGive s ch n).time = s.time := rfl
@[simp] theorem State.poolGive_net : (State.poolGive s ch n).net = s.net := rfl
@[simp] theorem State.poolGive_loops : (State.poolGive s ch n).loops = s.loops := rfl
@[simp] theorem State.poolGive_injs : (State.poolGive s ch n).injs = s.injs := rfl
@[simp] theorem State.poolGive_trace : (State.poolGive s ch n).trace = s.trace := rfl
@[simp] theorem State.poolGive_valves : (State.poolGive s ch n).valves = s.valves := rfl
@[simp] theorem State.poolGive_fbs : (State.poolGive s ch n).fbs = s.fbs := rfl
@[simp] theorem State.poolGive_anas : (State.poolGive s ch n).anas = s.anas := rfl
@[simp] theorem State.poolGive_grpField : (State.poolGive s ch n).grpField = s.grpField := rfl
@[simp] theorem State.poolGive_grpLow : (State.poolGive s ch n).grpLow = s.grpLow := rfl
@[simp] theorem State.poolGive_dis : (State.poolGive s ch n).dis = s.dis := rfl
@[simp] theorem State.poolGive_dos : (State.poolGive s ch n).dos = s.dos := rfl
@[simp] theorem State.poolGive_vsupLow : (State.poolGive s ch n).vsupLow = s.vsupLow := rfl
@[simp] theorem State.poolGive_fdpFault : (State.poolGive s ch n).fdpFault = s.fdpFault := rfl
@[simp] theorem State.poolGive_fdpTime : (State.poolGive s ch n).fdpTime = s.fdpTime := rfl
@[simp] theorem State.poolGive_cans : (State.poolGive s ch n).cans = s.cans := rfl
@[simp] theorem State.poolGive_safe : (State.poolGive s ch n).safe = s.safe := rfl
@[simp] theorem State.poolGive_recorder : (State.poolGive s ch n).recorder = s.recorder := rfl
@[simp] theorem State.poolGive_display : (State.poolGive s ch n).display = s.display := rfl
end

/-! ### poolRefuse -/

section
variable (s : State) (ch : Nat)
@[simp] theorem State.poolRefuse_pending : (State.poolRefuse s ch).pending = s.pending := rfl
@[simp] theorem State.poolRefuse_now : (State.poolRefuse s ch).now = s.now := rfl
@[simp] theorem State.poolRefuse_out : (State.poolRefuse s ch).out = s.out := rfl
@[simp] theorem State.poolRefuse_fresh : (State.poolRefuse s ch).fresh = s.fresh := rfl
@[simp] theorem State.poolRefuse_power : (State.poolRefuse s ch).power = s.power := rfl
@[simp] theorem State.poolRefuse_ident : (State.poolRefuse s ch).ident = s.ident := rfl
@[simp] theorem State.poolRefuse_cfg : (State.poolRefuse s ch).cfg = s.cfg := rfl
@[simp] theorem State.poolRefuse_tenants : (State.poolRefuse s ch).tenants = s.tenants := rfl
@[simp] theorem State.poolRefuse_chains : (State.poolRefuse s ch).chains = s.chains := rfl
@[simp] theorem State.poolRefuse_tiles : (State.poolRefuse s ch).tiles = s.tiles := rfl
@[simp] theorem State.poolRefuse_ledger : (State.poolRefuse s ch).ledger = s.ledger := rfl
@[simp] theorem State.poolRefuse_bufA : (State.poolRefuse s ch).bufA = s.bufA := rfl
@[simp] theorem State.poolRefuse_bufB : (State.poolRefuse s ch).bufB = s.bufB := rfl
@[simp] theorem State.poolRefuse_readB : (State.poolRefuse s ch).readB = s.readB := rfl
@[simp] theorem State.poolRefuse_strs : (State.poolRefuse s ch).strs = s.strs := rfl
@[simp] theorem State.poolRefuse_ptos : (State.poolRefuse s ch).ptos = s.ptos := rfl
@[simp] theorem State.poolRefuse_bals : (State.poolRefuse s ch).bals = s.bals := rfl
@[simp] theorem State.poolRefuse_zones : (State.poolRefuse s ch).zones = s.zones := rfl
@[simp] theorem State.poolRefuse_strLimits : (State.poolRefuse s ch).strLimits = s.strLimits := rfl
@[simp] theorem State.poolRefuse_groups : (State.poolRefuse s ch).groups = s.groups := rfl
@[simp] theorem State.poolRefuse_disp : (State.poolRefuse s ch).disp = s.disp := rfl
@[simp] theorem State.poolRefuse_parts : (State.poolRefuse s ch).parts = s.parts := rfl
@[simp] theorem State.poolRefuse_slices : (State.poolRefuse s ch).slices = s.slices := rfl
@[simp] theorem State.poolRefuse_views : (State.poolRefuse s ch).views = s.views := rfl
@[simp] theorem State.poolRefuse_cmps : (State.poolRefuse s ch).cmps = s.cmps := rfl
@[simp] theorem State.poolRefuse_pair : (State.poolRefuse s ch).pair = s.pair := rfl
@[simp] theorem State.poolRefuse_time : (State.poolRefuse s ch).time = s.time := rfl
@[simp] theorem State.poolRefuse_net : (State.poolRefuse s ch).net = s.net := rfl
@[simp] theorem State.poolRefuse_loops : (State.poolRefuse s ch).loops = s.loops := rfl
@[simp] theorem State.poolRefuse_injs : (State.poolRefuse s ch).injs = s.injs := rfl
@[simp] theorem State.poolRefuse_trace : (State.poolRefuse s ch).trace = s.trace := rfl
@[simp] theorem State.poolRefuse_valves : (State.poolRefuse s ch).valves = s.valves := rfl
@[simp] theorem State.poolRefuse_fbs : (State.poolRefuse s ch).fbs = s.fbs := rfl
@[simp] theorem State.poolRefuse_anas : (State.poolRefuse s ch).anas = s.anas := rfl
@[simp] theorem State.poolRefuse_grpField : (State.poolRefuse s ch).grpField = s.grpField := rfl
@[simp] theorem State.poolRefuse_grpLow : (State.poolRefuse s ch).grpLow = s.grpLow := rfl
@[simp] theorem State.poolRefuse_dis : (State.poolRefuse s ch).dis = s.dis := rfl
@[simp] theorem State.poolRefuse_dos : (State.poolRefuse s ch).dos = s.dos := rfl
@[simp] theorem State.poolRefuse_vsupLow : (State.poolRefuse s ch).vsupLow = s.vsupLow := rfl
@[simp] theorem State.poolRefuse_fdpFault : (State.poolRefuse s ch).fdpFault = s.fdpFault := rfl
@[simp] theorem State.poolRefuse_fdpTime : (State.poolRefuse s ch).fdpTime = s.fdpTime := rfl
@[simp] theorem State.poolRefuse_cans : (State.poolRefuse s ch).cans = s.cans := rfl
@[simp] theorem State.poolRefuse_safe : (State.poolRefuse s ch).safe = s.safe := rfl
@[simp] theorem State.poolRefuse_recorder : (State.poolRefuse s ch).recorder = s.recorder := rfl
@[simp] theorem State.poolRefuse_display : (State.poolRefuse s ch).display = s.display := rfl
end

/-! ### resetView -/

section
variable (s : State) (v : Nat)
@[simp] theorem State.resetView_pending : (State.resetView s v).pending = s.pending := rfl
@[simp] theorem State.resetView_now : (State.resetView s v).now = s.now := rfl
@[simp] theorem State.resetView_out : (State.resetView s v).out = s.out := rfl
@[simp] theorem State.resetView_fresh : (State.resetView s v).fresh = s.fresh := rfl
@[simp] theorem State.resetView_power : (State.resetView s v).power = s.power := rfl
@[simp] theorem State.resetView_ident : (State.resetView s v).ident = s.ident := rfl
@[simp] theorem State.resetView_cfg : (State.resetView s v).cfg = s.cfg := rfl
@[simp] theorem State.resetView_tenants : (State.resetView s v).tenants = s.tenants := rfl
@[simp] theorem State.resetView_pool : (State.resetView s v).pool = s.pool := rfl
@[simp] theorem State.resetView_chains : (State.resetView s v).chains = s.chains := rfl
@[simp] theorem State.resetView_tiles : (State.resetView s v).tiles = s.tiles := rfl
@[simp] theorem State.resetView_ledger : (State.resetView s v).ledger = s.ledger := rfl
@[simp] theorem State.resetView_bufA : (State.resetView s v).bufA = s.bufA := rfl
@[simp] theorem State.resetView_bufB : (State.resetView s v).bufB = s.bufB := rfl
@[simp] theorem State.resetView_readB : (State.resetView s v).readB = s.readB := rfl
@[simp] theorem State.resetView_strs : (State.resetView s v).strs = s.strs := rfl
@[simp] theorem State.resetView_ptos : (State.resetView s v).ptos = s.ptos := rfl
@[simp] theorem State.resetView_bals : (State.resetView s v).bals = s.bals := rfl
@[simp] theorem State.resetView_zones : (State.resetView s v).zones = s.zones := rfl
@[simp] theorem State.resetView_strLimits : (State.resetView s v).strLimits = s.strLimits := rfl
@[simp] theorem State.resetView_groups : (State.resetView s v).groups = s.groups := rfl
@[simp] theorem State.resetView_disp : (State.resetView s v).disp = s.disp := rfl
@[simp] theorem State.resetView_parts : (State.resetView s v).parts = s.parts := rfl
@[simp] theorem State.resetView_slices : (State.resetView s v).slices = s.slices := rfl
@[simp] theorem State.resetView_cmps : (State.resetView s v).cmps = s.cmps := rfl
@[simp] theorem State.resetView_pair : (State.resetView s v).pair = s.pair := rfl
@[simp] theorem State.resetView_time : (State.resetView s v).time = s.time := rfl
@[simp] theorem State.resetView_net : (State.resetView s v).net = s.net := rfl
@[simp] theorem State.resetView_loops : (State.resetView s v).loops = s.loops := rfl
@[simp] theorem State.resetView_injs : (State.resetView s v).injs = s.injs := rfl
@[simp] theorem State.resetView_trace : (State.resetView s v).trace = s.trace := rfl
@[simp] theorem State.resetView_valves : (State.resetView s v).valves = s.valves := rfl
@[simp] theorem State.resetView_fbs : (State.resetView s v).fbs = s.fbs := rfl
@[simp] theorem State.resetView_anas : (State.resetView s v).anas = s.anas := rfl
@[simp] theorem State.resetView_grpField : (State.resetView s v).grpField = s.grpField := rfl
@[simp] theorem State.resetView_grpLow : (State.resetView s v).grpLow = s.grpLow := rfl
@[simp] theorem State.resetView_dis : (State.resetView s v).dis = s.dis := rfl
@[simp] theorem State.resetView_dos : (State.resetView s v).dos = s.dos := rfl
@[simp] theorem State.resetView_vsupLow : (State.resetView s v).vsupLow = s.vsupLow := rfl
@[simp] theorem State.resetView_fdpFault : (State.resetView s v).fdpFault = s.fdpFault := rfl
@[simp] theorem State.resetView_fdpTime : (State.resetView s v).fdpTime = s.fdpTime := rfl
@[simp] theorem State.resetView_cans : (State.resetView s v).cans = s.cans := rfl
@[simp] theorem State.resetView_safe : (State.resetView s v).safe = s.safe := rfl
@[simp] theorem State.resetView_recorder : (State.resetView s v).recorder = s.recorder := rfl
@[simp] theorem State.resetView_display : (State.resetView s v).display = s.display := rfl
end

@[simp] theorem State.modChain_chain_same (s : State) (c : Nat) (f : Chain → Chain) : (s.modChain c f).chain c = f (s.chain c) := by
  simp [State.modChain, State.chain, Map.modify]
theorem State.modChain_chain_other (s : State) (c j : Nat) (f : Chain → Chain) (h : j ≠ c) :
    (s.modChain c f).chain j = s.chain j := by
  simp [State.modChain, State.chain, Map.modify, Map.get_set_other _ _ _ _ h]

@[simp] theorem State.modTile_tile_same (s : State) (c : Nat) (f : Tile → Tile) : (s.modTile c f).tile c = f (s.tile c) := by
  simp [State.modTile, State.tile, Map.modify]
theorem State.modTile_tile_other (s : State) (c j : Nat) (f : Tile → Tile) (h : j ≠ c) :
    (s.modTile c f).tile j = s.tile j := by
  simp [State.modTile, State.tile, Map.modify, Map.get_set_other _ _ _ _ h]

@[simp] theorem State.modStr_str_same (s : State) (c : Nat) (f : Str → Str) : (s.modStr c f).str c = f (s.str c) := by
  simp [State.modStr, State.str, Map.modify]
theorem State.modStr_str_other (s : State) (c j : Nat) (f : Str → Str) (h : j ≠ c) :
    (s.modStr c f).str j = s.str j := by
  simp [State.modStr, State.str, Map.modify, Map.get_set_other _ _ _ _ h]

@[simp] theorem State.modPto_pto_same (s : State) (k : Nat) (f : Pto → Pto) : (s.modPto k f).pto k = f (s.pto k) := by
  simp [State.modPto, State.pto, Map.modify]
theorem State.modPto_pto_other (s : State) (k j : Nat) (f : Pto → Pto) (h : j ≠ k) :
    (s.modPto k f).pto j = s.pto j := by
  simp [State.modPto, State.pto, Map.modify, Map.get_set_other _ _ _ _ h]

@[simp] theorem State.modBal_bal_same (s : State) (c : Nat) (f : Bal → Bal) : (s.modBal c f).bal c = f (s.bal c) := by
  simp [State.modBal, State.bal, Map.modify]
theorem State.modBal_bal_other (s : State) (c j : Nat) (f : Bal → Bal) (h : j ≠ c) :
    (s.modBal c f).bal j = s.bal j := by
  simp [State.modBal, State.bal, Map.modify, Map.get_set_other _ _ _ _ h]

@[simp] theorem State.modZone_zone_same (s : State) (z : Nat) (f : Zone → Zone) : (s.modZone z f).zone z = f (s.zone z) := by
  simp [State.modZone, State.zone, Map.modify]
theorem State.modZone_zone_other (s : State) (z j : Nat) (f : Zone → Zone) (h : j ≠ z) :
    (s.modZone z f).zone j = s.zone j := by
  simp [State.modZone, State.zone, Map.modify, Map.get_set_other _ _ _ _ h]

@[simp] theorem State.modGroup_group_same (s : State) (g : Nat) (f : Group → Group) : (s.modGroup g f).group g = f (s.group g) := by
  simp [State.modGroup, State.group, Map.modify]
theorem State.modGroup_group_other (s : State) (g j : Nat) (f : Group → Group) (h : j ≠ g) :
    (s.modGroup g f).group j = s.group j := by
  simp [State.modGroup, State.group, Map.modify, Map.get_set_other _ _ _ _ h]

@[simp] theorem State.modPart_part_same (s : State) (p : Nat) (f : Part → Part) : (s.modPart p f).part p = f (s.part p) := by
  simp [State.modPart, State.part, Map.modify]
theorem State.modPart_part_other (s : State) (p j : Nat) (f : Part → Part) (h : j ≠ p) :
    (s.modPart p f).part j = s.part j := by
  simp [State.modPart, State.part, Map.modify, Map.get_set_other _ _ _ _ h]

@[simp] theorem State.modView_view_same (s : State) (v : Nat) (f : View → View) : (s.modView v f).view v = f (s.view v) := by
  simp [State.modView, State.view, Map.modify]
theorem State.modView_view_other (s : State) (v j : Nat) (f : View → View) (h : j ≠ v) :
    (s.modView v f).view j = s.view j := by
  simp [State.modView, State.view, Map.modify, Map.get_set_other _ _ _ _ h]

@[simp] theorem State.modLoop_loop_same (s : State) (i : Nat) (f : Loop → Loop) : (s.modLoop i f).loop i = f (s.loop i) := by
  simp [State.modLoop, State.loop, Map.modify]
theorem State.modLoop_loop_other (s : State) (i j : Nat) (f : Loop → Loop) (h : j ≠ i) :
    (s.modLoop i f).loop j = s.loop j := by
  simp [State.modLoop, State.loop, Map.modify, Map.get_set_other _ _ _ _ h]

@[simp] theorem State.modInj_inj_same (s : State) (g : Nat) (f : Inj → Inj) : (s.modInj g f).inj g = f (s.inj g) := by
  simp [State.modInj, State.inj, Map.modify]
theorem State.modInj_inj_other (s : State) (g j : Nat) (f : Inj → Inj) (h : j ≠ g) :
    (s.modInj g f).inj j = s.inj j := by
  simp [State.modInj, State.inj, Map.modify, Map.get_set_other _ _ _ _ h]

@[simp] theorem State.modValve_valve_same (s : State) (v : Nat) (f : Valve → Valve) : (s.modValve v f).valve v = f (s.valve v) := by
  simp [State.modValve, State.valve, Map.modify]
theorem State.modValve_valve_other (s : State) (v j : Nat) (f : Valve → Valve) (h : j ≠ v) :
    (s.modValve v f).valve j = s.valve j := by
  simp [State.modValve, State.valve, Map.modify, Map.get_set_other _ _ _ _ h]

@[simp] theorem State.modFb_fb_same (s : State) (p : Nat) (f : Fb → Fb) : (s.modFb p f).fb p = f (s.fb p) := by
  simp [State.modFb, State.fb, Map.modify]
theorem State.modFb_fb_other (s : State) (p j : Nat) (f : Fb → Fb) (h : j ≠ p) :
    (s.modFb p f).fb j = s.fb j := by
  simp [State.modFb, State.fb, Map.modify, Map.get_set_other _ _ _ _ h]

@[simp] theorem State.modAna_ana_same (s : State) (ch : Nat) (f : Ana → Ana) : (s.modAna ch f).ana ch = f (s.ana ch) := by
  simp [State.modAna, State.ana, Map.modify]
theorem State.modAna_ana_other (s : State) (ch j : Nat) (f : Ana → Ana) (h : j ≠ ch) :
    (s.modAna ch f).ana j = s.ana j := by
  simp [State.modAna, State.ana, Map.modify, Map.get_set_other _ _ _ _ h]

@[simp] theorem State.modDi_di_same (s : State) (k : Nat) (f : Di → Di) : (s.modDi k f).di k = f (s.di k) := by
  simp [State.modDi, State.di, Map.modify]
theorem State.modDi_di_other (s : State) (k j : Nat) (f : Di → Di) (h : j ≠ k) :
    (s.modDi k f).di j = s.di j := by
  simp [State.modDi, State.di, Map.modify, Map.get_set_other _ _ _ _ h]

@[simp] theorem State.modDo_dout_same (s : State) (k : Nat) (f : Do → Do) : (s.modDo k f).dout k = f (s.dout k) := by
  simp [State.modDo, State.dout, Map.modify]
theorem State.modDo_dout_other (s : State) (k j : Nat) (f : Do → Do) (h : j ≠ k) :
    (s.modDo k f).dout j = s.dout j := by
  simp [State.modDo, State.dout, Map.modify, Map.get_set_other _ _ _ _ h]

@[simp] theorem State.modCan_can_same (s : State) (k : Nat) (f : Can → Can) : (s.modCan k f).can k = f (s.can k) := by
  simp [State.modCan, State.can, Map.modify]
theorem State.modCan_can_other (s : State) (k j : Nat) (f : Can → Can) (h : j ≠ k) :
    (s.modCan k f).can j = s.can j := by
  simp [State.modCan, State.can, Map.modify, Map.get_set_other _ _ _ _ h]

@[simp] theorem State.setTenant_same (s : State) (t : Nat) (x : Tenant) : (s.setTenant t x).tenant t = x := by
  simp [State.setTenant, State.tenant]

theorem State.setTenant_other (s : State) (t u : Nat) (x : Tenant) (h : u ≠ t) :
    (s.setTenant t x).tenant u = s.tenant u := by
  simp [State.setTenant, State.tenant, Map.get_set_other _ _ _ _ h]

@[simp] theorem State.modTenant_same (s : State) (t : Nat) (f : Tenant → Tenant) :
    (s.modTenant t f).tenant t = f (s.tenant t) := by
  simp [State.modTenant]

theorem State.modTenant_other (s : State) (t u : Nat) (f : Tenant → Tenant) (h : u ≠ t) :
    (s.modTenant t f).tenant u = s.tenant u := State.setTenant_other s t u _ h

end Sys2Proof.Machine
end

