-- ==== Sys2Proof/Laws/Frames.lean ====
section
/-! SUPPORT. What each shared operation can change, said once: its result is the state with only the named
groups replaced. -/

namespace Sys2Proof.Machine

/-! ## Iteration -/

/-- What holds of a state and is kept by every turn holds at the end of a forEach. -/
theorem forEach_keeps {α : Type} (P : State → Prop) (l : List α) (s : State) (f : State → α → State)
    (h0 : P s) (h : ∀ t x, x ∈ l → P t → P (f t x)) : P (forEach l s f) := by
  induction l generalizing s with
  | nil => exact h0
  | cons x r ih =>
    exact ih (f s x) (h s x (List.mem_cons_self ..) h0) (fun t y hy => h t y (List.mem_cons_of_mem _ hy))

theorem doIf_keeps (P : State → Prop) (b : Bool) (s : State) (f : State → State) (h0 : P s) (h : P s → P (f s)) :
    P (doIf b s f) := by
  cases b
  · exact h0
  · exact h h0

@[simp] theorem forEach_nil {α : Type} (s : State) (f : State → α → State) : forEach [] s f = s := rfl

@[simp] theorem forEach_cons {α : Type} (x : α) (l : List α) (s : State) (f : State → α → State) :
    forEach (x :: l) s f = forEach l (f s x) f := rfl

@[simp] theorem doIf_true (s : State) (f : State → State) : doIf true s f = f s := rfl

@[simp] theorem doIf_false (s : State) (f : State → State) : doIf false s f = s := rfl

/-- Something that a turn brings about, and that the later turns keep, holds at the end. -/
theorem forEach_brings {α : Type} (Q P : State → Prop) (l : List α) (s : State) (f : State → α → State) (x : α)
    (hx : x ∈ l) (h0 : Q s) (hq : ∀ t y, Q t → Q (f t y)) (hp : ∀ t, Q t → P (f t x))
    (hk : ∀ t y, Q t → P t → P (f t y)) : P (forEach l s f) := by
  induction l generalizing s with
  | nil => cases hx
  | cons y r ih =>
    rcases List.mem_cons.mp hx with rfl | hx
    · have key : ∀ (r : List α) (t : State), Q t → P t → P (forEach r t f) := by
        intro r
        induction r with
        | nil => intro t _ hP; exact hP
        | cons z r ih2 => intro t hQ hP; exact ih2 (f t z) (hq t z hQ) (hk t z hQ hP)
      exact key r (f s x) (hq s x h0) (hp s h0)
    · exact ih (f s y) hx (hq s y h0)

/-- The same for a list without repeats, where only the turns of other elements keep what comes before and after. -/
theorem forEach_at {α : Type} (Q P : State → Prop) (l : List α) (hl : l.Nodup) (s : State) (f : State → α → State) (x : α)
    (hx : x ∈ l) (h0 : Q s) (hq : ∀ t y, y ≠ x → Q t → Q (f t y)) (hp : ∀ t, Q t → P (f t x))
    (hk : ∀ t y, y ≠ x → P t → P (f t y)) : P (forEach l s f) := by
  induction l generalizing s with
  | nil => cases hx
  | cons y r ih =>
    have hn := List.nodup_cons.mp hl
    by_cases hxy : x = y
    · subst hxy
      exact forEach_keeps P r (f s x) f (hp s h0) (fun t z hz ht => hk t z (fun e => hn.1 (e ▸ hz)) ht)
    · exact ih hn.2 (f s y) ((List.mem_cons.mp hx).resolve_left hxy) (hq s y (fun e => hxy e.symm) h0)

/-- The state with more that has left the module. -/
def Emits (s t : State) : Prop := ∃ o, t = { s with out := s.out ++ o }

theorem Emits.refl (s : State) : Emits s s := ⟨[], by simp⟩

theorem Emits.trans {s t u : State} (h : Emits s t) (k : Emits t u) : Emits s u := by
  obtain ⟨o, rfl⟩ := h
  obtain ⟨p, rfl⟩ := k
  exact ⟨o ++ p, by simp⟩

theorem State.emit_emits (s : State) (o : Out) : Emits s (s.emit o) := ⟨[o], rfl⟩

theorem Emits.mem {s t : State} (h : Emits s t) {o : Out} (ho : o ∈ s.out) : o ∈ t.out := by
  obtain ⟨p, rfl⟩ := h
  exact List.mem_append_left _ ho

theorem State.mem_emit (s : State) (o : Out) : o ∈ (s.emit o).out := by simp [State.emit]

theorem forEach_emits {α : Type} (l : List α) (s : State) (f : State → α → State) (h : ∀ t x, Emits t (f t x)) :
    Emits s (forEach l s f) :=
  forEach_keeps (Emits s) l s f (Emits.refl s) (fun t x _ ht => ht.trans (h t x))

theorem doIf_emits (b : Bool) (s : State) (f : State → State) (h : Emits s (f s)) : Emits s (doIf b s f) :=
  doIf_keeps (Emits s) b s f (Emits.refl s) (fun _ => h)

/-- An element whose turn emits something under conditions that do not depend on what has left. -/
theorem forEach_mem {α : Type} (l : List α) (s : State) (f : State → α → State) (x : α) (o : Out) (hx : x ∈ l)
    (h : ∀ t y, Emits t (f t y)) (hp : ∀ t, Emits s t → o ∈ (f t x).out) : o ∈ (forEach l s f).out :=
  forEach_brings (Emits s) (fun t => o ∈ t.out) l s f x hx (Emits.refl s) (fun t y ht => ht.trans (h t y)) hp
    (fun t y _ ho => (h t y).mem ho)

/-! ## The event recorder -/

/-- The states that differ in what records change: the recorder, the refusals of the pool, and the events that the
Skink holds in HIBERNATE (R172, R414, R431). -/
def Recs (s t : State) : Prop :=
  ∃ rc ev n pl, t = { s with recorder := rc, power := { s.power with heldEvents := ev, heldLost := n }, pool := pl }

theorem Recs.refl (s : State) : Recs s s := ⟨s.recorder, s.power.heldEvents, s.power.heldLost, s.pool, rfl⟩

theorem Recs.trans {s t u : State} (h : Recs s t) (k : Recs t u) : Recs s u := by
  obtain ⟨_, _, _, _, rfl⟩ := h
  obtain ⟨_, _, _, _, rfl⟩ := k
  exact ⟨_, _, _, _, rfl⟩

theorem State.addRec_recs (s : State) (r : Rec) : Recs s (s.addRec r) := by
  unfold State.addRec
  split
  · split
    · exact ⟨s.recorder, _, s.power.heldLost, s.pool, rfl⟩
    · exact ⟨s.recorder, s.power.heldEvents, _, s.pool, rfl⟩
  · repeat' split
    all_goals exact ⟨_, s.power.heldEvents, s.power.heldLost, _, rfl⟩

theorem State.record_recs (s : State) (source type inst : Nat) (body : List Word) :
    Recs s (s.record source type inst body) :=
  State.addRec_recs s _

/-! ## The Event Fabric -/

/-- The states that differ in views, partitions, what leaves the module, and the domains that events wake. -/
def Events (s t : State) : Prop :=
  ∃ vw pt o d, t = { s with views := vw, parts := pt, out := o, power := { s.power with doms := d } }

theorem Events.refl (s : State) : Events s s := ⟨s.views, s.parts, s.out, s.power.doms, rfl⟩

theorem Events.trans {s t u : State} (h : Events s t) (k : Events t u) : Events s u := by
  obtain ⟨_, _, _, _, rfl⟩ := h
  obtain ⟨_, _, _, _, rfl⟩ := k
  exact ⟨_, _, _, _, rfl⟩

theorem State.modView_events (s : State) (v : Nat) (f : View → View) : Events s (s.modView v f) :=
  ⟨_, s.parts, s.out, s.power.doms, rfl⟩

theorem State.modPart_events (s : State) (p : Nat) (f : Part → Part) : Events s (s.modPart p f) :=
  ⟨s.views, _, s.out, s.power.doms, rfl⟩

theorem State.emit_events (s : State) (o : Out) : Events s (s.emit o) := ⟨s.views, s.parts, _, s.power.doms, rfl⟩

/-- A wake changes the state of domains alone (R20). -/
theorem State.awake_events (s : State) (d : Nat) : Events s (s.awake d) := by
  unfold State.awake
  split
  · exact ⟨s.views, s.parts, s.out, _, rfl⟩
  · exact Events.refl s

/-- A signal wakes the core pair and leaves the module (R20, R209). -/
theorem State.signal_events (s : State) (v : Nat) : Events s (s.signal v) :=
  doIf_keeps (Events s) _ _ _ (Events.refl s) (fun h => (h.trans (State.awake_events _ _)).trans (State.emit_events _ _))

/-- An event task changes its view's books and the partition's event words, and wakes its core pair (R223, R224). -/
theorem State.tryTask_events (s : State) (p pr k : Nat) : Events s (s.tryTask p pr k) := by
  unfold State.tryTask State.runTask
  repeat' split
  all_goals first
    | exact Events.refl s
    | exact ((State.awake_events s _).trans (State.modView_events _ _ _)).trans (State.modPart_events _ _ _)

/-- Event tasks change what events change (R223, R224). -/
theorem State.runTasks_events (s : State) (p : Nat) : Events s (s.runTasks p) := by
  unfold State.runTasks
  split
  · exact forEach_keeps (Events s) _ s _ (Events.refl s) (fun t pr _ ht =>
      forEach_keeps (Events s) _ t _ ht (fun u k _ hu => hu.trans (State.tryTask_events u p pr k)))
  · exact Events.refl s

/-- An event changes views and partitions, and may signal and wake (R20, R206, R209, R223). -/
theorem State.raise_events (s : State) (v n : Nat) : Events s (s.raise v n) := by
  unfold State.raise
  dsimp only
  repeat' split
  · exact ((State.modView_events s v _).trans (State.runTasks_events _ v)).trans (State.signal_events _ v)
  · exact (State.modView_events s v _).trans (State.signal_events _ v)
  · exact Events.refl s

theorem State.event_events (s : State) (v n : Nat) : Events s (s.event v n) :=
  doIf_keeps (Events s) _ _ _ (Events.refl s) (fun _ => State.raise_events s v n)

theorem State.eventAll_events (s : State) (n : Nat) : Events s (s.eventAll n) :=
  forEach_keeps (Events s) _ s _ (Events.refl s) (fun t v _ h => h.trans (State.event_events t v n))

theorem State.windowEvent_events (s : State) (t n : Nat) : Events s (s.windowEvent t n) := by
  unfold State.windowEvent
  split
  · exact State.event_events s _ n
  · exact Events.refl s

/-! ## Tenants -/

/-- The states that differ in tenants, the pool, and what events change. -/
def Books (s t : State) : Prop :=
  ∃ tn pl vw pt o d, t = { s with
    tenants := tn, pool := pl, views := vw, parts := pt, out := o, power := { s.power with doms := d } }

theorem Books.refl (s : State) : Books s s := ⟨s.tenants, s.pool, s.views, s.parts, s.out, s.power.doms, rfl⟩

theorem Books.trans {s t u : State} (h : Books s t) (k : Books t u) : Books s u := by
  obtain ⟨_, _, _, _, _, _, rfl⟩ := h
  obtain ⟨_, _, _, _, _, _, rfl⟩ := k
  exact ⟨_, _, _, _, _, _, rfl⟩

theorem Events.books {s t : State} (h : Events s t) : Books s t := by
  obtain ⟨vw, pt, o, d, rfl⟩ := h
  exact ⟨s.tenants, s.pool, vw, pt, o, d, rfl⟩

theorem State.setTenant_books (s : State) (t : Nat) (x : Tenant) : Books s (s.setTenant t x) :=
  ⟨_, _, s.views, s.parts, s.out, s.power.doms, rfl⟩

theorem State.modTenant_books (s : State) (t : Nat) (f : Tenant → Tenant) : Books s (s.modTenant t f) :=
  State.setTenant_books s t _

theorem State.emit_books (s : State) (o : Out) : Books s (s.emit o) := (State.emit_events s o).books

theorem State.toUnread_books (s : State) (t : Nat) (r : Reply) : Books s (s.toUnread t r) := by
  unfold State.toUnread
  refine doIf_keeps (Books s) _ _ _ ((State.modTenant_books s t _).trans (State.emit_books _ _)) (fun h => ?_)
  exact h.trans (State.windowEvent_events _ t 288).books

theorem State.enqueue_books (s : State) (t : Nat) (p : Packet) : Books s (s.enqueue t p) := by
  unfold State.enqueue
  dsimp only
  split
  · exact Books.refl s
  · exact (State.awake_events s 33).books.trans (State.modTenant_books _ t _)

theorem State.answerMalformed_books (s : State) (t : Nat) (p : Packet) : Books s (s.answerMalformed t p) := by
  unfold State.answerMalformed
  dsimp only
  repeat' split
  all_goals first
    | exact (State.modTenant_books s t _).trans (State.toUnread_books _ t _)
    | exact ((State.modTenant_books s t _).trans (State.modTenant_books _ t _)).trans (State.toUnread_books _ t _)

/-- Malformed packets that are answered change the tenants' books (R158, R165). -/
theorem State.drain_books (fuel : Nat) (s : State) (t : Nat) : Books s (State.drain fuel s t) := by
  induction fuel generalizing s with
  | zero => exact Books.refl s
  | succ n ih =>
    unfold State.drain
    repeat' split
    · exact (State.answerMalformed_books s t _).trans (ih _)
    · exact Books.refl s
    · exact Books.refl s

theorem State.readSession_books (fuel : Nat) (s : State) (t : Nat) : Books s (State.readSession fuel s t) := by
  induction fuel generalizing s with
  | zero => exact Books.refl s
  | succ n ih =>
    unfold State.readSession
    repeat' split
    · exact Books.refl s
    · exact Books.refl s
    · exact Books.refl s
    · exact ((State.modTenant_books s t _).trans (State.enqueue_books _ t _)).trans (ih _)

theorem State.creditBack_books (s : State) (t : Nat) : Books s (s.creditBack t) := by
  unfold State.creditBack
  dsimp only
  have h1 : Books s ((s.modTenant t (fun x => { x with credits := x.credits + 1 })).windowEvent t 289) :=
    (State.modTenant_books s t _).trans (State.windowEvent_events _ t 289).books
  split
  · exact ((h1.trans (State.modTenant_books _ t _)).trans (State.enqueue_books _ t _)).trans (State.drain_books _ _ t)
  · exact (h1.trans (State.readSession_books _ _ t)).trans (State.drain_books _ _ t)

/-- An answer changes the tenants' books, and what events change (R162, R165). -/
theorem State.finish_books (s : State) (t seq status : Nat) (payload : List Word) (flags : Nat) :
    Books s (s.finish t seq status payload flags) := by
  unfold State.finish
  dsimp only
  repeat' split
  · exact Books.refl s
  · exact (State.modTenant_books s t _).trans (State.creditBack_books _ t)
  · exact (((State.modTenant_books s t _).trans (State.modTenant_books _ t _)).trans (State.toUnread_books _ t _)).trans
      (State.drain_books _ _ t)

theorem State.startStream_books (s : State) (t : Nat) (st : OutStream) : Books s (s.startStream t st) := by
  unfold State.startStream
  dsimp only
  repeat' split
  · exact Books.refl s
  · exact (State.modTenant_books s t _).trans (State.creditBack_books _ t)
  · exact (((State.modTenant_books s t _).trans (State.modTenant_books _ t _)).trans (State.toUnread_books _ t _)).trans
      (State.drain_books _ _ t)

theorem State.streamReply_books (s : State) (t : Nat) (st : OutStream) : Books s (s.streamReply t st) := by
  unfold State.streamReply
  split
  · exact State.modTenant_books s t _
  · exact State.startStream_books s t st

theorem State.answer_books (s : State) (t : Nat) (sp : OpSpec) (r : Req) (a : Answer) : Books s (s.answer t sp r a) := by
  unfold State.answer
  split
  · exact State.finish_books s t _ _ _ _
  · exact State.streamReply_books s t _
  · exact State.streamReply_books s t _
  · exact Books.refl s

theorem State.startHead_books (s : State) (t : Nat) (p : Packet) : Books s (s.startHead t p) := by
  unfold State.startHead
  split
  · exact Books.refl s
  · exact State.modTenant_books s t _

end Sys2Proof.Machine
end

