-- ==== Sys2Proof/Laws/Memory.lean ====
section
/-! SUPPORT. The byte memories of the partitions: every operation keeps the canonical form, and a read
after a write gives what was written there and leaves the rest. -/

namespace Sys2Proof

theorem Memory.wfFrom_none (m : Memory) (lo : Nat) (h : Memory.wfFrom (some lo) m = true) : Memory.wfFrom none m = true := by
  cases m with
  | nil => rfl
  | cons c r => obtain ⟨b, v⟩ := c; simp [Memory.wfFrom] at h ⊢; exact ⟨h.1.2, h.2⟩

/-- The bound below the addresses of a list. -/
theorem Memory.wfFrom_weaken (m : Memory) (lo a : Nat) (h : Memory.wfFrom (some lo) m = true) (ha : a ≤ lo) :
    Memory.wfFrom (some a) m = true := by
  cases m with
  | nil => rfl
  | cons c r => obtain ⟨b, v⟩ := c; simp [Memory.wfFrom] at h ⊢; exact ⟨⟨by omega, h.1.2⟩, h.2⟩

/-- The lower bound holds of an address. -/
def belowOpt (lo : Option Nat) (a : Nat) : Prop := match lo with | none => True | some l => l < a

theorem Memory.write_wfFrom (m : Memory) (lo : Option Nat) (a : Nat) (v : Byte) (h : Memory.wfFrom lo m = true)
    (hl : belowOpt lo a) : Memory.wfFrom lo (m.write a v) = true := by
  induction m generalizing lo with
  | nil =>
    by_cases hv : v = 0#8
    · simp [Memory.write, hv, Memory.wfFrom]
    · cases lo <;> simp_all [Memory.write, Memory.wfFrom, belowOpt]
  | cons c r ih =>
    obtain ⟨b, x⟩ := c
    have hr : Memory.wfFrom (some b) r = true := by simp [Memory.wfFrom] at h; exact h.2
    by_cases h1 : a < b
    · by_cases hv : v = 0#8
      · simp [Memory.write, h1, hv]; exact h
      · cases lo <;> simp_all [Memory.write, Memory.wfFrom, belowOpt]
    · by_cases h2 : a = b
      · subst h2
        by_cases hv : v = 0#8
        · simp only [Memory.write, Nat.lt_irrefl, if_false, if_true, hv]
          cases lo with
          | none => exact Memory.wfFrom_none r a hr
          | some l => exact Memory.wfFrom_weaken r a l hr (Nat.le_of_lt hl)
        · cases lo <;> simp_all [Memory.write, Memory.wfFrom, belowOpt]
      · have h3 := ih (some b) hr (by simp [belowOpt]; omega)
        have h4 : Memory.write ((b, x) :: r) a v = (b, x) :: Memory.write r a v := by simp only [Memory.write, h1, h2, if_false]
        rw [h4]
        cases lo <;> simp_all [Memory.wfFrom]

/-- A write keeps the canonical form. -/
@[simp] theorem Memory.write_wf (m : Memory) (a : Nat) (v : Byte) (h : m.wf = true) : (m.write a v).wf = true :=
  Memory.write_wfFrom m none a v h trivial

@[simp] theorem Memory.nil_wf : Memory.wf [] = true := rfl

@[simp] theorem Memory.writeWord_wf (m : Memory) (a : Nat) (w : Word) (h : m.wf = true) : (m.writeWord a w).wf = true := by
  exact Memory.write_wf _ _ _ (Memory.write_wf _ _ _ (Memory.write_wf _ _ _ (Memory.write_wf _ _ _ h)))

@[simp] theorem Memory.writeWords_wf (ws : List Word) (m : Memory) (a : Nat) (h : m.wf = true) :
    (m.writeWords a ws).wf = true := by
  induction ws generalizing m a with
  | nil => exact h
  | cons w r ih => exact ih _ _ (Memory.writeWord_wf m a w h)

@[simp] theorem Memory.load_wf (cells : List Host.Cell) (m : Memory) (h : m.wf = true) : (m.load cells).wf = true := by
  induction cells generalizing m with
  | nil => exact h
  | cons c r ih => exact ih _ (Memory.write_wf m c.1 c.2 h)

theorem Memory.restrict_wfFrom (m : Memory) (p : Nat → Bool) (lo : Option Nat) (h : Memory.wfFrom lo m = true) :
    Memory.wfFrom lo (m.restrict p) = true := by
  induction m generalizing lo with
  | nil => exact h
  | cons c r ih =>
    obtain ⟨b, v⟩ := c
    have hr : Memory.wfFrom (some b) r = true := by simp [Memory.wfFrom] at h; exact h.2
    by_cases hp : p b = true
    · have := ih (some b) hr
      cases lo <;> simp_all [Memory.restrict, Memory.wfFrom]
    · have h3 : Memory.restrict ((b, v) :: r) p = Memory.restrict r p := by simp [Memory.restrict, hp]
      rw [h3]
      apply ih
      cases lo with
      | none => exact Memory.wfFrom_none r b hr
      | some l => simp [Memory.wfFrom] at h; exact Memory.wfFrom_weaken r b l hr (Nat.le_of_lt h.1.1)

@[simp] theorem Memory.restrict_wf (m : Memory) (p : Nat → Bool) (h : m.wf = true) : (m.restrict p).wf = true :=
  Memory.restrict_wfFrom m p none h

/-- A read of the byte written gives it. -/
theorem Memory.read_write_same (m : Memory) (lo : Option Nat) (a : Nat) (v : Byte) (h : Memory.wfFrom lo m = true) :
    (m.write a v).read a = v := by
  induction m generalizing lo with
  | nil => by_cases hv : v = 0#8 <;> simp [Memory.write, Memory.read, hv]
  | cons c r ih =>
    obtain ⟨b, x⟩ := c
    have hr : Memory.wfFrom (some b) r = true := by simp [Memory.wfFrom] at h; exact h.2
    have low : ∀ (q : Memory) (l : Nat), Memory.wfFrom (some l) q = true → a ≤ l → q.read a = 0 := by
      intro q
      induction q with
      | nil => intros; rfl
      | cons c q ihq =>
        obtain ⟨d, y⟩ := c
        intro l hl hal
        simp [Memory.wfFrom] at hl
        have hne : d ≠ a := by omega
        simp only [Memory.read, hne, if_false]
        exact ihq d hl.2 (by omega)
    by_cases h1 : a < b
    · by_cases hv : v = 0#8
      · have hb : b ≠ a := by omega
        have h5 : Memory.write ((b, x) :: r) a v = (b, x) :: r := by simp [Memory.write, h1, hv]
        rw [h5, hv]
        simp only [Memory.read, hb, if_false]
        exact low r b hr (by omega)
      · simp [Memory.write, h1, hv, Memory.read]
    · by_cases h2 : a = b
      · subst h2
        by_cases hv : v = 0#8
        · have h5 : Memory.write ((a, x) :: r) a v = r := by simp [Memory.write, hv]
          rw [h5, hv]
          exact low r a hr (Nat.le_refl a)
        · simp [Memory.write, hv, Memory.read]
      · simp only [Memory.write, h1, h2, if_false, Memory.read, Ne.symm h2]
        exact ih _ hr

/-- A write leaves every other byte. -/
theorem Memory.read_write_other (m : Memory) (a b : Nat) (v : Byte) (h : b ≠ a) : (m.write a v).read b = m.read b := by
  induction m with
  | nil => by_cases hv : v = 0#8 <;> simp [Memory.write, Memory.read, hv, Ne.symm h]
  | cons c r ih =>
    obtain ⟨d, x⟩ := c
    by_cases h1 : a < d
    · by_cases hv : v = 0#8 <;> simp [Memory.write, h1, hv, Memory.read, Ne.symm h]
    · by_cases h2 : a = d
      · subst h2
        by_cases hv : v = 0#8 <;> simp [Memory.write, hv, Memory.read, Ne.symm h]
      · simp only [Memory.write, h1, h2, if_false, Memory.read, ih]

end Sys2Proof

namespace Sys2Proof.Machine

@[simp] theorem Memory.writeBytes_wf (m : Memory) (a n : Nat) (w : Word) (h : Memory.wf m = true) :
    Memory.wf (Memory.writeBytes m a n w) = true := by
  unfold Memory.writeBytes
  generalize List.range n = l
  induction l generalizing m with
  | nil => exact h
  | cons i r ih => exact ih _ (Memory.write_wf m _ _ h)

end Sys2Proof.Machine
end

