-- ==== Sys2Proof/Laws/Only.lean ====
section
/-! SUPPORT. What each shared operation can change, as regions of the state, and that it keeps the module sound:
one lemma per operation. -/

namespace Sys2Proof.Machine

/-- What Sound says of no tenant is kept, each part by itself. -/
def CoreKept (s u : State) : Prop :=
  (s.memoriesCanonical → u.memoriesCanonical) ∧ (s.poolBalanced → u.poolBalanced) ∧
  (s.stacksBounded → u.stacksBounded) ∧ (s.waitsBounded → u.waitsBounded)

theorem CoreKept.refl (s : State) : CoreKept s s := ⟨id, id, id, id⟩

theorem CoreKept.trans {s t u : State} (h : CoreKept s t) (k : CoreKept t u) : CoreKept s u :=
  ⟨k.1 ∘ h.1, k.2.1 ∘ h.2.1, k.2.2.1 ∘ h.2.2.1, k.2.2.2 ∘ h.2.2.2⟩

/-- The books of a tenant within their bounds, and its credits in balance (R162, R165, R167). -/
def Tenant.bounded (x : Tenant) : Prop :=
  (x.cache.length ≤ 32 ∧ x.ended.length ≤ 4) ∧
  x.credits + x.queued.length + x.executing.length + x.unread.length = 32

/-- From s to u only these regions change, the queue stays, and what Sound says is kept, tenant by tenant. -/
def Only (l : List Region) (s u : State) : Prop :=
  u.pending = s.pending ∧ (∀ r : Region, r ∉ l → r.same s u) ∧ CoreKept s u ∧
  ∀ t : Nat, Tenant.bounded (s.tenant t) → Tenant.bounded (u.tenant t)

/-- A sound module stays sound. -/
theorem Only.sound {l : List Region} {s u : State} (h : Only l s u) (hs : s.Sound) : u.Sound := by
  obtain ⟨a, b, c, d, e, f⟩ := hs
  exact ⟨h.2.2.1.1 a, h.2.2.1.2.1 b, h.2.2.1.2.2.1 c, h.2.2.1.2.2.2 d, fun t => (h.2.2.2 t ⟨e t, f t⟩).1, fun t =>
      (h.2.2.2 t ⟨e t, f t⟩).2⟩

theorem Region.same_refl (r : Region) (s : State) : r.same s s := by
  cases r <;> first | rfl | exact fun _ => ⟨rfl, rfl, rfl⟩

theorem Region.same_trans {r : Region} {s t u : State} (h : r.same s t) (k : r.same t u) : r.same s u := by
  cases r <;>
    first
    | exact Eq.trans k h
    | exact fun p => ⟨(k p).1.trans (h p).1, (k p).2.1.trans (h p).2.1, (k p).2.2.trans (h p).2.2⟩

theorem Only.refl (l : List Region) (s : State) : Only l s s :=
  ⟨rfl, fun r _ => r.same_refl s, CoreKept.refl s, fun _ => id⟩

/-- A further step that changes no other region. -/
theorem Only.after {k l : List Region} {s t u : State} (h : Only k t u) (hs : k.all l.contains = true)
    (g : Only l s t) : Only l s u := by
  have hm : ∀ r : Region, r ∉ l → r ∉ k := fun r hr hk => hr (by simpa using List.all_eq_true.mp hs r hk)
  exact ⟨h.1.trans g.1, fun r hr => Region.same_trans (g.2.1 r hr) (h.2.1 r (hm r hr)), CoreKept.trans g.2.2.1
      h.2.2.1,
    fun k x => h.2.2.2 k (g.2.2.2 k x)⟩

theorem forEach_only {α : Type} {l : List Region} {s t : State} (xs : List α) (f : State → α → State)
    (h : ∀ u x, Only l u (f u x)) (g : Only l s t) : Only l s (forEach xs t f) := by
  induction xs generalizing t with
  | nil => exact g
  | cons x r ih => exact ih ((h t x).after (by simp) g)

theorem doIf_only {l : List Region} {s t : State} (b : Bool) (f : State → State)
    (h : ∀ u, Only l u (f u)) (g : Only l s t) : Only l s (doIf b t f) := by
  cases b
  · exact g
  · exact (h t).after (by simp) g

/-! ## Updates of one field -/


theorem State.modChain_only (s : State) (c : Nat) (f : Chain → Chain) : Only [.chains] s (s.modChain c f) := by
  refine ⟨rfl, fun r hr => ?_, ⟨id, id, id, id⟩, fun _ => id⟩
  cases r <;> first | exact absurd (by decide) hr | rfl | exact fun _ => ⟨rfl, rfl, rfl⟩

theorem State.modTile_only (s : State) (c : Nat) (f : Tile → Tile) : Only [.tiles] s (s.modTile c f) := by
  refine ⟨rfl, fun r hr => ?_, ⟨id, id, id, id⟩, fun _ => id⟩
  cases r <;> first | exact absurd (by decide) hr | rfl | exact fun _ => ⟨rfl, rfl, rfl⟩

theorem State.modStr_only (s : State) (c : Nat) (f : Str → Str) : Only [.strs] s (s.modStr c f) := by
  refine ⟨rfl, fun r hr => ?_, ⟨id, id, id, id⟩, fun _ => id⟩
  cases r <;> first | exact absurd (by decide) hr | rfl | exact fun _ => ⟨rfl, rfl, rfl⟩

theorem State.modPto_only (s : State) (k : Nat) (f : Pto → Pto) : Only [.ptos] s (s.modPto k f) := by
  refine ⟨rfl, fun r hr => ?_, ⟨id, id, id, id⟩, fun _ => id⟩
  cases r <;> first | exact absurd (by decide) hr | rfl | exact fun _ => ⟨rfl, rfl, rfl⟩

theorem State.modBal_only (s : State) (c : Nat) (f : Bal → Bal) : Only [.bals] s (s.modBal c f) := by
  refine ⟨rfl, fun r hr => ?_, ⟨id, id, id, id⟩, fun _ => id⟩
  cases r <;> first | exact absurd (by decide) hr | rfl | exact fun _ => ⟨rfl, rfl, rfl⟩

theorem State.modZone_only (s : State) (z : Nat) (f : Zone → Zone) : Only [.zones] s (s.modZone z f) := by
  refine ⟨rfl, fun r hr => ?_, ⟨id, id, id, id⟩, fun _ => id⟩
  cases r <;> first | exact absurd (by decide) hr | rfl | exact fun _ => ⟨rfl, rfl, rfl⟩

theorem State.modGroup_only (s : State) (g : Nat) (f : Group → Group) : Only [.groups] s (s.modGroup g f) := by
  refine ⟨rfl, fun r hr => ?_, ⟨id, id, id, id⟩, fun _ => id⟩
  cases r <;> first | exact absurd (by decide) hr | rfl | exact fun _ => ⟨rfl, rfl, rfl⟩

theorem State.modLoop_only (s : State) (i : Nat) (f : Loop → Loop) : Only [.loops] s (s.modLoop i f) := by
  refine ⟨rfl, fun r hr => ?_, ⟨id, id, id, id⟩, fun _ => id⟩
  cases r <;> first | exact absurd (by decide) hr | rfl | exact fun _ => ⟨rfl, rfl, rfl⟩

theorem State.modInj_only (s : State) (g : Nat) (f : Inj → Inj) : Only [.injs] s (s.modInj g f) := by
  refine ⟨rfl, fun r hr => ?_, ⟨id, id, id, id⟩, fun _ => id⟩
  cases r <;> first | exact absurd (by decide) hr | rfl | exact fun _ => ⟨rfl, rfl, rfl⟩

theorem State.modValve_only (s : State) (v : Nat) (f : Valve → Valve) : Only [.valves] s (s.modValve v f) := by
  refine ⟨rfl, fun r hr => ?_, ⟨id, id, id, id⟩, fun _ => id⟩
  cases r <;> first | exact absurd (by decide) hr | rfl | exact fun _ => ⟨rfl, rfl, rfl⟩

theorem State.modFb_only (s : State) (p : Nat) (f : Fb → Fb) : Only [.fbs] s (s.modFb p f) := by
  refine ⟨rfl, fun r hr => ?_, ⟨id, id, id, id⟩, fun _ => id⟩
  cases r <;> first | exact absurd (by decide) hr | rfl | exact fun _ => ⟨rfl, rfl, rfl⟩

theorem State.modAna_only (s : State) (ch : Nat) (f : Ana → Ana) : Only [.anas] s (s.modAna ch f) := by
  refine ⟨rfl, fun r hr => ?_, ⟨id, id, id, id⟩, fun _ => id⟩
  cases r <;> first | exact absurd (by decide) hr | rfl | exact fun _ => ⟨rfl, rfl, rfl⟩

theorem State.modDi_only (s : State) (k : Nat) (f : Di → Di) : Only [.dis] s (s.modDi k f) := by
  refine ⟨rfl, fun r hr => ?_, ⟨id, id, id, id⟩, fun _ => id⟩
  cases r <;> first | exact absurd (by decide) hr | rfl | exact fun _ => ⟨rfl, rfl, rfl⟩

theorem State.modDo_only (s : State) (k : Nat) (f : Do → Do) : Only [.dos] s (s.modDo k f) := by
  refine ⟨rfl, fun r hr => ?_, ⟨id, id, id, id⟩, fun _ => id⟩
  cases r <;> first | exact absurd (by decide) hr | rfl | exact fun _ => ⟨rfl, rfl, rfl⟩

theorem State.modCan_only (s : State) (k : Nat) (f : Can → Can) : Only [.cans] s (s.modCan k f) := by
  refine ⟨rfl, fun r hr => ?_, ⟨id, id, id, id⟩, fun _ => id⟩
  cases r <;> first | exact absurd (by decide) hr | rfl | exact fun _ => ⟨rfl, rfl, rfl⟩

theorem State.modCmp_only (s : State) (p u : Nat) (f : Cmp → Cmp) : Only [.cmps] s (s.modCmp p u f) := by
  refine ⟨rfl, fun r hr => ?_, ⟨id, id, id, id⟩, fun _ => id⟩
  cases r <;> first | exact absurd (by decide) hr | rfl | exact fun _ => ⟨rfl, rfl, rfl⟩

theorem State.modPair_only (s : State) (f : Pair → Pair) : Only [.pair] s (s.modPair f) := by
  refine ⟨rfl, fun r hr => ?_, ⟨id, id, id, id⟩, fun _ => id⟩
  cases r <;> first | exact absurd (by decide) hr | rfl | exact fun _ => ⟨rfl, rfl, rfl⟩

theorem State.modSafe_only (s : State) (f : SafeEval → SafeEval) : Only [.safe] s (s.modSafe f) := by
  refine ⟨rfl, fun r hr => ?_, ⟨id, id, id, id⟩, fun _ => id⟩
  cases r <;> first | exact absurd (by decide) hr | rfl | exact fun _ => ⟨rfl, rfl, rfl⟩

theorem State.modTime_only (s : State) (f : TimeUnit → TimeUnit) : Only [.time] s (s.modTime f) := by
  refine ⟨rfl, fun r hr => ?_, ⟨id, id, id, id⟩, fun _ => id⟩
  cases r <;> first | exact absurd (by decide) hr | rfl | exact fun _ => ⟨rfl, rfl, rfl⟩

theorem State.modNet_only (s : State) (f : Net → Net) : Only [.net] s (s.modNet f) := by
  refine ⟨rfl, fun r hr => ?_, ⟨id, id, id, id⟩, fun _ => id⟩
  cases r <;> first | exact absurd (by decide) hr | rfl | exact fun _ => ⟨rfl, rfl, rfl⟩

theorem State.modDisp_only (s : State) (f : Disp → Disp) : Only [.disp] s (s.modDisp f) := by
  refine ⟨rfl, fun r hr => ?_, ⟨id, id, id, id⟩, fun _ => id⟩
  cases r <;> first | exact absurd (by decide) hr | rfl | exact fun _ => ⟨rfl, rfl, rfl⟩

theorem State.modTrace_only (s : State) (f : Trace → Trace) : Only [.trace] s (s.modTrace f) := by
  refine ⟨rfl, fun r hr => ?_, ⟨id, id, id, id⟩, fun _ => id⟩
  cases r <;> first | exact absurd (by decide) hr | rfl | exact fun _ => ⟨rfl, rfl, rfl⟩

theorem State.modPower_only (s : State) (f : Power → Power) : Only [.power, .supply, .doms] s (s.modPower f) := by
  refine ⟨rfl, fun r hr => ?_, ⟨id, id, id, id⟩, fun _ => id⟩
  cases r <;> first | exact absurd (by decide) hr | rfl | exact fun _ => ⟨rfl, rfl, rfl⟩

/-- A change of the power unit that leaves the states of the domains. -/
theorem State.modPower_keep (s : State) (f : Power → Power) (h : ∀ x, (f x).doms = x.doms) :
    Only [.power, .supply] s (s.modPower f) := by
  refine ⟨rfl, fun r hr => ?_, ⟨id, id, id, id⟩, fun _ => id⟩
  cases r <;> first | exact absurd (by decide) hr | rfl | exact fun _ => ⟨rfl, rfl, rfl⟩ | exact h _

/-- A change of the states of the domains alone. -/
theorem State.modPower_doms (s : State) (f : Power → Power) (h : ∀ x, f x = { x with doms := (f x).doms }) :
    Only [.doms] s (s.modPower f) := by
  refine ⟨rfl, fun r hr => ?_, ⟨id, id, id, id⟩, fun _ => id⟩
  cases r <;> first
    | exact absurd (by decide) hr
    | rfl
    | exact fun _ => ⟨rfl, rfl, rfl⟩
    | (simp only [Region.same, State.modPower]; rw [h s.power])

theorem State.setDom_only (s : State) (d : Nat) (st : DomState) : Only [.doms] s (s.setDom d st) :=
  State.modPower_doms s _ fun _ => rfl

/-- An event from outside wakes a domain (R20). -/
theorem State.awake_only (s : State) (d : Nat) : Only [.doms] s (s.awake d) := by
  unfold State.awake
  split
  · exact State.setDom_only ..
  · exact Only.refl _ _

/-- A domain asks for IDLE (R20, R412). -/
theorem State.askIdle_only (s : State) (d wake : Nat) : Only [.doms] s (s.askIdle d wake) := by
  unfold State.askIdle
  split
  · exact State.modPower_doms s _ fun _ => rfl
  · exact Only.refl _ _

theorem State.modCfg_only (s : State) (f : Cfg → Cfg) : Only [.cfg, .config] s (s.modCfg f) := by
  refine ⟨rfl, fun r hr => ?_, ⟨id, id, id, id⟩, fun _ => id⟩
  cases r <;> first | exact absurd (by decide) hr | rfl | exact fun _ => ⟨rfl, rfl, rfl⟩

theorem only_now (s : State) (x : Nat) : Only [.now] s ({ s with now := x }) := by
  refine ⟨rfl, fun r hr => ?_, ⟨id, id, id, id⟩, fun _ => id⟩
  cases r <;> first | exact absurd (by decide) hr | rfl | exact fun _ => ⟨rfl, rfl, rfl⟩

theorem only_out (s : State) (x : List Out) : Only [.out] s ({ s with out := x }) := by
  refine ⟨rfl, fun r hr => ?_, ⟨id, id, id, id⟩, fun _ => id⟩
  cases r <;> first | exact absurd (by decide) hr | rfl | exact fun _ => ⟨rfl, rfl, rfl⟩

theorem only_fresh (s : State) (x : Nat) : Only [.fresh] s ({ s with fresh := x }) := by
  refine ⟨rfl, fun r hr => ?_, ⟨id, id, id, id⟩, fun _ => id⟩
  cases r <;> first | exact absurd (by decide) hr | rfl | exact fun _ => ⟨rfl, rfl, rfl⟩

theorem only_ident (s : State) (x : Ident) : Only [.ident] s ({ s with ident := x }) := by
  refine ⟨rfl, fun r hr => ?_, ⟨id, id, id, id⟩, fun _ => id⟩
  cases r <;> first | exact absurd (by decide) hr | rfl | exact fun _ => ⟨rfl, rfl, rfl⟩

theorem only_chains (s : State) (x : Map Chain) : Only [.chains] s ({ s with chains := x }) := by
  refine ⟨rfl, fun r hr => ?_, ⟨id, id, id, id⟩, fun _ => id⟩
  cases r <;> first | exact absurd (by decide) hr | rfl | exact fun _ => ⟨rfl, rfl, rfl⟩

theorem only_ledger (s : State) (x : Map (Option Ledger)) : Only [.ledger] s ({ s with ledger := x }) := by
  refine ⟨rfl, fun r hr => ?_, ⟨id, id, id, id⟩, fun _ => id⟩
  cases r <;> first | exact absurd (by decide) hr | rfl | exact fun _ => ⟨rfl, rfl, rfl⟩

theorem only_slices (s : State) (x : Map (Option Slice)) : Only [.slices] s ({ s with slices := x }) := by
  refine ⟨rfl, fun r hr => ?_, ⟨id, id, id, id⟩, fun _ => id⟩
  cases r <;> first | exact absurd (by decide) hr | rfl | exact fun _ => ⟨rfl, rfl, rfl⟩

theorem only_grpField (s : State) (x : Map Nat) : Only [.grpField] s ({ s with grpField := x }) := by
  refine ⟨rfl, fun r hr => ?_, ⟨id, id, id, id⟩, fun _ => id⟩
  cases r <;> first | exact absurd (by decide) hr | rfl | exact fun _ => ⟨rfl, rfl, rfl⟩

theorem only_grpLow (s : State) (x : Map Bool) : Only [.grpLow] s ({ s with grpLow := x }) := by
  refine ⟨rfl, fun r hr => ?_, ⟨id, id, id, id⟩, fun _ => id⟩
  cases r <;> first | exact absurd (by decide) hr | rfl | exact fun _ => ⟨rfl, rfl, rfl⟩

theorem only_vsupLow (s : State) (x : Map Bool) : Only [.vsupLow] s ({ s with vsupLow := x }) := by
  refine ⟨rfl, fun r hr => ?_, ⟨id, id, id, id⟩, fun _ => id⟩
  cases r <;> first | exact absurd (by decide) hr | rfl | exact fun _ => ⟨rfl, rfl, rfl⟩

theorem only_fdpFault (s : State) (x : Map Bool) : Only [.fdpFault] s ({ s with fdpFault := x }) := by
  refine ⟨rfl, fun r hr => ?_, ⟨id, id, id, id⟩, fun _ => id⟩
  cases r <;> first | exact absurd (by decide) hr | rfl | exact fun _ => ⟨rfl, rfl, rfl⟩

theorem only_fdpTime (s : State) (x : Map Word) : Only [.fdpTime] s ({ s with fdpTime := x }) := by
  refine ⟨rfl, fun r hr => ?_, ⟨id, id, id, id⟩, fun _ => id⟩
  cases r <;> first | exact absurd (by decide) hr | rfl | exact fun _ => ⟨rfl, rfl, rfl⟩

theorem only_display (s : State) (x : Display) : Only [.display] s ({ s with display := x }) := by
  refine ⟨rfl, fun r hr => ?_, ⟨id, id, id, id⟩, fun _ => id⟩
  cases r <;> first | exact absurd (by decide) hr | rfl | exact fun _ => ⟨rfl, rfl, rfl⟩

theorem only_trace (s : State) (x : Trace) : Only [.trace] s ({ s with trace := x }) := by
  refine ⟨rfl, fun r hr => ?_, ⟨id, id, id, id⟩, fun _ => id⟩
  cases r <;> first | exact absurd (by decide) hr | rfl | exact fun _ => ⟨rfl, rfl, rfl⟩

theorem only_strLimits (s : State) (x : Map StrLimit) : Only [.strLimits] s ({ s with strLimits := x }) := by
  refine ⟨rfl, fun r hr => ?_, ⟨id, id, id, id⟩, fun _ => id⟩
  cases r <;> first | exact absurd (by decide) hr | rfl | exact fun _ => ⟨rfl, rfl, rfl⟩

theorem only_pair (s : State) (x : Pair) : Only [.pair] s ({ s with pair := x }) := by
  refine ⟨rfl, fun r hr => ?_, ⟨id, id, id, id⟩, fun _ => id⟩
  cases r <;> first | exact absurd (by decide) hr | rfl | exact fun _ => ⟨rfl, rfl, rfl⟩

theorem only_safe (s : State) (x : SafeEval) : Only [.safe] s ({ s with safe := x }) := by
  refine ⟨rfl, fun r hr => ?_, ⟨id, id, id, id⟩, fun _ => id⟩
  cases r <;> first | exact absurd (by decide) hr | rfl | exact fun _ => ⟨rfl, rfl, rfl⟩

theorem only_dis (s : State) (x : Map Di) : Only [.dis] s ({ s with dis := x }) := by
  refine ⟨rfl, fun r hr => ?_, ⟨id, id, id, id⟩, fun _ => id⟩
  cases r <;> first | exact absurd (by decide) hr | rfl | exact fun _ => ⟨rfl, rfl, rfl⟩

theorem only_fbs (s : State) (x : Map Fb) : Only [.fbs] s ({ s with fbs := x }) := by
  refine ⟨rfl, fun r hr => ?_, ⟨id, id, id, id⟩, fun _ => id⟩
  cases r <;> first | exact absurd (by decide) hr | rfl | exact fun _ => ⟨rfl, rfl, rfl⟩

theorem only_dos (s : State) (x : Map Do) : Only [.dos] s ({ s with dos := x }) := by
  refine ⟨rfl, fun r hr => ?_, ⟨id, id, id, id⟩, fun _ => id⟩
  cases r <;> first | exact absurd (by decide) hr | rfl | exact fun _ => ⟨rfl, rfl, rfl⟩

theorem only_tiles (s : State) (x : Map Tile) : Only [.tiles] s ({ s with tiles := x }) := by
  refine ⟨rfl, fun r hr => ?_, ⟨id, id, id, id⟩, fun _ => id⟩
  cases r <;> first | exact absurd (by decide) hr | rfl | exact fun _ => ⟨rfl, rfl, rfl⟩

theorem only_time (s : State) (x : TimeUnit) : Only [.time] s ({ s with time := x }) := by
  refine ⟨rfl, fun r hr => ?_, ⟨id, id, id, id⟩, fun _ => id⟩
  cases r <;> first | exact absurd (by decide) hr | rfl | exact fun _ => ⟨rfl, rfl, rfl⟩

theorem only_cmps (s : State) (x : Map Cmp) : Only [.cmps] s ({ s with cmps := x }) := by
  refine ⟨rfl, fun r hr => ?_, ⟨id, id, id, id⟩, fun _ => id⟩
  cases r <;> first | exact absurd (by decide) hr | rfl | exact fun _ => ⟨rfl, rfl, rfl⟩

theorem only_power (s : State) (x : Power) : Only [.power, .supply, .doms] s ({ s with power := x }) := by
  refine ⟨rfl, fun r hr => ?_, ⟨id, id, id, id⟩, fun _ => id⟩
  cases r <;> first | exact absurd (by decide) hr | rfl | exact fun _ => ⟨rfl, rfl, rfl⟩

theorem only_cfg (s : State) (x : Cfg) : Only [.cfg, .config] s ({ s with cfg := x }) := by
  refine ⟨rfl, fun r hr => ?_, ⟨id, id, id, id⟩, fun _ => id⟩
  cases r <;> first | exact absurd (by decide) hr | rfl | exact fun _ => ⟨rfl, rfl, rfl⟩


/-- The state of a pair. -/
theorem Only.of_fst {α : Type} {l : List Region} {s t : State} {p : State × α} {b : α} (h : p = (t, b)) (g : Only l s
    p.1) :
    Only l s t := by
  subst h; exact g

/-- What a meaning changes where it answers a next state. -/
def Ends (l : List Region) (s : State) (o : Outcome) : Prop := ∀ u, o = .next u → Only l s u

theorem next_ends {l : List Region} {s t : State} (h : Only l s t) : Ends l s (.next t) := by
  intro u hu; cases hu; exact h

/-! ## Updates that Sound speaks of -/

/-- The three memories of a partition are in canonical form. -/
def Part.canon (x : Part) : Prop := Memory.wf x.mem = true ∧ Memory.wf x.retA = true ∧ Memory.wf x.retB = true

theorem State.part_modPart (s : State) (p q : Nat) (f : Part → Part) :
    (s.modPart p f).part q = if q = p then f (s.part p) else s.part q := by
  by_cases h : q = p
  · subst h; simp [State.modPart, State.part, Map.modify]
  · simp [State.modPart, State.part, Map.modify, h, Map.get_set_other _ _ _ _ h]

/-- A change of a partition that keeps its memories canonical. -/
theorem State.modPart_only (s : State) (p : Nat) (f : Part → Part) (h : ∀ x, Part.canon x → Part.canon (f x)) :
    Only [.parts, .memories] s (s.modPart p f) := by
  refine ⟨rfl, fun r hr => ?_, ⟨fun hs q => ?_, id, id, id⟩, fun _ => id⟩
  · cases r <;> first | exact absurd (by decide) hr | rfl
  · rw [State.part_modPart]
    split
    · exact h _ (hs p)
    · exact hs q

/-- A change of a partition that leaves its memories alone. -/
theorem State.modPart_quiet (s : State) (p : Nat) (f : Part → Part)
    (h : ∀ x, (f x).mem = x.mem ∧ (f x).retA = x.retA ∧ (f x).retB = x.retB) : Only [.parts] s (s.modPart p f) := by
  have hq : ∀ q, ((s.modPart p f).part q).mem = (s.part q).mem ∧ ((s.modPart p f).part q).retA = (s.part q).retA ∧
      ((s.modPart p f).part q).retB = (s.part q).retB := by
    intro q
    rw [State.part_modPart]
    split
    · rename_i e; subst e; exact h _
    · exact ⟨rfl, rfl, rfl⟩
  refine ⟨rfl, fun r hr => ?_, ⟨fun hs q => ?_, id, id, id⟩, fun _ => id⟩
  · cases r <;> first | exact absurd (by decide) hr | rfl | exact hq
  · obtain ⟨a, b, c⟩ := hq q
    rw [a, b, c]
    exact hs q

theorem State.modView_only (s : State) (v : Nat) (f : View → View)
    (h : ∀ x, x.stack.length ≤ 16 → (f x).stack.length ≤ 16) : Only [.views] s (s.modView v f) := by
  refine ⟨rfl, fun r hr => ?_, ⟨id, id, fun hs w => ?_, id⟩, fun _ => id⟩
  · cases r <;> first | exact absurd (by decide) hr | rfl | exact fun _ => ⟨rfl, rfl, rfl⟩
  · by_cases e : w = v
    · subst e
      simpa [State.modView, State.view, Map.modify] using h _ (hs w)
    · simpa [State.modView, State.view, Map.modify, Map.get_set_other _ _ _ _ e] using hs w

/-- What a change of one channel's holding does to the sum. -/
theorem sum_set (m : Map Nat) (ch n : Nat) (l : List Nat) (hl : l.Nodup) (hc : ch ∈ l) :
    (l.map (fun c => (m.set ch n).get c)).sum + m.get ch = (l.map (fun c => m.get c)).sum + n := by
  induction l with
  | nil => cases hc
  | cons x r ih =>
    have hx := List.nodup_cons.mp hl
    by_cases e : x = ch
    · subst e
      have : r.map (fun c => (m.set x n).get c) = r.map (fun c => m.get c) :=
        List.map_congr_left fun c hcr => Map.get_set_other _ _ _ _ (fun e => hx.1 (e ▸ hcr))
      simp only [List.map_cons, List.sum_cons, this, Map.get_set_same]
      omega
    · have := ih hx.2 ((List.mem_cons.mp hc).resolve_left (fun h => e h.symm))
      simp only [List.map_cons, List.sum_cons, Map.get_set_other _ _ _ _ e]
      omega

/-- A pool that loses no cell loses none when a holding changes. -/
theorem Pool.setHeld_balanced (q : Pool) (ch n : Nat) (h : q.free + q.transit + Pool.heldSum q = 16384) :
    (Pool.setHeld q ch n).free + (Pool.setHeld q ch n).transit + Pool.heldSum (Pool.setHeld q ch n) = 16384 := by
  unfold Pool.setHeld
  split
  · rename_i hc
    have := sum_set q.held ch n (List.range 32) List.nodup_range (List.mem_range.mpr hc.1)
    simp only [Pool.heldSum] at h ⊢
    omega
  · exact h

/-- A change of the pool that keeps its balance. -/
theorem only_pool (s : State) (x : Pool)
    (h : s.poolBalanced → x.free + x.transit + Pool.heldSum x = 16384) : Only [.pool] s { s with pool := x } := by
  refine ⟨rfl, fun r hr => ?_, ⟨id, h, id, id⟩, fun _ => id⟩
  cases r <;> first | exact absurd (by decide) hr | rfl | exact fun _ => ⟨rfl, rfl, rfl⟩

theorem State.setTenant_only (s : State) (t : Nat) (x : Tenant) (h : Tenant.bounded (s.tenant t) → Tenant.bounded x) :
    Only [.tenants, .pool] s (s.setTenant t x) := by
  refine ⟨rfl, fun r hr => ?_, ⟨id, Pool.setHeld_balanced _ _ _, id, id⟩, fun k hk => ?_⟩
  · cases r <;> first | exact absurd (by decide) hr | rfl | exact fun _ => ⟨rfl, rfl, rfl⟩
  · by_cases e : k = t
    · subst e
      simpa [State.setTenant, State.tenant] using h hk
    · simpa [State.setTenant, State.tenant, Map.get_set_other _ _ _ _ e] using hk

theorem State.modTenant_only (s : State) (t : Nat) (f : Tenant → Tenant)
    (h : ∀ x, Tenant.bounded x → Tenant.bounded (f x)) : Only [.tenants, .pool] s (s.modTenant t f) :=
  State.setTenant_only s t _ (h _)

theorem Tenant.addEnded_bounded (x : Tenant) (seq : Nat) (h : Tenant.bounded x) : Tenant.bounded (Tenant.addEnded x
    seq) :=
  ⟨⟨h.1.1, by simpa [Tenant.addEnded] using Nat.min_le_left _ _⟩, h.2⟩

theorem Tenant.addCache_bounded (x : Tenant) (seq op : Nat) (r : Reply) (h : Tenant.bounded x) :
    Tenant.bounded (Tenant.addCache x seq op r) := by
  unfold Tenant.addCache
  split
  · exact h
  · exact ⟨⟨by simpa using Nat.min_le_left _ _, h.1.2⟩, h.2⟩

/-- A change of the recorder after which no source holds more than eight. -/
theorem only_recorder (s : State) (x : Recorder)
    (h : s.waitsBounded → ∀ src, (x.waiting.get src).length ≤ 8) : Only [.recorder] s { s with recorder := x } := by
  refine ⟨rfl, fun r hr => ?_, ⟨id, id, id, h⟩, fun _ => id⟩
  cases r <;> first | exact absurd (by decide) hr | rfl | exact fun _ => ⟨rfl, rfl, rfl⟩

theorem Recorder.append_waiting (q : Recorder) (r : Rec) : (Recorder.append q r).waiting = q.waiting := rfl

theorem Recorder.foldl_waiting (l : List Rec) (q : Recorder) : (l.foldl Recorder.append q).waiting = q.waiting := by
  induction l generalizing q with
  | nil => rfl
  | cons x r ih => exact ih _

theorem Recorder.flush_waits (q : Recorder) (src : Nat) (f : Nat → Rec) (h : ∀ k, (q.waiting.get k).length ≤ 8) (k :
    Nat) :
    ((Recorder.flush q src f).waiting.get k).length ≤ 8 := by
  have hw : (Recorder.flush q src f).waiting = q.waiting.set src [] := by
    unfold Recorder.flush
    dsimp only
    split
    · exact Recorder.foldl_waiting _ _
    · exact Recorder.foldl_waiting _ _
  rw [hw]
  by_cases e : k = src
  · subst e; simp
  · rw [Map.get_set_other _ _ _ _ e]; exact h k

theorem Recorder.wait_waits (q : Recorder) (r : Rec) (h : ∀ k, (q.waiting.get k).length ≤ 8) (k : Nat) :
    ((Recorder.wait q r).waiting.get k).length ≤ 8 := by
  unfold Recorder.wait
  split
  · rename_i hl
    by_cases e : k = r.source
    · subst e; simp [Map.modify]; omega
    · simpa [Map.modify, Map.get_set_other _ _ _ _ e] using h k
  · exact h k

/-! ## Operations over the fields above -/

theorem State.at_only (s : State) (a : Nat) : Only [.now, .out] s (State.at s a) := by
  refine ⟨rfl, fun r hr => ?_, ⟨id, id, id, id⟩, fun _ => id⟩
  cases r <;> first | exact absurd (by decide) hr | rfl | exact fun _ => ⟨rfl, rfl, rfl⟩

theorem State.toOffset_only (s : State) (a : Nat) : Only [.now, .out] s (State.toOffset s a) := by
  refine ⟨rfl, fun r hr => ?_, ⟨id, id, id, id⟩, fun _ => id⟩
  cases r <;> first | exact absurd (by decide) hr | rfl | exact fun _ => ⟨rfl, rfl, rfl⟩

theorem State.emit_only (s : State) (o : Out) : Only [.out] s (State.emit s o) := by
  refine ⟨rfl, fun r hr => ?_, ⟨id, id, id, id⟩, fun _ => id⟩
  cases r <;> first | exact absurd (by decide) hr | rfl | exact fun _ => ⟨rfl, rfl, rfl⟩

theorem State.syncFdp_only (s : State) : Only [.fdpFault, .fdpTime] s (State.syncFdp s) := by
  refine ⟨rfl, fun r hr => ?_, ⟨id, id, id, id⟩, fun _ => id⟩
  cases r <;> first | exact absurd (by decide) hr | rfl | exact fun _ => ⟨rfl, rfl, rfl⟩

theorem State.unlock_only (s : State) : Only [.ident, .cfg, .config] s (State.unlock s) := by
  refine ⟨rfl, fun r hr => ?_, ⟨id, id, id, id⟩, fun _ => id⟩
  cases r <;> first | exact absurd (by decide) hr | rfl | exact fun _ => ⟨rfl, rfl, rfl⟩


theorem Map.get_map {α : Type} [Inhabited α] (m : Map α) (g : α → α) (k : Nat) :
    Map.get (m.map (fun e => (e.1, g e.2))) k = g (m.get k) ∨
      (Map.get (m.map (fun e => (e.1, g e.2))) k = default ∧ m.get k = default) := by
  induction m with
  | nil => exact .inr ⟨rfl, rfl⟩
  | cons e r ih =>
    obtain ⟨j, v⟩ := e
    by_cases h : j = k
    · left; simp [Map.get, h]
    · simpa [Map.get, h] using ih

theorem State.poolRefuse_only (s : State) (ch : Nat) : Only [.pool] s (s.poolRefuse ch) := only_pool s _ id

/-- A record reaches the ring, waits, or is held in HIBERNATE. -/
theorem State.addRec_only (s : State) (r : Rec) : Only [.power, .pool, .recorder] s (s.addRec r) := by
  unfold State.addRec
  repeat' split
  · refine ⟨rfl, fun r hr => ?_, ⟨id, id, id, id⟩, fun _ => id⟩
    cases r <;> first | exact absurd (by decide) hr | rfl | exact fun _ => ⟨rfl, rfl, rfl⟩
  · refine ⟨rfl, fun r hr => ?_, ⟨id, id, id, id⟩, fun _ => id⟩
    cases r <;> first | exact absurd (by decide) hr | rfl | exact fun _ => ⟨rfl, rfl, rfl⟩
  · exact Only.refl _ s
  · exact (only_recorder s _ fun h k => by
      rw [Recorder.append_waiting]; exact Recorder.flush_waits _ _ _ h k).after (by decide) (Only.refl _ s)
  · exact (State.poolRefuse_only ..).after (by decide)
      ((only_recorder s _ fun h k => Recorder.wait_waits _ _ h k).after (by decide) (Only.refl _ s))

theorem State.poolTake_only (s : State) (ch n : Nat) : Only [.pool] s (s.poolTake ch n) :=
  only_pool s _ fun h => Pool.setHeld_balanced _ _ _ h

theorem State.poolGive_only (s : State) (ch n : Nat) : Only [.pool] s (s.poolGive ch n) :=
  only_pool s _ fun h => Pool.setHeld_balanced _ _ _ h

theorem State.syncCells_only (s : State) (k : Nat) : Only [.pool] s (s.syncCells k) :=
  only_pool s _ fun h => Pool.setHeld_balanced _ _ _ h

theorem State.breakLock_only (s : State) (d : Nat) : Only [.ident, .cfg, .config] s (s.breakLock d) := by
  unfold State.breakLock
  split
  · exact Only.refl _ _
  · refine ⟨rfl, fun r hr => ?_, ⟨id, id, id, id⟩, fun _ => id⟩
    cases r <;> first | exact absurd (by decide) hr | rfl | exact fun _ => ⟨rfl, rfl, rfl⟩

theorem State.breakStoredLock_only (s : State) : Only [.ident, .cfg] s s.breakStoredLock := by
  unfold State.breakStoredLock
  split
  · exact Only.refl _ _
  · refine ⟨rfl, fun r hr => ?_, ⟨id, id, id, id⟩, fun _ => id⟩
    cases r <;> first | exact absurd (by decide) hr | rfl | exact fun _ => ⟨rfl, rfl, rfl⟩

theorem State.clearBroken_only (s : State) (st : Nat) : Only [.cfg] s (s.clearBroken st) := by
  unfold State.clearBroken
  split
  · refine ⟨rfl, fun r hr => ?_, ⟨id, id, id, id⟩, fun _ => id⟩
    cases r <;> first | exact absurd (by decide) hr | rfl | exact fun _ => ⟨rfl, rfl, rfl⟩
  · exact Only.refl _ _

theorem State.flipBuffers_only (s : State) (n : Nat) : Only [.bufA, .bufB, .readB] s (s.flipBuffers n) := by
  unfold State.flipBuffers
  dsimp only
  split
  all_goals
    refine ⟨rfl, fun r hr => ?_, ⟨id, id, id, id⟩, fun _ => id⟩
    cases r <;> first | exact absurd (by decide) hr | rfl | exact fun _ => ⟨rfl, rfl, rfl⟩

theorem State.powerUsed_only (s : State) : Only [.doms] s s.powerUsed := by
  unfold State.powerUsed
  refine forEach_only _ _ (fun t d => ?_) (Only.refl _ _)
  split
  · exact State.setDom_only ..
  · exact Only.refl _ _

theorem State.powerCommitted_only (s : State) (m : ParamMap) : Only [.doms] s (s.powerCommitted m) := by
  have h := State.powerUsed_only { s with cfg := { s.cfg with active := m } }
  refine ⟨rfl, fun r hr => ?_, ⟨id, id, id, id⟩, fun _ => id⟩
  cases r <;> first
    | exact absurd (by decide) hr
    | rfl
    | exact fun _ => ⟨rfl, rfl, rfl⟩
    | exact h.2.1 .power (by decide)
    | exact h.2.1 .supply (by decide)

theorem State.installCommit_only (s : State) (w : CommitWait) : Only [.ident, .cfg, .config] s (s.installCommit w) :=
    by
  unfold State.installCommit
  exact (only_ident _ _).after (by decide) ((State.modCfg_only ..).after (by decide) (Only.refl _ _))

theorem View.event_stack (v : View) (n : Nat) (h : v.stack.length ≤ 16) : (View.event v n).stack.length ≤ 16 := h

theorem State.runTask_only (s : State) (p k n : Nat) : Only [.parts, .views, .doms] s (s.runTask p k n) := by
  unfold State.runTask
  exact (State.modPart_quiet _ _ _ (by exact fun _ => ⟨rfl, rfl, rfl⟩)).after (by decide)
    ((State.modView_only _ _ _ (by exact fun _ h => h)).after (by decide)
      ((State.awake_only ..).after (by decide) (Only.refl _ _)))

theorem State.moduleMemories (s : State) (l : Map Part) (g : Part → Part) (hg : ∀ x, Part.canon x → Part.canon (g x))
    (hl : l = s.parts.map (fun e => (e.1, g e.2))) (h : s.memoriesCanonical) (p : Nat) : Part.canon (l.get p) := by
  subst hl
  rcases Map.get_map s.parts g p with e | ⟨e, -⟩
  · rw [e]; exact hg _ (h p)
  · rw [e]; exact ⟨rfl, rfl, rfl⟩

/-- A module reset keeps the two retained buffers of a partition alone (R422). -/
theorem State.cleared_only (s : State) (b : Bool) :
    Only [.power, .supply, .ident, .cfg, .config, .tenants, .pool, .chains, .tiles, .bufA, .bufB, .readB, .bals,
        .strLimits, .groups, .disp, .parts, .memories, .slices, .views, .cmps, .pair, .time, .net, .loops, .injs,
        .trace, .valves, .fbs, .anas, .grpField, .grpLow, .dis, .dos, .fdpFault, .fdpTime, .cans, .safe, .recorder,
        .display, .doms] s (s.cleared b) := by
  refine ⟨rfl, fun r hr => ?_, ⟨fun h p => ?_, fun _ => by exact
      (by decide : ({} : Pool).free + ({} : Pool).transit + Pool.heldSum {} = 16384), fun _ v => Nat.zero_le _, fun _
      k => Nat.zero_le _⟩, fun t _ => ⟨⟨Nat.zero_le _, Nat.zero_le _⟩, rfl⟩⟩
  · cases r <;> first | exact absurd (by decide) hr | rfl
  · exact State.moduleMemories s _ Part.kept (fun x hx => ⟨rfl, hx.2.1, hx.2.2⟩) rfl h p

theorem State.railLost_only (s : State) :
    Only [.now, .out, .power, .supply, .ident, .cfg, .config, .tenants, .pool, .chains, .tiles, .bufA, .bufB, .readB,
        .strs, .ptos, .bals, .zones, .strLimits, .groups, .disp, .parts, .memories, .slices, .views, .cmps, .pair,
        .time, .net, .loops, .injs, .trace, .valves, .fbs, .anas, .grpField, .grpLow, .dis, .dos, .vsupLow,
        .fdpFault, .fdpTime, .cans, .safe, .recorder, .display, .doms] s s.railLost := by
  unfold State.railLost
  refine forEach_only _ _ (fun t x => ?_) ?_
  · exact (State.emit_only ..).after (by decide) (Only.refl _ _)
  · refine Only.after (k := [.now, .out, .power, .supply, .ident, .cfg, .config, .tenants, .pool, .chains, .tiles,
      .bufA, .bufB, .readB, .strs, .ptos, .bals, .zones, .strLimits, .groups, .disp, .parts, .memories, .slices,
      .views, .cmps, .pair, .time, .net, .loops, .injs, .trace, .valves, .fbs, .anas, .grpField, .grpLow, .dis, .dos,
      .vsupLow, .fdpFault, .fdpTime, .cans, .safe, .recorder, .display, .doms]) (t := s.cleared false) ?_ (by decide)
      ((State.cleared_only s false).after (by decide) (Only.refl _ _))
    refine ⟨rfl, fun r hr => ?_, ⟨id, id, id, id⟩, fun _ => id⟩
    cases r <;> first | exact absurd (by decide) hr | rfl | exact fun _ => ⟨rfl, rfl, rfl⟩

theorem State.shiftPart (s : State) (o t p : Nat) :
    (Map.get (s.parts.map (fun (e : Nat × Part) => (e.1, Part.shift o t e.2))) p).mem = (s.part p).mem ∧
    (Map.get (s.parts.map (fun (e : Nat × Part) => (e.1, Part.shift o t e.2))) p).retA = (s.part p).retA ∧
    (Map.get (s.parts.map (fun (e : Nat × Part) => (e.1, Part.shift o t e.2))) p).retB = (s.part p).retB := by
  rcases Map.get_map s.parts (Part.shift o t) p with e | ⟨e, e2⟩
  · rw [e]; exact ⟨rfl, rfl, rfl⟩
  · rw [e, State.part, e2]; exact ⟨rfl, rfl, rfl⟩

theorem State.shiftTenant (s : State) (f : Option Session → Option Session) (t : Nat) (h : Tenant.bounded (s.tenant
    t)) :
    Tenant.bounded (Map.get (s.tenants.map (fun (e : Nat × Tenant) => (e.1, { e.2 with session := f e.2.session })))
        t) := by
  rcases Map.get_map s.tenants (fun x => { x with session := f x.session }) t with e | ⟨e, -⟩
  · rw [e]; exact h
  · rw [e]; exact ⟨⟨Nat.zero_le _, Nat.zero_le _⟩, rfl⟩

theorem only_grpField_grpLow (s : State) (x : Map Nat) (y : Map Bool) :
    Only [.grpField, .grpLow] s { s with grpField := x, grpLow := y } := by
  refine ⟨rfl, fun r hr => ?_, ⟨id, id, id, id⟩, fun _ => id⟩
  cases r <;> first | exact absurd (by decide) hr | rfl | exact fun _ => ⟨rfl, rfl, rfl⟩

theorem only_dis_fbs (s : State) (x : Map Di) (y : Map Fb) : Only [.dis, .fbs] s { s with dis := x, fbs := y } := by
  refine ⟨rfl, fun r hr => ?_, ⟨id, id, id, id⟩, fun _ => id⟩
  cases r <;> first | exact absurd (by decide) hr | rfl | exact fun _ => ⟨rfl, rfl, rfl⟩

theorem only_cmps_display (s : State) (x : Map Cmp) (y : Display) :
    Only [.cmps, .display] s { s with cmps := x, display := y } := by
  refine ⟨rfl, fun r hr => ?_, ⟨id, id, id, id⟩, fun _ => id⟩
  cases r <;> first | exact absurd (by decide) hr | rfl | exact fun _ => ⟨rfl, rfl, rfl⟩

theorem evt_ends {l : List Region} (s : State) (time : Nat) (f : State → State)
    (hl : [Region.now, .out].all l.contains = true) (h : ∀ u, Only l u (f u)) : Ends l s (evt s time f) :=
  next_ends ((h _).after (by simp) ((State.at_only s time).after hl (Only.refl _ _)))

theorem evtOff_ends {l : List Region} (s : State) (off : Nat) (f : State → State)
    (hl : [Region.now, .out].all l.contains = true) (h : ∀ u, Only l u (f u)) : Ends l s (evtOff s off f) :=
  next_ends ((h _).after (by simp) ((State.toOffset_only s off).after hl (Only.refl _ _)))

theorem evt0_ends {l : List Region} (s : State) (f : State → State)
    (hl : [Region.out].all l.contains = true) (h : ∀ u, Only l u (f u)) : Ends l s (evt0 s f) :=
  next_ends ((h _).after (by simp) ((only_out s []).after hl (Only.refl _ _)))

theorem onPart_only {l : List Region} {s t : State} (r : Req) (f : Nat → State × Answer) (g : Only l s t)
    (h : ∀ k, Only l s (f k).1) : Only l s (onPart r t f).1 := by
  unfold onPart
  split
  · exact h _
  · exact g

/-- The held events of HIBERNATE are no part of the supply (R414). -/
theorem State.modPower_held (s : State) (l : List Rec) (n : Nat) :
    Only [.power] s (s.modPower (fun p => { p with heldEvents := l, heldLost := n })) := by
  refine ⟨rfl, fun r hr => ?_, ⟨id, id, id, id⟩, fun _ => id⟩
  cases r <;> first | exact absurd (by decide) hr | rfl | exact fun _ => ⟨rfl, rfl, rfl⟩

theorem State.modPart_at (s : State) (p : Nat) (f : Part → Part) (h : s.memoriesCanonical → Part.canon (f (s.part
    p))) :
    Only [.parts, .memories] s (s.modPart p f) := by
  refine ⟨rfl, fun r hr => ?_, ⟨fun hs q => ?_, id, id, id⟩, fun _ => id⟩
  · cases r <;> first | exact absurd (by decide) hr | rfl
  · rw [State.part_modPart]
    split
    · exact h hs
    · exact hs q

theorem foldl_wf {α : Type} (l : List α) (f : Memory → α → Memory) (m : Memory)
    (hf : ∀ m x, Memory.wf m = true → Memory.wf (f m x) = true) (h : Memory.wf m = true) : Memory.wf (l.foldl f m) =
        true := by
  induction l generalizing m with
  | nil => exact h
  | cons x r ih => exact ih _ (hf m x h)

theorem forceOutputs_wf (fs : List Force) (m : Memory) (h : Memory.wf m = true) : Memory.wf (forceOutputs fs m) =
    true := by
  refine foldl_wf fs _ m (fun m f hm => foldl_wf _ _ m (fun m off hm => ?_) hm) h
  split
  · exact Memory.write_wf _ _ _ hm
  · exact hm

theorem Part.retained_wf (x : Part) (h : Part.canon x) : Memory.wf (Part.retained x) = true := by
  unfold Part.retained
  split
  · exact h.2.2
  · exact h.2.1

theorem Part.loaded_wf (x : Part) (h : Part.canon x) : Memory.wf (Part.loaded x) = true := by
  unfold Part.loaded
  split
  · exact Part.retained_wf x h
  · exact Memory.writeWords_wf _ _ _ (Memory.writeWords_wf _ _ _ (Part.retained_wf x h))

theorem Part.afterReset_canon (x : Part) (h : Part.canon x) : Part.canon (Part.afterReset x) :=
  ⟨Part.loaded_wf x h, h.2.1, h.2.2⟩

/-- A change of a partition's memory alone that keeps it canonical. -/
theorem Part.mem_canon {x y : Part} (h : Part.canon x) (hm : Memory.wf y.mem = true) (ha : y.retA = x.retA)
    (hb : y.retB = x.retB) : Part.canon y := ⟨hm, by rw [ha]; exact h.2.1, by rw [hb]; exact h.2.2⟩

theorem State.setFwSlot_ident (s : State) (k : Nat) (x : FwSlot) : Only [.ident] s (s.setFwSlot k x) := by
  unfold State.setFwSlot
  split <;> exact (only_ident _ _).after (by decide) (Only.refl _ _)

theorem State.chooseSlot_ident (s : State) (b : BootCheck) : Only [.ident] s (s.chooseSlot b).1 := by
  unfold State.chooseSlot
  dsimp only
  repeat' split
  · exact Only.refl _ _
  · exact (only_ident _ _).after (by decide) (Only.refl _ _)
  · exact (only_ident _ _).after (by decide) ((State.setFwSlot_ident ..).after (by decide) (Only.refl _ _))



/-! ## The books of a tenant -/

/-- Credits, queued, executing and unread together (R162). -/
def Tenant.total (x : Tenant) : Nat := x.credits + x.queued.length + x.executing.length + x.unread.length

/-- Like Only, but nothing is said of tenant t's books. -/
def Aside (t : Nat) (l : List Region) (s u : State) : Prop :=
  u.pending = s.pending ∧ (∀ r : Region, r ∉ l → r.same s u) ∧ CoreKept s u ∧
  ∀ k : Nat, k ≠ t → Tenant.bounded (s.tenant k) → Tenant.bounded (u.tenant k)

theorem Only.aside {l : List Region} {s u : State} (t : Nat) (h : Only l s u) : Aside t l s u :=
  ⟨h.1, h.2.1, h.2.2.1, fun k _ => h.2.2.2 k⟩

theorem Aside.after {k l : List Region} {s t u : State} {n : Nat} (h : Aside n k t u) (hs : k.all l.contains = true)
    (g : Aside n l s t) : Aside n l s u := by
  have hm : ∀ r : Region, r ∉ l → r ∉ k := fun r hr hk => hr (by simpa using List.all_eq_true.mp hs r hk)
  exact ⟨h.1.trans g.1, fun r hr => Region.same_trans (g.2.1 r hr) (h.2.1 r (hm r hr)), CoreKept.trans g.2.2.1
      h.2.2.1,
    fun k hk x => h.2.2.2 k hk (g.2.2.2 k hk x)⟩

theorem Aside.only {l : List Region} {s u : State} {t : Nat} (h : Aside t l s u)
    (hb : Tenant.bounded (s.tenant t) → Tenant.bounded (u.tenant t)) : Only l s u := by
  refine ⟨h.1, h.2.1, h.2.2.1, fun k => ?_⟩
  by_cases e : k = t
  · subst e; exact hb
  · exact h.2.2.2 k e

theorem State.tenant_modTenant (s : State) (t : Nat) (f : Tenant → Tenant) : (s.modTenant t f).tenant t = f (s.tenant
    t) := by
  simp [State.modTenant, State.setTenant, State.tenant]

theorem State.modTenant_aside (s : State) (t : Nat) (f : Tenant → Tenant) : Aside t [.tenants, .pool] s (s.modTenant
    t f) := by
  refine ⟨rfl, fun r hr => ?_, ⟨id, Pool.setHeld_balanced _ _ _, id, id⟩, fun k e hk => ?_⟩
  · cases r <;> first | exact absurd (by decide) hr | rfl | exact fun _ => ⟨rfl, rfl, rfl⟩
  · simpa [State.modTenant, State.setTenant, State.tenant, Map.get_set_other _ _ _ _ e] using hk

/-- A change of tenant t that keeps its books. -/
theorem State.modTenant_at (s : State) (t : Nat) (f : Tenant → Tenant)
    (h : Tenant.bounded (s.tenant t) → Tenant.bounded (f (s.tenant t))) : Only [.tenants, .pool] s (s.modTenant t f)
        :=
  State.setTenant_only s t _ h

theorem Only.tenant_eq {l : List Region} {s u : State} (h : Only l s u) (t : Nat) (hl : l.contains .tenants = false) :
    u.tenant t = s.tenant t := by
  have : u.tenants = s.tenants := h.2.1 .tenants (by simpa using hl)
  simp [State.tenant, this]

theorem State.signal_only (s : State) (v : Nat) : Only [.out, .doms] s (s.signal v) := by
  unfold State.signal
  exact doIf_only _ _ (fun t => (State.emit_only ..).after (by decide) ((State.awake_only ..).after (by decide)
      (Only.refl _ _)))
    (Only.refl _ _)

theorem State.tryTask_only (s : State) (p pr k : Nat) : Only [.parts, .views, .doms] s (s.tryTask p pr k) := by
  unfold State.tryTask
  repeat' split
  all_goals first | exact Only.refl _ _ | exact State.runTask_only ..

theorem State.runTasks_only (s : State) (p : Nat) : Only [.parts, .views, .doms] s (s.runTasks p) := by
  unfold State.runTasks
  split
  · exact forEach_only _ _ (fun t _ => forEach_only _ _ (fun u _ => State.tryTask_only ..) (Only.refl _ _))
      (Only.refl _ _)
  · exact Only.refl _ _

theorem State.raise_only (s : State) (v n : Nat) : Only [.out, .parts, .views, .doms] s (s.raise v n) := by
  unfold State.raise
  dsimp only
  repeat' split
  · exact (State.signal_only ..).after (by decide) ((State.runTasks_only ..).after (by decide)
      ((State.modView_only _ _ _ (by exact fun _ h => h)).after (by decide) (Only.refl _ _)))
  · exact (State.signal_only ..).after (by decide)
      ((State.modView_only _ _ _ (by exact fun _ h => h)).after (by decide) (Only.refl _ _))
  · exact Only.refl _ _

theorem State.event_only (s : State) (v n : Nat) : Only [.out, .parts, .views, .doms] s (s.event v n) :=
  doIf_only _ _ (fun t => (State.raise_only t v n).after (by decide) (Only.refl _ _)) (Only.refl _ _)

theorem State.windowEvent_only (s : State) (t n : Nat) : Only [.out, .parts, .views, .doms] s (s.windowEvent t n) :=
    by
  unfold State.windowEvent
  split
  · exact State.event_only ..
  · exact Only.refl _ _

/-- The regions that a tenant's books and their events are in. -/
abbrev bookSet : List Region := [.out, .tenants, .pool, .parts, .views, .doms]

theorem State.toUnread_aside (s : State) (t : Nat) (r : Reply) :
    Aside t bookSet s (s.toUnread t r) ∧ (s.toUnread t r).tenant t =
      Tenant.carries { s.tenant t with unread := (s.tenant t).unread ++ [{ words := replyWords r }] } s.now := by
  unfold State.toUnread
  dsimp only
  generalize hf : (fun x : Tenant => Tenant.carries { x with unread := x.unread ++ [{ words := replyWords r }] }
      s.now) = f
  have h1 := State.modTenant_aside s t f
  have h2 := State.tenant_modTenant s t f
  have h3 := State.emit_only (s.modTenant t f) (.reply t r)
  have hr : f (s.tenant t) =
    Tenant.carries { s.tenant t with unread := (s.tenant t).unread ++ [{ words := replyWords r }] } s.now := by rw [←
        hf]
  rw [← hr]
  cases (s.tenant t).unread.isEmpty
  · exact ⟨(h3.aside t).after (by decide) (h1.after (by decide) ((Only.refl _ _).aside t)),
      (h3.tenant_eq t (by decide)).trans h2⟩
  · have h4 := State.windowEvent_only ((s.modTenant t f).emit (.reply t r)) t 288
    exact ⟨(h4.aside t).after (by decide) ((h3.aside t).after (by decide) (h1.after (by decide) ((Only.refl _
        _).aside t))),
      (h4.tenant_eq t (by decide)).trans ((h3.tenant_eq t (by decide)).trans h2)⟩

/-- A reply to tenant t, with one of its 32 parts in no hand before. -/
theorem State.toUnread_only {s u : State} (t : Nat) (r : Reply) (a : Aside t bookSet s u)
    (h : Tenant.bounded (s.tenant t) →
      (u.tenant t).cache.length ≤ 32 ∧ (u.tenant t).ended.length ≤ 4 ∧ Tenant.total (u.tenant t) = 31) :
    Only bookSet s (u.toUnread t r) := by
  have h1 := State.toUnread_aside u t r
  refine (h1.1.after (by decide) a).only (fun hb => ?_)
  obtain ⟨x, y, z⟩ := h hb
  rw [h1.2]
  refine ⟨⟨x, y⟩, ?_⟩
  simp only [Tenant.total, Tenant.carries, List.length_append, List.length_cons, List.length_nil] at z ⊢
  omega

/-- A change of tenant t and a reply for it that together keep its books. -/
theorem State.modTenant_toUnread (s : State) (t : Nat) (f : Tenant → Tenant) (r : Reply)
    (h : Tenant.bounded (s.tenant t) → (f (s.tenant t)).cache.length ≤ 32 ∧ (f (s.tenant t)).ended.length ≤ 4 ∧
      Tenant.total (f (s.tenant t)) = 31) : Only bookSet s ((s.modTenant t f).toUnread t r) :=
  State.toUnread_only t r ((State.modTenant_aside s t f).after (by decide) ((Only.refl _ _).aside t))
    (by rw [State.tenant_modTenant]; exact h)

theorem State.enqueue_only (s : State) (t : Nat) (p : Packet) : Only [.tenants, .pool, .doms] s (s.enqueue t p) := by
  unfold State.enqueue
  dsimp only
  split
  · exact Only.refl _ _
  · rename_i h
    have ha := State.awake_only s 33
    have ht := ha.tenant_eq t (by decide)
    refine (State.modTenant_at _ t _ (fun hb => ⟨hb.1, ?_⟩)).after (by decide) (ha.after (by decide) (Only.refl _ _))
    simp only [Bool.or_eq_true, decide_eq_true_eq, not_or] at h
    have := hb.2
    rw [ht] at this ⊢
    simp only [List.length_append, List.length_cons, List.length_nil]
    omega

theorem Tenant.addCache_same (x : Tenant) (seq op : Nat) (r : Reply) :
    (Tenant.addCache x seq op r).credits = x.credits ∧ (Tenant.addCache x seq op r).queued = x.queued ∧
    (Tenant.addCache x seq op r).executing = x.executing ∧ (Tenant.addCache x seq op r).unread = x.unread ∧
    (Tenant.addCache x seq op r).ended = x.ended ∧
    (x.cache.length ≤ 32 → (Tenant.addCache x seq op r).cache.length ≤ 32) := by
  unfold Tenant.addCache
  dsimp only
  split
  · exact ⟨rfl, rfl, rfl, rfl, rfl, id⟩
  · exact ⟨rfl, rfl, rfl, rfl, rfl, fun _ => by simpa using Nat.min_le_left _ _⟩

/-- A malformed packet at the head of the queue becomes an unread reply (R158, R165). -/
theorem State.answerMalformed_only (s : State) (t : Nat) (p : Packet) (h : (s.tenant t).queued ≠ []) :
    Only bookSet s (s.answerMalformed t p) := by
  have hl : (s.tenant t).queued.length = (s.tenant t).queued.tail.length + 1 := by
    cases e : (s.tenant t).queued with
    | nil => exact absurd e h
    | cons x r => rfl
  have ha : ∀ n f, Only bookSet s ((s.modTenant t (fun x =>
      { x with queued := x.queued.tail, served := n })).toUnread t f) :=
    fun n f => State.modTenant_toUnread s t _ f fun hb => ⟨hb.1.1, hb.1.2, by
      have := hb.2
      simp only [Tenant.total]
      omega⟩
  unfold State.answerMalformed
  dsimp only
  repeat' split
  all_goals first
    | exact ha _ _
    | skip
  refine State.toUnread_only t _ ((State.modTenant_aside ..).after (by decide) ((State.modTenant_aside ..).after
      (by decide)
    ((Only.refl _ _).aside t))) (fun hb => ?_)
  rw [State.tenant_modTenant, State.tenant_modTenant]
  obtain ⟨a, b, c, d, e, f⟩ := Tenant.addCache_same
    { s.tenant t with queued := (s.tenant t).queued.tail, served := s.nextServed } p.req.seq p.opcode
    { status := malformedStatus s p, flags := p.req.flags &&& 8, seq := p.req.seq, tag := p.req.tag }
  refine ⟨f hb.1.1, by rw [e]; exact hb.1.2, ?_⟩
  have := hb.2
  simp only [Tenant.total, a, b, c, d]
  omega

theorem State.drain_only (fuel : Nat) (s : State) (t : Nat) : Only bookSet s (State.drain fuel s t) := by
  induction fuel generalizing s with
  | zero => exact Only.refl _ _
  | succ n ih =>
    unfold State.drain
    split
    · rename_i p r e
      split
      · exact (ih _).after (by decide) (State.answerMalformed_only s t p (by rw [e]; exact List.cons_ne_nil _ _))
      · exact Only.refl _ _
    · exact Only.refl _ _

theorem State.readSession_only (fuel : Nat) (s : State) (t : Nat) :
    Only [.tenants, .pool, .doms] s (State.readSession fuel s t) := by
  induction fuel generalizing s with
  | zero => exact Only.refl _ _
  | succ n ih =>
    unfold State.readSession
    repeat' split
    · exact Only.refl _ _
    · exact Only.refl _ _
    · exact Only.refl _ _
    · exact (ih _).after (by decide) ((State.enqueue_only ..).after (by decide)
        ((State.modTenant_only _ _ _ (by exact fun _ h => h)).after (by decide) (Only.refl _ _)))

theorem State.creditBack_aside (s : State) (t : Nat) :
    Aside t bookSet s (s.creditBack t) ∧
    ((s.tenant t).cache.length ≤ 32 ∧ (s.tenant t).ended.length ≤ 4 ∧ Tenant.total (s.tenant t) = 31 →
      Tenant.bounded ((s.creditBack t).tenant t)) := by
  have h1 := State.modTenant_aside s t (fun x => { x with credits := x.credits + 1 })
  have h2 := State.tenant_modTenant s t (fun x => { x with credits := x.credits + 1 })
  have h3 := State.windowEvent_only (s.modTenant t (fun x => { x with credits := x.credits + 1 })) t 289
  have h4 : ((s.modTenant t (fun x => { x with credits := x.credits + 1 })).windowEvent t 289).tenant t =
      { s.tenant t with credits := (s.tenant t).credits + 1 } := (h3.tenant_eq t (by decide)).trans h2
  have h5 : Aside t bookSet s ((s.modTenant t (fun x => { x with credits := x.credits + 1 })).windowEvent t 289) :=
    (h3.aside t).after (by decide) (h1.after (by decide) ((Only.refl _ _).aside t))
  unfold State.creditBack
  dsimp only
  generalize hg : (s.modTenant t (fun x => { x with credits := x.credits + 1 })).windowEvent t 289 = s2 at *
  have key : ∀ u, Only bookSet s2 u → Aside t bookSet s u ∧
      ((s.tenant t).cache.length ≤ 32 ∧ (s.tenant t).ended.length ≤ 4 ∧ Tenant.total (s.tenant t) = 31 →
        Tenant.bounded (u.tenant t)) := fun u hu => ⟨(hu.aside t).after (by decide) h5, fun hx => hu.2.2.2 t (by
      rw [h4]
      refine ⟨⟨hx.1, hx.2.1⟩, ?_⟩
      have := hx.2.2
      simp only [Tenant.total] at this
      simp only
      omega)⟩
  split
  · exact key _ ((State.drain_only ..).after (by decide) ((State.enqueue_only ..).after (by decide)
      ((State.modTenant_only _ _ _ (by exact fun _ h => h)).after (by decide) (Only.refl _ _))))
  · exact key _ ((State.drain_only ..).after (by decide) ((State.readSession_only ..).after (by decide) (Only.refl _
      _)))

/-- A change of tenant t that gives a credit back, and the credit. -/
theorem State.modTenant_creditBack (s : State) (t : Nat) (f : Tenant → Tenant)
    (h : Tenant.bounded (s.tenant t) → (f (s.tenant t)).cache.length ≤ 32 ∧ (f (s.tenant t)).ended.length ≤ 4 ∧
      Tenant.total (f (s.tenant t)) = 31) :
    Only bookSet s ((s.modTenant t f).creditBack t) := by
  obtain ⟨a, b⟩ := State.creditBack_aside (s.modTenant t f) t
  rw [State.tenant_modTenant] at b
  exact (a.after (by decide) ((State.modTenant_aside s t f).after (by decide) ((Only.refl _ _).aside t))).only
    (fun hb => b (h hb))

theorem takeExec_length (l : List Running2) (seq : Nat) (e : Running2) (r : List Running2) (h : takeExec l seq = some
    (e, r)) :
    l.length = r.length + 1 := by
  induction l generalizing e r with
  | nil => cases h
  | cons x l ih =>
    unfold takeExec at h
    split at h
    · cases h; rfl
    · split at h
      · cases h
      · rename_i y r' hy
        cases h
        simp [ih _ _ hy]

/-- An executing request leaves the list, and its reply is cached and unread. -/
theorem State.replied_only (s : State) (t : Nat) (rest : List Running2) (seq op : Nat) (r w : Reply) (g : Tenant →
    Tenant)
    (hg : ∀ x, (g x).cache = x.cache ∧ (g x).ended = x.ended ∧ (g x).credits = x.credits ∧ (g x).queued = x.queued ∧
      (g x).executing = x.executing ∧ (g x).unread = x.unread)
    (hr : (s.tenant t).executing.length = rest.length + 1) :
    Only bookSet s
      (((s.modTenant t (fun x => { x with executing := rest })).modTenant t (fun x => g (Tenant.addCache x seq op
          w))).toUnread t r) := by
  refine State.toUnread_only t r ((State.modTenant_aside ..).after (by decide) ((State.modTenant_aside ..).after
      (by decide)
    ((Only.refl _ _).aside t))) (fun hb => ?_)
  rw [State.tenant_modTenant, State.tenant_modTenant]
  obtain ⟨a, b, c, d, e, f⟩ := hg (Tenant.addCache { s.tenant t with executing := rest } seq op w)
  obtain ⟨a', b', c', d', e', f'⟩ := Tenant.addCache_same { s.tenant t with executing := rest } seq op w
  refine ⟨by rw [a]; exact f' hb.1.1, by rw [b, e']; exact hb.1.2, ?_⟩
  have := hb.2
  simp only [Tenant.total, c, d, e, f, a', b', c', d']
  omega

theorem State.finish_only (s : State) (t seq status : Nat) (payload : List Word) (flags : Nat) :
    Only bookSet s (s.finish t seq status payload flags) := by
  unfold State.finish
  split
  · exact Only.refl _ _
  · rename_i e rest he
    have hl := takeExec_length _ _ _ _ he
    dsimp only
    split
    · refine State.modTenant_creditBack s t _ (fun hb => ⟨hb.1.1, hb.1.2, ?_⟩)
      have := hb.2
      simp only [Tenant.total]
      omega
    · exact (State.drain_only ..).after (by decide)
        (State.replied_only s t rest seq _ _ _ id (fun x => ⟨rfl, rfl, rfl, rfl, rfl, rfl⟩) hl)

theorem State.startStream_only (s : State) (t : Nat) (st : OutStream) : Only bookSet s (s.startStream t st) := by
  unfold State.startStream
  dsimp only
  split
  · exact Only.refl _ _
  · rename_i e rest he
    have hl := takeExec_length _ _ _ _ he
    split
    · refine State.modTenant_creditBack s t _ (fun hb => ⟨hb.1.1, hb.1.2, ?_⟩)
      have := hb.2
      simp only [Tenant.total]
      omega
    · exact (State.drain_only ..).after (by decide) (State.replied_only s t rest _ _ _ _ (fun x =>
        { x with outStream := _ })
        (fun x => ⟨rfl, rfl, rfl, rfl, rfl, rfl⟩) hl)

theorem State.nextOf_only (s : State) (t : Nat) (l : List OutStream) : Only bookSet s (s.nextOf t l) := by
  induction l generalizing s with
  | nil => exact Only.refl _ _
  | cons st r ih =>
    unfold State.nextOf
    split
    · exact Only.refl _ _
    · exact (ih _).after (by decide) ((State.startStream_only ..).after (by decide)
        ((State.modTenant_only _ _ _ (by exact fun _ h => h)).after (by decide) (Only.refl _ _)))

theorem State.nextStream_only (s : State) (t : Nat) : Only bookSet s (s.nextStream t) := State.nextOf_only s t _

theorem State.abortStream_only (s : State) (t : Nat) : Only bookSet s (s.abortStream t) := by
  unfold State.abortStream
  split
  · exact Only.refl _ _
  · split
    · exact (State.modTenant_only _ _ _ (by exact fun _ h => h)).after (by decide) (Only.refl _ _)
    · rename_i hc
      refine (State.nextStream_only ..).after (by decide) (State.modTenant_toUnread s t _ _ (fun hb => ⟨hb.1.1,
          hb.1.2, ?_⟩))
      have := hb.2
      simp only [Tenant.total]
      omega

theorem State.startHead_only (s : State) (t : Nat) (p : Packet) : Only [.tenants, .pool] s (s.startHead t p) := by
  unfold State.startHead
  split
  · exact Only.refl _ _
  · rename_i h
    refine State.modTenant_at s t _ (fun hb => ⟨hb.1, ?_⟩)
    have := hb.2
    cases hq : (s.tenant t).queued with
    | nil => simp [hq] at h
    | cons x r =>
      rw [hq] at this
      simp only [List.length_cons, List.tail_cons, List.length_append, List.length_nil] at this ⊢
      omega

theorem State.headDone_only (s : State) (t : Nat) : Only bookSet s (s.headDone t) := by
  unfold State.headDone
  split
  · exact Only.refl _ _
  · rename_i h
    refine State.modTenant_creditBack s t _ (fun hb => ⟨hb.1.1, hb.1.2, ?_⟩)
    have := hb.2
    cases hq : (s.tenant t).unread with
    | nil => simp [hq] at h
    | cons x r =>
      rw [hq] at this
      simp only [Tenant.total, List.length_cons, List.tail_cons] at this ⊢
      omega

theorem State.dropHead_only (s : State) (t : Nat) : Only bookSet s (s.dropHead t) := by
  unfold State.dropHead
  split
  · exact Only.refl _ _
  · rename_i h
    refine State.modTenant_creditBack s t _ (fun hb => ⟨hb.1.1, hb.1.2, ?_⟩)
    have := hb.2
    cases hq : (s.tenant t).queued with
    | nil => simp [hq] at h
    | cons x r =>
      rw [hq] at this
      simp only [Tenant.total, List.length_cons, List.tail_cons] at this ⊢
      omega

theorem State.dropRequest_only (s : State) (t seq : Nat) : Only bookSet s (s.dropRequest t seq) := by
  unfold State.dropRequest
  split
  · exact Only.refl _ _
  · rename_i e rest he
    have hl := takeExec_length _ _ _ _ he
    refine State.modTenant_creditBack s t _ (fun hb => ⟨hb.1.1, hb.1.2, ?_⟩)
    have := hb.2
    simp only [Tenant.total]
    omega

theorem State.holderLost_only (s : State) (t d : Nat) : Only [.ident, .cfg, .config] s (s.holderLost t d) := by
  unfold State.holderLost
  split
  · exact (State.breakLock_only ..).after (by decide) (Only.refl _ _)
  · exact Only.refl _ _

theorem State.tenantReset_only (s : State) (t d : Nat) :
    Only [.out, .ident, .cfg, .config, .tenants, .pool, .parts, .views, .doms] s (s.tenantReset t d) := by
  have key : ∀ x, (Tenant.bounded (s.tenant t) → Tenant.bounded x) →
      Only [.out, .ident, .cfg, .config, .tenants, .pool, .parts, .views, .doms] s ((s.setTenant t x).holderLost t d)
          :=
    fun x hx => (State.holderLost_only ..).after (by decide) ((State.setTenant_only s t x hx).after (by decide)
        (Only.refl _ _))
  have tail : ∀ (b : Nat) u, Only [.out, .ident, .cfg, .config, .tenants, .pool, .parts, .views, .doms] s u →
      Only [.out, .ident, .cfg, .config, .tenants, .pool, .parts, .views, .doms] s (if b = 0 then u else
          u.windowEvent t 289) := by
    intro b u hu
    split
    · exact hu
    · exact (State.windowEvent_only ..).after (by decide) hu
  unfold State.tenantReset
  refine tail _ _ (key _ ?_)
  refine fun hb => ⟨⟨?_, Nat.zero_le _⟩, ?_⟩
  · dsimp only
    split
    · exact Nat.zero_le _
    · exact hb.1.1
  · have := hb.2
    simp only [List.length_map, List.length_nil]
    generalize hF : List.filter _ (s.tenant t).executing = F
    have hl : F.length ≤ (s.tenant t).executing.length := hF ▸ List.length_filter_le _ _
    omega

/-! ## Operations over others -/

theorem State.cancelWrite_only (s : State) (a1 : Nat) :
    Only [.out, .tenants, .pool, .parts, .views, .doms] s (State.cancelWrite s a1) := by
  unfold State.cancelWrite
  split
  · exact Only.refl _ _
  · exact (State.finish_only ..).after (by decide) ((State.modTenant_only _ _ _
      (by exact fun _ h => Tenant.addEnded_bounded _ _ h)).after (by decide) (Only.refl _ _))

theorem cancelBody_only (a0 : Nat) (a1 : Req) (s : State) :
    Only [.out, .tenants, .pool, .parts, .views, .doms] s (cancelBody a0 a1 s).1 := by
  unfold cancelBody
  split
  · dsimp only
    exact (State.abortStream_only ..).after (by decide) (Only.refl _ _)
  · split
    · dsimp only
      exact (State.cancelWrite_only ..).after (by decide) (Only.refl _ _)
    · dsimp only
      exact Only.refl _ _

theorem State.leapPulse_only (s : State) (a1 : Nat) :
    Only [.out, .fbs] s (State.leapPulse s a1) := by
  unfold State.leapPulse
  split
  · exact (State.emit_only ..).after (by decide) ((State.modFb_only ..).after (by decide) (Only.refl _ _))
  · exact Only.refl _ _

theorem State.leapFire_only (s : State) (a1 : Nat) :
    Only [.out, .parts, .views, .fbs, .doms] s (State.leapFire s a1) := by
  unfold State.leapFire
  dsimp only
  refine (State.leapPulse_only ..).after (by decide) ?_
  split
  · exact (State.event_only ..).after (by decide) ((State.modFb_only ..).after (by decide) (Only.refl _ _))
  · exact (State.modFb_only ..).after (by decide) (Only.refl _ _)

theorem State.leapLoop_only (a0 : Nat) (s : State) (a2 : Nat) :
    Only [.out, .parts, .views, .fbs, .doms] s (State.leapLoop a0 s a2) := by
  unfold State.leapLoop
  dsimp only
  split
  · exact (State.modFb_only ..).after (by decide) (Only.refl _ _)
  · split
    · exact (State.leapLoop_only ..).after (by decide) ((State.leapFire_only ..).after (by decide) (Only.refl _ _))
    · exact (State.modFb_only ..).after (by decide) (Only.refl _ _)

theorem State.leapCheck_only (s : State) (a1 : Nat) :
    Only [.out, .parts, .views, .fbs, .doms] s (State.leapCheck s a1) := by
  unfold State.leapCheck
  exact (State.leapLoop_only ..).after (by decide) (Only.refl _ _)

theorem State.leapLoad_only (s : State) (a1 : Nat) (a2 : Word) (a3 : Bool) :
    Only [.out, .parts, .views, .fbs, .doms] s (State.leapLoad s a1 a2 a3) := by
  unfold State.leapLoad
  dsimp only
  refine doIf_only _ _ (fun t => ?_) ?_
  · exact (State.leapCheck_only ..).after (by decide) (Only.refl _ _)
  · exact (State.modFb_only ..).after (by decide) (Only.refl _ _)

theorem State.fbForward_only (s : State) (a1 : Nat) (a2 : String) (a3 : List Word) :
    Only [.out] s (State.fbForward s a1 a2 a3) := by
  unfold State.fbForward
  refine doIf_only _ _ (fun t => ?_) ?_
  · exact (State.emit_only ..).after (by decide) (Only.refl _ _)
  · exact Only.refl _ _

theorem leapBody_only (a0 : Req) (s : State) :
    Only [.out, .parts, .views, .fbs, .doms] s (leapBody a0 s).1 := by
  unfold leapBody
  dsimp only
  split
  · dsimp only
    exact Only.refl _ _
  · split
    · dsimp only
      exact Only.refl _ _
    · split
      · dsimp only
        exact (State.leapLoad_only ..).after (by decide) (Only.refl _ _)
      · dsimp only
        exact (State.fbForward_only ..).after (by decide) ((State.modFb_only ..).after (by decide) (Only.refl _ _))

theorem State.loopChange_only {l : List Region} {s t : State} (i : Nat) (f : State → State)
    (hl : [Region.out, .parts, .views, .doms].all l.contains = true) (h : Only l s (f t)) : Only l s (t.loopChange i
        f) := by
  unfold State.loopChange
  dsimp only
  split
  · exact (State.event_only ..).after hl h
  · exact h

theorem State.loopStart_only (s : State) (a1 : Nat) :
    Only [.out, .parts, .views, .loops, .doms] s (State.loopStart s a1) := by
  unfold State.loopStart
  refine State.loopChange_only _ _ (by decide) ?_
  split
  dsimp only
  exact (State.modLoop_only ..).after (by decide) (Only.refl _ _)

theorem State.loopResume_only (s : State) (a1 : Nat) :
    Only [.out, .parts, .views, .loops, .doms] s (State.loopResume s a1) := by
  unfold State.loopResume
  refine State.loopChange_only _ _ (by decide) ?_
  exact (State.modLoop_only ..).after (by decide) (Only.refl _ _)

theorem State.record_only (s : State) (a1 : Nat) (a2 : Nat) (a3 : Nat) (a4 : List Word) :
    Only [.power, .pool, .recorder] s (State.record s a1 a2 a3 a4) := by
  unfold State.record
  exact (State.addRec_only ..).after (by decide) (Only.refl _ _)

theorem State.injRecord_only (s : State) (a1 : Nat) (a2 : Nat) (a3 : Nat) :
    Only [.power, .pool, .recorder] s (State.injRecord s a1 a2 a3) := by
  unfold State.injRecord
  exact (State.record_only ..).after (by decide) (Only.refl _ _)

theorem State.injEnd_only (s : State) (a1 : Nat) (a2 : Nat) :
    Only [.power, .pool, .injs, .recorder] s (State.injEnd s a1 a2) := by
  unfold State.injEnd
  dsimp only
  refine doIf_only _ _ (fun t => ?_) ?_
  · exact (State.injRecord_only ..).after (by decide) (Only.refl _ _)
  · exact (State.modInj_only ..).after (by decide) (Only.refl _ _)

theorem State.injEndAll_only (s : State) (a1 : Nat) :
    Only [.power, .pool, .injs, .recorder] s (State.injEndAll s a1) := by
  unfold State.injEndAll
  refine forEach_only _ _ (fun t x => ?_) ?_
  · split
    · exact (State.injEnd_only ..).after (by decide) (Only.refl _ _)
    · exact Only.refl _ _
  · exact Only.refl _ _

theorem State.loopStop_only (s : State) (a1 : Nat) :
    Only [.out, .power, .pool, .parts, .views, .loops, .injs, .recorder, .doms] s (State.loopStop s a1) := by
  unfold State.loopStop
  dsimp only
  refine State.loopChange_only _ _ (by decide) ?_
  exact (State.modLoop_only ..).after (by decide) ((State.injEndAll_only ..).after (by decide) (Only.refl _ _))

theorem loopCtrl_only (a0 : Nat) (a1 : Req) (s : State) :
    Only [.out, .power, .pool, .parts, .views, .loops, .injs, .recorder, .doms] s (loopCtrl a0 a1 s).1 := by
  unfold loopCtrl
  dsimp only
  split
  · dsimp only
    exact Only.refl _ _
  · split
    · dsimp only
      exact Only.refl _ _
    · split
      · dsimp only
        exact Only.refl _ _
      · split
        · dsimp only
          split
          · exact (State.loopStart_only ..).after (by decide) (Only.refl _ _)
          · exact (State.loopResume_only ..).after (by decide) (Only.refl _ _)
          · exact Only.refl _ _
        · split
          · dsimp only
            split
            · refine State.loopChange_only _ _ (by decide) ?_
              exact (State.modLoop_only ..).after (by decide) ((State.injEndAll_only ..).after (by decide) (Only.refl
                  _ _))
            · refine State.loopChange_only _ _ (by decide) ?_
              exact (State.modLoop_only ..).after (by decide) ((State.injEndAll_only ..).after (by decide) (Only.refl
                  _ _))
            · exact Only.refl _ _
          · dsimp only
            split
            · exact (State.loopStop_only ..).after (by decide) (Only.refl _ _)
            · exact (State.loopStop_only ..).after (by decide) (Only.refl _ _)
            · exact Only.refl _ _

theorem openStream_only (a0 : Nat) (a1 : Req) (s : State) :
    Only [.tenants, .pool] s (openStream a0 a1 s).1 := by
  unfold openStream
  split
  · dsimp only
    exact Only.refl _ _
  · split
    · dsimp only
      exact Only.refl _ _
    · split
      · dsimp only
        exact Only.refl _ _
      · split
        · dsimp only
          exact Only.refl _ _
        · dsimp only
          exact (State.modTenant_only _ _ _ (by exact fun _ h => h)).after (by decide) (Only.refl _ _)

theorem State.ovrRecord_only (s : State) :
    Only [.power, .pool, .recorder] s (State.ovrRecord s) := by
  unfold State.ovrRecord
  exact (State.record_only ..).after (by decide) (Only.refl _ _)

theorem State.cutGrant_only (s : State) (a1 : Nat) (a2 : Nat) :
    Only [.power, .pool, .groups, .recorder] s (State.cutGrant s a1 a2) := by
  unfold State.cutGrant
  split
  · exact Only.refl _ _
  · exact (State.record_only ..).after (by decide) ((State.modGroup_only ..).after (by decide) (Only.refl _ _))

theorem State.cutAll_only (s : State) :
    Only [.power, .pool, .groups, .recorder] s (State.cutAll s) := by
  unfold State.cutAll
  refine forEach_only _ _ (fun t x => ?_) ?_
  · exact (State.cutGrant_only ..).after (by decide) (Only.refl _ _)
  · exact Only.refl _ _

theorem State.enterOvr_only (s : State) (a1 : OvrState) :
    Only [.power, .pool, .groups, .disp, .recorder] s (State.enterOvr s a1) := by
  unfold State.enterOvr
  dsimp only
  split
  · exact (State.ovrRecord_only ..).after (by decide) ((State.modDisp_only ..).after (by decide) (Only.refl _ _))
  · exact (State.cutAll_only ..).after (by decide) ((State.ovrRecord_only ..).after (by decide) ((State.modDisp_only
      ..).after (by decide) (Only.refl _ _)))
  · exact (State.modDisp_only ..).after (by decide) (Only.refl _ _)

theorem overrideBody_only (a0 : Req) (s : State) :
    Only [.power, .pool, .groups, .disp, .recorder] s (overrideBody a0 s).1 := by
  unfold overrideBody
  split
  · dsimp only
    exact Only.refl _ _
  · dsimp only
    split
    · split
      · exact (State.enterOvr_only ..).after (by decide) (Only.refl _ _)
      · exact (State.enterOvr_only ..).after (by decide) (Only.refl _ _)
      · exact (State.modDisp_only ..).after (by decide) (Only.refl _ _)
      · exact Only.refl _ _
    · split
      · exact (State.enterOvr_only ..).after (by decide) (Only.refl _ _)
      · exact (State.enterOvr_only ..).after (by decide) (Only.refl _ _)
      · exact Only.refl _ _

theorem State.partStart_only (s : State) (a1 : Nat) :
    Only [.parts] s (State.partStart s a1) := by
  unfold State.partStart
  split
  · exact (State.modPart_quiet _ _ _ (by exact fun _ => ⟨rfl, rfl, rfl⟩)).after (by decide) (Only.refl _ _)
  · exact Only.refl _ _

theorem scanRunBody_only (a0 : Req) (s : State) :
    Only [.parts, .memories] s (scanRunBody a0 s).1 := by
  unfold scanRunBody
  refine onPart_only _ _ (Only.refl _ _) (fun k => ?_)
  have h : ∀ f : Nat → Bool, Only [.parts, .memories] s (s.modPart k (fun x => { x with mem := x.mem.restrict f }))
      := fun f =>
    (State.modPart_only _ _ _ (by exact fun x h => Part.mem_canon h (Memory.restrict_wf _ _ h.1) rfl rfl)).after
        (by decide) (Only.refl _ _)
  split
  · exact Only.refl _ _
  · exact Only.refl _ _
  · exact Only.refl _ _
  · exact Only.refl _ _
  · split
    · exact Only.refl _ _
    · split
      · exact Only.refl _ _
      · dsimp only
        split
        · exact (State.partStart_only ..).after (by decide) (h _)
        · exact (State.partStart_only ..).after (by decide) (Only.refl _ _)

theorem State.syncPtos_only (s : State) :
    Only [.out, .ptos] s (State.syncPtos s) := by
  unfold State.syncPtos
  refine forEach_only _ _ (fun t x => ?_) ?_
  · dsimp only
    split
    · exact Only.refl _ _
    · exact (State.emit_only ..).after (by decide) ((State.modPto_only ..).after (by decide) (Only.refl _ _))
  · exact Only.refl _ _

theorem State.stringLost_only (s : State) (a1 : Nat) :
    Only [.groups] s (State.stringLost s a1) := by
  unfold State.stringLost
  refine forEach_only _ _ (fun t x => ?_) ?_
  · split
    · exact (State.modGroup_only ..).after (by decide) (Only.refl _ _)
    · exact Only.refl _ _
  · exact Only.refl _ _

theorem State.emitTrip_only (s : State) (a1 : Nat) (a2 : Nat) (a3 : Nat) (a4 : Nat) :
    Only [.out] s (State.emitTrip s a1 a2 a3 a4) := by
  unfold State.emitTrip
  refine forEach_only _ _ (fun t x => ?_) ?_
  · exact (State.emit_only ..).after (by decide) (Only.refl _ _)
  · exact Only.refl _ _

theorem State.tookFree_only (s : State) :
    Only [.fresh] s (State.tookFree s) := by
  unfold State.tookFree
  exact (only_fresh _ _).after (by decide) (Only.refl _ _)

theorem State.sendTrip_only (s : State) (a1 : Nat) (a2 : Nat) (a3 : Nat) (a4 : Nat) :
    Only [.out, .fresh, .chains] s (State.sendTrip s a1 a2 a3 a4) := by
  unfold State.sendTrip
  dsimp only
  split
  · refine (State.tookFree_only ..).after (by decide) ?_
    refine forEach_only _ _ (fun t x => ?_) ?_
    · exact (State.emit_only ..).after (by decide) (Only.refl _ _)
    · refine (State.emitTrip_only ..).after (by decide) ?_
      refine forEach_only _ _ (fun t x => ?_) ?_
      · exact (State.emit_only ..).after (by decide) (Only.refl _ _)
      · exact (State.modChain_only ..).after (by decide) (Only.refl _ _)
  · refine (State.emitTrip_only ..).after (by decide) ?_
    refine forEach_only _ _ (fun t x => ?_) ?_
    · exact (State.emit_only ..).after (by decide) (Only.refl _ _)
    · exact (State.modChain_only ..).after (by decide) (Only.refl _ _)

theorem State.dropContactor_only (s : State) (a1 : Nat) :
    Only [.chains] s (State.dropContactor s a1) := by
  unfold State.dropContactor
  exact (State.modChain_only ..).after (by decide) (Only.refl _ _)

theorem State.latchPtos_only (s : State) (a1 : Nat) (a2 : Nat) :
    Only [.ptos] s (State.latchPtos s a1 a2) := by
  unfold State.latchPtos
  refine forEach_only _ _ (fun t x => ?_) ?_
  · dsimp only
    split
    · exact (State.modPto_only ..).after (by decide) (Only.refl _ _)
    · exact Only.refl _ _
  · exact Only.refl _ _

theorem State.trip_only (s : State) (a1 : Nat) (a2 : Nat) :
    Only [.out, .fresh, .power, .pool, .chains, .strs, .ptos, .groups, .recorder] s (State.trip s a1 a2) := by
  unfold State.trip
  split
  · exact Only.refl _ _
  · dsimp only
    split
    · refine (State.modStr_only ..).after (by decide) ?_
      refine (State.latchPtos_only ..).after (by decide) ?_
      split
      · exact (State.stringLost_only ..).after (by decide) ((State.record_only ..).after (by decide)
          ((State.sendTrip_only ..).after (by decide) ((State.dropContactor_only ..).after (by decide)
          ((State.modStr_only ..).after (by decide) (Only.refl _ _)))))
      · split
        · exact (State.sendTrip_only ..).after (by decide) ((State.modStr_only ..).after (by decide) (Only.refl _ _))
        · exact Only.refl _ _
    · refine (State.latchPtos_only ..).after (by decide) ?_
      split
      · exact (State.stringLost_only ..).after (by decide) ((State.record_only ..).after (by decide)
          ((State.sendTrip_only ..).after (by decide) ((State.dropContactor_only ..).after (by decide)
          ((State.modStr_only ..).after (by decide) (Only.refl _ _)))))
      · split
        · exact (State.sendTrip_only ..).after (by decide) ((State.modStr_only ..).after (by decide) (Only.refl _ _))
        · exact Only.refl _ _

theorem State.setCauses_only (s : State) (a1 : Nat) (a2 : Nat) (a3 : Nat) :
    Only [.out, .fresh, .power, .pool, .chains, .strs, .ptos, .groups, .recorder] s (State.setCauses s a1 a2 a3) := by
  unfold State.setCauses
  dsimp only
  split
  · exact Only.refl _ _
  · exact (State.syncPtos_only ..).after (by decide) ((State.trip_only ..).after (by decide) ((State.modStr_only
      ..).after (by decide) (Only.refl _ _)))

theorem State.setCause_only (s : State) (a1 : Nat) (a2 : Nat) (a3 : Bool) :
    Only [.out, .fresh, .power, .pool, .chains, .strs, .ptos, .groups, .recorder] s (State.setCause s a1 a2 a3) := by
  unfold State.setCause
  exact (State.setCauses_only ..).after (by decide) (Only.refl _ _)

theorem State.tripOnce_only (s : State) (a1 : Nat) (a2 : Nat) :
    Only [.out, .fresh, .power, .pool, .chains, .strs, .ptos, .groups, .recorder] s (State.tripOnce s a1 a2) := by
  unfold State.tripOnce
  split
  · exact (State.syncPtos_only ..).after (by decide) ((State.trip_only ..).after (by decide) (Only.refl _ _))
  · exact (State.setCause_only ..).after (by decide) ((State.setCause_only ..).after (by decide) (Only.refl _ _))

theorem State.queueCmd_only (s : State) (a1 : Nat) (a2 : MonCmd) :
    Only [.chains] s (State.queueCmd s a1 a2) := by
  unfold State.queueCmd
  exact (State.modChain_only ..).after (by decide) (Only.refl _ _)

theorem State.sendContactor_only (s : State) (a1 : Nat) (a2 : Nat) :
    Only [.chains] s (State.sendContactor s a1 a2) := by
  unfold State.sendContactor
  exact (State.queueCmd_only ..).after (by decide) (Only.refl _ _)

theorem State.openString_only (s : State) (a1 : Nat) :
    Only [.chains, .strs, .groups] s (State.openString s a1) := by
  unfold State.openString
  split
  · exact (State.modStr_only ..).after (by decide) (Only.refl _ _)
  · exact (State.stringLost_only ..).after (by decide) ((State.sendContactor_only ..).after (by decide)
      ((State.modStr_only ..).after (by decide) ((State.dropContactor_only ..).after (by decide) (Only.refl _ _))))
  · exact Only.refl _ _

theorem stringOpenBody_only (a0 : Req) (s : State) :
    Only [.out, .fresh, .power, .pool, .chains, .strs, .ptos, .groups, .recorder] s (stringOpenBody a0 s).1 := by
  unfold stringOpenBody
  dsimp only
  split
  · dsimp only
    exact Only.refl _ _
  · split
    · dsimp only
      exact Only.refl _ _
    · split
      · dsimp only
        exact (State.tripOnce_only ..).after (by decide) (Only.refl _ _)
      · dsimp only
        exact (State.openString_only ..).after (by decide) (Only.refl _ _)

theorem State.abortObject_only (s : State) (a1 : Nat) :
    Only [.out, .tenants, .pool, .parts, .views, .doms] s (State.abortObject s a1) := by
  unfold State.abortObject
  refine forEach_only _ _ (fun t x => ?_) ?_
  · dsimp only
    split
    · split
      · exact (State.abortStream_only ..).after (by decide) ((State.modTenant_only _ _ _
          (by exact fun _ h => h)).after (by decide) (Only.refl _ _))
      · exact (State.modTenant_only _ _ _ (by exact fun _ h => h)).after (by decide) (Only.refl _ _)
    · exact (State.modTenant_only _ _ _ (by exact fun _ h => h)).after (by decide) (Only.refl _ _)
  · exact Only.refl _ _

theorem State.endStream_only (s : State) (a1 : Nat) (a2 : InStream) :
    Only [.tenants, .pool] s (State.endStream s a1 a2) := by
  unfold State.endStream
  exact (State.modTenant_only _ _ _ (by exact fun _ h => Tenant.addEnded_bounded _ _ h)).after (by decide) (Only.refl
      _ _)

theorem State.answerStream_only (s : State) (a1 : Nat) (a2 : InStream) (a3 : Nat) (a4 : List Word) :
    Only [.out, .tenants, .pool, .parts, .views, .doms] s (State.answerStream s a1 a2 a3 a4) := by
  unfold State.answerStream
  exact (State.finish_only ..).after (by decide) ((State.endStream_only ..).after (by decide) (Only.refl _ _))

theorem State.writeConfig_only (s : State) (a1 : Nat) (a2 : InStream) :
    Only [.out, .cfg, .config, .tenants, .pool, .parts, .views, .doms] s (State.writeConfig s a1 a2) := by
  unfold State.writeConfig
  split
  · split
    · exact (State.answerStream_only ..).after (by decide) (Only.refl _ _)
    · exact (State.answerStream_only ..).after (by decide) (Only.refl _ _)
  · split
    · exact (State.answerStream_only ..).after (by decide) (Only.refl _ _)
    · split
      · exact (State.answerStream_only ..).after (by decide) (Only.refl _ _)
      · exact (State.answerStream_only ..).after (by decide) ((State.modCfg_only ..).after (by decide) (Only.refl _
          _))

theorem State.writeImage_only (s : State) (a1 : Nat) (a2 : InStream) :
    Only [.out, .tenants, .pool, .parts, .views, .pair, .doms] s (State.writeImage s a1 a2) := by
  unfold State.writeImage
  dsimp only
  split
  · exact (State.answerStream_only ..).after (by decide) (Only.refl _ _)
  · split
    · exact (State.answerStream_only ..).after (by decide) (Only.refl _ _)
    · split
      · exact (State.answerStream_only ..).after (by decide) ((State.modPart_quiet _ _ _
          (by exact fun _ => ⟨rfl, rfl, rfl⟩)).after (by decide) (Only.refl _ _))
      · split
        · exact (State.emit_only ..).after (by decide) ((State.modPair_only ..).after (by decide)
            ((State.endStream_only ..).after (by decide) ((State.modPart_quiet _ _ _
            (by exact fun _ => ⟨rfl, rfl, rfl⟩)).after (by decide) (Only.refl _ _))))
        · exact (State.answerStream_only ..).after (by decide) ((State.modPart_quiet _ _ _
            (by exact fun _ => ⟨rfl, rfl, rfl⟩)).after (by decide) (Only.refl _ _))

theorem State.setFwSlot_only (s : State) (a1 : Nat) (a2 : FwSlot) :
    Only [.ident] s (State.setFwSlot s a1 a2) := by
  unfold State.setFwSlot
  split
  · exact (only_ident _ _).after (by decide) (Only.refl _ _)
  · exact (only_ident _ _).after (by decide) (Only.refl _ _)

theorem State.writeFirmware_only (s : State) (a1 : Nat) (a2 : InStream) (a3 : BulkCheck) :
    Only [.out, .ident, .tenants, .pool, .parts, .views, .doms] s (State.writeFirmware s a1 a2 a3) := by
  unfold State.writeFirmware
  dsimp only
  split
  · exact (State.answerStream_only ..).after (by decide) ((State.setFwSlot_only ..).after (by decide) (Only.refl _ _))
  · exact (State.answerStream_only ..).after (by decide) ((State.setFwSlot_only ..).after (by decide) (Only.refl _ _))

theorem State.writeCert_only (s : State) (a1 : Nat) (a2 : InStream) (a3 : BulkCheck) :
    Only [.out, .ident, .tenants, .pool, .parts, .views, .doms] s (State.writeCert s a1 a2 a3) := by
  unfold State.writeCert
  split
  · exact (State.answerStream_only ..).after (by decide) (Only.refl _ _)
  · exact (State.answerStream_only ..).after (by decide) ((only_ident _ _).after (by decide) (Only.refl _ _))

theorem State.writeObject_only (s : State) (a1 : Nat) (a2 : InStream) (a3 : BulkCheck) :
    Only [.out, .ident, .cfg, .config, .tenants, .pool, .parts, .views, .pair, .doms] s (State.writeObject s a1 a2
        a3) := by
  unfold State.writeObject
  split
  · exact (State.writeConfig_only ..).after (by decide) (Only.refl _ _)
  · exact (State.writeImage_only ..).after (by decide) (Only.refl _ _)
  · exact (State.writeFirmware_only ..).after (by decide) (Only.refl _ _)
  · exact (State.writeCert_only ..).after (by decide) (Only.refl _ _)

theorem State.absorb_only (s : State) (a1 : Nat) (a2 : InStream) (a3 : Req) (a4 : BulkCheck) :
    Only [.out, .ident, .cfg, .config, .tenants, .pool, .parts, .views, .pair, .doms] s (State.absorb s a1 a2 a3 a4)
        := by
  unfold State.absorb
  dsimp only
  split
  · exact (State.answerStream_only ..).after (by decide) (Only.refl _ _)
  · split
    · exact (State.writeObject_only ..).after (by decide) (Only.refl _ _)
    · exact (State.modTenant_only _ _ _ (by exact fun _ h => h)).after (by decide) (Only.refl _ _)

theorem State.setVerify_only (s : State) (a1 : Nat) (a2 : Option Verify) :
    Only [.chains] s (State.setVerify s a1 a2) := by
  unfold State.setVerify
  exact (State.modChain_only ..).after (by decide) (Only.refl _ _)

theorem State.sendEcho_only (s : State) (a1 : Nat) (a2 : Nat) (a3 : RingEnd) (a4 : EchoFor) :
    Only [.out, .chains] s (State.sendEcho s a1 a2 a3 a4) := by
  unfold State.sendEcho
  dsimp only
  exact (State.emit_only ..).after (by decide) ((State.modChain_only ..).after (by decide) (Only.refl _ _))

theorem State.startVerify_only (s : State) (a1 : Nat) (a2 : Bool) :
    Only [.out, .chains] s (State.startVerify s a1 a2) := by
  unfold State.startVerify
  refine forEach_only _ _ (fun t x => ?_) ?_
  · exact (State.sendEcho_only ..).after (by decide) (Only.refl _ _)
  · exact (State.setVerify_only ..).after (by decide) (Only.refl _ _)

theorem State.sendSegment_only (s : State) (a1 : Nat) (a2 : Nat) (a3 : Nat) :
    Only [.chains] s (State.sendSegment s a1 a2 a3) := by
  unfold State.sendSegment
  exact (State.modChain_only ..).after (by decide) (Only.refl _ _)

theorem State.turnChain_only (s : State) (a1 : Nat) :
    Only [.chains] s (State.turnChain s a1) := by
  unfold State.turnChain
  split
  · exact (State.sendSegment_only ..).after (by decide) (Only.refl _ _)
  · exact (State.sendSegment_only ..).after (by decide) (Only.refl _ _)

theorem State.verifyByTurn_only (s : State) (a1 : Nat) :
    Only [.chains] s (State.verifyByTurn s a1) := by
  unfold State.verifyByTurn
  dsimp only
  exact (State.setVerify_only ..).after (by decide) (Only.refl _ _)

theorem State.actOnLoss_only (s : State) (a1 : Nat) (a2 : Bool) :
    Only [.out, .fresh, .power, .pool, .chains, .strs, .ptos, .groups, .recorder] s (State.actOnLoss s a1 a2) := by
  unfold State.actOnLoss
  have h : ∀ b : Bool, Only [.out, .chains] s (if b then s.turnChain a1 else s.startVerify a1 false) := by
    intro b
    split
    · exact (State.turnChain_only ..).after (by decide) (Only.refl _ _)
    · exact (State.startVerify_only ..).after (by decide) (Only.refl _ _)
  dsimp only
  split
  · exact Only.refl _ _
  · split
    · exact (State.setCause_only ..).after (by decide) (Only.refl _ _)
    · split
      · split
        · split
          · exact (h _).after (by decide) (Only.refl _ _)
          · exact (State.setCause_only ..).after (by decide) ((h _).after (by decide) (Only.refl _ _))
        · split
          · exact (State.turnChain_only ..).after (by decide) ((State.verifyByTurn_only ..).after (by decide)
              (Only.refl _ _))
          · exact (State.startVerify_only ..).after (by decide) (Only.refl _ _)
      · exact (State.setCause_only ..).after (by decide) (Only.refl _ _)

theorem State.adoptFrame_only (s : State) (a1 : Nat) (a2 : BitVec 512) :
    Only [.chains] s (State.adoptFrame s a1 a2) := by
  unfold State.adoptFrame
  dsimp only
  exact (State.modChain_only ..).after (by decide) (Only.refl _ _)

theorem State.adoptTick_only (s : State) (a1 : Nat) :
    Only [.chains] s (State.adoptTick s a1) := by
  unfold State.adoptTick
  exact (State.modChain_only ..).after (by decide) (Only.refl _ _)

theorem State.installSlots_only (s : State) (a1 : Nat) (a2 : Nat) (a3 : List Slot) :
    Only [.tiles, .pair] s (State.installSlots s a1 a2 a3) := by
  unfold State.installSlots
  dsimp only
  split
  · split
    · split
      · exact (State.modPair_only ..).after (by decide) ((State.modTile_only ..).after (by decide) (Only.refl _ _))
      · exact (State.modTile_only ..).after (by decide) (Only.refl _ _)
    · split
      · exact (State.modPair_only ..).after (by decide) ((State.modTile_only ..).after (by decide) (Only.refl _ _))
      · exact (State.modTile_only ..).after (by decide) (Only.refl _ _)
  · split
    · exact (State.modPair_only ..).after (by decide) ((State.modTile_only ..).after (by decide) (Only.refl _ _))
    · exact (State.modTile_only ..).after (by decide) (Only.refl _ _)

theorem State.resyncHook_only (s : State) (a1 : Nat) (a2 : Nat) (a3 : Nat) :
    Only [.out, .tiles, .pair] s (State.resyncHook s a1 a2 a3) := by
  unfold State.resyncHook
  split
  · exact Only.refl _ _
  · split
    · exact Only.refl _ _
    · split
      · dsimp only
        exact (State.emit_only ..).after (by decide) ((State.modTile_only ..).after (by decide) (Only.refl _ _))
      · split
        · exact (State.installSlots_only ..).after (by decide) (Only.refl _ _)
        · exact Only.refl _ _

theorem State.startImped_only (s : State) (a1 : Nat) (a2 : Nat) (a3 : Nat) (a4 : CmdFor) :
    Only [.chains] s (State.startImped s a1 a2 a3 a4) := by
  unfold State.startImped
  exact (State.queueCmd_only ..).after (by decide) (Only.refl _ _)

theorem State.roundRobin_only (s : State) (a1 : Nat) (a2 : Nat) :
    Only [.chains, .tiles] s (State.roundRobin s a1 a2) := by
  unfold State.roundRobin
  dsimp only
  split
  · exact Only.refl _ _
  · split
    · exact Only.refl _ _
    · exact (State.startImped_only ..).after (by decide) ((State.modTile_only ..).after (by decide) (Only.refl _ _))

theorem State.extractEnded_only (s : State) (a1 : Nat) (a2 : Nat) :
    Only [.chains, .tiles] s (State.extractEnded s a1 a2) := by
  unfold State.extractEnded
  dsimp only
  split
  · exact Only.refl _ _
  · split
    · exact Only.refl _ _
    · split
      · exact (State.roundRobin_only ..).after (by decide) ((State.modTile_only ..).after (by decide) (Only.refl _ _))
      · split
        · exact (State.roundRobin_only ..).after (by decide) ((State.modTile_only ..).after (by decide) (Only.refl _
            _))
        · exact (State.roundRobin_only ..).after (by decide) ((State.modTile_only ..).after (by decide) (Only.refl _
            _))

theorem State.formPart_only (s : State) (a1 : Nat) (a2 : Nat) (a3 : Nat) :
    Only [.tiles] s (State.formPart s a1 a2 a3) := by
  unfold State.formPart
  dsimp only
  exact (State.modTile_only ..).after (by decide) (Only.refl _ _)

theorem State.reinitNow_only (s : State) (a1 : Nat) (a2 : Nat) (a3 : Nat) (a4 : Word) (a5 : Word × Nat) (a6 : Bool) :
    Only [.tiles] s (State.reinitNow s a1 a2 a3 a4 a5 a6) := by
  unfold State.reinitNow
  dsimp only
  split
  · exact Only.refl _ _
  · exact (State.formPart_only ..).after (by decide) ((State.modTile_only ..).after (by decide) (Only.refl _ _))

theorem State.doWork_only (s : State) (a1 : Nat) (a2 : Work) :
    Only [.chains, .tiles] s (State.doWork s a1 a2) := by
  unfold State.doWork
  split
  · exact (State.extractEnded_only ..).after (by decide) (Only.refl _ _)
  · exact (State.reinitNow_only ..).after (by decide) (Only.refl _ _)

theorem State.runWork_only (s : State) (a1 : Nat) (a2 : Work → Bool) :
    Only [.chains, .tiles] s (State.runWork s a1 a2) := by
  unfold State.runWork
  dsimp only
  refine forEach_only _ _ (fun t x => ?_) ?_
  · exact (State.doWork_only ..).after (by decide) (Only.refl _ _)
  · exact (State.modTile_only ..).after (by decide) (Only.refl _ _)

theorem State.pushWork_only (s : State) (a1 : Nat) (a2 : Work) :
    Only [.chains, .tiles] s (State.pushWork s a1 a2) := by
  unfold State.pushWork
  dsimp only
  refine (State.modTile_only ..).after (by decide) ?_
  split
  · exact (State.runWork_only ..).after (by decide) (Only.refl _ _)
  · exact Only.refl _ _

theorem State.updateCell_only (s : State) (a1 : Nat) (a2 : Nat) (a3 : Nat) (a4 : Nat) (a5 : Option (BitVec 512)) (a6
    : Option (BitVec 512)) (a7 : Word) :
    Only [.power, .pool, .chains, .tiles, .recorder] s (State.updateCell s a1 a2 a3 a4 a5 a6 a7) := by
  unfold State.updateCell
  dsimp only
  split
  · exact (State.modTile_only ..).after (by decide) (Only.refl _ _)
  · split
    · split
      · refine (State.pushWork_only ..).after (by decide) ?_
        split
        · exact (State.record_only ..).after (by decide) ((State.modTile_only ..).after (by decide) (Only.refl _ _))
        · exact (State.modTile_only ..).after (by decide) (Only.refl _ _)
      · split
        · exact (State.record_only ..).after (by decide) ((State.modTile_only ..).after (by decide) (Only.refl _ _))
        · exact (State.modTile_only ..).after (by decide) (Only.refl _ _)
    · split
      · refine (State.pushWork_only ..).after (by decide) ?_
        split
        · exact (State.record_only ..).after (by decide) ((State.modTile_only ..).after (by decide) (Only.refl _ _))
        · exact (State.modTile_only ..).after (by decide) (Only.refl _ _)
      · split
        · exact (State.record_only ..).after (by decide) ((State.modTile_only ..).after (by decide) (Only.refl _ _))
        · exact (State.modTile_only ..).after (by decide) (Only.refl _ _)

theorem State.updatePosition_only (s : State) (a1 : Nat) (a2 : Nat) (a3 : Nat) (a4 : Option (BitVec 512)) (a5 :
    Option (BitVec 512)) :
    Only [.power, .pool, .chains, .tiles, .recorder] s (State.updatePosition s a1 a2 a3 a4 a5) := by
  unfold State.updatePosition
  dsimp only
  split
  · refine (State.modTile_only ..).after (by decide) ?_
    split
    · split
      · refine (State.pushWork_only ..).after (by decide) ?_
        refine (State.formPart_only ..).after (by decide) ?_
        refine (State.modTile_only ..).after (by decide) ?_
        refine forEach_only _ _ (fun t x => ?_) ?_
        · exact (State.updateCell_only ..).after (by decide) (Only.refl _ _)
        · exact (State.modTile_only ..).after (by decide) ((State.runWork_only ..).after (by decide) (Only.refl _ _))
      · refine (State.formPart_only ..).after (by decide) ?_
        refine (State.modTile_only ..).after (by decide) ?_
        refine forEach_only _ _ (fun t x => ?_) ?_
        · exact (State.updateCell_only ..).after (by decide) (Only.refl _ _)
        · exact (State.modTile_only ..).after (by decide) ((State.runWork_only ..).after (by decide) (Only.refl _ _))
    · refine (State.formPart_only ..).after (by decide) ?_
      refine (State.modTile_only ..).after (by decide) ?_
      refine forEach_only _ _ (fun t x => ?_) ?_
      · exact (State.updateCell_only ..).after (by decide) (Only.refl _ _)
      · exact (State.modTile_only ..).after (by decide) ((State.runWork_only ..).after (by decide) (Only.refl _ _))
  · split
    · split
      · refine (State.pushWork_only ..).after (by decide) ?_
        refine (State.formPart_only ..).after (by decide) ?_
        refine (State.modTile_only ..).after (by decide) ?_
        refine forEach_only _ _ (fun t x => ?_) ?_
        · exact (State.updateCell_only ..).after (by decide) (Only.refl _ _)
        · exact (State.modTile_only ..).after (by decide) ((State.runWork_only ..).after (by decide) (Only.refl _ _))
      · refine (State.formPart_only ..).after (by decide) ?_
        refine (State.modTile_only ..).after (by decide) ?_
        refine forEach_only _ _ (fun t x => ?_) ?_
        · exact (State.updateCell_only ..).after (by decide) (Only.refl _ _)
        · exact (State.modTile_only ..).after (by decide) ((State.runWork_only ..).after (by decide) (Only.refl _ _))
    · refine (State.formPart_only ..).after (by decide) ?_
      refine (State.modTile_only ..).after (by decide) ?_
      refine forEach_only _ _ (fun t x => ?_) ?_
      · exact (State.updateCell_only ..).after (by decide) (Only.refl _ _)
      · exact (State.modTile_only ..).after (by decide) ((State.runWork_only ..).after (by decide) (Only.refl _ _))

theorem State.advance_only (a0 : Nat) (s : State) (a2 : Nat) (a3 : Nat) :
    Only [.out, .power, .pool, .chains, .tiles, .pair, .recorder] s (State.advance a0 s a2 a3) := by
  unfold State.advance
  split
  · exact Only.refl _ _
  · dsimp only
    split
    · split
      · exact (State.advance_only ..).after (by decide) ((State.resyncHook_only ..).after (by decide)
          ((State.updatePosition_only ..).after (by decide) (Only.refl _ _)))
      · exact Only.refl _ _
    · exact Only.refl _ _

theorem State.advanceAll_only (s : State) (a1 : Nat) :
    Only [.out, .power, .pool, .chains, .tiles, .pair, .recorder] s (State.advanceAll s a1) := by
  unfold State.advanceAll
  refine forEach_only _ _ (fun t x => ?_) ?_
  · exact (State.advance_only ..).after (by decide) (Only.refl _ _)
  · exact Only.refl _ _

theorem State.eventAll_only (s : State) (a1 : Nat) :
    Only [.out, .parts, .views, .doms] s (State.eventAll s a1) := by
  unfold State.eventAll
  refine forEach_only _ _ (fun t x => ?_) ?_
  · exact (State.event_only ..).after (by decide) (Only.refl _ _)
  · exact Only.refl _ _

theorem State.hartEnd_only (s : State) (a1 : Nat) (a2 : Nat) (a3 : List Word) :
    Only [.out, .tenants, .pool, .parts, .views, .anas, .doms] s (State.hartEnd s a1 a2 a3) := by
  unfold State.hartEnd
  split
  · exact Only.refl _ _
  · exact (State.finish_only ..).after (by decide) ((State.modAna_only ..).after (by decide) (Only.refl _ _))

theorem State.setAnaFlags_only (s : State) (a1 : Nat) (a2 : BitVec 16) :
    Only [.out, .tenants, .pool, .parts, .views, .anas, .doms] s (State.setAnaFlags s a1 a2) := by
  unfold State.setAnaFlags
  dsimp only
  split
  · exact Only.refl _ _
  · refine doIf_only _ _ (fun t => ?_) ?_
    · exact (State.hartEnd_only ..).after (by decide) (Only.refl _ _)
    · exact (State.eventAll_only ..).after (by decide) ((State.modAna_only ..).after (by decide) (Only.refl _ _))

theorem State.offSample_only (s : State) (a1 : Nat) (a2 : AnaMeas) :
    Only [.out, .tenants, .pool, .parts, .views, .anas, .doms] s (State.offSample s a1 a2) := by
  unfold State.offSample
  exact (State.setAnaFlags_only ..).after (by decide) ((State.modAna_only ..).after (by decide) (Only.refl _ _))

theorem State.outputSample_only (s : State) (a1 : Nat) (a2 : AnaMeas) (a3 : Bool) :
    Only [.out, .tenants, .pool, .parts, .views, .anas, .doms] s (State.outputSample s a1 a2 a3) := by
  unfold State.outputSample
  dsimp only
  exact (State.setAnaFlags_only ..).after (by decide) ((State.modAna_only ..).after (by decide) (Only.refl _ _))

theorem State.inputSample_only (s : State) (a1 : Nat) (a2 : AnaMeas) (a3 : Bool) :
    Only [.out, .tenants, .pool, .parts, .views, .anas, .doms] s (State.inputSample s a1 a2 a3) := by
  unfold State.inputSample
  dsimp only
  split
  · exact (State.setAnaFlags_only ..).after (by decide) ((State.modAna_only ..).after (by decide) (Only.refl _ _))
  · exact (State.setAnaFlags_only ..).after (by decide) ((State.modAna_only ..).after (by decide) (Only.refl _ _))

theorem State.anaOne_only (s : State) (a1 : Nat) (a2 : AnaMeas) :
    Only [.out, .tenants, .pool, .parts, .views, .anas, .doms] s (State.anaOne s a1 a2) := by
  unfold State.anaOne
  dsimp only
  split
  · exact (State.offSample_only ..).after (by decide) (Only.refl _ _)
  · split
    · exact (State.outputSample_only ..).after (by decide) (Only.refl _ _)
    · exact (State.inputSample_only ..).after (by decide) (Only.refl _ _)

theorem State.anaRelease_only (s : State) (a1 : Nat) :
    Only [.pair, .anas] s (State.anaRelease s a1) := by
  unfold State.anaRelease
  refine (State.modPair_only ..).after (by decide) ?_
  refine forEach_only _ _ (fun t x => ?_) ?_
  · exact (State.modAna_only ..).after (by decide) (Only.refl _ _)
  · exact Only.refl _ _

theorem State.anaSafe_only (s : State) (a1 : Nat) :
    Only [.anas] s (State.anaSafe s a1) := by
  unfold State.anaSafe
  exact (State.modAna_only ..).after (by decide) (Only.refl _ _)

theorem State.anaSet_only (s : State) (a1 : Nat) (a2 : Nat) :
    Only [.anas] s (State.anaSet s a1 a2) := by
  unfold State.anaSet
  exact (State.modAna_only ..).after (by decide) (Only.refl _ _)

theorem State.streamReply_only (s : State) (a1 : Nat) (a2 : OutStream) :
    Only [.out, .tenants, .pool, .parts, .views, .doms] s (State.streamReply s a1 a2) := by
  unfold State.streamReply
  split
  · exact (State.modTenant_only _ _ _ (by exact fun _ h => h)).after (by decide) (Only.refl _ _)
  · exact (State.startStream_only ..).after (by decide) (Only.refl _ _)

theorem State.answer_only (s : State) (a1 : Nat) (a2 : OpSpec) (a3 : Req) (a4 : Answer) :
    Only [.out, .tenants, .pool, .parts, .views, .doms] s (State.answer s a1 a2 a3 a4) := by
  unfold State.answer
  split
  · exact (State.finish_only ..).after (by decide) (Only.refl _ _)
  · exact (State.streamReply_only ..).after (by decide) (Only.refl _ _)
  · exact (State.streamReply_only ..).after (by decide) (Only.refl _ _)
  · exact Only.refl _ _

theorem State.applyPart_only (s : State) (a1 : Nat) (a2 : PartMirror) :
    Only [.parts, .memories] s (State.applyPart s a1 a2) := by
  unfold State.applyPart
  refine (State.modPart_only _ _ _ ?_).after (by decide) (Only.refl _ _)
  intro x h
  refine ⟨h.1, ?_, ?_⟩
  · dsimp only
    split
    · exact Memory.load_wf _ _ rfl
    · exact h.2.1
  · dsimp only
    split
    · exact Memory.load_wf _ _ rfl
    · exact h.2.2

theorem State.applyString_only (s : State) (a1 : StrMirror) :
    Only [.strs] s (State.applyString s a1) := by
  unfold State.applyString
  dsimp only
  split
  · exact Only.refl _ _
  · exact (State.modStr_only ..).after (by decide) (Only.refl _ _)

theorem State.applyMask_only (s : State) (a1 : Nat × Nat × Nat × Nat × Nat) :
    Only [.tiles] s (State.applyMask s a1) := by
  unfold State.applyMask
  exact (State.modTile_only ..).after (by decide) (Only.refl _ _)

theorem State.croakCause_only (s : State) (a1 : Nat) (a2 : Nat) :
    Only [.out, .fresh, .power, .pool, .chains, .strs, .ptos, .groups, .recorder] s (State.croakCause s a1 a2) := by
  unfold State.croakCause
  split
  · exact (State.tripOnce_only ..).after (by decide) (Only.refl _ _)
  · exact (State.setCause_only ..).after (by decide) (Only.refl _ _)

theorem State.takeDecision_only (s : State) (a1 : Nat) (a2 : Bool) (a3 : Nat) :
    Only [.out, .fresh, .power, .pool, .chains, .strs, .ptos, .groups, .recorder] s (State.takeDecision s a1 a2 a3)
        := by
  unfold State.takeDecision
  split
  · dsimp only
    split
    · exact (State.modChain_only ..).after (by decide) ((State.setVerify_only ..).after (by decide) (Only.refl _ _))
    · exact (State.setVerify_only ..).after (by decide) (Only.refl _ _)
  · exact (State.croakCause_only ..).after (by decide) ((State.setVerify_only ..).after (by decide) (Only.refl _ _))

theorem State.applyImped_only (s : State) (a1 : Nat × Nat × ImpRun) :
    Only [.tiles] s (State.applyImped s a1) := by
  unfold State.applyImped
  exact (State.modTile_only ..).after (by decide) (Only.refl _ _)

theorem State.applyKeeper_only (s : State) (a1 : KeeperMirror) :
    Only [.out, .fresh, .power, .pool, .chains, .tiles, .strs, .ptos, .groups, .disp, .recorder] s (State.applyKeeper
        s a1) := by
  unfold State.applyKeeper
  dsimp only
  refine (State.syncPtos_only ..).after (by decide) ?_
  refine forEach_only _ _ (fun t x => ?_) ?_
  · exact (State.applyImped_only ..).after (by decide) (Only.refl _ _)
  · refine forEach_only _ _ (fun t x => ?_) ?_
    · split
      · exact (State.takeDecision_only ..).after (by decide) (Only.refl _ _)
      · exact Only.refl _ _
    · refine forEach_only _ _ (fun t x => ?_) ?_
      · exact (State.applyMask_only ..).after (by decide) (Only.refl _ _)
      · refine forEach_only _ _ (fun t x => ?_) ?_
        · exact (State.modPto_only ..).after (by decide) (Only.refl _ _)
        · refine (State.modDisp_only ..).after (by decide) ?_
          refine forEach_only _ _ (fun t x => ?_) ?_
          · exact (State.modGroup_only ..).after (by decide) (Only.refl _ _)
          · refine forEach_only _ _ (fun t x => ?_) ?_
            · exact (State.applyString_only ..).after (by decide) (Only.refl _ _)
            · exact Only.refl _ _

theorem State.applyLoops_only (s : State) (a1 : LoopMirror) :
    Only [.loops, .valves] s (State.applyLoops s a1) := by
  unfold State.applyLoops
  dsimp only
  refine forEach_only _ _ (fun t x => ?_) ?_
  · exact (State.modValve_only ..).after (by decide) (Only.refl _ _)
  · refine forEach_only _ _ (fun t x => ?_) ?_
    · split
      · exact (State.modLoop_only ..).after (by decide) (Only.refl _ _)
      · exact (State.modLoop_only ..).after (by decide) (Only.refl _ _)
    · exact Only.refl _ _

theorem State.applyBody_only (s : State) (a1 : MirrorBody) :
    Only [.out, .fresh, .power, .pool, .chains, .tiles, .strs, .ptos, .groups, .disp, .parts, .memories, .loops,
        .valves, .recorder] s (State.applyBody s a1) := by
  unfold State.applyBody
  split
  · exact (State.applyPart_only ..).after (by decide) (Only.refl _ _)
  · exact (State.applyKeeper_only ..).after (by decide) (Only.refl _ _)
  · exact (State.applyLoops_only ..).after (by decide) (Only.refl _ _)

theorem State.modSet_only (s : State) (a1 : Nat) (a2 : MirrorSet → MirrorSet) :
    Only [.pair] s (State.modSet s a1 a2) := by
  unfold State.modSet
  exact (State.modPair_only ..).after (by decide) (Only.refl _ _)

theorem State.applyDelta_only (s : State) (a1 : Delta) :
    Only [.out, .fresh, .power, .pool, .chains, .tiles, .strs, .ptos, .groups, .disp, .parts, .memories, .pair,
        .loops, .valves, .recorder] s (State.applyDelta s a1) := by
  unfold State.applyDelta
  exact (State.applyBody_only ..).after (by decide) ((State.modSet_only ..).after (by decide) (Only.refl _ _))

theorem State.applyKept_only (s : State) (a1 : List Delta) :
    Only [.out, .fresh, .power, .pool, .chains, .tiles, .strs, .ptos, .groups, .disp, .parts, .memories, .pair,
        .loops, .valves, .recorder] s (State.applyKept s a1) := by
  unfold State.applyKept
  refine forEach_only _ _ (fun t x => ?_) ?_
  · split
    · exact (State.applyDelta_only ..).after (by decide) (Only.refl _ _)
    · exact Only.refl _ _
  · exact Only.refl _ _

theorem State.chFault_only (s : State) (a1 : Nat) (a2 : Nat) (a3 : Bool) :
    Only [.chains] s (State.chFault s a1 a2 a3) := by
  unfold State.chFault
  exact (State.modChain_only ..).after (by decide) (Only.refl _ _)

theorem State.applyRunning_only (s : State) (a1 : Nat) :
    Only [.chains] s (State.applyRunning s a1) := by
  unfold State.applyRunning
  split
  · exact Only.refl _ _
  · dsimp only
    split
    · exact (State.chFault_only ..).after (by decide) ((State.modChain_only ..).after (by decide)
        ((State.modChain_only ..).after (by decide) (Only.refl _ _)))
    · exact (State.modChain_only ..).after (by decide) ((State.modChain_only ..).after (by decide) (Only.refl _ _))
    · exact (State.modChain_only ..).after (by decide) ((State.modChain_only ..).after (by decide) (Only.refl _ _))
    · exact (State.modChain_only ..).after (by decide) ((State.modChain_only ..).after (by decide) (Only.refl _ _))

theorem State.ask_only (s : State) (a1 : Nat) (a2 : ModeAsk) :
    Only [.parts] s (State.ask s a1 a2) := by
  unfold State.ask
  exact (State.modPart_quiet _ _ _ (by exact fun _ => ⟨rfl, rfl, rfl⟩)).after (by decide) (Only.refl _ _)

theorem State.balMonitor_only (s : State) (a1 : Nat) (a2 : Nat) (a3 : Nat) (a4 : Bool) :
    Only [.chains, .bals] s (State.balMonitor s a1 a2 a3 a4) := by
  unfold State.balMonitor
  dsimp only
  split
  · exact Only.refl _ _
  · split
    · split
      · exact Only.refl _ _
      · exact (State.queueCmd_only ..).after (by decide) ((State.modBal_only ..).after (by decide) (Only.refl _ _))
    · split
      · exact (State.queueCmd_only ..).after (by decide) ((State.modBal_only ..).after (by decide) (Only.refl _ _))
      · exact Only.refl _ _

theorem State.bankLost_only (s : State) (a1 : RingEnd) :
    Only [.out, .fresh, .power, .pool, .chains, .strs, .ptos, .groups, .recorder] s (State.bankLost s a1) := by
  unfold State.bankLost
  refine forEach_only _ _ (fun t x => ?_) ?_
  · split
    · dsimp only
      split
      · exact (State.actOnLoss_only ..).after (by decide) ((State.record_only ..).after (by decide)
          ((State.chFault_only ..).after (by decide) ((State.modChain_only ..).after (by decide) (Only.refl _ _))))
      · exact (State.record_only ..).after (by decide) ((State.chFault_only ..).after (by decide)
          ((State.modChain_only ..).after (by decide) (Only.refl _ _)))
    · exact Only.refl _ _
  · exact Only.refl _ _

theorem State.baseMissing_only (s : State) (a1 : Nat) :
    Only [.out, .pair] s (State.baseMissing s a1) := by
  unfold State.baseMissing
  exact (State.emit_only ..).after (by decide) ((State.modSet_only ..).after (by decide) (Only.refl _ _))

theorem State.dropCmds_only (s : State) (a1 : Nat) :
    Only [.out, .tenants, .pool, .chains, .parts, .views, .doms] s (State.dropCmds s a1) := by
  unfold State.dropCmds
  dsimp only
  refine forEach_only _ _ (fun t x => ?_) ?_
  · split
    · exact (State.finish_only ..).after (by decide) (Only.refl _ _)
    · exact (State.finish_only ..).after (by decide) (Only.refl _ _)
    · exact (State.finish_only ..).after (by decide) (Only.refl _ _)
    · exact Only.refl _ _
  · refine forEach_only _ _ (fun t x => ?_) ?_
    · split
      · exact (State.finish_only ..).after (by decide) (Only.refl _ _)
      · exact (State.finish_only ..).after (by decide) (Only.refl _ _)
      · exact (State.finish_only ..).after (by decide) (Only.refl _ _)
      · exact Only.refl _ _
    · exact (State.modChain_only ..).after (by decide) (Only.refl _ _)

theorem State.beginEnum_only (s : State) (a1 : Nat) (a2 : Option (Nat × Nat)) :
    Only [.out, .tenants, .pool, .chains, .parts, .views, .doms] s (State.beginEnum s a1 a2) := by
  unfold State.beginEnum
  dsimp only
  split
  · exact (State.emit_only ..).after (by decide) ((State.modChain_only ..).after (by decide) ((State.dropCmds_only
      ..).after (by decide) (Only.refl _ _)))
  · exact (State.emit_only ..).after (by decide) ((State.modChain_only ..).after (by decide) ((State.dropCmds_only
      ..).after (by decide) (Only.refl _ _)))

theorem State.endCroakCauses_only (s : State) (a1 : Nat) :
    Only [.out, .fresh, .power, .pool, .chains, .strs, .ptos, .groups, .recorder] s (State.endCroakCauses s a1) := by
  unfold State.endCroakCauses
  exact (State.setCauses_only ..).after (by decide) (Only.refl _ _)

theorem State.startEnum_only (s : State) (a1 : Nat) (a2 : Option (Nat × Nat)) :
    Only [.out, .fresh, .power, .tenants, .pool, .chains, .strs, .ptos, .groups, .parts, .views, .recorder, .doms] s
        (State.startEnum s a1 a2) := by
  unfold State.startEnum
  exact (State.setCause_only ..).after (by decide) ((State.endCroakCauses_only ..).after (by decide)
      ((State.modStr_only ..).after (by decide) ((State.beginEnum_only ..).after (by decide) (Only.refl _ _))))

theorem State.startChains_only (s : State) :
    Only [.out, .fresh, .power, .tenants, .pool, .chains, .strs, .ptos, .groups, .parts, .views, .recorder, .doms] s
        (State.startChains s) := by
  unfold State.startChains
  refine forEach_only _ _ (fun t x => ?_) ?_
  · split
    · exact Only.refl _ _
    · split
      · exact (State.startEnum_only ..).after (by decide) (Only.refl _ _)
      · exact (State.modChain_only ..).after (by decide) (Only.refl _ _)
  · exact Only.refl _ _

theorem State.driveDo_only (s : State) (a1 : Nat) :
    Only [.dos] s (State.driveDo s a1) := by
  unfold State.driveDo
  dsimp only
  split
  · exact Only.refl _ _
  · exact (State.modDo_only ..).after (by decide) (Only.refl _ _)

theorem State.driveAllDo_only (s : State) :
    Only [.dos, .fdpFault, .fdpTime] s (State.driveAllDo s) := by
  unfold State.driveAllDo
  refine (State.syncFdp_only ..).after (by decide) ?_
  refine forEach_only _ _ (fun t x => ?_) ?_
  · exact (State.driveDo_only ..).after (by decide) (Only.refl _ _)
  · exact Only.refl _ _

theorem State.meetEov_only (s : State) :
    Only [.power, .pool, .groups, .disp, .recorder] s (State.meetEov s) := by
  unfold State.meetEov
  split
  · exact Only.refl _ _
  · split
    · exact (State.enterOvr_only ..).after (by decide) (Only.refl _ _)
    · exact (State.enterOvr_only ..).after (by decide) (Only.refl _ _)
    · exact (State.enterOvr_only ..).after (by decide) (Only.refl _ _)
    · exact (State.enterOvr_only ..).after (by decide) (Only.refl _ _)
    · exact Only.refl _ _

theorem State.canDrop_only (s : State) (a1 : Nat) :
    Only [.pool, .cans] s (State.canDrop s a1) := by
  unfold State.canDrop
  exact (State.syncCells_only ..).after (by decide) ((State.modCan_only ..).after (by decide) (Only.refl _ _))

theorem State.canConfigure_only (s : State) (a1 : Nat) :
    Only [.pool, .cans] s (State.canConfigure s a1) := by
  unfold State.canConfigure
  dsimp only
  refine (State.syncCells_only ..).after (by decide) ?_
  split
  · exact (State.modCan_only ..).after (by decide) (Only.refl _ _)
  · split
    · exact (State.modCan_only ..).after (by decide) ((State.canDrop_only ..).after (by decide) (Only.refl _ _))
    · exact Only.refl _ _

theorem State.canTo_only (s : State) (a1 : Nat) (a2 : Nat) :
    Only [.out, .power, .pool, .parts, .views, .cans, .recorder, .doms] s (State.canTo s a1 a2) := by
  unfold State.canTo
  split
  · exact Only.refl _ _
  · dsimp only
    refine doIf_only _ _ (fun t => ?_) ?_
    · exact (State.canDrop_only ..).after (by decide) (Only.refl _ _)
    · exact (State.record_only ..).after (by decide) ((State.eventAll_only ..).after (by decide) ((State.modCan_only
        ..).after (by decide) (Only.refl _ _)))

theorem State.canToMonitor_only (s : State) (a1 : Nat) :
    Only [.out, .power, .pool, .parts, .views, .cans, .recorder, .doms] s (State.canToMonitor s a1) := by
  unfold State.canToMonitor
  split
  · exact Only.refl _ _
  · dsimp only
    refine doIf_only _ _ (fun t => ?_) ?_
    · exact (State.canTo_only ..).after (by decide) (Only.refl _ _)
    · exact (State.modCan_only ..).after (by decide) ((State.canDrop_only ..).after (by decide) ((State.modCan_only
        ..).after (by decide) (Only.refl _ _)))

theorem State.setRole_only (s : State) (a1 : Role) :
    Only [.out, .power, .pool, .groups, .disp, .parts, .views, .pair, .time, .dos, .fdpFault, .fdpTime, .cans,
        .recorder, .doms] s (State.setRole s a1) := by
  unfold State.setRole
  split
  · exact Only.refl _ _
  · dsimp only
    split
    · split
      · exact (State.driveAllDo_only ..).after (by decide) ((State.eventAll_only ..).after (by decide)
          ((State.modTime_only ..).after (by decide) ((State.modPair_only ..).after (by decide) (Only.refl _ _))))
      · split
        · refine (State.meetEov_only ..).after (by decide) ?_
          refine forEach_only _ _ (fun t x => ?_) ?_
          · exact (State.canConfigure_only ..).after (by decide) (Only.refl _ _)
          · exact (State.driveAllDo_only ..).after (by decide) ((State.eventAll_only ..).after (by decide)
              ((State.modTime_only ..).after (by decide) ((State.modPair_only ..).after (by decide) (Only.refl _ _))))
        · refine forEach_only _ _ (fun t x => ?_) ?_
          · exact (State.canToMonitor_only ..).after (by decide) (Only.refl _ _)
          · exact (State.driveAllDo_only ..).after (by decide) ((State.eventAll_only ..).after (by decide)
              ((State.modTime_only ..).after (by decide) ((State.modPair_only ..).after (by decide) (Only.refl _ _))))
    · split
      · split
        · exact (State.driveAllDo_only ..).after (by decide) ((State.eventAll_only ..).after (by decide)
            ((State.modTime_only ..).after (by decide) ((State.modPair_only ..).after (by decide) (Only.refl _ _))))
        · split
          · refine (State.meetEov_only ..).after (by decide) ?_
            refine forEach_only _ _ (fun t x => ?_) ?_
            · exact (State.canConfigure_only ..).after (by decide) (Only.refl _ _)
            · exact (State.driveAllDo_only ..).after (by decide) ((State.eventAll_only ..).after (by decide)
                ((State.modTime_only ..).after (by decide) ((State.modPair_only ..).after (by decide) (Only.refl _
                _))))
          · refine forEach_only _ _ (fun t x => ?_) ?_
            · exact (State.canToMonitor_only ..).after (by decide) (Only.refl _ _)
            · exact (State.driveAllDo_only ..).after (by decide) ((State.eventAll_only ..).after (by decide)
                ((State.modTime_only ..).after (by decide) ((State.modPair_only ..).after (by decide) (Only.refl _
                _))))
      · split
        · exact (State.driveAllDo_only ..).after (by decide) ((State.eventAll_only ..).after (by decide)
            ((State.modTime_only ..).after (by decide) ((State.modPair_only ..).after (by decide) (Only.refl _ _))))
        · split
          · refine (State.meetEov_only ..).after (by decide) ?_
            refine forEach_only _ _ (fun t x => ?_) ?_
            · exact (State.canConfigure_only ..).after (by decide) (Only.refl _ _)
            · exact (State.driveAllDo_only ..).after (by decide) ((State.eventAll_only ..).after (by decide)
                ((State.modTime_only ..).after (by decide) ((State.modPair_only ..).after (by decide) (Only.refl _
                _))))
          · refine forEach_only _ _ (fun t x => ?_) ?_
            · exact (State.canToMonitor_only ..).after (by decide) (Only.refl _ _)
            · exact (State.driveAllDo_only ..).after (by decide) ((State.eventAll_only ..).after (by decide)
                ((State.modTime_only ..).after (by decide) ((State.modPair_only ..).after (by decide) (Only.refl _
                _))))

theorem State.beginFollow_only (s : State) :
    Only [.out, .fresh, .power, .tenants, .pool, .chains, .strs, .ptos, .groups, .disp, .parts, .views, .pair, .time,
        .dos, .fdpFault, .fdpTime, .cans, .recorder, .doms] s (State.beginFollow s) := by
  unfold State.beginFollow
  dsimp only
  refine forEach_only _ _ (fun t x => ?_) ?_
  · exact (State.modChain_only ..).after (by decide) (Only.refl _ _)
  · exact (State.startChains_only ..).after (by decide) ((State.setRole_only ..).after (by decide) (Only.refl _ _))

theorem State.handMask_only (s : State) (a1 : Nat) (a2 : Nat) (a3 : Nat) (a4 : Nat) (a5 : Nat) :
    Only [.tiles] s (State.handMask s a1 a2 a3 a4 a5) := by
  unfold State.handMask
  exact (State.modTile_only ..).after (by decide) (Only.refl _ _)

theorem State.bleedFailed_only (s : State) (a1 : Nat) (a2 : Nat) :
    Only [.tiles, .bals] s (State.bleedFailed s a1 a2) := by
  unfold State.bleedFailed
  exact (State.modBal_only ..).after (by decide) ((State.handMask_only ..).after (by decide) (Only.refl _ _))

theorem State.chooseSlot_only (s : State) (a1 : BootCheck) :
    Only [.ident] s (State.chooseSlot s a1).1 := by
  unfold State.chooseSlot
  dsimp only
  split
  · exact Only.refl _ _
  · split
    · exact (only_ident _ _).after (by decide) (Only.refl _ _)
    · exact (only_ident _ _).after (by decide) ((State.setFwSlot_only ..).after (by decide) (Only.refl _ _))

theorem State.bootUp_only (s : State) (a1 : BootCheck) (a2 : BitVec 7) :
    Only [.out, .power, .supply, .ident, .cfg, .config, .ptos, .doms] s (State.bootUp s a1 a2) := by
  unfold State.bootUp
  have h := State.chooseSlot_ident s a1
  revert h
  cases s.chooseSlot a1
  intro h
  dsimp only at h ⊢
  split
  · refine (only_ident _ _).after (by decide) ((State.modPower_only ..).after (by decide) ((State.modPower_only
      ..).after (by decide) ?_))
    refine forEach_only _ _ (fun t x => ?_) (h.after (by decide) (Only.refl _ _))
    exact (State.modPower_only ..).after (by decide) ((State.setDom_only ..).after (by decide) (Only.refl _ _))
  · refine (State.syncPtos_only ..).after (by decide) ((only_ident _ _).after (by decide) ((State.modCfg_only
      ..).after (by decide)
      ((State.modPower_only ..).after (by decide) ((State.modPower_only ..).after (by decide) ?_))))
    refine forEach_only _ _ (fun t x => ?_) (h.after (by decide) (Only.refl _ _))
    exact (State.modPower_only ..).after (by decide) ((State.setDom_only ..).after (by decide) (Only.refl _ _))

theorem State.readAll_only (s : State) (a1 : Nat) :
    Only [.chains] s (State.readAll s a1) := by
  unfold State.readAll
  refine forEach_only _ _ (fun t x => ?_) ?_
  · exact (State.queueCmd_only ..).after (by decide) (Only.refl _ _)
  · exact Only.refl _ _

theorem State.breakFound_only (s : State) (a1 : Nat) (a2 : Nat) :
    Only [.chains] s (State.breakFound s a1 a2) := by
  unfold State.breakFound
  split
  · exact Only.refl _ _
  · dsimp only
    split
    · exact (State.readAll_only ..).after (by decide) ((State.setVerify_only ..).after (by decide)
        ((State.modChain_only ..).after (by decide) (Only.refl _ _)))
    · exact (State.setVerify_only ..).after (by decide) ((State.modChain_only ..).after (by decide) (Only.refl _ _))

theorem State.setDo_only (s : State) (a1 : Nat) (a2 : Bool) :
    Only [.dos] s (State.setDo s a1 a2) := by
  unfold State.setDo
  dsimp only
  refine (State.driveDo_only ..).after (by decide) ?_
  split
  · exact Only.refl _ _
  · exact (State.modDo_only ..).after (by decide) (Only.refl _ _)

theorem State.modObj_only (s : State) (a1 : Nat) (a2 : Nat) (a3 : CanObj → CanObj) :
    Only [.cans] s (State.modObj s a1 a2 a3) := by
  unfold State.modObj
  exact (State.modCan_only ..).after (by decide) (Only.refl _ _)

theorem State.txQueue_only (s : State) (a1 : Nat) (a2 : Nat) (a3 : List Byte) :
    Only [.pool, .cans] s (State.txQueue s a1 a2 a3) := by
  unfold State.txQueue
  dsimp only
  split
  · exact (State.modObj_only ..).after (by decide) (Only.refl _ _)
  · split
    · exact (State.syncCells_only ..).after (by decide) ((State.modObj_only ..).after (by decide) (Only.refl _ _))
    · exact (State.poolRefuse_only ..).after (by decide) ((State.modCan_only ..).after (by decide) (Only.refl _ _))

theorem State.canBusCycle_only (s : State) (a1 : Nat) :
    Only [.pool, .cans] s (State.canBusCycle s a1) := by
  unfold State.canBusCycle
  refine forEach_only _ _ (fun t x => ?_) ?_
  · split
    · exact Only.refl _ _
    · refine forEach_only _ _ (fun t x => ?_) ?_
      · split
        · dsimp only
          split
          · exact (State.txQueue_only ..).after (by decide) (Only.refl _ _)
          · exact Only.refl _ _
        · exact Only.refl _ _
      · exact Only.refl _ _
  · exact Only.refl _ _

theorem State.setValve_only (s : State) (a1 : Nat) (a2 : ValveState) (a3 : Int) (a4 : Option Nat) :
    Only [.valves] s (State.setValve s a1 a2 a3 a4) := by
  unfold State.setValve
  split
  exact (State.modValve_only ..).after (by decide) (Only.refl _ _)

theorem State.valveSettle_only (s : State) (a1 : Nat) :
    Only [.valves] s (State.valveSettle s a1) := by
  unfold State.valveSettle
  dsimp only
  split
  · exact Only.refl _ _
  · split
    · exact (State.setValve_only ..).after (by decide) (Only.refl _ _)
    · split
      · exact (State.setValve_only ..).after (by decide) (Only.refl _ _)
      · split
        · split
          · exact (State.setValve_only ..).after (by decide) (Only.refl _ _)
          · exact (State.setValve_only ..).after (by decide) (Only.refl _ _)
        · split
          · exact (State.setValve_only ..).after (by decide) (Only.refl _ _)
          · exact (State.setValve_only ..).after (by decide) (Only.refl _ _)

theorem State.valveLeave_only (s : State) (a1 : Nat) :
    Only [.valves] s (State.valveLeave s a1) := by
  unfold State.valveLeave
  dsimp only
  split
  · exact (State.valveSettle_only ..).after (by decide) ((State.setValve_only ..).after (by decide) (Only.refl _ _))
  · exact Only.refl _ _

theorem State.valveSet_only (s : State) (a1 : Nat) (a2 : Word) :
    Only [.valves] s (State.valveSet s a1 a2) := by
  unfold State.valveSet
  dsimp only
  exact (State.valveSettle_only ..).after (by decide) ((State.valveLeave_only ..).after (by decide)
      ((State.modValve_only ..).after (by decide) (Only.refl _ _)))

theorem State.busCycle_only (s : State) (a1 : Nat) (a2 : Bool) :
    Only [.pool, .parts, .loops, .valves, .fbs, .anas, .dos, .fdpFault, .fdpTime, .cans] s (State.busCycle s a1 a2)
        := by
  unfold State.busCycle
  dsimp only
  refine forEach_only _ _ (fun t x => ?_) ?_
  · split
    · exact (State.modFb_only ..).after (by decide) (Only.refl _ _)
    · exact Only.refl _ _
  · refine forEach_only _ _ (fun t x => ?_) ?_
    · split
      · exact (State.modLoop_only ..).after (by decide) (Only.refl _ _)
      · exact Only.refl _ _
    · refine forEach_only _ _ (fun t x => ?_) ?_
      · split
        · split
          · exact (State.anaSet_only ..).after (by decide) (Only.refl _ _)
          · exact Only.refl _ _
        · split
          · exact (State.anaSet_only ..).after (by decide) (Only.refl _ _)
          · exact Only.refl _ _
      · refine forEach_only _ _ (fun t x => ?_) ?_
        · split
          · exact (State.valveSet_only ..).after (by decide) (Only.refl _ _)
          · exact Only.refl _ _
        · refine doIf_only _ _ (fun t => ?_) ?_
          · exact (State.canBusCycle_only ..).after (by decide) (Only.refl _ _)
          · refine (State.modPart_quiet _ _ _ (by exact fun _ => ⟨rfl, rfl, rfl⟩)).after (by decide) ?_
            refine (State.syncFdp_only ..).after (by decide) ?_
            refine forEach_only _ _ (fun t x => ?_) ?_
            · split
              · exact (State.setDo_only ..).after (by decide) (Only.refl _ _)
              · exact Only.refl _ _
            · exact Only.refl _ _

theorem State.canComplete_only (s : State) (a1 : Nat) (a2 : Option (Fin 64)) (a3 : Nat) :
    Only [.out, .cans] s (State.canComplete s a1 a2 a3) := by
  unfold State.canComplete
  split
  · split
    · split
      · exact (State.emit_only ..).after (by decide) ((State.modCan_only ..).after (by decide) (Only.refl _ _))
      · exact Only.refl _ _
    · exact Only.refl _ _
  · split
    · exact Only.refl _ _
    · split
      · exact Only.refl _ _
      · dsimp only
        split
        · exact (State.emit_only ..).after (by decide) ((State.modObj_only ..).after (by decide) (Only.refl _ _))
        · exact Only.refl _ _

theorem State.canCount_only (s : State) (a1 : Nat) :
    Only [.out, .power, .pool, .parts, .views, .cans, .recorder, .doms] s (State.canCount s a1) := by
  unfold State.canCount
  dsimp only
  exact (State.canTo_only ..).after (by decide) (Only.refl _ _)

theorem State.canDispLate_only (s : State) (a1 : Nat) :
    Only [.pool, .cans] s (State.canDispLate s a1) := by
  unfold State.canDispLate
  dsimp only
  exact (State.syncCells_only ..).after (by decide) ((State.modCan_only ..).after (by decide) (Only.refl _ _))

theorem State.canLate_only (s : State) (a1 : Nat) (a2 : Nat) :
    Only [.pool, .cans] s (State.canLate s a1 a2) := by
  unfold State.canLate
  split
  · exact Only.refl _ _
  · split
    · exact (State.syncCells_only ..).after (by decide) ((State.modCan_only ..).after (by decide) ((State.modObj_only
        ..).after (by decide) (Only.refl _ _)))
    · exact Only.refl _ _

theorem State.canRxGood_only (s : State) (a1 : Nat) :
    Only [.out, .fresh, .power, .pool, .parts, .views, .cans, .recorder, .doms] s (State.canRxGood s a1) := by
  unfold State.canRxGood
  dsimp only
  split
  · exact Only.refl _ _
  · split
    · exact (State.canCount_only ..).after (by decide) ((State.modCan_only ..).after (by decide) (Only.refl _ _))
    · exact (State.canCount_only ..).after (by decide) ((State.tookFree_only ..).after (by decide)
        ((State.modCan_only ..).after (by decide) (Only.refl _ _)))

theorem State.canStore_only (s : State) (a1 : Nat) (a2 : Nat) (a3 : CanFrame) :
    Only [.out, .parts, .views, .cans, .doms] s (State.canStore s a1 a2 a3) := by
  unfold State.canStore
  dsimp only
  refine doIf_only _ _ (fun t => ?_) ?_
  · exact (State.eventAll_only ..).after (by decide) (Only.refl _ _)
  · exact (State.modCan_only ..).after (by decide) ((State.modObj_only ..).after (by decide) (Only.refl _ _))

theorem State.canTxGood_only (s : State) (a1 : Nat) :
    Only [.out, .power, .pool, .parts, .views, .cans, .recorder, .doms] s (State.canTxGood s a1) := by
  unfold State.canTxGood
  exact (State.canCount_only ..).after (by decide) ((State.modCan_only ..).after (by decide) (Only.refl _ _))

theorem State.catchUp_only (s : State) (a1 : Nat) (a2 : Nat) :
    Only [.out, .power, .pool, .chains, .tiles, .pair, .recorder] s (State.catchUp s a1 a2) := by
  unfold State.catchUp
  dsimp only
  refine (State.advance_only ..).after (by decide) ?_
  refine forEach_only _ _ (fun t x => ?_) ?_
  · exact (State.updatePosition_only ..).after (by decide) (Only.refl _ _)
  · exact Only.refl _ _

theorem State.unlatchPtos_only (s : State) (a1 : Nat) :
    Only [.out, .ptos] s (State.unlatchPtos s a1) := by
  unfold State.unlatchPtos
  refine (State.syncPtos_only ..).after (by decide) ?_
  refine forEach_only _ _ (fun t x => ?_) ?_
  · exact (State.modPto_only ..).after (by decide) (Only.refl _ _)
  · exact Only.refl _ _

theorem State.chainRemoved_only (s : State) (a1 : Nat) :
    Only [.out, .fresh, .power, .tenants, .pool, .chains, .tiles, .strs, .ptos, .groups, .parts, .views, .recorder,
        .doms] s (State.chainRemoved s a1) := by
  unfold State.chainRemoved
  dsimp only
  refine (State.unlatchPtos_only ..).after (by decide) ?_
  refine (State.modTile_only ..).after (by decide) ?_
  refine (State.modStr_only ..).after (by decide) ?_
  refine (State.modChain_only ..).after (by decide) ?_
  refine (State.setCauses_only ..).after (by decide) ?_
  split
  · exact (State.finish_only ..).after (by decide) ((State.dropCmds_only ..).after (by decide) (Only.refl _ _))
  · exact (State.dropCmds_only ..).after (by decide) (Only.refl _ _)

theorem State.chainSettings_only (s : State) (a1 : Nat) (a2 : ParamMap) :
    Only [.chains] s (State.chainSettings s a1 a2) := by
  unfold State.chainSettings
  dsimp only
  split
  · split
    · exact Only.refl _ _
    · refine forEach_only _ _ (fun t x => ?_) ?_
      · refine doIf_only _ _ (fun t => ?_) ?_
        · exact (State.queueCmd_only ..).after (by decide) (Only.refl _ _)
        · exact Only.refl _ _
      · refine doIf_only _ _ (fun t => ?_) ?_
        · exact (State.queueCmd_only ..).after (by decide) (Only.refl _ _)
        · refine doIf_only _ _ (fun t => ?_) ?_
          · exact (State.queueCmd_only ..).after (by decide) (Only.refl _ _)
          · exact Only.refl _ _
  · split
    · exact Only.refl _ _
    · refine forEach_only _ _ (fun t x => ?_) ?_
      · refine doIf_only _ _ (fun t => ?_) ?_
        · exact (State.queueCmd_only ..).after (by decide) (Only.refl _ _)
        · exact Only.refl _ _
      · refine doIf_only _ _ (fun t => ?_) ?_
        · exact (State.queueCmd_only ..).after (by decide) (Only.refl _ _)
        · refine doIf_only _ _ (fun t => ?_) ?_
          · exact (State.queueCmd_only ..).after (by decide) (Only.refl _ _)
          · exact Only.refl _ _

theorem State.refuseAll_only (s : State) (a1 : List (Nat × Nat)) :
    Only [.out, .tenants, .pool, .parts, .views, .doms] s (State.refuseAll s a1) := by
  unfold State.refuseAll
  refine forEach_only _ _ (fun t x => ?_) ?_
  · exact (State.finish_only ..).after (by decide) (Only.refl _ _)
  · exact Only.refl _ _

theorem State.chainStops_only (s : State) (a1 : Nat) :
    Only [.out, .tenants, .pool, .chains, .strs, .parts, .views, .doms] s (State.chainStops s a1) := by
  unfold State.chainStops
  dsimp only
  exact (State.refuseAll_only ..).after (by decide) ((State.modStr_only ..).after (by decide) ((State.modChain_only
      ..).after (by decide) (Only.refl _ _)))

theorem State.checkGrant_only (s : State) (a1 : Nat) (a2 : Nat) :
    Only [.power, .pool, .groups, .recorder] s (State.checkGrant s a1 a2) := by
  unfold State.checkGrant
  split
  · exact Only.refl _ _
  · split
    · exact Only.refl _ _
    · split
      · exact (State.cutGrant_only ..).after (by decide) (Only.refl _ _)
      · exact Only.refl _ _

theorem State.useCopy_only (s : State) (a1 : CfgCopy) :
    Only [.cfg, .config] s (State.useCopy s a1) := by
  unfold State.useCopy
  exact (State.modCfg_only ..).after (by decide) (Only.refl _ _)

theorem State.chooseConfig_only (s : State) :
    Only [.cfg, .config] s (State.chooseConfig s) := by
  unfold State.chooseConfig
  dsimp only
  split
  · split
    · exact (State.useCopy_only ..).after (by decide) (Only.refl _ _)
    · exact (State.modCfg_only ..).after (by decide) ((State.useCopy_only ..).after (by decide) (Only.refl _ _))
  · exact (State.modCfg_only ..).after (by decide) ((State.useCopy_only ..).after (by decide) (Only.refl _ _))
  · exact (State.modCfg_only ..).after (by decide) ((State.useCopy_only ..).after (by decide) (Only.refl _ _))
  · exact (State.modCfg_only ..).after (by decide) (Only.refl _ _)

theorem State.closeSession_only (s : State) (a1 : Nat) :
    Only [.out, .ident, .cfg, .config, .tenants, .pool, .parts, .views, .doms] s (State.closeSession s a1) := by
  unfold State.closeSession
  split
  · exact (State.tenantReset_only ..).after (by decide) ((State.modTenant_only _ _ _ (by exact fun _ h => h)).after
      (by decide) (Only.refl _ _))
  · exact Only.refl _ _

theorem State.closeTick_only (s : State) (a1 : Nat) (a2 : Nat) :
    Only [.tiles] s (State.closeTick s a1 a2) := by
  unfold State.closeTick
  dsimp only
  exact (State.modTile_only ..).after (by decide) (Only.refl _ _)

theorem State.syncChainFault_only (s : State) (a1 : Nat) :
    Only [.out, .fresh, .power, .pool, .chains, .strs, .ptos, .groups, .recorder] s (State.syncChainFault s a1) := by
  unfold State.syncChainFault
  exact (State.setCause_only ..).after (by decide) (Only.refl _ _)

theorem State.enumFail_only (s : State) (a1 : Nat) (a2 : Nat) :
    Only [.out, .fresh, .power, .tenants, .pool, .chains, .strs, .ptos, .groups, .parts, .views, .recorder, .doms] s
        (State.enumFail s a1 a2) := by
  unfold State.enumFail
  dsimp only
  split
  · refine (State.finish_only ..).after (by decide) ?_
    refine (State.syncChainFault_only ..).after (by decide) ?_
    split
    · exact (State.sendTrip_only ..).after (by decide) ((State.chFault_only ..).after (by decide)
        ((State.modChain_only ..).after (by decide) (Only.refl _ _)))
    · exact (State.chFault_only ..).after (by decide) ((State.modChain_only ..).after (by decide) (Only.refl _ _))
  · refine (State.syncChainFault_only ..).after (by decide) ?_
    split
    · exact (State.sendTrip_only ..).after (by decide) ((State.chFault_only ..).after (by decide)
        ((State.modChain_only ..).after (by decide) (Only.refl _ _)))
    · exact (State.chFault_only ..).after (by decide) ((State.modChain_only ..).after (by decide) (Only.refl _ _))

theorem State.measure_only (s : State) (a1 : Nat) (a2 : Nat) :
    Only [.out, .chains] s (State.measure s a1 a2) := by
  unfold State.measure
  refine forEach_only _ _ (fun t x => ?_) ?_
  · refine forEach_only _ _ (fun t x => ?_) ?_
    · exact (State.sendEcho_only ..).after (by decide) (Only.refl _ _)
    · exact Only.refl _ _
  · exact Only.refl _ _

theorem State.setEnum_only (s : State) (a1 : Nat) (a2 : Option EnumRun) :
    Only [.chains] s (State.setEnum s a1 a2) := by
  unfold State.setEnum
  exact (State.modChain_only ..).after (by decide) (Only.refl _ _)

theorem State.enumCmdOk_only (s : State) (a1 : Nat) (a2 : Nat) (a3 : Nat) (a4 : List Half) :
    Only [.out, .fresh, .power, .tenants, .pool, .chains, .strs, .ptos, .groups, .parts, .views, .recorder, .doms] s
        (State.enumCmdOk s a1 a2 a3 a4) := by
  unfold State.enumCmdOk
  split
  · exact Only.refl _ _
  · split
    · split
      · exact (State.enumFail_only ..).after (by decide) (Only.refl _ _)
      · split
        · exact (State.measure_only ..).after (by decide) ((State.setEnum_only ..).after (by decide) (Only.refl _ _))
        · exact (State.setEnum_only ..).after (by decide) (Only.refl _ _)
    · split
      · exact (State.setEnum_only ..).after (by decide) (Only.refl _ _)
      · split
        · exact (State.measure_only ..).after (by decide) ((State.setEnum_only ..).after (by decide) (Only.refl _ _))
        · exact (State.setEnum_only ..).after (by decide) (Only.refl _ _)
    · exact Only.refl _ _

theorem State.ringMended_only (s : State) (a1 : Nat) :
    Only [.chains] s (State.ringMended s a1) := by
  unfold State.ringMended
  dsimp only
  split
  · exact (State.chFault_only ..).after (by decide) ((State.modChain_only ..).after (by decide) (Only.refl _ _))
  · exact Only.refl _ _

theorem State.tellDecision_only (s : State) (a1 : Nat) (a2 : Bool) (a3 : Nat) :
    Only [.out, .chains] s (State.tellDecision s a1 a2 a3) := by
  unfold State.tellDecision
  split
  · exact Only.refl _ _
  · exact (State.emit_only ..).after (by decide) ((State.modChain_only ..).after (by decide) (Only.refl _ _))

theorem State.verifyOpen_only (s : State) (a1 : Nat) (a2 : Nat) :
    Only [.out, .fresh, .power, .pool, .chains, .strs, .ptos, .groups, .recorder] s (State.verifyOpen s a1 a2) := by
  unfold State.verifyOpen
  split
  · exact Only.refl _ _
  · split
    · exact (State.ringMended_only ..).after (by decide) ((State.croakCause_only ..).after (by decide)
        ((State.setVerify_only ..).after (by decide) ((State.tellDecision_only ..).after (by decide) (Only.refl _
        _))))
    · exact (State.ringMended_only ..).after (by decide) ((State.setVerify_only ..).after (by decide) (Only.refl _ _))

theorem State.verifyHold_only (s : State) (a1 : Nat) :
    Only [.out, .power, .pool, .chains, .recorder] s (State.verifyHold s a1) := by
  unfold State.verifyHold
  split
  · exact Only.refl _ _
  · dsimp only
    split
    · exact (State.ringMended_only ..).after (by decide) ((State.record_only ..).after (by decide)
        ((State.setVerify_only ..).after (by decide) ((State.tellDecision_only ..).after (by decide) (Only.refl _
        _))))
    · exact (State.modChain_only ..).after (by decide) ((State.setVerify_only ..).after (by decide)
        ((State.tellDecision_only ..).after (by decide) (Only.refl _ _)))

theorem State.verifySettle_only (s : State) (a1 : Nat) :
    Only [.out, .power, .pool, .chains, .recorder] s (State.verifySettle s a1) := by
  unfold State.verifySettle
  split
  · exact Only.refl _ _
  · split
    · split
      · exact (State.verifyHold_only ..).after (by decide) (Only.refl _ _)
      · exact Only.refl _ _
    · split
      · exact (State.verifyHold_only ..).after (by decide) (Only.refl _ _)
      · exact Only.refl _ _
    · exact Only.refl _ _

theorem State.verifyRead_only (s : State) (a1 : Nat) :
    Only [.out, .power, .pool, .chains, .recorder] s (State.verifyRead s a1) := by
  unfold State.verifyRead
  split
  · exact Only.refl _ _
  · split
    · exact (State.ringMended_only ..).after (by decide) ((State.setVerify_only ..).after (by decide) (Only.refl _ _))
    · split
      · exact (State.verifySettle_only ..).after (by decide) ((State.setVerify_only ..).after (by decide) (Only.refl
          _ _))
      · dsimp only
        split
        · refine (State.sendSegment_only ..).after (by decide) ?_
          split
          · exact (State.sendSegment_only ..).after (by decide) ((State.modChain_only ..).after (by decide)
              ((State.setVerify_only ..).after (by decide) (Only.refl _ _)))
          · exact (State.modChain_only ..).after (by decide) ((State.setVerify_only ..).after (by decide) (Only.refl
              _ _))
        · split
          · exact (State.sendSegment_only ..).after (by decide) ((State.modChain_only ..).after (by decide)
              ((State.setVerify_only ..).after (by decide) (Only.refl _ _)))
          · exact (State.modChain_only ..).after (by decide) ((State.setVerify_only ..).after (by decide) (Only.refl
              _ _))

theorem State.readCmpAnswer_only (s : State) (a1 : Nat) (a2 : Nat) (a3 : List Half) :
    Only [.out, .fresh, .power, .pool, .chains, .strs, .ptos, .groups, .recorder] s (State.readCmpAnswer s a1 a2 a3)
        := by
  unfold State.readCmpAnswer
  split
  · split
    · exact Only.refl _ _
    · split
      · exact (State.verifyOpen_only ..).after (by decide) (Only.refl _ _)
      · dsimp only
        split
        · split
          · exact (State.verifyRead_only ..).after (by decide) ((State.setVerify_only ..).after (by decide)
              (Only.refl _ _))
          · exact (State.setVerify_only ..).after (by decide) (Only.refl _ _)
        · split
          · exact (State.verifyRead_only ..).after (by decide) ((State.setVerify_only ..).after (by decide)
              (Only.refl _ _))
          · exact (State.setVerify_only ..).after (by decide) (Only.refl _ _)
  · exact Only.refl _ _

theorem State.segmentOk_only (s : State) (a1 : Nat) (a2 : Nat) (a3 : Nat) :
    Only [.chains] s (State.segmentOk s a1 a2 a3) := by
  unfold State.segmentOk
  dsimp only
  split
  · split
    · exact (State.modChain_only ..).after (by decide) ((State.modChain_only ..).after (by decide) (Only.refl _ _))
    · exact (State.modChain_only ..).after (by decide) (Only.refl _ _)
  · split
    · split
      · exact (State.modChain_only ..).after (by decide) ((State.modChain_only ..).after (by decide) (Only.refl _ _))
      · exact (State.modChain_only ..).after (by decide) (Only.refl _ _)
    · split
      · exact (State.modChain_only ..).after (by decide) ((State.modChain_only ..).after (by decide) (Only.refl _ _))
      · split
        · exact (State.modChain_only ..).after (by decide) ((State.modChain_only ..).after (by decide) (Only.refl _
            _))
        · exact (State.modChain_only ..).after (by decide) (Only.refl _ _)

theorem State.stopImped_only (s : State) (a1 : Nat) (a2 : Nat) (a3 : Nat) :
    Only [.tiles] s (State.stopImped s a1 a2 a3) := by
  unfold State.stopImped
  exact (State.modTile_only ..).after (by decide) (Only.refl _ _)

theorem State.r62Effect_only (s : State) (a1 : Nat) (a2 : MonCmd) (a3 : Nat) :
    Only [.tiles, .bals] s (State.r62Effect s a1 a2 a3) := by
  unfold State.r62Effect
  refine forEach_only _ _ (fun t x => ?_) ?_
  · split
    · exact (State.modBal_only ..).after (by decide) (Only.refl _ _)
    · exact (State.modBal_only ..).after (by decide) (Only.refl _ _)
    · exact (State.modTile_only ..).after (by decide) (Only.refl _ _)
    · exact (State.stopImped_only ..).after (by decide) (Only.refl _ _)
    · exact Only.refl _ _
  · exact Only.refl _ _

theorem State.cmdOk_only (s : State) (a1 : Nat) (a2 : SentCmd) (a3 : List Half) :
    Only [.out, .fresh, .power, .tenants, .pool, .chains, .tiles, .strs, .ptos, .bals, .groups, .parts, .views,
        .recorder, .doms] s (State.cmdOk s a1 a2 a3) := by
  unfold State.cmdOk
  dsimp only
  split
  · exact (State.enumCmdOk_only ..).after (by decide) (Only.refl _ _)
  · exact (State.readCmpAnswer_only ..).after (by decide) (Only.refl _ _)
  · exact (State.segmentOk_only ..).after (by decide) (Only.refl _ _)
  · exact Only.refl _ _
  · split
    · exact (State.modChain_only ..).after (by decide) (Only.refl _ _)
    · exact Only.refl _ _
  · exact Only.refl _ _
  · split
    · exact (State.finish_only ..).after (by decide) ((State.r62Effect_only ..).after (by decide) (Only.refl _ _))
    · exact (State.r62Effect_only ..).after (by decide) (Only.refl _ _)
  · refine (State.finish_only ..).after (by decide) ?_
    split
    · exact (State.r62Effect_only ..).after (by decide) (Only.refl _ _)
    · exact Only.refl _ _
  · exact (State.finish_only ..).after (by decide) (Only.refl _ _)
  · exact Only.refl _ _

theorem State.unhandMask_only (s : State) (a1 : Nat) (a2 : Nat) (a3 : Nat) (a4 : Nat) :
    Only [.tiles] s (State.unhandMask s a1 a2 a3 a4) := by
  unfold State.unhandMask
  exact (State.modTile_only ..).after (by decide) (Only.refl _ _)

theorem State.cmdRefused_only (s : State) (a1 : Nat) (a2 : SentCmd) (a3 : Nat) (a4 : List Half) :
    Only [.out, .fresh, .power, .tenants, .pool, .chains, .tiles, .strs, .ptos, .groups, .parts, .views, .recorder,
        .doms] s (State.cmdRefused s a1 a2 a3 a4) := by
  unfold State.cmdRefused
  dsimp only
  split
  · refine (State.enumFail_only ..).after (by decide) ?_
    split
    · exact (State.unhandMask_only ..).after (by decide) (Only.refl _ _)
    · exact Only.refl _ _
  · refine (State.verifyOpen_only ..).after (by decide) ?_
    split
    · exact (State.unhandMask_only ..).after (by decide) (Only.refl _ _)
    · exact Only.refl _ _
  · refine (State.record_only ..).after (by decide) ?_
    split
    · exact (State.unhandMask_only ..).after (by decide) (Only.refl _ _)
    · exact Only.refl _ _
  · split
    · refine (State.finish_only ..).after (by decide) ?_
      split
      · exact (State.unhandMask_only ..).after (by decide) (Only.refl _ _)
      · exact Only.refl _ _
    · split
      · exact (State.unhandMask_only ..).after (by decide) (Only.refl _ _)
      · exact Only.refl _ _
  · refine (State.finish_only ..).after (by decide) ?_
    split
    · exact (State.unhandMask_only ..).after (by decide) (Only.refl _ _)
    · exact Only.refl _ _
  · refine (State.finish_only ..).after (by decide) ?_
    split
    · exact (State.unhandMask_only ..).after (by decide) (Only.refl _ _)
    · exact Only.refl _ _
  · split
    · exact (State.unhandMask_only ..).after (by decide) (Only.refl _ _)
    · exact Only.refl _ _
  · split
    · exact (State.unhandMask_only ..).after (by decide) (Only.refl _ _)
    · exact Only.refl _ _
  · split
    · exact (State.unhandMask_only ..).after (by decide) (Only.refl _ _)
    · exact Only.refl _ _
  · split
    · exact (State.unhandMask_only ..).after (by decide) (Only.refl _ _)
    · exact Only.refl _ _

theorem State.cmdTimedOut_only (s : State) (a1 : Nat) (a2 : SentCmd) :
    Only [.out, .fresh, .power, .tenants, .pool, .chains, .tiles, .strs, .ptos, .bals, .groups, .parts, .views,
        .recorder, .doms] s (State.cmdTimedOut s a1 a2) := by
  unfold State.cmdTimedOut
  dsimp only
  split
  · exact (State.enumFail_only ..).after (by decide) ((State.record_only ..).after (by decide) (Only.refl _ _))
  · exact (State.verifyOpen_only ..).after (by decide) ((State.record_only ..).after (by decide) (Only.refl _ _))
  · exact (State.bleedFailed_only ..).after (by decide) ((State.record_only ..).after (by decide) (Only.refl _ _))
  · split
    · exact (State.finish_only ..).after (by decide) ((State.record_only ..).after (by decide) (Only.refl _ _))
    · exact (State.record_only ..).after (by decide) (Only.refl _ _)
  · refine (State.finish_only ..).after (by decide) ?_
    split
    · exact (State.bleedFailed_only ..).after (by decide) ((State.record_only ..).after (by decide) (Only.refl _ _))
    · exact (State.record_only ..).after (by decide) (Only.refl _ _)
  · exact (State.finish_only ..).after (by decide) ((State.record_only ..).after (by decide) (Only.refl _ _))
  · exact (State.record_only ..).after (by decide) (Only.refl _ _)
  · exact (State.record_only ..).after (by decide) (Only.refl _ _)
  · exact (State.record_only ..).after (by decide) (Only.refl _ _)
  · exact (State.record_only ..).after (by decide) (Only.refl _ _)

theorem State.cmpFire_only (s : State) (a1 : Nat) (a2 : Nat) :
    Only [.out, .parts, .views, .cmps, .doms] s (State.cmpFire s a1 a2) := by
  unfold State.cmpFire
  split
  · exact (State.event_only ..).after (by decide) ((State.modCmp_only ..).after (by decide) (Only.refl _ _))
  · exact Only.refl _ _

theorem State.cmpStepped_only (s : State) (a1 a2 a3 a4 : Nat) :
    Only [.out, .parts, .views, .cmps, .doms] s (State.cmpStepped s a1 a2 a3 a4) := by
  unfold State.cmpStepped
  split
  · exact (State.event_only ..).after (by decide) ((State.modCmp_only ..).after (by decide) (Only.refl _ _))
  · exact Only.refl _ _

theorem State.partTenantReset_only (s : State) (a1 : Nat) (a2 : Nat) :
    Only [.out, .ident, .cfg, .config, .tenants, .pool, .parts, .views, .doms] s (State.partTenantReset s a1 a2) := by
  unfold State.partTenantReset
  split
  · exact Only.refl _ _
  · exact (State.tenantReset_only ..).after (by decide) (Only.refl _ _)

theorem State.refuseAsks_only (s : State) (a1 : Nat) :
    Only [.out, .tenants, .pool, .parts, .views, .doms] s (State.refuseAsks s a1) := by
  unfold State.refuseAsks
  dsimp only
  refine forEach_only _ _ (fun t x => ?_) ?_
  · split
    · exact (State.finish_only ..).after (by decide) (Only.refl _ _)
    · exact (State.finish_only ..).after (by decide) (Only.refl _ _)
    · exact (State.finish_only ..).after (by decide) (Only.refl _ _)
  · exact (State.modPart_quiet _ _ _ (by exact fun _ => ⟨rfl, rfl, rfl⟩)).after (by decide) (Only.refl _ _)

theorem State.loopDestSafe_only (s : State) (a1 : Nat) :
    Only [.valves, .anas] s (State.loopDestSafe s a1) := by
  unfold State.loopDestSafe
  split
  · dsimp only
    split
    · exact (State.modValve_only ..).after (by decide) (Only.refl _ _)
    · exact (State.setValve_only ..).after (by decide) ((State.modValve_only ..).after (by decide) (Only.refl _ _))
  · exact (State.anaSafe_only ..).after (by decide) (Only.refl _ _)
  · exact Only.refl _ _

theorem State.loopOff_only (s : State) (a1 : Nat) :
    Only [.out, .power, .pool, .parts, .views, .loops, .injs, .valves, .anas, .recorder, .doms] s (State.loopOff s
        a1) := by
  unfold State.loopOff
  split
  · exact Only.refl _ _
  · refine State.loopChange_only _ _ (by decide) ?_
    dsimp only
    exact (State.loopDestSafe_only ..).after (by decide) ((State.modLoop_only ..).after (by decide)
        ((State.injEndAll_only ..).after (by decide) (Only.refl _ _)))

theorem State.doSafe_only (s : State) (a1 : Nat) :
    Only [.dos] s (State.doSafe s a1) := by
  unfold State.doSafe
  exact (State.setDo_only ..).after (by decide) (Only.refl _ _)

theorem State.valveSafe_only (s : State) (a1 : Nat) :
    Only [.valves] s (State.valveSafe s a1) := by
  unfold State.valveSafe
  dsimp only
  split
  · exact (State.modValve_only ..).after (by decide) (Only.refl _ _)
  · exact (State.setValve_only ..).after (by decide) ((State.modValve_only ..).after (by decide) (Only.refl _ _))

theorem State.leapSafe_only (s : State) (a1 : Nat) :
    Only [.out, .fbs] s (State.leapSafe s a1) := by
  unfold State.leapSafe
  dsimp only
  refine doIf_only _ _ (fun t => ?_) ?_
  · exact (State.emit_only ..).after (by decide) (Only.refl _ _)
  · exact (State.modFb_only ..).after (by decide) (Only.refl _ _)

theorem State.outputsSafe_only (s : State) (a1 : Nat) :
    Only [.out, .power, .pool, .parts, .views, .loops, .injs, .valves, .fbs, .anas, .dos, .fdpFault, .fdpTime,
        .recorder, .doms] s (State.outputsSafe s a1) := by
  unfold State.outputsSafe
  dsimp only
  refine (State.syncFdp_only ..).after (by decide) ?_
  refine (State.modPart_quiet _ _ _ (by exact fun _ => ⟨rfl, rfl, rfl⟩)).after (by decide) ?_
  refine forEach_only _ _ (fun t x => ?_) ?_
  · split
    · exact (State.leapSafe_only ..).after (by decide) (Only.refl _ _)
    · exact Only.refl _ _
  · refine forEach_only _ _ (fun t x => ?_) ?_
    · split
      · exact (State.valveSafe_only ..).after (by decide) (Only.refl _ _)
      · exact Only.refl _ _
    · refine forEach_only _ _ (fun t x => ?_) ?_
      · split
        · exact (State.anaSafe_only ..).after (by decide) (Only.refl _ _)
        · exact Only.refl _ _
      · refine forEach_only _ _ (fun t x => ?_) ?_
        · split
          · exact (State.doSafe_only ..).after (by decide) (Only.refl _ _)
          · exact Only.refl _ _
        · refine forEach_only _ _ (fun t x => ?_) ?_
          · split
            · exact (State.loopOff_only ..).after (by decide) (Only.refl _ _)
            · exact Only.refl _ _
          · exact Only.refl _ _

theorem State.resetView_only (s : State) (a1 : Nat) :
    Only [.views] s (State.resetView s a1) := by
  unfold State.resetView
  exact (State.modView_only _ _ _ (by exact fun _ _ => Nat.zero_le _)).after (by decide) (Only.refl _ _)

theorem State.setupView_only (s : State) (a1 : Nat) :
    Only [.views] s (State.setupView s a1) := by
  unfold State.setupView
  split
  · dsimp only
    refine forEach_only _ _ (fun t x => ?_) ?_
    · split
      · exact Only.refl _ _
      · exact (State.modView_only _ _ _ (by exact fun _ h => h)).after (by decide) (Only.refl _ _)
    · exact (State.modView_only _ _ _ (by exact fun _ h => h)).after (by decide) (Only.refl _ _)
  · exact Only.refl _ _

theorem State.partReset_only (s : State) (a1 : Nat) :
    Only [.out, .power, .ident, .cfg, .config, .tenants, .pool, .parts, .memories, .views, .cmps, .loops, .injs,
        .valves, .fbs, .anas, .dos, .fdpFault, .fdpTime, .recorder, .display, .doms] s (State.partReset s a1) := by
  unfold State.partReset
  dsimp only
  exact (State.setupView_only ..).after (by decide) ((only_cmps_display _ _ _).after (by decide)
    ((State.resetView_only ..).after (by decide)
      ((State.modPart_only _ _ _ (by exact fun x h => Part.afterReset_canon x h)).after (by decide)
        ((State.partTenantReset_only ..).after (by decide) ((State.refuseAsks_only ..).after (by decide)
          ((State.outputsSafe_only ..).after (by decide) (Only.refl _ _)))))))

theorem State.newtPart_only (s : State) (a1 : Nat) (a2 : PartMirror) :
    Only [.parts, .memories] s (State.newtPart s a1 a2) := by
  unfold State.newtPart
  refine (State.modPart_only _ _ _ ?_).after (by decide) (Only.refl _ _)
  intro x h
  refine ⟨?_, h.2.1, h.2.2⟩
  exact foldl_wf _ _ _ (fun m x hm => Memory.load_wf x m hm) (Memory.restrict_wf _ _ (Memory.restrict_wf _ _ h.1))

theorem State.coldPart_only (s : State) (a1 : Nat) (a2 : Bool) :
    Only [.out, .power, .ident, .cfg, .config, .tenants, .pool, .parts, .memories, .views, .cmps, .loops, .injs,
        .valves, .fbs, .anas, .dos, .fdpFault, .fdpTime, .recorder, .display, .doms] s (State.coldPart s a1 a2) := by
  unfold State.coldPart
  dsimp only
  split
  · split
    · refine (State.modPart_quiet _ _ _ (by exact fun _ => ⟨rfl, rfl, rfl⟩)).after (by decide) ?_
      refine (State.partStart_only ..).after (by decide) ?_
      split
      · exact (State.partReset_only ..).after (by decide) (Only.refl _ _)
      · exact (State.newtPart_only ..).after (by decide) ((State.partReset_only ..).after (by decide) (Only.refl _ _))
    · split
      · exact (State.partReset_only ..).after (by decide) (Only.refl _ _)
      · exact (State.newtPart_only ..).after (by decide) ((State.partReset_only ..).after (by decide) (Only.refl _ _))
  · split
    · refine (State.modPart_quiet _ _ _ (by exact fun _ => ⟨rfl, rfl, rfl⟩)).after (by decide) ?_
      refine (State.partStart_only ..).after (by decide) ?_
      split
      · exact (State.partReset_only ..).after (by decide) (Only.refl _ _)
      · exact (State.newtPart_only ..).after (by decide) ((State.partReset_only ..).after (by decide) (Only.refl _ _))
    · split
      · exact (State.partReset_only ..).after (by decide) (Only.refl _ _)
      · exact (State.newtPart_only ..).after (by decide) ((State.partReset_only ..).after (by decide) (Only.refl _ _))

theorem State.profileAhead_only (a0 : Nat) (s : State) (a2 : Nat) :
    Only [.loops] s (State.profileAhead a0 s a2) := by
  unfold State.profileAhead
  split
  · exact Only.refl _ _
  · dsimp only
    split
    · exact (State.profileAhead_only ..).after (by decide) ((State.modLoop_only ..).after (by decide) (Only.refl _ _))
    · exact Only.refl _ _

theorem State.hotSlot_only (s : State) (a1 : SlotRec) :
    Only [.loops] s (State.hotSlot s a1) := by
  unfold State.hotSlot
  dsimp only
  exact (State.profileAhead_only ..).after (by decide) ((State.modLoop_only ..).after (by decide) (Only.refl _ _))

theorem State.hotLoops_only (s : State) :
    Only [.loops, .valves] s (State.hotLoops s) := by
  unfold State.hotLoops
  split
  · exact Only.refl _ _
  · dsimp only
    refine forEach_only _ _ (fun t x => ?_) ?_
    · exact (State.hotSlot_only ..).after (by decide) (Only.refl _ _)
    · refine forEach_only _ _ (fun t x => ?_) ?_
      · exact (State.modValve_only ..).after (by decide) (Only.refl _ _)
      · exact Only.refl _ _

theorem State.coldPlant_only (s : State) (a1 : Bool) :
    Only [.out, .power, .ident, .cfg, .config, .tenants, .pool, .parts, .memories, .views, .cmps, .pair, .loops,
        .injs, .valves, .fbs, .anas, .dos, .fdpFault, .fdpTime, .recorder, .display, .doms] s (State.coldPlant s a1)
        := by
  unfold State.coldPlant
  dsimp only
  refine (State.emit_only ..).after (by decide) ?_
  refine (State.modPair_only ..).after (by decide) ?_
  split
  · refine (State.hotLoops_only ..).after (by decide) ?_
    refine forEach_only _ _ (fun t x => ?_) ?_
    · split
      · exact (State.coldPart_only ..).after (by decide) (Only.refl _ _)
      · exact Only.refl _ _
    · exact Only.refl _ _
  · refine forEach_only _ _ (fun t x => ?_) ?_
    · exact (State.modLoop_only ..).after (by decide) (Only.refl _ _)
    · refine forEach_only _ _ (fun t x => ?_) ?_
      · split
        · exact (State.coldPart_only ..).after (by decide) (Only.refl _ _)
        · exact Only.refl _ _
      · exact Only.refl _ _

theorem State.retainCommit_only (s : State) (a1 : Nat) (a2 : Bool) :
    Only [.parts, .memories] s (State.retainCommit s a1 a2) := by
  unfold State.retainCommit
  dsimp only
  split
  · refine (State.modPart_at _ _ _ ?_).after (by decide) (Only.refl _ _)
    intro hs
    have h : Part.canon (s.part a1) := hs a1
    refine ⟨h.1, ?_, ?_⟩
    · dsimp only
      split
      · exact Memory.restrict_wf _ _ h.1
      · exact h.2.1
    · dsimp only
      split
      · exact h.2.2
      · exact Memory.restrict_wf _ _ h.1
  · exact Only.refl _ _

theorem State.commitRetained_only (s : State) :
    Only [.parts, .memories] s (State.commitRetained s) := by
  unfold State.commitRetained
  refine forEach_only _ _ (fun t x => ?_) ?_
  · split
    · exact (State.retainCommit_only ..).after (by decide) (Only.refl _ _)
    · exact Only.refl _ _
  · exact Only.refl _ _

theorem State.toSafe_only (s : State) (a1 : SafeEval) :
    Only [.out, .safe] s (State.toSafe s a1) := by
  unfold State.toSafe
  refine forEach_only _ _ (fun t x => ?_) ?_
  · dsimp only
    refine doIf_only _ _ (fun t => ?_) ?_
    · exact (State.emit_only ..).after (by decide) (Only.refl _ _)
    · exact Only.refl _ _
  · exact (only_safe _ _).after (by decide) (Only.refl _ _)

theorem State.completeCommit_only (s : State) (a1 : CommitWait) :
    Only [.out, .ident, .cfg, .config, .tenants, .pool, .parts, .views, .safe, .doms] s (State.completeCommit s a1)
        := by
  unfold State.completeCommit
  dsimp only
  refine (State.finish_only ..).after (by decide) ?_
  split
  · exact (State.powerCommitted_only ..).after (by decide) ((State.installCommit_only ..).after (by decide)
      (Only.refl _ _))
  · exact (State.toSafe_only ..).after (by decide) ((State.powerCommitted_only ..).after (by decide)
      ((State.installCommit_only ..).after (by decide) (Only.refl _ _)))

theorem State.updateString_only (s : State) (a1 : Nat) :
    Only [.strLimits] s (State.updateString s a1) := by
  unfold State.updateString
  dsimp only
  exact (only_strLimits _ _).after (by decide) (Only.refl _ _)

theorem State.evalBurst_only (s : State) (a1 : Nat) (a2 : BurstAsk) :
    Only [.out, .tenants, .pool, .groups, .disp, .parts, .views, .doms] s (State.evalBurst s a1 a2) := by
  unfold State.evalBurst
  dsimp only
  split
  · exact (State.finish_only ..).after (by decide) (Only.refl _ _)
  · split
    · split
      · exact (State.finish_only ..).after (by decide) (Only.refl _ _)
      · split
        · split
          · exact (State.finish_only ..).after (by decide) ((State.modDisp_only ..).after (by decide)
              ((State.modGroup_only ..).after (by decide) (Only.refl _ _)))
          · split
            · exact (State.finish_only ..).after (by decide) (Only.refl _ _)
            · exact (State.finish_only ..).after (by decide) (Only.refl _ _)
        · split
          · exact (State.finish_only ..).after (by decide) ((State.modDisp_only ..).after (by decide)
              ((State.modGroup_only ..).after (by decide) (Only.refl _ _)))
          · split
            · exact (State.finish_only ..).after (by decide) (Only.refl _ _)
            · exact (State.finish_only ..).after (by decide) (Only.refl _ _)
    · split
      · exact (State.finish_only ..).after (by decide) (Only.refl _ _)
      · split
        · split
          · exact (State.finish_only ..).after (by decide) ((State.modDisp_only ..).after (by decide)
              ((State.modGroup_only ..).after (by decide) (Only.refl _ _)))
          · split
            · exact (State.finish_only ..).after (by decide) (Only.refl _ _)
            · exact (State.finish_only ..).after (by decide) (Only.refl _ _)
        · split
          · exact (State.finish_only ..).after (by decide) ((State.modDisp_only ..).after (by decide)
              ((State.modGroup_only ..).after (by decide) (Only.refl _ _)))
          · split
            · exact (State.finish_only ..).after (by decide) (Only.refl _ _)
            · exact (State.finish_only ..).after (by decide) (Only.refl _ _)

theorem State.updateGroup_only (s : State) (a1 : Nat) (a2 : Nat) :
    Only [.groups] s (State.updateGroup s a1 a2) := by
  unfold State.updateGroup
  dsimp only
  exact (State.modGroup_only ..).after (by decide) (Only.refl _ _)

theorem State.computeDispatch_only (s : State) (a1 : Nat) :
    Only [.out, .power, .tenants, .pool, .strLimits, .groups, .disp, .parts, .views, .recorder, .doms] s
        (State.computeDispatch s a1) := by
  unfold State.computeDispatch
  dsimp only
  refine (State.modDisp_only ..).after (by decide) ?_
  refine forEach_only _ _ (fun t x => ?_) ?_
  · exact (State.modGroup_only ..).after (by decide) ((State.updateGroup_only ..).after (by decide) (Only.refl _ _))
  · refine (State.modDisp_only ..).after (by decide) ?_
    refine forEach_only _ _ (fun t x => ?_) ?_
    · exact (State.evalBurst_only ..).after (by decide) (Only.refl _ _)
    · refine forEach_only _ _ (fun t x => ?_) ?_
      · exact (State.checkGrant_only ..).after (by decide) (Only.refl _ _)
      · refine forEach_only _ _ (fun t x => ?_) ?_
        · split
          · exact (State.updateString_only ..).after (by decide) (Only.refl _ _)
          · exact Only.refl _ _
        · exact Only.refl _ _

theorem State.configEntries_only (s : State) :
    Only [.power, .pool, .recorder] s (State.configEntries s) := by
  unfold State.configEntries
  dsimp only
  split
  · refine (State.record_only ..).after (by decide) ?_
    refine doIf_only _ _ (fun t => ?_) ?_
    · exact (State.record_only ..).after (by decide) (Only.refl _ _)
    · refine doIf_only _ _ (fun t => ?_) ?_
      · exact (State.record_only ..).after (by decide) (Only.refl _ _)
      · exact Only.refl _ _
  · split
    · refine (State.record_only ..).after (by decide) ?_
      refine doIf_only _ _ (fun t => ?_) ?_
      · exact (State.record_only ..).after (by decide) (Only.refl _ _)
      · refine doIf_only _ _ (fun t => ?_) ?_
        · exact (State.record_only ..).after (by decide) (Only.refl _ _)
        · exact Only.refl _ _
    · split
      · refine (State.record_only ..).after (by decide) ?_
        refine doIf_only _ _ (fun t => ?_) ?_
        · exact (State.record_only ..).after (by decide) (Only.refl _ _)
        · refine doIf_only _ _ (fun t => ?_) ?_
          · exact (State.record_only ..).after (by decide) (Only.refl _ _)
          · exact Only.refl _ _
      · refine doIf_only _ _ (fun t => ?_) ?_
        · exact (State.record_only ..).after (by decide) (Only.refl _ _)
        · refine doIf_only _ _ (fun t => ?_) ?_
          · exact (State.record_only ..).after (by decide) (Only.refl _ _)
          · exact Only.refl _ _

theorem State.confirmTrial_only (s : State) (a1 : Nat) :
    Only [.ident] s (State.confirmTrial s a1) := by
  unfold State.confirmTrial
  dsimp only
  refine (only_ident _ _).after (by decide) ?_
  refine (State.setFwSlot_only ..).after (by decide) ?_
  split
  · exact (State.setFwSlot_only ..).after (by decide) (Only.refl _ _)
  · exact Only.refl _ _

theorem State.coreIdle_only (s : State) (a1 : Nat) :
    Only [.doms] s (State.coreIdle s a1) := by
  unfold State.coreIdle
  dsimp only
  split
  · exact Only.refl _ _
  · split
    · exact Only.refl _ _
    · exact (State.askIdle_only ..).after (by decide) (Only.refl _ _)

theorem State.partStop_only (s : State) (a1 : Nat) :
    Only [.out, .power, .pool, .parts, .views, .loops, .injs, .valves, .fbs, .anas, .dos, .fdpFault, .fdpTime,
        .recorder, .doms] s (State.partStop s a1) := by
  unfold State.partStop
  exact (State.modPart_quiet _ _ _ (by exact fun _ => ⟨rfl, rfl, rfl⟩)).after (by decide) ((State.outputsSafe_only
      ..).after (by decide) (Only.refl _ _))

theorem State.corePairLost_only (s : State) (a1 : Nat) :
    Only [.out, .power, .tenants, .pool, .parts, .views, .loops, .injs, .valves, .fbs, .anas, .dos, .fdpFault,
        .fdpTime, .recorder, .doms] s (State.corePairLost s a1) := by
  unfold State.corePairLost
  refine forEach_only _ _ (fun t x => ?_) ?_
  · split
    · split
      · exact (State.refuseAsks_only ..).after (by decide) ((State.partStop_only ..).after (by decide) (Only.refl _
          _))
      · exact (State.modPart_quiet _ _ _ (by exact fun _ => ⟨rfl, rfl, rfl⟩)).after (by decide) ((State.partStop_only
          ..).after (by decide) (Only.refl _ _))
    · exact Only.refl _ _
  · exact Only.refl _ _

theorem State.countCrc_only (s : State) (a1 : Nat) :
    Only [.chains] s (State.countCrc s a1) := by
  unfold State.countCrc
  exact (State.modChain_only ..).after (by decide) (Only.refl _ _)

theorem State.countMissing_only (s : State) (a1 : Nat) :
    Only [.out, .fresh, .power, .pool, .chains, .strs, .ptos, .groups, .recorder] s (State.countMissing s a1) := by
  unfold State.countMissing
  dsimp only
  split
  · exact (State.setCause_only ..).after (by decide) ((State.modStr_only ..).after (by decide) ((State.chFault_only
      ..).after (by decide) ((State.modChain_only ..).after (by decide) (Only.refl _ _))))
  · exact (State.modChain_only ..).after (by decide) (Only.refl _ _)

theorem State.defaultTrip_only (s : State) :
    Only [.out, .chains] s (State.defaultTrip s) := by
  unfold State.defaultTrip
  refine forEach_only _ _ (fun t x => ?_) ?_
  · dsimp only
    refine doIf_only _ _ (fun t => ?_) ?_
    · exact (State.emit_only ..).after (by decide) (Only.refl _ _)
    · refine doIf_only _ _ (fun t => ?_) ?_
      · exact (State.emit_only ..).after (by decide) (Only.refl _ _)
      · refine doIf_only _ _ (fun t => ?_) ?_
        · exact (State.modChain_only ..).after (by decide) (Only.refl _ _)
        · exact Only.refl _ _
  · exact Only.refl _ _

theorem State.timeStepped_only (s : State) (a1 : Nat) :
    Only [.now, .power, .supply, .ident, .cfg, .config, .tenants, .pool, .zones, .disp, .parts, .pair, .time, .net,
        .loops, .injs, .valves, .fbs, .anas, .dos, .cans, .safe, .display, .doms] s (State.timeStepped s a1) := by
  refine ⟨rfl, fun r hr => ?_, ⟨fun h p => ?_, id, id, id⟩, fun t ht => ?_⟩
  · cases r <;> first | exact absurd (by decide) hr | rfl | exact fun p => State.shiftPart s s.now a1 p
  · obtain ⟨x, y, z⟩ := State.shiftPart s s.now a1 p
    exact ⟨x ▸ (h p).1, y ▸ (h p).2.1, z ▸ (h p).2.2⟩
  · exact State.shiftTenant s _ t ht

theorem State.stepTime_only (s : State) (a1 : Nat) :
    Only [.now, .out, .power, .supply, .ident, .cfg, .config, .tenants, .pool, .zones, .disp, .parts, .views, .cmps,
        .pair, .time, .net, .loops, .injs, .valves, .fbs, .anas, .dos, .cans, .safe, .display, .doms] s
        (State.stepTime s a1) := by
  unfold State.stepTime
  split
  · refine forEach_only _ _ (fun t x => ?_) ?_
    · exact (State.cmpStepped_only ..).after (by decide) (Only.refl _ _)
    · exact (State.timeStepped_only ..).after (by decide) (Only.refl _ _)
  · exact (State.timeStepped_only ..).after (by decide) (Only.refl _ _)

theorem State.discipline_only (s : State) (a1 : Int) :
    Only [.now, .out, .power, .supply, .ident, .cfg, .config, .tenants, .pool, .zones, .disp, .parts, .views, .cmps,
        .pair, .time, .net, .loops, .injs, .valves, .fbs, .anas, .dos, .cans, .safe, .display, .doms] s
        (State.discipline s a1) := by
  unfold State.discipline
  dsimp only
  split
  · exact (State.modTime_only ..).after (by decide) ((State.stepTime_only ..).after (by decide) ((State.modTime_only
      ..).after (by decide) (Only.refl _ _)))
  · exact (State.modTime_only ..).after (by decide) ((State.modTime_only ..).after (by decide) (Only.refl _ _))

theorem State.doAsk_only (s : State) (a1 : Nat) (a2 : ModeAsk) :
    Only [.out, .power, .tenants, .pool, .parts, .views, .loops, .injs, .valves, .fbs, .anas, .dos, .fdpFault,
        .fdpTime, .recorder, .doms] s (State.doAsk s a1 a2) := by
  unfold State.doAsk
  split
  · split
    · exact (State.finish_only ..).after (by decide) ((State.partStop_only ..).after (by decide) (Only.refl _ _))
    · exact (State.finish_only ..).after (by decide) ((State.partStop_only ..).after (by decide) (Only.refl _ _))
    · exact (State.finish_only ..).after (by decide) ((State.partStop_only ..).after (by decide) (Only.refl _ _))
    · exact (State.finish_only ..).after (by decide) (Only.refl _ _)
  · split
    · exact (State.finish_only ..).after (by decide) ((State.modPart_quiet _ _ _
        (by exact fun _ => ⟨rfl, rfl, rfl⟩)).after (by decide) (Only.refl _ _))
    · exact (State.finish_only ..).after (by decide) (Only.refl _ _)
  · split
    · exact (State.finish_only ..).after (by decide) (Only.refl _ _)
    · exact (State.finish_only ..).after (by decide) (Only.refl _ _)

theorem State.doAsks_only (s : State) (a1 : Nat) :
    Only [.out, .power, .tenants, .pool, .parts, .views, .loops, .injs, .valves, .fbs, .anas, .dos, .fdpFault,
        .fdpTime, .recorder, .doms] s (State.doAsks s a1) := by
  unfold State.doAsks
  split
  refine forEach_only _ _ (fun t x => ?_) ?_
  · exact (State.doAsk_only ..).after (by decide) (Only.refl _ _)
  · exact (State.modPart_quiet _ _ _ (by exact fun _ => ⟨rfl, rfl, rfl⟩)).after (by decide) (Only.refl _ _)

theorem State.dropWaits_only (s : State) :
    Only [.out, .cfg, .config, .tenants, .pool, .parts, .views, .pair, .doms] s (State.dropWaits s) := by
  unfold State.dropWaits
  dsimp only
  refine (State.refuseAll_only ..).after (by decide) ?_
  refine (State.modPair_only ..).after (by decide) ?_
  split
  · exact Only.refl _ _
  · exact (State.dropRequest_only ..).after (by decide) ((State.modCfg_only ..).after (by decide) (Only.refl _ _))

theorem State.partsFreeze_only (s : State) :
    Only [.out, .tenants, .pool, .parts, .views, .doms] s (State.partsFreeze s) := by
  unfold State.partsFreeze
  refine forEach_only _ _ (fun t x => ?_) ?_
  · exact (State.modPart_quiet _ _ _ (by exact fun _ => ⟨rfl, rfl, rfl⟩)).after (by decide) ((State.refuseAsks_only
      ..).after (by decide) (Only.refl _ _))
  · exact Only.refl _ _

theorem State.dropHibernate_only (s : State) (a1 : Nat) :
    Only [.out, .power, .supply, .tenants, .pool, .parts, .views, .doms] s (State.dropHibernate s a1) := by
  unfold State.dropHibernate
  split
  · exact Only.refl _ _
  · exact (State.finish_only ..).after (by decide) ((State.modPower_only ..).after (by decide) (Only.refl _ _))

theorem State.releaseHold_only (s : State) :
    Only [.out, .pair] s (State.releaseHold s) := by
  unfold State.releaseHold
  exact (State.emit_only ..).after (by decide) ((State.modPair_only ..).after (by decide) (Only.refl _ _))

theorem State.doGiveUp_only (s : State) (a1 : GiveUpCause) :
    Only [.out, .power, .supply, .ident, .cfg, .config, .tenants, .pool, .chains, .strs, .groups, .disp, .parts,
        .views, .pair, .time, .dos, .fdpFault, .fdpTime, .cans, .recorder, .doms] s (State.doGiveUp s a1) := by
  unfold State.doGiveUp
  dsimp only
  refine (State.record_only ..).after (by decide) ?_
  refine (State.modPair_only ..).after (by decide) ?_
  refine (State.releaseHold_only ..).after (by decide) ?_
  refine doIf_only _ _ (fun t => ?_) ?_
  · exact (State.emit_only ..).after (by decide) (Only.refl _ _)
  · refine (State.breakLock_only ..).after (by decide) ?_
    refine (State.modDisp_only ..).after (by decide) ?_
    refine (State.refuseAll_only ..).after (by decide) ?_
    refine (State.dropHibernate_only ..).after (by decide) ?_
    refine forEach_only _ _ (fun t x => ?_) ?_
    · exact (State.chainStops_only ..).after (by decide) (Only.refl _ _)
    · refine (State.dropWaits_only ..).after (by decide) ?_
      refine (State.setRole_only ..).after (by decide) ?_
      refine (State.partsFreeze_only ..).after (by decide) ?_
      split
      · exact (State.modPair_only ..).after (by decide) (Only.refl _ _)
      · exact Only.refl _ _

theorem State.keeperDown_only (s : State) :
    Only [.out, .power, .supply, .ptos, .pair] s (State.keeperDown s) := by
  unfold State.keeperDown
  dsimp only
  exact (State.syncPtos_only ..).after (by decide) ((State.modPair_only ..).after (by decide) ((State.modPower_keep _
      _ (by exact fun _ => rfl)).after (by decide) (Only.refl _ _)))

theorem State.keeperLost_only (s : State) :
    Only [.out, .power, .supply, .tenants, .pool, .ptos, .parts, .views, .pair, .loops, .injs, .valves, .fbs, .anas,
        .dos, .fdpFault, .fdpTime, .recorder, .doms] s (State.keeperLost s) := by
  unfold State.keeperLost
  refine forEach_only _ _ (fun t x => ?_) ?_
  · exact (State.corePairLost_only ..).after (by decide) (Only.refl _ _)
  · exact (State.keeperDown_only ..).after (by decide) (Only.refl _ _)

theorem State.tileLost_only (s : State) (a1 : Nat) :
    Only [.tiles] s (State.tileLost s a1) := by
  unfold State.tileLost
  split
  · exact (State.modTile_only ..).after (by decide) (Only.refl _ _)
  · exact Only.refl _ _

theorem State.syncExt_only (s : State) :
    Only [.out, .fresh, .power, .pool, .chains, .strs, .ptos, .groups, .recorder] s (State.syncExt s) := by
  unfold State.syncExt
  refine forEach_only _ _ (fun t x => ?_) ?_
  · dsimp only
    exact (State.setCause_only ..).after (by decide) (Only.refl _ _)
  · exact Only.refl _ _

theorem State.syncNet_only (s : State) (k : Nat) : Only [.pool] s (s.syncNet k) := by
  exact only_pool s _ fun h => Pool.setHeld_balanced _ _ _ h

theorem State.endResync_only (s : State) (a1 : Nat) :
    Only [.out, .power, .pool, .chains, .tiles, .pair, .recorder] s (State.endResync s a1) := by
  unfold State.endResync
  split
  · exact Only.refl _ _
  · refine forEach_only _ _ (fun t x => ?_) ?_
    · exact (State.catchUp_only ..).after (by decide) (Only.refl _ _)
    · exact (State.modTile_only ..).after (by decide) (Only.refl _ _)

theorem State.endResyncs_only (s : State) :
    Only [.out, .power, .pool, .chains, .tiles, .pair, .recorder] s (State.endResyncs s) := by
  unfold State.endResyncs
  refine forEach_only _ _ (fun t x => ?_) ?_
  · exact (State.endResync_only ..).after (by decide) (Only.refl _ _)
  · exact Only.refl _ _

theorem State.linkLost_only (s : State) :
    Only [.out, .power, .pool, .chains, .tiles, .pair, .recorder] s (State.linkLost s) := by
  unfold State.linkLost
  exact (State.endResyncs_only ..).after (by decide) ((State.modPair_only ..).after (by decide) (Only.refl _ _))

theorem State.unitsLost_only (s : State) (a1 : Nat) :
    Only [.out, .fresh, .power, .tenants, .pool, .chains, .tiles, .strs, .ptos, .groups, .parts, .views, .pair,
        .time, .net, .loops, .injs, .valves, .fbs, .anas, .dis, .dos, .fdpFault, .fdpTime, .cans, .recorder, .doms] s
        (State.unitsLost s a1) := by
  unfold State.unitsLost
  split
  · exact (State.tileLost_only ..).after (by decide) ((State.tileLost_only ..).after (by decide) (Only.refl _ _))
  split
  · exact (State.corePairLost_only ..).after (by decide) (Only.refl _ _)
  split
  · exact (State.bankLost_only ..).after (by decide) (Only.refl _ _)
  split
  · exact (State.bankLost_only ..).after (by decide) (Only.refl _ _)
  split
  · refine forEach_only _ _ (fun t x => ?_) (Only.refl _ _)
    exact (State.anaSafe_only ..).after (by decide) ((State.modAna_only ..).after (by decide)
      ((State.setAnaFlags_only ..).after (by decide) (Only.refl _ _)))
  split
  · exact (State.syncExt_only ..).after (by decide) ((State.driveAllDo_only ..).after (by decide)
      ((only_dis_fbs _ _ _).after (by decide) (Only.refl _ _)))
  split
  · exact forEach_only _ _ (fun t x => (State.canConfigure_only ..).after (by decide) (Only.refl _ _)) (Only.refl _ _)
  split
  · dsimp only
    refine forEach_only _ _ (fun t x => (State.modValve_only ..).after (by decide) (Only.refl _ _)) ?_
    exact forEach_only _ _ (fun t x => (State.loopOff_only ..).after (by decide) (Only.refl _ _)) (Only.refl _ _)
  split
  · refine (State.modTime_only ..).after (by decide) (forEach_only _ _ (fun t x =>
      (State.syncNet_only ..).after (by decide) (Only.refl _ _)) ?_)
    exact (State.modNet_only ..).after (by decide) (Only.refl _ _)
  split
  · exact (State.linkLost_only ..).after (by decide) (Only.refl _ _)
  · exact Only.refl _ _

theorem State.domEffects_only (s : State) (a1 : Nat) :
    Only [.out, .fresh, .power, .supply, .tenants, .pool, .chains, .tiles, .strs, .ptos, .groups, .parts, .views,
        .pair, .time, .net, .loops, .injs, .valves, .fbs, .anas, .dis, .dos, .fdpFault, .fdpTime, .cans, .recorder,
        .doms] s (State.domEffects s a1) := by
  unfold State.domEffects
  split
  · exact (State.keeperLost_only ..).after (by decide) (Only.refl _ _)
  · split
    · refine forEach_only _ _ (fun t x => ?_) ?_
      · exact (State.unitsLost_only ..).after (by decide) (Only.refl _ _)
      · exact (State.keeperLost_only ..).after (by decide) (Only.refl _ _)
    · exact (State.unitsLost_only ..).after (by decide) (Only.refl _ _)

theorem State.domDown_only (s : State) (a1 : Nat) :
    Only [.out, .fresh, .power, .supply, .tenants, .pool, .chains, .tiles, .strs, .ptos, .groups, .parts, .views,
        .pair, .time, .net, .loops, .injs, .valves, .fbs, .anas, .dis, .dos, .fdpFault, .fdpTime, .cans, .recorder,
        .doms] s (State.domDown s a1) := by
  unfold State.domDown
  split
  · dsimp only
    exact (State.domEffects_only ..).after (by decide) ((State.modPower_only ..).after (by decide)
        ((State.setDom_only ..).after (by decide) (Only.refl _ _)))
  · exact Only.refl _ _

theorem State.hibernateSegments_only (s : State) :
    Only [.out, .chains] s (State.hibernateSegments s) := by
  unfold State.hibernateSegments
  refine forEach_only _ _ (fun t x => ?_) ?_
  · dsimp only
    split
    · exact (State.emit_only ..).after (by decide) ((State.applyRunning_only ..).after (by decide)
        ((State.modChain_only ..).after (by decide) (Only.refl _ _)))
    · exact Only.refl _ _
  · exact Only.refl _ _

theorem State.stagePosition_only (s : State) (a1 : Nat) (a2 : Nat) :
    Only [.ledger] s (State.stagePosition s a1 a2) := by
  unfold State.stagePosition
  dsimp only
  refine forEach_only _ _ (fun t x => ?_) ?_
  · split
    · exact (only_ledger _ _).after (by decide) (Only.refl _ _)
    · exact Only.refl _ _
  · exact Only.refl _ _

theorem State.writeLedger_only (s : State) :
    Only [.ledger] s (State.writeLedger s) := by
  unfold State.writeLedger
  refine forEach_only _ _ (fun t x => ?_) ?_
  · split
    · refine forEach_only _ _ (fun t x => ?_) ?_
      · exact (State.stagePosition_only ..).after (by decide) (Only.refl _ _)
      · exact Only.refl _ _
    · exact Only.refl _ _
  · exact Only.refl _ _

theorem State.keepDomains_only (s : State) (a1 : Nat → Bool) :
    Only [.doms] s (State.keepDomains s a1) := by
  unfold State.keepDomains
  exact (State.modPower_doms _ _ (by exact fun _ => rfl)).after (by decide) (Only.refl _ _)

theorem State.enterHibernate_only (s : State) :
    Only [.out, .power, .supply, .ident, .cfg, .config, .tenants, .pool, .chains, .tiles, .ledger, .bufA, .bufB,
        .readB, .ptos, .bals, .strLimits, .groups, .disp, .parts, .memories, .slices, .views, .cmps, .pair, .time,
        .net, .loops, .injs, .trace, .valves, .fbs, .anas, .grpField, .grpLow, .dis, .dos, .fdpFault, .fdpTime,
        .cans, .safe, .recorder, .display, .doms] s (State.enterHibernate s) := by
  unfold State.enterHibernate
  dsimp only
  exact (State.syncPtos_only ..).after (by decide) ((State.emit_only ..).after (by decide) ((State.modNet_only
      ..).after (by decide) ((State.modPower_only ..).after (by decide) ((State.cleared_only ..).after (by decide)
      ((State.keepDomains_only ..).after (by decide) ((State.hibernateSegments_only ..).after (by decide)
      ((State.commitRetained_only ..).after (by decide) ((State.writeLedger_only ..).after (by decide) (Only.refl _
      _)))))))))

theorem State.hibernateDone_only (s : State) :
    Only [.out, .power, .supply, .ident, .cfg, .config, .tenants, .pool, .chains, .tiles, .ledger, .bufA, .bufB,
        .readB, .ptos, .bals, .strLimits, .groups, .disp, .parts, .memories, .slices, .views, .cmps, .pair, .time,
        .net, .loops, .injs, .trace, .valves, .fbs, .anas, .grpField, .grpLow, .dis, .dos, .fdpFault, .fdpTime,
        .cans, .safe, .recorder, .display, .doms] s (State.hibernateDone s) := by
  unfold State.hibernateDone
  split
  · exact Only.refl _ _
  · exact (State.enterHibernate_only ..).after (by decide) ((State.finish_only ..).after (by decide)
      ((State.modPower_only ..).after (by decide) (Only.refl _ _)))

theorem State.settleWaits_only (s : State) :
    Only [.out, .ident, .cfg, .config, .tenants, .pool, .parts, .views, .pair, .safe, .doms] s (State.settleWaits s)
        := by
  unfold State.settleWaits
  split
  · exact Only.refl _ _
  · dsimp only
    refine forEach_only _ _ (fun t x => ?_) ?_
    · exact (State.finish_only ..).after (by decide) (Only.refl _ _)
    · refine (State.modPair_only ..).after (by decide) ?_
      split
      · exact Only.refl _ _
      · exact (State.completeCommit_only ..).after (by decide) (Only.refl _ _)

theorem State.settleRole_only (s : State) :
    Only [.out, .power, .pool, .groups, .disp, .parts, .views, .pair, .time, .dos, .fdpFault, .fdpTime, .cans,
        .recorder, .doms] s (State.settleRole s) := by
  unfold State.settleRole
  split
  · exact Only.refl _ _
  · split
    · split
      · exact (State.setRole_only ..).after (by decide) (Only.refl _ _)
      · exact Only.refl _ _
    · split
      · exact Only.refl _ _
      · exact (State.setRole_only ..).after (by decide) (Only.refl _ _)
    · split
      · exact (State.setRole_only ..).after (by decide) (Only.refl _ _)
      · exact Only.refl _ _
    · split
      · exact (State.setRole_only ..).after (by decide) (Only.refl _ _)
      · exact Only.refl _ _
    · split
      · exact Only.refl _ _
      · exact (State.setRole_only ..).after (by decide) (Only.refl _ _)
    · exact Only.refl _ _

theorem State.linkGone_only (s : State) :
    Only [.out, .power, .supply, .ident, .cfg, .config, .tenants, .pool, .chains, .tiles, .ledger, .bufA, .bufB,
        .readB, .ptos, .bals, .strLimits, .groups, .disp, .parts, .memories, .slices, .views, .cmps, .pair, .time,
        .net, .loops, .injs, .trace, .valves, .fbs, .anas, .grpField, .grpLow, .dis, .dos, .fdpFault, .fdpTime,
        .cans, .safe, .recorder, .display, .doms] s (State.linkGone s) := by
  unfold State.linkGone
  split
  · exact (State.hibernateDone_only ..).after (by decide) (Only.refl _ _)
  · exact (State.settleWaits_only ..).after (by decide) ((State.settleRole_only ..).after (by decide) (Only.refl _ _))

theorem State.domsChanged_only (s : State) (a1 : Bool) :
    Only [.out, .power, .supply, .ident, .cfg, .config, .tenants, .pool, .chains, .tiles, .ledger, .bufA, .bufB,
        .readB, .ptos, .bals, .strLimits, .groups, .disp, .parts, .memories, .slices, .views, .cmps, .pair, .time,
        .net, .loops, .injs, .trace, .valves, .fbs, .anas, .grpField, .grpLow, .dis, .dos, .fdpFault, .fdpTime,
        .cans, .safe, .recorder, .display, .doms] s (State.domsChanged s a1) := by
  unfold State.domsChanged
  split
  · exact Only.refl _ _
  · split
    · exact (State.linkGone_only ..).after (by decide) (Only.refl _ _)
    · exact (State.settleRole_only ..).after (by decide) (Only.refl _ _)

theorem State.driveGroup_only (s : State) (a1 : Nat) :
    Only [.dos, .fdpFault, .fdpTime] s (State.driveGroup s a1) := by
  unfold State.driveGroup
  refine (State.syncFdp_only ..).after (by decide) ?_
  refine forEach_only _ _ (fun t x => ?_) ?_
  · exact (State.driveDo_only ..).after (by decide) (Only.refl _ _)
  · exact Only.refl _ _

theorem State.dropSource_only (s : State) (a1 : Nat) (a2 : Nat) :
    Only [.views] s (State.dropSource s a1 a2) := by
  unfold State.dropSource
  split
  · exact (State.modView_only _ _ _ (by exact fun _ h => h)).after (by decide) (Only.refl _ _)
  · exact Only.refl _ _

theorem State.dropSources_only (s : State) (a1 : ParamMap) :
    Only [.views] s (State.dropSources s a1) := by
  unfold State.dropSources
  dsimp only
  refine forEach_only _ _ (fun t x => ?_) ?_
  · split
    · exact Only.refl _ _
    · exact (State.dropSource_only ..).after (by decide) (Only.refl _ _)
  · refine forEach_only _ _ (fun t x => ?_) ?_
    · split
      · exact Only.refl _ _
      · exact (State.dropSource_only ..).after (by decide) (Only.refl _ _)
    · refine forEach_only _ _ (fun t x => ?_) ?_
      · split
        · exact Only.refl _ _
        · exact (State.dropSource_only ..).after (by decide) (Only.refl _ _)
      · exact Only.refl _ _

theorem State.dropUnused_only (s : State) :
    Only [.out, .fresh, .power, .supply, .tenants, .pool, .chains, .tiles, .strs, .ptos, .groups, .parts, .views,
        .pair, .time, .net, .loops, .injs, .valves, .fbs, .anas, .dis, .dos, .fdpFault, .fdpTime, .cans, .recorder,
        .doms] s (State.dropUnused s) := by
  unfold State.dropUnused
  split
  · refine forEach_only _ _ (fun t x => ?_) ?_
    · split
      · exact Only.refl _ _
      · exact (State.domDown_only ..).after (by decide) (Only.refl _ _)
    · exact Only.refl _ _
  · exact Only.refl _ _

theorem State.emitArith_only (s : State) (a1 : List ArithOp) :
    Only [.out] s (State.emitArith s a1) := by
  unfold State.emitArith
  refine forEach_only _ _ (fun t x => ?_) ?_
  · exact (State.emit_only ..).after (by decide) (Only.refl _ _)
  · exact Only.refl _ _

theorem State.fitUsed_only (s : State) (a1 : Nat) (a2 : Nat) :
    Only [.fresh] s (State.fitUsed s a1 a2) := by
  unfold State.fitUsed
  split
  · exact Only.refl _ _
  · exact (State.tookFree_only ..).after (by decide) (Only.refl _ _)

theorem State.endFigures_only (s : State) (a1 : Nat) (a2 : Nat) (a3 : Nat) :
    Only [.fresh, .parts] s (State.endFigures s a1 a2 a3) := by
  unfold State.endFigures
  dsimp only
  exact (State.modPart_quiet _ _ _ (by exact fun _ => ⟨rfl, rfl, rfl⟩)).after (by decide) ((State.fitUsed_only
      ..).after (by decide) ((State.fitUsed_only ..).after (by decide) (Only.refl _ _)))

theorem State.loopsAutorun_only (s : State) (a1 : Nat) :
    Only [.out, .parts, .views, .loops, .doms] s (State.loopsAutorun s a1) := by
  unfold State.loopsAutorun
  refine forEach_only _ _ (fun t x => ?_) ?_
  · split
    · exact (State.loopStart_only ..).after (by decide) (Only.refl _ _)
    · exact Only.refl _ _
  · exact Only.refl _ _

theorem State.sendSnapshot_only (s : State) (a1 : Nat) :
    Only [.out] s (State.sendSnapshot s a1) := by
  unfold State.sendSnapshot
  split
  · dsimp only
    exact (State.emit_only ..).after (by decide) (Only.refl _ _)
  · exact Only.refl _ _

theorem State.newtAtEnd_only (s : State) (a1 : Nat) :
    Only [.out, .parts] s (State.newtAtEnd s a1) := by
  unfold State.newtAtEnd
  split
  · exact (State.sendSnapshot_only ..).after (by decide) ((State.modPart_quiet _ _ _
      (by exact fun _ => ⟨rfl, rfl, rfl⟩)).after (by decide) (Only.refl _ _))
  · exact Only.refl _ _

theorem State.sendDelta_only (s : State) (a1 : Nat) :
    Only [.out, .pair] s (State.sendDelta s a1) := by
  unfold State.sendDelta
  split
  · dsimp only
    exact (State.emit_only ..).after (by decide) ((only_pair _ _).after (by decide) (Only.refl _ _))
  · exact Only.refl _ _

theorem State.endCycle_only (s : State) (a1 : Nat) (a2 : Nat) (a3 : Nat) :
    Only [.out, .fresh, .power, .tenants, .pool, .parts, .memories, .views, .pair, .loops, .injs, .valves, .fbs,
        .anas, .dos, .fdpFault, .fdpTime, .cans, .recorder, .doms] s (State.endCycle s a1 a2 a3) := by
  have h : Only [.out, .fresh, .power, .tenants, .pool, .parts, .memories, .views, .pair, .loops, .injs, .valves,
      .fbs, .anas, .dos, .fdpFault, .fdpTime, .cans, .recorder, .doms] s ((s.modPart a1 (fun x =>
      { x with mem := forceOutputs x.cycleForces x.mem })).endFigures a1 a2 a3) :=
    (State.endFigures_only ..).after (by decide) ((State.modPart_only _ _ _ (by
      exact fun x h => ⟨forceOutputs_wf _ _ h.1, h.2.1, h.2.2⟩)).after (by decide) (Only.refl _ _))
  unfold State.endCycle
  dsimp only
  refine (State.coreIdle_only ..).after (by decide) ((State.doAsks_only ..).after (by decide)
    ((State.newtAtEnd_only ..).after (by decide) ((State.sendDelta_only ..).after (by decide)
      ((State.retainCommit_only ..).after (by decide) ((State.busCycle_only ..).after (by decide) ?_)))))
  split
  · exact (State.loopsAutorun_only ..).after (by decide)
      ((State.modPart_quiet _ _ _ (by exact fun _ => ⟨rfl, rfl, rfl⟩)).after (by decide) h)
  · exact h

theorem State.moduleReset_only (s : State) (a1 : BootCheck) (a2 : BitVec 7) :
    Only [.out, .power, .supply, .ident, .cfg, .config, .tenants, .pool, .chains, .tiles, .bufA, .bufB, .readB,
        .ptos, .bals, .strLimits, .groups, .disp, .parts, .memories, .slices, .views, .cmps, .pair, .time, .net,
        .loops, .injs, .trace, .valves, .fbs, .anas, .grpField, .grpLow, .dis, .dos, .fdpFault, .fdpTime, .cans,
        .safe, .recorder, .display, .doms] s (State.moduleReset s a1 a2) := by
  unfold State.moduleReset
  dsimp only
  exact (State.bootUp_only ..).after (by decide) ((State.syncPtos_only ..).after (by decide) ((State.emit_only
      ..).after (by decide) ((only_chains _ _).after (by decide) ((State.cleared_only ..).after (by decide)
      (Only.refl _ _)))))

theorem State.endTrial_only (s : State) :
    Only [.out, .power, .supply, .ident, .cfg, .config, .tenants, .pool, .chains, .tiles, .bufA, .bufB, .readB,
        .ptos, .bals, .strLimits, .groups, .disp, .parts, .memories, .slices, .views, .cmps, .pair, .time, .net,
        .loops, .injs, .trace, .valves, .fbs, .anas, .grpField, .grpLow, .dis, .dos, .fdpFault, .fdpTime, .cans,
        .safe, .recorder, .display, .doms] s (State.endTrial s) := by
  unfold State.endTrial
  dsimp only
  exact (State.moduleReset_only ..).after (by decide) ((only_ident _ _).after (by decide) ((State.setFwSlot_only
      ..).after (by decide) (Only.refl _ _)))

theorem State.enterService_only (s : State) (a1 : Nat) :
    Only [.out, .fresh, .power, .pool, .chains, .tiles, .strs, .ptos, .groups, .recorder] s (State.enterService s a1)
        := by
  unfold State.enterService
  exact (State.setCause_only ..).after (by decide) ((State.modStr_only ..).after (by decide) ((State.modTile_only
      ..).after (by decide) ((State.modChain_only ..).after (by decide) (Only.refl _ _))))

theorem State.setupCmds_only (s : State) (a1 : Nat) (a2 : Nat) :
    Only [.chains] s (State.setupCmds s a1 a2) := by
  unfold State.setupCmds
  exact (State.queueCmd_only ..).after (by decide) ((State.queueCmd_only ..).after (by decide) ((State.queueCmd_only
      ..).after (by decide) ((State.queueCmd_only ..).after (by decide) (Only.refl _ _))))

theorem State.enumMeasured_only (s : State) (a1 : Nat) :
    Only [.out, .fresh, .power, .tenants, .pool, .chains, .strs, .ptos, .groups, .parts, .views, .recorder, .doms] s
        (State.enumMeasured s a1) := by
  unfold State.enumMeasured
  split
  · exact Only.refl _ _
  · dsimp only
    split
    · exact Only.refl _ _
    · split
      · exact (State.enumFail_only ..).after (by decide) (Only.refl _ _)
      · exact (State.setupCmds_only ..).after (by decide) ((State.setEnum_only ..).after (by decide)
          ((State.modChain_only ..).after (by decide) (Only.refl _ _)))

theorem State.enumRt_only (s : State) (a1 : Nat) (a2 : Nat) (a3 : RingEnd) (a4 : Nat) :
    Only [.out, .fresh, .power, .tenants, .pool, .chains, .strs, .ptos, .groups, .parts, .views, .recorder, .doms] s
        (State.enumRt s a1 a2 a3 a4) := by
  unfold State.enumRt
  split
  · exact Only.refl _ _
  · dsimp only
    split
    · split
      · split
        · split
          · exact (State.setEnum_only ..).after (by decide) (Only.refl _ _)
          · split
            · exact (State.measure_only ..).after (by decide) ((State.setEnum_only ..).after (by decide)
                ((State.emit_only ..).after (by decide) ((State.setEnum_only ..).after (by decide) (Only.refl _ _))))
            · exact (State.setEnum_only ..).after (by decide) ((State.emit_only ..).after (by decide)
                ((State.setEnum_only ..).after (by decide) (Only.refl _ _)))
        · split
          · exact (State.setEnum_only ..).after (by decide) (Only.refl _ _)
          · split
            · exact (State.measure_only ..).after (by decide) ((State.setEnum_only ..).after (by decide)
                ((State.emit_only ..).after (by decide) ((State.setEnum_only ..).after (by decide) (Only.refl _ _))))
            · exact (State.setEnum_only ..).after (by decide) ((State.emit_only ..).after (by decide)
                ((State.setEnum_only ..).after (by decide) (Only.refl _ _)))
      · split
        · split
          · exact (State.setEnum_only ..).after (by decide) (Only.refl _ _)
          · split
            · exact (State.measure_only ..).after (by decide) ((State.setEnum_only ..).after (by decide)
                ((State.emit_only ..).after (by decide) ((State.setEnum_only ..).after (by decide) (Only.refl _ _))))
            · exact (State.setEnum_only ..).after (by decide) ((State.emit_only ..).after (by decide)
                ((State.setEnum_only ..).after (by decide) (Only.refl _ _)))
        · split
          · exact (State.setEnum_only ..).after (by decide) (Only.refl _ _)
          · split
            · exact (State.measure_only ..).after (by decide) ((State.setEnum_only ..).after (by decide)
                ((State.emit_only ..).after (by decide) ((State.setEnum_only ..).after (by decide) (Only.refl _ _))))
            · exact (State.setEnum_only ..).after (by decide) ((State.emit_only ..).after (by decide)
                ((State.setEnum_only ..).after (by decide) (Only.refl _ _)))
    · exact (State.enumMeasured_only ..).after (by decide) ((State.setEnum_only ..).after (by decide) (Only.refl _ _))

theorem State.evalZone_only (s : State) (a1 : Nat) :
    Only [.fresh, .zones] s (State.evalZone s a1) := by
  unfold State.evalZone
  dsimp only
  split
  · exact (State.modZone_only ..).after (by decide) (Only.refl _ _)
  · split
    · exact (State.tookFree_only ..).after (by decide) ((State.modZone_only ..).after (by decide) (Only.refl _ _))
    · exact (State.modZone_only ..).after (by decide) (Only.refl _ _)

theorem State.partFault_only (s : State) (a1 : Nat) (a2 : Nat) (a3 : Nat) :
    Only [.out, .power, .ident, .cfg, .config, .tenants, .pool, .parts, .views, .loops, .injs, .valves, .fbs, .anas,
        .dos, .fdpFault, .fdpTime, .recorder, .doms] s (State.partFault s a1 a2 a3) := by
  unfold State.partFault
  dsimp only
  exact (State.record_only ..).after (by decide) ((State.partTenantReset_only ..).after (by decide)
      ((State.refuseAsks_only ..).after (by decide) ((State.modPart_quiet _ _ _
      (by exact fun _ => ⟨rfl, rfl, rfl⟩)).after (by decide) ((State.outputsSafe_only ..).after (by decide)
      (Only.refl _ _)))))

theorem State.eventOrder_only (s : State) (a1 : Nat) :
    Only [.out, .fresh, .power, .ident, .cfg, .config, .tenants, .pool, .parts, .views, .loops, .injs, .valves, .fbs,
        .anas, .dos, .fdpFault, .fdpTime, .recorder, .doms] s (State.eventOrder s a1) := by
  unfold State.eventOrder
  split
  · exact (State.tookFree_only ..).after (by decide) ((State.partFault_only ..).after (by decide) (Only.refl _ _))
  · exact Only.refl _ _

theorem State.orderlyStop_only (s : State) (a1 : PowerState) (a2 : BitVec 7) :
    Only [.out, .power, .supply, .ident, .cfg, .config, .tenants, .pool, .chains, .tiles, .bufA, .bufB, .readB,
        .ptos, .bals, .strLimits, .groups, .disp, .parts, .memories, .slices, .views, .cmps, .pair, .time, .net,
        .loops, .injs, .trace, .valves, .fbs, .anas, .grpField, .grpLow, .dis, .dos, .fdpFault, .fdpTime, .cans,
        .safe, .recorder, .display, .doms] s (State.orderlyStop s a1 a2) := by
  unfold State.orderlyStop
  dsimp only
  exact (State.syncPtos_only ..).after (by decide) ((State.emit_only ..).after (by decide) ((State.modPower_only
      ..).after (by decide) ((State.cleared_only ..).after (by decide) (Only.refl _ _))))

theorem State.faultReset_only (s : State) (a1 : BootCheck) (a2 : BitVec 7) :
    Only [.out, .power, .supply, .ident, .cfg, .config, .tenants, .pool, .chains, .tiles, .bufA, .bufB, .readB,
        .ptos, .bals, .strLimits, .groups, .disp, .parts, .memories, .slices, .views, .cmps, .pair, .time, .net,
        .loops, .injs, .trace, .valves, .fbs, .anas, .grpField, .grpLow, .dis, .dos, .fdpFault, .fdpTime, .cans,
        .safe, .recorder, .display, .doms] s (State.faultReset s a1 a2) := by
  unfold State.faultReset
  dsimp only
  split
  · exact (State.orderlyStop_only ..).after (by decide) ((State.modPower_only ..).after (by decide) (Only.refl _ _))
  · exact (State.moduleReset_only ..).after (by decide) ((State.modPower_only ..).after (by decide) (Only.refl _ _))

theorem State.fbCount_only (s : State) (a1 : Nat) (a2 : BitVec 3) :
    Only [.fbs] s (State.fbCount s a1 a2) := by
  unfold State.fbCount
  dsimp only
  split
  · split
    · exact (State.modFb_only ..).after (by decide) (Only.refl _ _)
    · exact (State.modFb_only ..).after (by decide) (Only.refl _ _)
  · split
    · exact (State.modFb_only ..).after (by decide) (Only.refl _ _)
    · split
      · exact (State.modFb_only ..).after (by decide) (Only.refl _ _)
      · exact (State.modFb_only ..).after (by decide) (Only.refl _ _)

theorem State.fbLatch_only (s : State) (a1 : Nat) (a2 : Bool) (a3 : Bool) (a4 : Bool) (a5 : Bool) :
    Only [.fresh, .fbs] s (State.fbLatch s a1 a2 a3 a4 a5) := by
  unfold State.fbLatch
  dsimp only
  refine doIf_only _ _ (fun t => ?_) ?_
  · exact (State.tookFree_only ..).after (by decide) (Only.refl _ _)
  · exact (State.modFb_only ..).after (by decide) (Only.refl _ _)

theorem State.fbMove_only {l : List Region} {s t : State} (p : Nat) (f : State → State)
    (hl : [Region.out, .parts, .views, .fbs, .doms].all l.contains = true) (h : Only l s (f t)) : Only l s (t.fbMove
        p f) := by
  unfold State.fbMove
  exact doIf_only _ _ (fun t => (State.leapCheck_only ..).after hl (Only.refl _ _)) h

theorem State.fbLoads_only (s : State) (a1 : Nat) :
    Only [.out, .parts, .views, .fbs, .doms] s (State.fbLoads s a1) := by
  unfold State.fbLoads
  dsimp only
  refine (State.modFb_only ..).after (by decide) ?_
  split
  · split
    · exact Only.refl _ _
    · refine State.fbMove_only _ _ (by decide) ?_
      exact (State.modFb_only ..).after (by decide) (Only.refl _ _)
  · refine (State.leapLoad_only ..).after (by decide) ?_
    split
    · exact Only.refl _ _
    · refine State.fbMove_only _ _ (by decide) ?_
      exact (State.modFb_only ..).after (by decide) (Only.refl _ _)

theorem State.finishTick_only (s : State) (a1 : Nat) (a2 : Nat) :
    Only [.out, .power, .pool, .chains, .tiles, .pair, .recorder] s (State.finishTick s a1 a2) := by
  unfold State.finishTick
  refine forEach_only _ _ (fun t x => ?_) ?_
  · dsimp only
    split
    · exact Only.refl _ _
    · exact (State.resyncHook_only ..).after (by decide) ((State.updatePosition_only ..).after (by decide) (Only.refl
        _ _))
  · exact Only.refl _ _

theorem State.followEnum_only (s : State) (a1 : Nat) (a2 : Nat) :
    Only [.out, .tenants, .pool, .chains, .parts, .views, .doms] s (State.followEnum s a1 a2) := by
  unfold State.followEnum
  dsimp only
  split
  · exact (State.measure_only ..).after (by decide) ((State.emit_only ..).after (by decide) ((State.modChain_only
      ..).after (by decide) ((State.dropCmds_only ..).after (by decide) (Only.refl _ _))))
  · exact (State.measure_only ..).after (by decide) ((State.emit_only ..).after (by decide) ((State.modChain_only
      ..).after (by decide) ((State.dropCmds_only ..).after (by decide) (Only.refl _ _))))

theorem State.followerAsks_only (s : State) :
    Only [.out, .tiles, .pair] s (State.followerAsks s) := by
  unfold State.followerAsks
  dsimp only
  split
  · refine forEach_only _ _ (fun t x => ?_) ?_
    · exact (State.emit_only ..).after (by decide) ((State.modPair_only ..).after (by decide) (Only.refl _ _))
    · exact Only.refl _ _
  · split
    · refine forEach_only _ _ (fun t x => ?_) ?_
      · exact (State.emit_only ..).after (by decide) ((State.modPair_only ..).after (by decide) (Only.refl _ _))
      · exact Only.refl _ _
    · refine (State.emit_only ..).after (by decide) ?_
      refine (State.modTile_only ..).after (by decide) ?_
      refine forEach_only _ _ (fun t x => ?_) ?_
      · exact (State.emit_only ..).after (by decide) ((State.modPair_only ..).after (by decide) (Only.refl _ _))
      · exact Only.refl _ _

theorem State.forceHeld_only (s : State) (a1 : Nat) :
    Only [.pool, .parts, .memories, .loops, .valves, .fbs, .anas, .dos, .fdpFault, .fdpTime, .cans] s
        (State.forceHeld s a1) := by
  unfold State.forceHeld
  split
  · exact (State.busCycle_only ..).after (by decide) ((State.modPart_only _ _ _
      (by exact fun x h => Part.mem_canon h (forceOutputs_wf _ _ h.1) rfl rfl)).after
      (by decide) (Only.refl _ _))
  · exact Only.refl _ _

theorem State.hartRetry_only (s : State) (a1 : Nat) (a2 : Nat) :
    Only [.out, .tenants, .pool, .parts, .views, .anas, .doms] s (State.hartRetry s a1 a2) := by
  unfold State.hartRetry
  split
  · exact Only.refl _ _
  · dsimp only
    split
    · refine doIf_only _ _ (fun t => ?_) ?_
      · exact (State.emit_only ..).after (by decide) (Only.refl _ _)
      · exact (State.modAna_only ..).after (by decide) ((State.modAna_only ..).after (by decide) (Only.refl _ _))
    · exact (State.hartEnd_only ..).after (by decide) ((State.modAna_only ..).after (by decide) (Only.refl _ _))

theorem State.openPosOff_only (s : State) (a1 : Nat) :
    Only [.chains, .strs] s (State.openPosOff s a1) := by
  unfold State.openPosOff
  exact (State.sendContactor_only ..).after (by decide) ((State.modStr_only ..).after (by decide) (Only.refl _ _))

theorem State.headSequence_only (s : State) (a1 : Nat) (a2 : BitVec 512) :
    Only [.chains, .strs] s (State.headSequence s a1 a2) := by
  unfold State.headSequence
  dsimp only
  split
  · exact Only.refl _ _
  · split
    · split
      · exact (State.sendContactor_only ..).after (by decide) ((State.modStr_only ..).after (by decide)
          ((State.modStr_only ..).after (by decide) (Only.refl _ _)))
      · exact (State.modStr_only ..).after (by decide) (Only.refl _ _)
    · split
      · exact (State.modStr_only ..).after (by decide) (Only.refl _ _)
      · exact Only.refl _ _
    · split
      · exact (State.openPosOff_only ..).after (by decide) (Only.refl _ _)
      · exact Only.refl _ _
    · exact Only.refl _ _

theorem State.headProtection_only (s : State) (a1 : Nat) (a2 : BitVec 512) :
    Only [.out, .fresh, .power, .pool, .chains, .strs, .ptos, .groups, .recorder] s (State.headProtection s a1 a2) :=
        by
  unfold State.headProtection
  dsimp only
  exact (State.setCauses_only ..).after (by decide) ((State.modStr_only ..).after (by decide) (Only.refl _ _))

theorem State.headFrame_only (s : State) (a1 : Nat) (a2 : BitVec 512) :
    Only [.out, .fresh, .power, .pool, .chains, .strs, .ptos, .groups, .recorder] s (State.headFrame s a1 a2) := by
  unfold State.headFrame
  split
  · exact Only.refl _ _
  · dsimp only
    refine (State.headSequence_only ..).after (by decide) ?_
    refine (State.headProtection_only ..).after (by decide) ?_
    split
    · exact (State.modChain_only ..).after (by decide) (Only.refl _ _)
    · exact Only.refl _ _

theorem State.hotPart_only (s : State) (a1 : Nat) (a2 : PartMirror) :
    Only [.pool, .parts, .memories, .views, .loops, .valves, .fbs, .anas, .dos, .fdpFault, .fdpTime, .cans] s
        (State.hotPart s a1 a2) := by
  have key : ∀ f : Part → Part, (Part.canon (s.part a1) → Part.canon (f (s.part a1))) →
      Only [.pool, .parts, .memories, .views, .loops, .valves, .fbs, .anas, .dos, .fdpFault, .fdpTime, .cans] s
          (((s.resetView a1).modPart a1 f).setupView a1) := fun f hf =>
    (State.setupView_only ..).after (by decide) ((State.modPart_at (s.resetView a1) a1 f (fun hs => by
      have e : (s.resetView a1).part a1 = s.part a1 := rfl
      rw [e]; exact hf (hs a1))).after (by decide) ((State.resetView_only ..).after (by decide) (Only.refl _ _)))
  have hm : Part.canon (s.part a1) → Memory.wf (([a2.data, a2.retained, a2.output] : List Memory).foldl Memory.load
      ((dropMirrored (Part.loaded (s.part a1)) (s.parN 0x40 (0x10 + a1) 0)).restrict
        (fun a => decide (a < baseRetain ∨ baseRetain + s.retainBytes a1 ≤ a)))) = true := fun hs =>
    foldl_wf _ _ _ (fun m x hm => Memory.load_wf x m hm) (Memory.restrict_wf _ _ (Memory.restrict_wf _ _
        (Part.loaded_wf _ hs)))
  unfold State.hotPart
  dsimp only
  split
  · exact (State.busCycle_only ..).after (by decide) (key _ (fun hs => ⟨hm hs, hs.2.1, hs.2.2⟩))
  · exact key _ (fun hs => ⟨hm hs, hs.2.1, hs.2.2⟩)

theorem State.hotPlant_only (s : State) :
    Only [.out, .pool, .parts, .memories, .views, .pair, .loops, .valves, .fbs, .anas, .dos, .fdpFault, .fdpTime,
        .cans] s (State.hotPlant s) := by
  unfold State.hotPlant
  dsimp only
  refine (State.emit_only ..).after (by decide) ?_
  refine (State.modPair_only ..).after (by decide) ?_
  refine forEach_only _ _ (fun t x => ?_) ?_
  · split
    · exact Only.refl _ _
    · split
      · exact (State.hotPart_only ..).after (by decide) (Only.refl _ _)
      · exact Only.refl _ _
  · exact (State.hotLoops_only ..).after (by decide) (Only.refl _ _)

theorem State.indexRecord_only (s : State) (a1 : Nat) (a2 : Word) (a3 : Int) :
    Only [.power, .pool, .fbs, .recorder] s (State.indexRecord s a1 a2 a3) := by
  unfold State.indexRecord
  dsimp only
  split
  · split
    · exact (State.modFb_only ..).after (by decide) ((State.record_only ..).after (by decide) (Only.refl _ _))
    · exact Only.refl _ _
  · split
    · exact (State.modFb_only ..).after (by decide) ((State.record_only ..).after (by decide) (Only.refl _ _))
    · exact Only.refl _ _

theorem State.indexCheck_only (s : State) (a1 : Nat) :
    Only [.out, .power, .pool, .parts, .views, .fbs, .recorder, .doms] s (State.indexCheck s a1) := by
  unfold State.indexCheck
  dsimp only
  split
  · exact Only.refl _ _
  · split
    · refine State.fbMove_only _ _ (by decide) ?_
      refine (State.modFb_only ..).after (by decide) ?_
      refine doIf_only _ _ (fun t => ?_) ?_
      · exact (State.indexRecord_only ..).after (by decide) (Only.refl _ _)
      · exact (State.modFb_only ..).after (by decide) (Only.refl _ _)
    · refine doIf_only _ _ (fun t => ?_) ?_
      · exact (State.indexRecord_only ..).after (by decide) (Only.refl _ _)
      · exact (State.modFb_only ..).after (by decide) (Only.refl _ _)

theorem State.injSample_only (s : State) (a1 : Nat) (a2 : Nat) :
    Only [.power, .pool, .injs, .trace, .recorder] s (State.injSample s a1 a2) := by
  unfold State.injSample
  refine forEach_only _ _ (fun t x => ?_) ?_
  · split
    · exact Only.refl _ _
    · dsimp only
      split
      · split
        · exact (State.modInj_only ..).after (by decide) ((State.injRecord_only ..).after (by decide)
            ((State.modInj_only ..).after (by decide) ((only_trace _ _).after (by decide) (Only.refl _ _))))
        · exact (State.injRecord_only ..).after (by decide) ((State.modInj_only ..).after (by decide) ((only_trace _
            _).after (by decide) (Only.refl _ _)))
      · split
        · split
          · exact (State.modInj_only ..).after (by decide) ((State.modInj_only ..).after (by decide) (Only.refl _ _))
          · exact (State.modInj_only ..).after (by decide) (Only.refl _ _)
        · exact Only.refl _ _
  · exact Only.refl _ _

theorem State.intake_only (s : State) (a1 : Nat) (a2 : Nat) (a3 : Req) :
    Only [.tenants, .pool, .doms] s (State.intake s a1 a2 a3).1 := by
  unfold State.intake
  dsimp only
  split
  · split
    · split
      · dsimp only
        exact (State.startHead_only ..).after (by decide) (Only.refl _ _)
      · dsimp only
        exact Only.refl _ _
    · dsimp only
      exact Only.refl _ _
  · split
    · dsimp only
      exact Only.refl _ _
    · split
      · dsimp only
        exact (State.startHead_only ..).after (by decide) ((State.modTenant_only _ _ _ (by exact fun _ h => h)).after
            (by decide) ((State.enqueue_only ..).after (by decide) (Only.refl _ _)))
      · dsimp only
        exact (State.modTenant_only _ _ _ (by exact fun _ h => h)).after (by decide) ((State.enqueue_only ..).after
            (by decide) (Only.refl _ _))

theorem State.warning_only (s : State) (a1 : Nat) (a2 : Nat) (a3 : Bool) (a4 : Bool) (a5 : Word) :
    Only [.power, .pool, .recorder] s (State.warning s a1 a2 a3 a4 a5) := by
  unfold State.warning
  split
  · exact Only.refl _ _
  · exact (State.record_only ..).after (by decide) (Only.refl _ _)

theorem State.recordLayer_only (s : State) (a1 : Nat) (a2 : List Word) :
    Only [.out, .fresh, .power, .pool, .chains, .strs, .ptos, .groups, .recorder] s (State.recordLayer s a1 a2) := by
  unfold State.recordLayer
  dsimp only
  exact (State.setCauses_only ..).after (by decide) ((State.warning_only ..).after (by decide) ((State.warning_only
      ..).after (by decide) ((State.warning_only ..).after (by decide) ((State.modStr_only ..).after (by decide)
      (Only.refl _ _)))))

theorem State.takeRecord_only (s : State) (a1 : Nat) (a2 : List Word) :
    Only [.out, .fresh, .power, .pool, .chains, .strs, .ptos, .groups, .recorder] s (State.takeRecord s a1 a2) := by
  unfold State.takeRecord
  dsimp only
  split
  · exact (State.recordLayer_only ..).after (by decide) ((State.setCause_only ..).after (by decide)
      ((State.modStr_only ..).after (by decide) (Only.refl _ _)))
  · exact (State.setCause_only ..).after (by decide) ((State.modStr_only ..).after (by decide) (Only.refl _ _))

theorem State.issueRecord_only (s : State) (a1 : Nat) :
    Only [.out, .fresh, .power, .pool, .chains, .tiles, .strs, .ptos, .groups, .recorder] s (State.issueRecord s a1)
        := by
  unfold State.issueRecord
  dsimp only
  split
  · exact (State.runWork_only ..).after (by decide) ((State.takeRecord_only ..).after (by decide)
      ((State.modTile_only ..).after (by decide) (Only.refl _ _)))
  · exact (State.takeRecord_only ..).after (by decide) ((State.modTile_only ..).after (by decide) (Only.refl _ _))

theorem State.keeperIdle_only (s : State) :
    Only [.doms] s (State.keeperIdle s) := by
  unfold State.keeperIdle
  exact (State.askIdle_only ..).after (by decide) (Only.refl _ _)

theorem State.latch_only (s : State) (a1 : Nat) :
    Only [.fresh, .parts, .memories] s (State.latch s a1) := by
  unfold State.latch
  dsimp only
  refine doIf_only _ _ (fun t => (State.tookFree_only ..).after (by decide) (Only.refl _ _)) ?_
  exact (State.modPart_only _ _ _ (by exact fun x h => Part.mem_canon h (forceOutputs_wf _ _ h.1) rfl rfl)).after
      (by decide) (Only.refl _ _)

theorem State.modPort_only (s : State) (a1 : Nat) (a2 : NetPort → NetPort) :
    Only [.net] s (State.modPort s a1 a2) := by
  unfold State.modPort
  exact (State.modNet_only ..).after (by decide) (Only.refl _ _)

theorem State.launchOn_only (s : State) (a1 : Nat) (a2 : Nat) (a3 : LaunchFrame) (a4 : Nat) :
    Only [.out, .net] s (State.launchOn s a1 a2 a3 a4) := by
  unfold State.launchOn
  split
  · exact (State.modPort_only ..).after (by decide) (Only.refl _ _)
  · exact (State.emit_only ..).after (by decide) (Only.refl _ _)

theorem State.lineActive_only (s : State) (a1 : Nat) (a2 : RingEnd) :
    Only [.chains] s (State.lineActive s a1 a2) := by
  unfold State.lineActive
  exact (State.modChain_only ..).after (by decide) (Only.refl _ _)

theorem State.linkCame_only (s : State) :
    Only [.pair] s (State.linkCame s) := by
  unfold State.linkCame
  exact (State.modPair_only ..).after (by decide) (Only.refl _ _)

theorem State.loopDrive_only (s : State) (a1 : Nat) :
    Only [.valves, .anas] s (State.loopDrive s a1) := by
  unfold State.loopDrive
  dsimp only
  split
  · exact (State.modValve_only ..).after (by decide) (Only.refl _ _)
  · split
    · exact (State.anaSet_only ..).after (by decide) (Only.refl _ _)
    · exact Only.refl _ _
  · exact Only.refl _ _

theorem State.runSample_only (s : State) (a1 : Nat) (a2 : Nat) :
    Only [.loops] s (State.runSample s a1 a2) := by
  unfold State.runSample
  dsimp only
  exact (State.modLoop_only ..).after (by decide) (Only.refl _ _)

theorem State.trackSample_only (s : State) (a1 : Nat) (a2 : Nat) :
    Only [.loops] s (State.trackSample s a1 a2) := by
  unfold State.trackSample
  dsimp only
  exact (State.modLoop_only ..).after (by decide) (Only.refl _ _)

theorem State.loopStep_only (s : State) (a1 : Nat) (a2 : Nat) :
    Only [.out, .power, .pool, .parts, .views, .loops, .injs, .trace, .valves, .anas, .recorder, .doms] s
        (State.loopStep s a1 a2) := by
  unfold State.loopStep
  split
  · exact Only.refl _ _
  · refine (State.loopDrive_only ..).after (by decide) ?_
    refine State.loopChange_only _ _ (by decide) ?_
    exact (State.runSample_only ..).after (by decide) ((State.injSample_only ..).after (by decide) (Only.refl _ _))
  · refine (State.loopDrive_only ..).after (by decide) ?_
    refine State.loopChange_only _ _ (by decide) ?_
    exact (State.trackSample_only ..).after (by decide) (Only.refl _ _)
  · dsimp only
    split
    · refine (State.loopOff_only ..).after (by decide) ?_
      refine (State.loopDrive_only ..).after (by decide) ?_
      refine State.loopChange_only _ _ (by decide) ?_
      exact (State.runSample_only ..).after (by decide) (Only.refl _ _)
    · refine (State.loopDrive_only ..).after (by decide) ?_
      refine State.loopChange_only _ _ (by decide) ?_
      exact (State.runSample_only ..).after (by decide) (Only.refl _ _)

theorem State.lossEnds_only (s : State) (a1 : Nat) :
    Only [.out, .fresh, .power, .pool, .chains, .strs, .ptos, .groups, .recorder] s (State.lossEnds s a1) := by
  unfold State.lossEnds
  split
  · exact Only.refl _ _
  · exact (State.ringMended_only ..).after (by decide) ((State.verifySettle_only ..).after (by decide)
      ((State.endCroakCauses_only ..).after (by decide) ((State.chFault_only ..).after (by decide) (Only.refl _ _))))

theorem State.mapLost_only (s : State) (a1 : Nat) :
    Only [.chains] s (State.mapLost s a1) := by
  unfold State.mapLost
  exact (State.chFault_only ..).after (by decide) ((State.modChain_only ..).after (by decide) (Only.refl _ _))

theorem State.modDom_only (s : State) (a1 : Nat) (a2 : Domain → Domain) :
    Only [.doms] s (State.modDom s a1 a2) := by
  unfold State.modDom
  exact (State.modPower_doms _ _ (by exact fun _ => rfl)).after (by decide) (Only.refl _ _)

theorem State.modPtp_only (s : State) (a1 : Nat) (a2 : PtpPort → PtpPort) :
    Only [.time] s (State.modPtp s a1 a2) := by
  unfold State.modPtp
  exact (State.modTime_only ..).after (by decide) (Only.refl _ _)

theorem State.newChains_only (s : State) (a1 : ParamMap) :
    Only [.out, .fresh, .power, .tenants, .pool, .chains, .tiles, .strs, .ptos, .groups, .parts, .views, .recorder,
        .doms] s (State.newChains s a1) := by
  unfold State.newChains
  refine forEach_only _ _ (fun t x => ?_) ?_
  · split
    · exact (State.chainRemoved_only ..).after (by decide) (Only.refl _ _)
    · exact (State.chainSettings_only ..).after (by decide) (Only.refl _ _)
  · exact Only.refl _ _

theorem State.newOwners_only (s : State) (a1 : ParamMap) :
    Only [.out, .power, .pool, .parts, .views, .loops, .injs, .valves, .fbs, .anas, .dos, .fdpFault, .fdpTime,
        .recorder, .doms] s (State.newOwners s a1) := by
  unfold State.newOwners
  dsimp only
  refine (State.dropSources_only ..).after (by decide) ?_
  refine (State.syncFdp_only ..).after (by decide) ?_
  refine forEach_only _ _ (fun t x => ?_) ?_
  · split
    · exact (State.leapSafe_only ..).after (by decide) (Only.refl _ _)
    · exact Only.refl _ _
  · refine forEach_only _ _ (fun t x => ?_) ?_
    · split
      · exact (State.valveSafe_only ..).after (by decide) (Only.refl _ _)
      · exact Only.refl _ _
    · refine forEach_only _ _ (fun t x => ?_) ?_
      · split
        · exact (State.anaSafe_only ..).after (by decide) (Only.refl _ _)
        · exact Only.refl _ _
      · refine forEach_only _ _ (fun t x => ?_) ?_
        · split
          · exact (State.doSafe_only ..).after (by decide) (Only.refl _ _)
          · exact Only.refl _ _
        · refine forEach_only _ _ (fun t x => ?_) ?_
          · split
            · exact (State.loopOff_only ..).after (by decide) (Only.refl _ _)
            · exact Only.refl _ _
          · exact Only.refl _ _

theorem State.regrid_only (s : State) (a1 : Nat) :
    Only [.parts] s (State.regrid s a1) := by
  unfold State.regrid
  dsimp only
  split
  · exact Only.refl _ _
  · exact (State.modPart_quiet _ _ _ (by exact fun _ => ⟨rfl, rfl, rfl⟩)).after (by decide) (Only.refl _ _)

theorem State.newParts_only (s : State) (a1 : ParamMap) :
    Only [.out, .power, .tenants, .pool, .parts, .memories, .views, .loops, .injs, .valves, .fbs, .anas, .dos,
        .fdpFault, .fdpTime, .recorder, .doms] s (State.newParts s a1) := by
  unfold State.newParts
  dsimp only
  refine forEach_only _ _ (fun t x => ?_) (Only.refl _ _)
  have h0 : Only [.out, .power, .tenants, .pool, .parts, .memories, .views, .loops, .injs, .valves, .fbs, .anas,
      .dos, .fdpFault, .fdpTime, .recorder, .doms] t (doIf (changed a1 s.cfg.active 0x03 x 0x20) t (fun s => s.regrid
      x)) :=
    doIf_only _ _ (fun t => (State.regrid_only ..).after (by decide) (Only.refl _ _)) (Only.refl _ _)
  generalize doIf (changed a1 s.cfg.active 0x03 x 0x20) t (fun s => s.regrid x) = v at h0 ⊢
  have h : Only [.out, .power, .tenants, .pool, .parts, .memories, .views, .loops, .injs, .valves, .fbs, .anas, .dos,
      .fdpFault, .fdpTime, .recorder, .doms] t (if (bitOf (paramValue a1 (paddr 0x03 x 0)) 0 && !v.parB 0x03 x 0 &&
      (v.part x).state != .faulted) = true then
      (v.partStop x).refuseAsks x else v) := by
    split
    · exact (State.refuseAsks_only ..).after (by decide) ((State.partStop_only ..).after (by decide) h0)
    · exact h0
  generalize (if (bitOf (paramValue a1 (paddr 0x03 x 0)) 0 && !v.parB 0x03 x 0 && (v.part x).state != .faulted) =
      true then
      (v.partStop x).refuseAsks x else v) = w at h ⊢
  have k : ∀ f : Nat → Bool, Only [.out, .power, .tenants, .pool, .parts, .memories, .views, .loops, .injs, .valves,
      .fbs, .anas, .dos, .fdpFault, .fdpTime, .recorder, .doms] t (w.modPart x (fun x => { x with
      mem := x.mem.restrict f, retA := [], retB := [] })) := fun f =>
    (State.modPart_only _ _ _ (by exact fun x h => ⟨Memory.restrict_wf _ _ h.1, rfl, rfl⟩)).after (by decide) h
  repeat' split
  · exact (State.setupView_only ..).after (by decide) (k _)
  · exact (State.setupView_only ..).after (by decide) h
  · exact k _
  · exact h

theorem State.newTenants_only (s : State) (a1 : ParamMap) :
    Only [.out, .ident, .cfg, .config, .tenants, .pool, .parts, .views, .doms] s (State.newTenants s a1) := by
  unfold State.newTenants
  refine forEach_only _ _ (fun t x => ?_) ?_
  · split
    · exact (State.setTenant_only _ _ _ (by exact fun _ => ⟨⟨Nat.zero_le _, Nat.zero_le _⟩, rfl⟩)).after (by decide)
        ((State.tenantReset_only ..).after (by decide) (Only.refl _ _))
    · exact Only.refl _ _
  · exact Only.refl _ _

theorem State.newUnits_only (s : State) (a1 : ParamMap) :
    Only [.out, .tenants, .pool, .parts, .views, .fbs, .anas, .cans, .doms] s (State.newUnits s a1) := by
  unfold State.newUnits
  dsimp only
  refine forEach_only _ _ (fun t x => ?_) ?_
  · refine (State.canConfigure_only ..).after (by decide) ?_
    refine forEach_only _ _ (fun t x => ?_) ?_
    · split
      · exact (State.modObj_only ..).after (by decide) (Only.refl _ _)
      · exact Only.refl _ _
    · exact Only.refl _ _
  · refine forEach_only _ _ (fun t x => ?_) ?_
    · split
      · exact (State.modFb_only ..).after (by decide) (Only.refl _ _)
      · exact Only.refl _ _
    · refine forEach_only _ _ (fun t x => ?_) ?_
      · split
        · exact (State.modAna_only ..).after (by decide) ((State.hartEnd_only ..).after (by decide) (Only.refl _ _))
        · exact Only.refl _ _
      · exact Only.refl _ _

theorem State.noteContactor_only (s : State) (a1 : Nat) (a2 : MonCmd) :
    Only [.strs] s (State.noteContactor s a1 a2) := by
  unfold State.noteContactor
  split
  · exact (State.modStr_only ..).after (by decide) (Only.refl _ _)
  · split
    · exact (State.modStr_only ..).after (by decide) (Only.refl _ _)
    · exact Only.refl _ _
  · exact Only.refl _ _

theorem State.noteCorrections_only (s : State) (a1 : Nat) :
    Only [.power, .pool, .parts, .recorder] s (State.noteCorrections s a1) := by
  unfold State.noteCorrections
  split
  · exact (State.modPart_quiet _ _ _ (by exact fun _ => ⟨rfl, rfl, rfl⟩)).after (by decide) ((State.record_only
      ..).after (by decide) (Only.refl _ _))
  · exact Only.refl _ _

theorem State.noteErrors_only (s : State) (a1 : Nat) :
    Only [.power, .pool, .parts, .recorder] s (State.noteErrors s a1) := by
  unfold State.noteErrors
  split
  · split
    · exact (State.modPart_quiet _ _ _ (by exact fun _ => ⟨rfl, rfl, rfl⟩)).after (by decide) ((State.record_only
        ..).after (by decide) (Only.refl _ _))
    · exact Only.refl _ _
  · exact Only.refl _ _

theorem State.noteRefusals_only (s : State) (a1 : Nat) :
    Only [.power, .pool, .recorder] s (State.noteRefusals s a1) := by
  unfold State.noteRefusals
  split
  · exact (State.record_only ..).after (by decide) ((only_pool _ _ (by exact id)).after (by decide) (Only.refl _ _))
  · exact Only.refl _ _

theorem State.onWindow_only {l : List Region} {s t : State} (p : Nat) (f : State → Nat → State)
    (g : Only l s t) (h : ∀ k, Only l s (f t k)) : Only l s (t.onWindow p f) := by
  unfold State.onWindow
  split
  · exact g
  · exact h _

theorem State.searchResult_only (s : State) (a1 : Nat) (a2 : Nat) (a3 : RingEnd) (a4 : Bool) :
    Only [.chains] s (State.searchResult s a1 a2 a3 a4) := by
  unfold State.searchResult
  split
  · split
    · exact Only.refl _ _
    · dsimp only
      split
      · split
        · exact (State.breakFound_only ..).after (by decide) ((State.setVerify_only ..).after (by decide) (Only.refl
            _ _))
        · exact (State.setVerify_only ..).after (by decide) (Only.refl _ _)
      · split
        · exact (State.breakFound_only ..).after (by decide) ((State.setVerify_only ..).after (by decide) (Only.refl
            _ _))
        · exact (State.setVerify_only ..).after (by decide) (Only.refl _ _)
  · exact Only.refl _ _

theorem State.ownSearchResult_only (s : State) (a1 : Nat) (a2 : Nat) (a3 : RingEnd) (a4 : Bool) :
    Only [.out, .chains] s (State.ownSearchResult s a1 a2 a3 a4) := by
  unfold State.ownSearchResult
  dsimp only
  split
  · exact (State.searchResult_only ..).after (by decide) (Only.refl _ _)
  · exact (State.emit_only ..).after (by decide) ((State.searchResult_only ..).after (by decide) (Only.refl _ _))

theorem State.partFaultFree_only (s : State) (a1 : Nat) (a2 : Nat) :
    Only [.out, .fresh, .power, .ident, .cfg, .config, .tenants, .pool, .parts, .views, .loops, .injs, .valves, .fbs,
        .anas, .dos, .fdpFault, .fdpTime, .recorder, .doms] s (State.partFaultFree s a1 a2) := by
  unfold State.partFaultFree
  exact (State.tookFree_only ..).after (by decide) ((State.partFault_only ..).after (by decide) (Only.refl _ _))

theorem State.viewServe_only (s : State) (a1 : Nat) :
    Only [.out, .parts, .views, .doms] s (State.viewServe s a1) := by
  unfold State.viewServe
  split
  · exact (State.signal_only ..).after (by decide) ((State.runTasks_only ..).after (by decide) (Only.refl _ _))
  · exact (State.signal_only ..).after (by decide) (Only.refl _ _)

theorem State.writeView_only (s : State) (a1 : Nat) (a2 : Nat) (a3 : Nat) (a4 : Word) :
    Only [.out, .parts, .views, .doms] s (State.writeView s a1 a2 a3 a4) := by
  unfold State.writeView
  split
  · exact (State.viewServe_only ..).after (by decide) ((State.modView_only _ _ _ (by exact fun _ h => h)).after
      (by decide) (Only.refl _ _))
  · refine (State.viewServe_only ..).after (by decide) ?_
    refine forEach_only _ _ (fun t x => ?_) ?_
    · split
      · exact Only.refl _ _
      · split
        · exact (State.modView_only _ _ _ (by exact fun _ h => h)).after (by decide) (Only.refl _ _)
        · exact Only.refl _ _
    · exact Only.refl _ _

theorem State.writeCmp_only (s : State) (a1 : Nat) (a2 : Nat) (a3 : Word) :
    Only [.cmps] s (State.writeCmp s a1 a2 a3) := by
  unfold State.writeCmp
  split
  · dsimp only
    split
    · exact (State.modCmp_only ..).after (by decide) (Only.refl _ _)
    · split
      · exact (State.modCmp_only ..).after (by decide) (Only.refl _ _)
      · split
        · exact (State.modCmp_only ..).after (by decide) (Only.refl _ _)
        · exact Only.refl _ _
  · exact Only.refl _ _

theorem State.writeZone_only (s : State) (a1 : Nat) (a2 : Nat) (a3 : Word) :
    Only [.display] s (State.writeZone s a1 a2 a3) := by
  unfold State.writeZone
  dsimp only
  split
  · exact (only_display _ _).after (by decide) (Only.refl _ _)
  · split
    · exact (only_display _ _).after (by decide) (Only.refl _ _)
    · exact Only.refl _ _

theorem State.partWrite_only (s : State) (a1 : Nat) (a2 : Nat) (a3 : Nat) (a4 : Word) :
    Only [.out, .power, .ident, .cfg, .config, .tenants, .pool, .parts, .memories, .views, .cmps, .loops, .injs,
        .valves, .fbs, .anas, .dos, .fdpFault, .fdpTime, .recorder, .display, .doms] s (State.partWrite s a1 a2 a3
        a4) := by
  unfold State.partWrite
  split
  · exact (State.modPart_only _ _ _
      (by exact fun x h => Part.mem_canon h (Memory.writeBytes_wf _ _ _ _ h.1) rfl rfl)).after (by decide) (Only.refl
      _ _)
  · split
    · exact Only.refl _ _
    · split
      · exact (State.writeView_only ..).after (by decide) (Only.refl _ _)
      · split
        · split
          · exact (State.writeCmp_only ..).after (by decide) (Only.refl _ _)
          · exact Only.refl _ _
        · split
          · split
            · exact (State.writeZone_only ..).after (by decide) (Only.refl _ _)
            · exact Only.refl _ _
          · exact (State.partFault_only ..).after (by decide) (Only.refl _ _)

theorem State.partnerHibernates_only (s : State) :
    Only [.out, .power, .supply, .ident, .cfg, .config, .tenants, .pool, .chains, .tiles, .bufA, .bufB, .readB,
        .ptos, .bals, .strLimits, .groups, .disp, .parts, .memories, .slices, .views, .cmps, .pair, .time, .net,
        .loops, .injs, .trace, .valves, .fbs, .anas, .grpField, .grpLow, .dis, .dos, .fdpFault, .fdpTime, .cans,
        .safe, .recorder, .display, .doms] s (State.partnerHibernates s) := by
  unfold State.partnerHibernates
  dsimp only
  exact (State.syncPtos_only ..).after (by decide) ((State.emit_only ..).after (by decide) ((State.modPower_only
      ..).after (by decide) ((State.cleared_only ..).after (by decide) ((State.commitRetained_only ..).after
      (by decide) (Only.refl _ _)))))

theorem State.powerDomains_only (s : State) :
    Only [.out, .fresh, .power, .supply, .tenants, .pool, .chains, .tiles, .strs, .ptos, .groups, .parts, .views,
        .pair, .time, .net, .loops, .injs, .valves, .fbs, .anas, .dis, .dos, .fdpFault, .fdpTime, .cans, .recorder,
        .doms] s (State.powerDomains s) := by
  unfold State.powerDomains
  refine forEach_only _ _ (fun t x => ?_) ?_
  · split
    · split
      · exact Only.refl _ _
      · exact (State.setDom_only ..).after (by decide) (Only.refl _ _)
    · exact (State.domDown_only ..).after (by decide) (Only.refl _ _)
  · exact Only.refl _ _

theorem State.prpBoth_only (s : State) (a1 : EthFrame) :
    Only [.net] s (State.prpBoth s a1) := by
  unfold State.prpBoth
  exact (State.modNet_only ..).after (by decide) (Only.refl _ _)

theorem State.prpFirst_only (s : State) (a1 : Nat) (a2 : EthFrame) :
    Only [.net] s (State.prpFirst s a1 a2) := by
  unfold State.prpFirst
  exact (State.modNet_only ..).after (by decide) (Only.refl _ _)

theorem State.ptpOff_only (s : State) :
    Only [.time] s (State.ptpOff s) := by
  unfold State.ptpOff
  split
  · exact Only.refl _ _
  · exact (State.modTime_only ..).after (by decide) (Only.refl _ _)

theorem State.ptpOffset_only (s : State) (a1 : Nat) (a2 : Nat) (a3 : Nat) :
    Only [.now, .out, .power, .supply, .ident, .cfg, .config, .tenants, .pool, .zones, .disp, .parts, .views, .cmps,
        .pair, .time, .net, .loops, .injs, .valves, .fbs, .anas, .dos, .cans, .safe, .display, .doms] s
        (State.ptpOffset s a1 a2 a3) := by
  unfold State.ptpOffset
  dsimp only
  split
  · exact Only.refl _ _
  · exact (State.modTime_only ..).after (by decide) ((State.discipline_only ..).after (by decide) (Only.refl _ _))

theorem State.publishFrame_only (s : State) (a1 : Nat) (a2 : CanFrame) :
    Only [.pool, .cans] s (State.publishFrame s a1 a2) := by
  unfold State.publishFrame
  split
  · exact (State.modCan_only ..).after (by decide) (Only.refl _ _)
  · split
    · exact (State.syncCells_only ..).after (by decide) ((State.modCan_only ..).after (by decide) (Only.refl _ _))
    · exact (State.poolRefuse_only ..).after (by decide) ((State.modCan_only ..).after (by decide) (Only.refl _ _))

theorem State.publishCan_only (s : State) (a1 : Nat) (a2 : Bool) (a3 : Nat) :
    Only [.pool, .cans] s (State.publishCan s a1 a2 a3) := by
  unfold State.publishCan
  split
  · refine forEach_only _ _ (fun t x => ?_) (Only.refl _ _)
    exact (State.publishFrame_only ..).after (by decide) (Only.refl _ _)
  · exact Only.refl _ _

theorem State.publishOn_only (s : State) (a1 : List Word) (a2 : Nat) :
    Only [.out, .net] s (State.publishOn s a1 a2) := by
  unfold State.publishOn
  split
  · exact Only.refl _ _
  · split
    · exact (State.emit_only ..).after (by decide) (Only.refl _ _)
    · exact (State.modPort_only ..).after (by decide) (Only.refl _ _)

theorem State.queueContinuation_only (s : State) (a1 : Nat) (a2 : Req) :
    Only [.tenants, .pool, .doms] s (State.queueContinuation s a1 a2) := by
  unfold State.queueContinuation
  split
  · exact Only.refl _ _
  · exact (State.modTenant_only _ _ _ (by exact fun _ h => h)).after (by decide) ((State.enqueue_only ..).after
      (by decide) (Only.refl _ _))

theorem State.readActive_only (s : State) (a1 : Nat) :
    Only [.fresh] s (State.readActive s a1).1 := by
  unfold State.readActive
  split
  · dsimp only
    exact Only.refl _ _
  · split
    · split
      · dsimp only
        exact Only.refl _ _
      · dsimp only
        exact (State.tookFree_only ..).after (by decide) (Only.refl _ _)
    · split
      · dsimp only
        exact Only.refl _ _
      · dsimp only
        exact Only.refl _ _

theorem State.readStaged_only (s : State) (a1 : Nat) :
    Only [.fresh] s (State.readStaged s a1).1 := by
  unfold State.readStaged
  split
  · dsimp only
    exact Only.refl _ _
  · split
    · exact (State.readActive_only ..).after (by decide) (Only.refl _ _)
    · split
      · dsimp only
        exact Only.refl _ _
      · dsimp only
        exact Only.refl _ _

theorem State.readMany_only (s : State) (a1 : Bool) (a2 : List Nat) :
    Only [.fresh] s (State.readMany s a1 a2).1 := by
  unfold State.readMany
  have h : ∀ (l : List Nat) (p : State × List Word), Only [.fresh] s p.1 →
      Only [.fresh] s (l.foldl (fun (acc : State × List Word) a =>
        let x := if a1 then acc.1.readStaged a else acc.1.readActive a
        (x.1, acc.2 ++ [x.2])) p).1 := by
    intro l
    induction l with
    | nil => exact fun _ h => h
    | cons x r ih =>
      intro p hp
      refine ih _ ?_
      dsimp only
      split
      · exact (State.readStaged_only ..).after (by decide) hp
      · exact (State.readActive_only ..).after (by decide) hp
  exact h a2 _ (Only.refl _ _)

theorem State.stringFromHead_only (s : State) (a1 : Nat) :
    Only [.chains, .strs] s (State.stringFromHead s a1) := by
  unfold State.stringFromHead
  split
  · exact Only.refl _ _
  · dsimp only
    split
    · exact (State.modStr_only ..).after (by decide) (Only.refl _ _)
    · split
      · exact (State.modStr_only ..).after (by decide) (Only.refl _ _)
      · split
        · exact (State.modStr_only ..).after (by decide) (Only.refl _ _)
        · exact (State.sendContactor_only ..).after (by decide) ((State.modStr_only ..).after (by decide) (Only.refl
            _ _))

theorem State.rebuildKeeper_only (s : State) :
    Only [.power, .pool, .chains, .strs, .groups, .disp, .recorder] s (State.rebuildKeeper s) := by
  unfold State.rebuildKeeper
  dsimp only
  refine (State.enterOvr_only ..).after (by decide) ?_
  refine forEach_only _ _ (fun t x => ?_) ?_
  · exact (State.cutGrant_only ..).after (by decide) (Only.refl _ _)
  · refine forEach_only _ _ (fun t x => ?_) ?_
    · split
      · exact (State.stringFromHead_only ..).after (by decide) (Only.refl _ _)
      · exact Only.refl _ _
    · exact Only.refl _ _

theorem State.relayedSegmentOk_only (s : State) (a1 : Nat) (a2 : Nat) (a3 : Nat) :
    Only [.chains] s (State.relayedSegmentOk s a1 a2 a3) := by
  unfold State.relayedSegmentOk
  dsimp only
  exact (State.modChain_only ..).after (by decide) (Only.refl _ _)

theorem State.resendComp_only (s : State) (a1 : Nat) (a2 : Nat) :
    Only [.chains] s (State.resendComp s a1 a2) := by
  unfold State.resendComp
  dsimp only
  split
  · exact Only.refl _ _
  · exact (State.queueCmd_only ..).after (by decide) (Only.refl _ _)

theorem State.resetByCommand_only (s : State) (a1 : Nat) (a2 : Nat) (a3 : BootCheck) :
    Only [.out, .power, .supply, .ident, .cfg, .config, .tenants, .pool, .chains, .tiles, .bufA, .bufB, .readB,
        .ptos, .bals, .strLimits, .groups, .disp, .parts, .memories, .slices, .views, .cmps, .pair, .time, .net,
        .loops, .injs, .trace, .valves, .fbs, .anas, .grpField, .grpLow, .dis, .dos, .fdpFault, .fdpTime, .cans,
        .safe, .recorder, .display, .doms] s (State.resetByCommand s a1 a2 a3) := by
  unfold State.resetByCommand
  exact (State.moduleReset_only ..).after (by decide) ((State.commitRetained_only ..).after (by decide)
      ((State.finish_only ..).after (by decide) (Only.refl _ _)))

theorem State.restart_only (s : State) (a1 : BootCheck) :
    Only [.out, .power, .supply, .ident, .cfg, .config, .ptos, .doms] s (State.restart s a1) := by
  unfold State.restart
  exact (State.bootUp_only ..).after (by decide) ((State.modPower_only ..).after (by decide) (Only.refl _ _))

theorem State.resumeStrings_only (s : State) :
    Only [.chains, .strs] s (State.resumeStrings s) := by
  unfold State.resumeStrings
  refine forEach_only _ _ (fun t x => ?_) ?_
  · split
    · exact (State.modStr_only ..).after (by decide) ((State.dropContactor_only ..).after (by decide) (Only.refl _ _))
    · exact (State.modStr_only ..).after (by decide) (Only.refl _ _)
    · exact Only.refl _ _
  · exact Only.refl _ _

theorem State.retrySegments_only (s : State) (a1 : Nat) :
    Only [.chains] s (State.retrySegments s a1) := by
  unfold State.retrySegments
  dsimp only
  exact (State.modChain_only ..).after (by decide) (Only.refl _ _)

theorem State.ringIsBroken_only (s : State) (a1 : Nat) :
    Only [.chains] s (State.ringIsBroken s a1) := by
  unfold State.ringIsBroken
  split
  · split
    · exact (State.setVerify_only ..).after (by decide) ((State.chFault_only ..).after (by decide) (Only.refl _ _))
    · exact Only.refl _ _
  · exact Only.refl _ _

theorem State.ringIsWhole_only (s : State) (a1 : Nat) :
    Only [.chains] s (State.ringIsWhole s a1) := by
  unfold State.ringIsWhole
  split
  · split
    · exact (State.readAll_only ..).after (by decide) ((State.setVerify_only ..).after (by decide)
        ((State.modChain_only ..).after (by decide) ((State.chFault_only ..).after (by decide) (Only.refl _ _))))
    · exact Only.refl _ _
  · exact Only.refl _ _

theorem State.runBody_only {l : List Region} (s : State) (t : Nat) (r : Req) (sp : OpSpec) (body : State → State ×
    Answer)
    (hl : [Region.out, .cfg, .tenants, .pool, .parts, .views, .doms].all l.contains = true)
    (h : Only l s (body s).1) : Only l s (s.runBody t r sp body) := by
  have hb : bookSet.all l.contains = true := by
    simp only [List.all_eq_true] at hl ⊢
    intro x hx
    exact hl x (by revert x; decide)
  have hc : [Region.cfg].all l.contains = true := by
    simp only [List.all_eq_true] at hl ⊢
    intro x hx
    exact hl x (by revert x; decide)
  unfold State.runBody
  split
  · exact (State.finish_only s t r.seq stStarting [] 0).after hb (Only.refl _ _)
  · split
    · split
      · exact Only.refl _ _
      · rename_i rest he
        have hx := takeExec_length _ _ _ _ he
        refine (State.modTenant_toUnread s t _ _ (fun hb => ⟨hb.1.1, hb.1.2, ?_⟩)).after hb (Only.refl _ _)
        have := hb.2
        simp only [Tenant.total]
        omega
    · split
      · exact (State.finish_only ..).after hb ((State.clearBroken_only ..).after hc (Only.refl _ _))
      · exact (State.answer_only ..).after hb h

theorem State.runCommit_only (s : State) (a1 : Nat) (a2 : Req) (a3 : Bool) (a4 : Bool) :
    Only [.out, .ident, .cfg, .config, .tenants, .pool, .parts, .views, .safe, .doms] s (State.runCommit s a1 a2 a3
        a4).1 := by
  unfold State.runCommit
  dsimp only
  split
  · dsimp only
    exact Only.refl _ _
  · split
    · dsimp only
      exact (State.emit_only ..).after (by decide) ((State.modCfg_only ..).after (by decide) (Only.refl _ _))
    · dsimp only
      exact (State.completeCommit_only ..).after (by decide) (Only.refl _ _)

theorem State.safeCommit_only (s : State) :
    Only [.out, .ident, .cfg, .config, .safe] s (State.safeCommit s).1 := by
  unfold State.safeCommit
  dsimp only
  refine (State.unlock_only ..).after (by decide) ?_
  split
  · exact (State.toSafe_only ..).after (by decide) (Only.refl _ _)
  · exact Only.refl _ _

theorem State.searchStep_only (s : State) (a1 : Nat) :
    Only [.out, .chains] s (State.searchStep s a1) := by
  unfold State.searchStep
  split
  · exact Only.refl _ _
  · split
    · exact Only.refl _ _
    · split
      · exact (State.breakFound_only ..).after (by decide) (Only.refl _ _)
      · exact (State.sendEcho_only ..).after (by decide) (Only.refl _ _)

theorem State.selectMaster_only (s : State) :
    Only [.time] s (State.selectMaster s) := by
  unfold State.selectMaster
  dsimp only
  split
  · exact (State.modTime_only ..).after (by decide) ((State.modTime_only ..).after (by decide) (Only.refl _ _))
  · exact (State.modTime_only ..).after (by decide) ((State.modTime_only ..).after (by decide) (Only.refl _ _))

theorem State.sendCmd_only (s : State) (a1 : Nat) (a2 : Nat) (a3 : MonCmd) :
    Only [.out, .chains, .tiles, .strs] s (State.sendCmd s a1 a2 a3) := by
  unfold State.sendCmd
  dsimp only
  refine forEach_only _ _ (fun t x => ?_) ?_
  · split
    · exact (State.emit_only ..).after (by decide) (Only.refl _ _)
    · exact (State.emit_only ..).after (by decide) (Only.refl _ _)
  · split
    · refine forEach_only _ _ (fun t x => ?_) ?_
      · exact (State.handMask_only ..).after (by decide) (Only.refl _ _)
      · exact (State.noteContactor_only ..).after (by decide) ((State.modChain_only ..).after (by decide) (Only.refl
          _ _))
    · exact (State.noteContactor_only ..).after (by decide) ((State.modChain_only ..).after (by decide) (Only.refl _
        _))

theorem State.sendDigests_only (s : State) (a1 : Nat) :
    Only [.out] s (State.sendDigests s a1) := by
  unfold State.sendDigests
  split
  · exact (State.emit_only ..).after (by decide) (Only.refl _ _)
  · exact Only.refl _ _

theorem State.sendNet_only (s : State) (a1 : Nat) (a2 : String) :
    Only [.out] s (State.sendNet s a1 a2) := by
  unfold State.sendNet
  refine forEach_only _ _ (fun t x => ?_) ?_
  · refine doIf_only _ _ (fun t => ?_) ?_
    · exact (State.emit_only ..).after (by decide) (Only.refl _ _)
    · exact Only.refl _ _
  · exact Only.refl _ _

theorem State.sendQueued_only (fuel used : Nat) (s : State) (c : Nat) (bc : List MonCmd) :
    Only [.out, .chains, .tiles, .strs] s (State.sendQueued fuel used s c bc).1 := by
  induction fuel generalizing used s bc with
  | zero => exact Only.refl _ _
  | succ n ih =>
    unfold State.sendQueued
    split
    · exact Only.refl _ _
    · split
      · exact (ih ..).after (by decide) ((State.sendCmd_only ..).after (by decide) ((State.modChain_only ..).after
          (by decide) (Only.refl _ _)))
      · exact Only.refl _ _

theorem State.serialClock_only (s : State) (a1 : Nat) (a2 : Option SerialRead) :
    Only [.out] s (State.serialClock s a1 a2) := by
  unfold State.serialClock
  dsimp only
  split
  · exact Only.refl _ _
  · split
    · exact (State.emit_only ..).after (by decide) (Only.refl _ _)
    · exact (State.emit_only ..).after (by decide) (Only.refl _ _)
    · exact Only.refl _ _

theorem State.serialMove_only (s : State) (a1 : Nat) (a2 : Nat) :
    Only [.fbs] s (State.serialMove s a1 a2) := by
  unfold State.serialMove
  dsimp only
  exact (State.modFb_only ..).after (by decide) (Only.refl _ _)

theorem State.setQueue_only (s : State) (a1 : Nat) (a2 : Nat) (a3 : List LaunchFrame) :
    Only [.pool, .net] s (State.setQueue s a1 a2 a3) := by
  unfold State.setQueue
  exact (State.syncNet_only ..).after (by decide) ((State.modNet_only ..).after (by decide) (Only.refl _ _))

theorem State.stage_only (s : State) (a1 : List (Nat × Word)) :
    Only [.cfg, .config] s (State.stage s a1) := by
  unfold State.stage
  exact (State.modCfg_only ..).after (by decide) (Only.refl _ _)

theorem State.stageLedger_only (s : State) (a1 : Nat) :
    Only [.tiles, .ledger] s (State.stageLedger s a1) := by
  unfold State.stageLedger
  dsimp only
  split
  · exact Only.refl _ _
  · exact (State.modTile_only ..).after (by decide) ((State.stagePosition_only ..).after (by decide) (Only.refl _ _))

theorem State.startEntries_only (s : State) :
    Only [.power, .ident, .pool, .recorder] s (State.startEntries s) := by
  unfold State.startEntries
  dsimp only
  have a : Only [.power, .ident, .pool, .recorder] s (s.record 0x01 0x01 127 [s.power.causes.zeroExtend 32,
      s.release, w32 s.ident.booted]) :=
    (State.record_only ..).after (by decide) (Only.refl _ _)
  have e : ∀ (t : State) (l : List Rec), Only [.power, .ident, .pool, .recorder] s t →
      Only [.power, .ident, .pool, .recorder] s (forEach l (t.modPower (fun p =>
          { p with heldEvents := [], heldLost := 0 })) (fun s r => s.addRec r)) := fun t l ht =>
    forEach_only _ _ (fun u x => (State.addRec_only ..).after (by decide) (Only.refl _ _)) ((State.modPower_held
        ..).after (by decide) ht)
  have b : ∀ (x : Ident) (l : List Word), Only [.power, .ident, .pool, .recorder] s
      (({ s.record 0x01 0x01 127 [s.power.causes.zeroExtend 32, s.release, w32 s.ident.booted] with
      ident := x }).record 0x01 0x03 127 l) := fun x l =>
    (State.record_only ..).after (by decide) ((only_ident _ _).after (by decide) a)
  generalize (s.record 0x01 0x01 127 [s.power.causes.zeroExtend 32, s.release, w32 s.ident.booted]).ident.reverted = o
  have k : ∀ t : State, Only [.power, .ident, .pool, .recorder] s t → Only [.power, .ident, .pool, .recorder] s (if
      t.power.heldLost = 0 then
      forEach t.power.heldEvents (t.modPower (fun p => { p with heldEvents := [], heldLost := 0 })) (fun s r =>
          s.addRec r)
      else (forEach t.power.heldEvents (t.modPower (fun p => { p with heldEvents := [], heldLost := 0 })) (fun s r =>
          s.addRec r)).record
        0x12 0xFF 127 [w32 t.power.heldLost]) := by
    intro t ht
    split
    · exact e _ _ ht
    · exact (State.record_only ..).after (by decide) (e _ _ ht)
  cases o with
  | none => exact k _ a
  | some y => exact k _ (b _ _)

theorem State.startParts_only (s : State) :
    Only [.out, .power, .ident, .cfg, .config, .tenants, .pool, .parts, .memories, .views, .cmps, .loops, .injs,
        .valves, .fbs, .anas, .dos, .fdpFault, .fdpTime, .recorder, .display, .doms] s (State.startParts s) := by
  unfold State.startParts
  refine forEach_only _ _ (fun t x => ?_) ?_
  · split
    · dsimp only
      split
      · exact (State.partStart_only ..).after (by decide) ((State.partReset_only ..).after (by decide) (Only.refl _
          _))
      · exact (State.partReset_only ..).after (by decide) (Only.refl _ _)
    · exact Only.refl _ _
  · exact Only.refl _ _

theorem State.startPlant_only (s : State) :
    Only [.out, .fresh, .power, .ident, .cfg, .config, .tenants, .pool, .chains, .strs, .ptos, .groups, .parts,
        .memories, .views, .cmps, .loops, .injs, .valves, .fbs, .anas, .dos, .fdpFault, .fdpTime, .recorder,
        .display, .doms] s (State.startPlant s) := by
  unfold State.startPlant
  exact (State.startChains_only ..).after (by decide) ((State.startParts_only ..).after (by decide) (Only.refl _ _))

theorem State.unsegment_only (s : State) :
    Only [.chains] s (State.unsegment s) := by
  unfold State.unsegment
  refine forEach_only _ _ (fun t x => ?_) ?_
  · split
    · exact (State.sendSegment_only ..).after (by decide) (Only.refl _ _)
    · exact Only.refl _ _
  · exact Only.refl _ _

theorem State.syncDefaulted_only (s : State) :
    Only [.out, .fresh, .power, .pool, .chains, .strs, .ptos, .groups, .recorder] s (State.syncDefaulted s) := by
  unfold State.syncDefaulted
  refine forEach_only _ _ (fun t x => ?_) ?_
  · split
    · exact (State.setCause_only ..).after (by decide) (Only.refl _ _)
    · exact (State.modStr_only ..).after (by decide) (Only.refl _ _)
  · exact Only.refl _ _

theorem State.stepSix_only (s : State) :
    Only [.out, .fresh, .power, .supply, .ident, .cfg, .config, .tenants, .pool, .chains, .tiles, .strs, .ptos,
        .groups, .disp, .parts, .memories, .views, .cmps, .pair, .time, .net, .loops, .injs, .valves, .fbs, .anas,
        .dis, .dos, .fdpFault, .fdpTime, .cans, .recorder, .display, .doms] s (State.stepSix s) := by
  unfold State.stepSix
  dsimp only
  split
  · refine (State.defaultTrip_only ..).after (by decide) ?_
    refine (State.syncDefaulted_only ..).after (by decide) ?_
    split
    · refine (State.unsegment_only ..).after (by decide) ?_
      refine (State.startEntries_only ..).after (by decide) ?_
      refine (State.configEntries_only ..).after (by decide) ?_
      refine forEach_only _ _ (fun t x => ?_) ?_
      · exact (State.canConfigure_only ..).after (by decide) (Only.refl _ _)
      · exact (State.syncPtos_only ..).after (by decide) ((State.modTime_only ..).after (by decide)
          ((State.modPower_keep _ _ (by exact fun _ => rfl)).after (by decide) ((State.powerDomains_only ..).after
          (by decide) ((State.modPair_only ..).after (by decide) (Only.refl _ _)))))
    · refine (State.startEntries_only ..).after (by decide) ?_
      refine (State.configEntries_only ..).after (by decide) ?_
      refine forEach_only _ _ (fun t x => ?_) ?_
      · exact (State.canConfigure_only ..).after (by decide) (Only.refl _ _)
      · exact (State.syncPtos_only ..).after (by decide) ((State.modTime_only ..).after (by decide)
          ((State.modPower_keep _ _ (by exact fun _ => rfl)).after (by decide) ((State.powerDomains_only ..).after
          (by decide) ((State.modPair_only ..).after (by decide) (Only.refl _ _)))))
  · split
    · split
      · refine (State.meetEov_only ..).after (by decide) ?_
        refine (State.startPlant_only ..).after (by decide) ?_
        refine (State.syncDefaulted_only ..).after (by decide) ?_
        refine (State.unsegment_only ..).after (by decide) ?_
        refine (State.startEntries_only ..).after (by decide) ?_
        refine (State.configEntries_only ..).after (by decide) ?_
        refine forEach_only _ _ (fun t x => ?_) ?_
        · exact (State.canConfigure_only ..).after (by decide) (Only.refl _ _)
        · exact (State.syncPtos_only ..).after (by decide) ((State.modTime_only ..).after (by decide)
            ((State.modPower_keep _ _ (by exact fun _ => rfl)).after (by decide) ((State.powerDomains_only ..).after
            (by decide) ((State.modPair_only ..).after (by decide) (Only.refl _ _)))))
      · refine (State.syncDefaulted_only ..).after (by decide) ?_
        refine (State.unsegment_only ..).after (by decide) ?_
        refine (State.startEntries_only ..).after (by decide) ?_
        refine (State.configEntries_only ..).after (by decide) ?_
        refine forEach_only _ _ (fun t x => ?_) ?_
        · exact (State.canConfigure_only ..).after (by decide) (Only.refl _ _)
        · exact (State.syncPtos_only ..).after (by decide) ((State.modTime_only ..).after (by decide)
            ((State.modPower_keep _ _ (by exact fun _ => rfl)).after (by decide) ((State.powerDomains_only ..).after
            (by decide) ((State.modPair_only ..).after (by decide) (Only.refl _ _)))))
    · split
      · refine (State.meetEov_only ..).after (by decide) ?_
        refine (State.startPlant_only ..).after (by decide) ?_
        refine (State.syncDefaulted_only ..).after (by decide) ?_
        refine (State.startEntries_only ..).after (by decide) ?_
        refine (State.configEntries_only ..).after (by decide) ?_
        refine forEach_only _ _ (fun t x => ?_) ?_
        · exact (State.canConfigure_only ..).after (by decide) (Only.refl _ _)
        · exact (State.syncPtos_only ..).after (by decide) ((State.modTime_only ..).after (by decide)
            ((State.modPower_keep _ _ (by exact fun _ => rfl)).after (by decide) ((State.powerDomains_only ..).after
            (by decide) ((State.modPair_only ..).after (by decide) (Only.refl _ _)))))
      · refine (State.syncDefaulted_only ..).after (by decide) ?_
        refine (State.startEntries_only ..).after (by decide) ?_
        refine (State.configEntries_only ..).after (by decide) ?_
        refine forEach_only _ _ (fun t x => ?_) ?_
        · exact (State.canConfigure_only ..).after (by decide) (Only.refl _ _)
        · exact (State.syncPtos_only ..).after (by decide) ((State.modTime_only ..).after (by decide)
            ((State.modPower_keep _ _ (by exact fun _ => rfl)).after (by decide) ((State.powerDomains_only ..).after
            (by decide) ((State.modPair_only ..).after (by decide) (Only.refl _ _)))))

theorem State.takeActive_only (s : State) (a1 : ParamMap) :
    Only [.out, .fresh, .power, .ident, .cfg, .config, .tenants, .pool, .chains, .tiles, .strs, .ptos, .groups,
        .parts, .memories, .views, .time, .loops, .injs, .valves, .fbs, .anas, .dos, .fdpFault, .fdpTime, .cans,
        .recorder, .doms] s (State.takeActive s a1) := by
  unfold State.takeActive
  dsimp only
  exact (State.ptpOff_only ..).after (by decide) ((State.driveAllDo_only ..).after (by decide) ((State.syncPtos_only
      ..).after (by decide) ((State.syncExt_only ..).after (by decide) ((State.newTenants_only ..).after (by decide)
      ((State.newUnits_only ..).after (by decide) ((State.newChains_only ..).after (by decide) ((State.newOwners_only
      ..).after (by decide) ((State.newParts_only ..).after (by decide) ((State.powerUsed_only ..).after (by decide)
      ((State.modCfg_only ..).after (by decide) (Only.refl _ _)))))))))))

theorem State.takeBlock_only (s : State) (a1 : ControlBlock) :
    Only [.pair, .time] s (State.takeBlock s a1) := by
  unfold State.takeBlock
  exact (State.modTime_only ..).after (by decide) ((State.modPair_only ..).after (by decide) (Only.refl _ _))

theorem State.turnIfWhole_only (s : State) (a1 : Nat) :
    Only [.chains] s (State.turnIfWhole s a1) := by
  unfold State.turnIfWhole
  dsimp only
  split
  · refine (State.turnChain_only ..).after (by decide) ?_
    refine doIf_only _ _ (fun t => ?_) ?_
    · exact (State.verifyByTurn_only ..).after (by decide) (Only.refl _ _)
    · exact Only.refl _ _
  · exact Only.refl _ _

theorem State.takeChains_only (s : State) :
    Only [.chains] s (State.takeChains s) := by
  unfold State.takeChains
  refine forEach_only _ _ (fun t x => ?_) ?_
  · exact (State.turnIfWhole_only ..).after (by decide) ((State.modChain_only ..).after (by decide) (Only.refl _ _))
  · exact Only.refl _ _

theorem State.takeContinuation_only (s : State) (a1 : Nat) (a2 : Packet) (a3 : BulkCheck) :
    Only [.out, .ident, .cfg, .config, .tenants, .pool, .parts, .views, .pair, .doms] s (State.takeContinuation s a1
        a2 a3) := by
  unfold State.takeContinuation
  split
  · split
    · exact (State.absorb_only ..).after (by decide) ((State.dropHead_only ..).after (by decide) (Only.refl _ _))
    · split
      · exact (State.dropHead_only ..).after (by decide) (Only.refl _ _)
      · exact (State.finish_only ..).after (by decide) ((State.startHead_only ..).after (by decide) (Only.refl _ _))
  · split
    · exact (State.dropHead_only ..).after (by decide) (Only.refl _ _)
    · exact (State.finish_only ..).after (by decide) ((State.startHead_only ..).after (by decide) (Only.refl _ _))

theorem State.takeCopy_only (s : State) (a1 : Nat) (a2 : Nat) (a3 : Nat) (a4 : BitVec 512) :
    Only [.out, .fresh, .power, .pool, .chains, .tiles, .strs, .ptos, .groups, .pair, .recorder, .doms] s
        (State.takeCopy s a1 a2 a3 a4) := by
  unfold State.takeCopy
  dsimp only
  split
  · split
    · exact (State.headFrame_only ..).after (by decide) ((State.modTile_only ..).after (by decide)
        ((State.modChain_only ..).after (by decide) ((State.awake_only ..).after (by decide) (Only.refl _ _))))
    · exact (State.modChain_only ..).after (by decide) ((State.awake_only ..).after (by decide) (Only.refl _ _))
  · split
    · split
      · split
        · exact (State.issueRecord_only ..).after (by decide) ((State.advanceAll_only ..).after (by decide)
            ((State.modTile_only ..).after (by decide) ((State.headFrame_only ..).after (by decide)
            ((State.modTile_only ..).after (by decide) ((State.modChain_only ..).after (by decide) ((State.awake_only
            ..).after (by decide) (Only.refl _ _)))))))
        · exact (State.advanceAll_only ..).after (by decide) ((State.modTile_only ..).after (by decide)
            ((State.headFrame_only ..).after (by decide) ((State.modTile_only ..).after (by decide)
            ((State.modChain_only ..).after (by decide) ((State.awake_only ..).after (by decide) (Only.refl _ _))))))
      · split
        · exact (State.issueRecord_only ..).after (by decide) ((State.advanceAll_only ..).after (by decide)
            ((State.modTile_only ..).after (by decide) ((State.modChain_only ..).after (by decide) ((State.awake_only
            ..).after (by decide) (Only.refl _ _)))))
        · exact (State.advanceAll_only ..).after (by decide) ((State.modTile_only ..).after (by decide)
            ((State.modChain_only ..).after (by decide) ((State.awake_only ..).after (by decide) (Only.refl _ _))))
    · split
      · split
        · exact (State.issueRecord_only ..).after (by decide) ((State.advance_only ..).after (by decide)
            ((State.modTile_only ..).after (by decide) ((State.headFrame_only ..).after (by decide)
            ((State.modTile_only ..).after (by decide) ((State.modChain_only ..).after (by decide) ((State.awake_only
            ..).after (by decide) (Only.refl _ _)))))))
        · exact (State.advance_only ..).after (by decide) ((State.modTile_only ..).after (by decide)
            ((State.headFrame_only ..).after (by decide) ((State.modTile_only ..).after (by decide)
            ((State.modChain_only ..).after (by decide) ((State.awake_only ..).after (by decide) (Only.refl _ _))))))
      · split
        · exact (State.issueRecord_only ..).after (by decide) ((State.advance_only ..).after (by decide)
            ((State.modTile_only ..).after (by decide) ((State.modChain_only ..).after (by decide) ((State.awake_only
            ..).after (by decide) (Only.refl _ _)))))
        · exact (State.advance_only ..).after (by decide) ((State.modTile_only ..).after (by decide)
            ((State.modChain_only ..).after (by decide) ((State.awake_only ..).after (by decide) (Only.refl _ _))))

theorem State.takeDue_only (s : State) :
    Only [.out, .fresh, .power, .ident, .cfg, .config, .tenants, .pool, .chains, .tiles, .strs, .ptos, .groups,
        .parts, .memories, .views, .time, .loops, .injs, .valves, .fbs, .anas, .dos, .fdpFault, .fdpTime, .cans,
        .recorder, .doms] s (State.takeDue s) := by
  unfold State.takeDue
  dsimp only
  refine forEach_only _ _ (fun t x => ?_) ?_
  · exact (State.takeActive_only ..).after (by decide) (Only.refl _ _)
  · exact (State.modCfg_only ..).after (by decide) (Only.refl _ _)

theorem State.takeField_only (s : State) (a1 : List Nat) :
    Only [.grpField, .grpLow] s (State.takeField s a1) := by
  unfold State.takeField
  refine forEach_only _ _ (fun t x => ?_) (Only.refl _ _)
  exact (only_grpField_grpLow _ _ _).after (by decide) (Only.refl _ _)

theorem State.takeFrame_only (s : State) (a1 : Nat) (a2 : BitVec 512) :
    Only [.out, .fresh, .power, .pool, .chains, .tiles, .strs, .ptos, .groups, .pair, .recorder, .doms] s
        (State.takeFrame s a1 a2) := by
  unfold State.takeFrame
  dsimp only
  split
  · exact Only.refl _ _
  · split
    · exact (State.resendComp_only ..).after (by decide) (Only.refl _ _)
    · split
      · exact (State.takeCopy_only ..).after (by decide) (Only.refl _ _)
      · split
        · exact (State.takeCopy_only ..).after (by decide) (Only.refl _ _)
        · exact Only.refl _ _

theorem State.takeMapBit_only (s : State) (a1 : Nat) (a2 : Bool) :
    Only [.out, .fresh, .power, .pool, .chains, .strs, .ptos, .groups, .recorder] s (State.takeMapBit s a1 a2) := by
  unfold State.takeMapBit
  split
  · exact Only.refl _ _
  · split
    · split
      · exact Only.refl _ _
      · exact (State.verifySettle_only ..).after (by decide) ((State.modChain_only ..).after (by decide) (Only.refl _
          _))
    · split
      · exact (State.actOnLoss_only ..).after (by decide) ((State.chFault_only ..).after (by decide)
          ((State.modChain_only ..).after (by decide) (Only.refl _ _)))
      · exact (State.lossEnds_only ..).after (by decide) ((State.modChain_only ..).after (by decide) (Only.refl _ _))
      · exact Only.refl _ _

theorem State.takeoverLock_only (s : State) (a1 : Bool) :
    Only [.ident, .cfg, .config] s (State.takeoverLock s a1) := by
  unfold State.takeoverLock
  dsimp only
  split
  · exact (State.modCfg_only ..).after (by decide) ((State.breakLock_only ..).after (by decide) (Only.refl _ _))
  · exact (State.breakLock_only ..).after (by decide) (Only.refl _ _)

theorem State.takeOver_only (s : State) :
    Only [.out, .power, .ident, .cfg, .config, .tenants, .pool, .chains, .tiles, .strs, .ptos, .groups, .disp,
        .parts, .memories, .views, .cmps, .pair, .time, .loops, .injs, .valves, .fbs, .anas, .dos, .fdpFault,
        .fdpTime, .cans, .recorder, .display, .doms] s (State.takeOver s) := by
  unfold State.takeOver
  dsimp only
  refine (State.driveAllDo_only ..).after (by decide) ?_
  refine (State.syncPtos_only ..).after (by decide) ?_
  split
  · refine (State.hotPlant_only ..).after (by decide) ?_
    refine (State.takeChains_only ..).after (by decide) ?_
    refine (State.endResyncs_only ..).after (by decide) ?_
    refine (State.resumeStrings_only ..).after (by decide) ?_
    split
    · refine (State.rebuildKeeper_only ..).after (by decide) ?_
      refine (State.takeoverLock_only ..).after (by decide) ?_
      refine doIf_only _ _ (fun t => ?_) ?_
      · exact (State.record_only ..).after (by decide) (Only.refl _ _)
      · exact (State.setRole_only ..).after (by decide) ((State.emit_only ..).after (by decide) ((State.modPair_only
          ..).after (by decide) (Only.refl _ _)))
    · refine (State.takeoverLock_only ..).after (by decide) ?_
      refine doIf_only _ _ (fun t => ?_) ?_
      · exact (State.record_only ..).after (by decide) (Only.refl _ _)
      · exact (State.setRole_only ..).after (by decide) ((State.emit_only ..).after (by decide) ((State.modPair_only
          ..).after (by decide) (Only.refl _ _)))
  · refine (State.coldPlant_only ..).after (by decide) ?_
    refine (State.takeChains_only ..).after (by decide) ?_
    refine (State.endResyncs_only ..).after (by decide) ?_
    refine (State.resumeStrings_only ..).after (by decide) ?_
    split
    · refine (State.rebuildKeeper_only ..).after (by decide) ?_
      refine (State.takeoverLock_only ..).after (by decide) ?_
      refine doIf_only _ _ (fun t => ?_) ?_
      · exact (State.record_only ..).after (by decide) (Only.refl _ _)
      · exact (State.setRole_only ..).after (by decide) ((State.emit_only ..).after (by decide) ((State.modPair_only
          ..).after (by decide) (Only.refl _ _)))
    · refine (State.takeoverLock_only ..).after (by decide) ?_
      refine doIf_only _ _ (fun t => ?_) ?_
      · exact (State.record_only ..).after (by decide) (Only.refl _ _)
      · exact (State.setRole_only ..).after (by decide) ((State.emit_only ..).after (by decide) ((State.modPair_only
          ..).after (by decide) (Only.refl _ _)))

theorem State.takeTls_only (s : State) (a1 : Nat) (a2 : Nat) (a3 : List Word) :
    Only [.out, .tenants, .pool, .parts, .views, .doms] s (State.takeTls s a1 a2 a3) := by
  unfold State.takeTls
  dsimp only
  split
  · exact Only.refl _ _
  · split
    · exact Only.refl _ _
    · exact (State.drain_only ..).after (by decide) ((State.readSession_only ..).after (by decide)
        ((State.modTenant_only _ _ _ (by exact fun _ h => h)).after (by decide) (Only.refl _ _)))

theorem State.thermWarn_only (s : State) (a1 : Int) :
    Only [.power, .supply, .pool, .recorder] s (State.thermWarn s a1) := by
  unfold State.thermWarn
  split
  · exact (State.record_only ..).after (by decide) ((State.modPower_keep _ _ (by exact fun _ => rfl)).after
      (by decide) (Only.refl _ _))
  · split
    · exact (State.record_only ..).after (by decide) ((State.modPower_keep _ _ (by exact fun _ => rfl)).after
        (by decide) (Only.refl _ _))
    · exact Only.refl _ _

theorem State.tileIdle_only (s : State) (a1 : Nat) :
    Only [.doms] s (State.tileIdle s a1) := by
  unfold State.tileIdle
  dsimp only
  split
  · split
    · exact (State.askIdle_only ..).after (by decide) (Only.refl _ _)
    · exact Only.refl _ _
  · split
    · exact (State.askIdle_only ..).after (by decide) (Only.refl _ _)
    · exact Only.refl _ _

theorem State.traceSample_only (s : State) (a1 : Nat) :
    Only [.trace] s (State.traceSample s a1) := by
  unfold State.traceSample
  dsimp only
  split
  · split
    · exact (State.modTrace_only ..).after (by decide) (Only.refl _ _)
    · exact (State.modTrace_only ..).after (by decide) (Only.refl _ _)
  · exact (State.modTrace_only ..).after (by decide) (Only.refl _ _)
  · exact Only.refl _ _

theorem State.trackUpdate_only (s : State) (a1 : Nat) (a2 : Nat) (a3 : RingEnd) (a4 : Nat) :
    Only [.chains] s (State.trackUpdate s a1 a2 a3 a4) := by
  unfold State.trackUpdate
  dsimp only
  split
  · split
    · exact (State.modChain_only ..).after (by decide) (Only.refl _ _)
    · split
      · split
        · exact (State.queueCmd_only ..).after (by decide) ((State.modChain_only ..).after (by decide) (Only.refl _
            _))
        · exact (State.modChain_only ..).after (by decide) (Only.refl _ _)
      · split
        · exact (State.queueCmd_only ..).after (by decide) ((State.modChain_only ..).after (by decide) (Only.refl _
            _))
        · exact (State.modChain_only ..).after (by decide) (Only.refl _ _)
  · split
    · exact (State.modChain_only ..).after (by decide) (Only.refl _ _)
    · split
      · split
        · exact (State.queueCmd_only ..).after (by decide) ((State.modChain_only ..).after (by decide) (Only.refl _
            _))
        · exact (State.modChain_only ..).after (by decide) (Only.refl _ _)
      · split
        · exact (State.queueCmd_only ..).after (by decide) ((State.modChain_only ..).after (by decide) (Only.refl _
            _))
        · exact (State.modChain_only ..).after (by decide) (Only.refl _ _)

theorem State.unfreeze_only (s : State) :
    Only [.out, .power, .pool, .parts, .views, .pair, .loops, .injs, .valves, .fbs, .anas, .dos, .fdpFault, .fdpTime,
        .recorder, .doms] s (State.unfreeze s) := by
  unfold State.unfreeze
  dsimp only
  refine (State.driveAllDo_only ..).after (by decide) ?_
  refine forEach_only _ _ (fun t x => ?_) ?_
  · exact (State.outputsSafe_only ..).after (by decide) (Only.refl _ _)
  · exact (State.modPair_only ..).after (by decide) (Only.refl _ _)

theorem State.unheal_only (s : State) (a1 : Nat) :
    Only [.chains] s (State.unheal s a1) := by
  unfold State.unheal
  split
  · dsimp only
    split
    · refine (State.sendSegment_only ..).after (by decide) ?_
      split
      · exact (State.sendSegment_only ..).after (by decide) (Only.refl _ _)
      · exact Only.refl _ _
    · split
      · exact (State.sendSegment_only ..).after (by decide) (Only.refl _ _)
      · exact Only.refl _ _
  · exact Only.refl _ _

theorem State.valveEvent_only (s : State) (a1 : Nat) :
    Only [.out, .parts, .views, .doms] s (State.valveEvent s a1) := by
  unfold State.valveEvent
  split
  · exact (State.event_only ..).after (by decide) (Only.refl _ _)
  · exact Only.refl _ _

theorem State.valveFault_only (s : State) (a1 : Nat) (a2 : Bool) (a3 : Nat) :
    Only [.out, .parts, .views, .valves, .doms] s (State.valveFault s a1 a2 a3) := by
  unfold State.valveFault
  dsimp only
  refine doIf_only _ _ (fun t => ?_) ?_
  · exact (State.valveEvent_only ..).after (by decide) (Only.refl _ _)
  · split
    · exact (State.modValve_only ..).after (by decide) ((State.setValve_only ..).after (by decide)
        ((State.modValve_only ..).after (by decide) (Only.refl _ _)))
    · exact (State.modValve_only ..).after (by decide) (Only.refl _ _)

theorem State.valveStep_only (s : State) (a1 : Nat) (a2 : Bool) :
    Only [.out, .valves] s (State.valveStep s a1 a2) := by
  unfold State.valveStep
  dsimp only
  refine doIf_only _ _ (fun t => ?_) ?_
  · exact (State.emit_only ..).after (by decide) (Only.refl _ _)
  · exact (State.modValve_only ..).after (by decide) (Only.refl _ _)

/-- A meaning of an opcode row: the books, the answer's events and what its body changes. -/
theorem opcode_ends {l : List Region} (s : State) (t : Nat) (r : Req) (sp : OpSpec) (body : State → State × Answer)
    (hl : [Region.now, .out, .cfg, .tenants, .pool, .parts, .views, .doms].all l.contains = true)
    (h : ∀ u, Only l u (body u).1) : Ends l s (opcode s t r sp body) := by
  have hk : ∀ k : List Region, k.all [Region.now, .out, .cfg, .tenants, .pool, .parts, .views, .doms].contains = true →
      k.all l.contains = true := fun k hk => by
    simp only [List.all_eq_true] at hl hk ⊢
    exact fun x hx => hl x (by simpa using hk x hx)
  refine evt_ends _ _ _ (hk _ (by decide)) (fun u => ?_)
  split
  · exact Only.refl _ _
  · split
    rename_i s1 go e
    have a : Only l u s1 := Only.of_fst e ((State.intake_only ..).after (hk _ (by decide)) (Only.refl _ _))
    split
    · exact (State.drain_only ..).after (hk _ (by decide)) ((State.runBody_only _ _ _ _ _ (hk _ (by decide)) (h _)).after (by simp) a)
    · exact a

end Sys2Proof.Machine
end

