-- ==== Sys2Proof/Laws/Opcode.lean ====
section
/-! SUPPORT. How an opcode row runs, said once: a request that is ready and passes the checks executes at
once, and its reply is the tenant's next unread one. -/

namespace Sys2Proof.Machine

/-- The checks of a request read nothing of what a tenant's commands change but its role (R158). -/
theorem State.gate_books {s s1 : State} (h : Books s s1) (t : Nat) (r : Req) (sp : OpSpec) :
    s1.gate t r sp = s.gate t r sp := by
  obtain ⟨_, _, _, _, _, _, rfl⟩ := h
  rfl

/-- The tenant once its request executes. -/
def Tenant.took (x : Tenant) (op : Nat) (r : Req) (now served : Nat) : Tenant :=
  { x with
    credits := x.credits - 1, queued := []
    executing := [{ pkt := { opcode := op, length := r.payload.length, req := r } }]
    session := x.session.map (fun w => { w with lastPacket := now })
    served := served }

/-- The state with the packet queued, when the credit is there and the SEQ is new. -/
theorem State.enqueue_tenant (s : State) (t : Nat) (p : Packet) (h0 : 0 < (s.tenant t).credits)
    (hf : Tenant.inFlight (s.tenant t) p.req.seq = false) :
    (s.enqueue t p).tenant t =
      { s.tenant t with credits := (s.tenant t).credits - 1, queued := (s.tenant t).queued ++ [p] } := by
  have hcr : ¬ (s.tenant t).credits = 0 := by omega
  have ha : (s.awake 33).tenant t = s.tenant t := by
    obtain ⟨_, _, _, _, h⟩ := State.awake_events s 33
    rw [h]; rfl
  simp only [State.enqueue, hcr, hf, decide_false, Bool.false_and, Bool.or_self, Bool.false_eq_true, if_false,
    State.modTenant_same, ha]

theorem State.intake_ready (s : State) (t : Nat) (op : Nat) (r : Req) (hc : s.canSubmit t = true)
    (ht : s.hisTurn t = true) (h0 : 0 < (s.tenant t).credits) (hq : (s.tenant t).queued = [])
    (he : (s.tenant t).executing = []) :
    ∃ s1 n, s.intake t op r = (s1, true) ∧ Books s s1 ∧ s1.tenant t = Tenant.took (s.tenant t) op r s.now n := by
  have hcr : ¬ (s.tenant t).credits = 0 := by omega
  have hf : Tenant.inFlight (s.tenant t) r.seq = false := by simp [Tenant.inFlight, hq, he]
  have hs : Tenant.canStart (s.tenant t) op = true := by simp [Tenant.canStart, he]
  let pkt : Packet := { opcode := op, length := r.payload.length, req := r }
  let s2 := (s.enqueue t pkt).modTenant t (fun x => Tenant.carries x s.now)
  have h2 : s2.tenant t = Tenant.carries { s.tenant t with credits := (s.tenant t).credits - 1, queued := [pkt] } s.now := by
    simp only [s2, State.modTenant_same, State.enqueue_tenant s t pkt h0 hf, hq, List.nil_append]
  refine ⟨s2.startHead t pkt, s2.nextServed, ?_, ?_, ?_⟩
  · simp only [State.intake, hq, List.any_nil, hc, hf, hs, ht, Bool.not_true, Bool.false_or, hcr, decide_false,
      Bool.false_eq_true, if_false, List.isEmpty_nil, Bool.and_self, if_true]
    rfl
  · exact ((State.enqueue_books s t pkt).trans (State.modTenant_books _ t _)).trans (State.startHead_books _ t _)
  · simp [State.startHead, h2, Tenant.carries, Tenant.took, he, pkt]

theorem addCache_unread (x : Tenant) (seq op : Nat) (r : Reply) :
    (Tenant.addCache x seq op r).unread = x.unread ∧ (Tenant.addCache x seq op r).queued = x.queued := by
  unfold Tenant.addCache
  dsimp only
  split <;> exact ⟨rfl, rfl⟩

/-- Events leave the tenants. -/
theorem Events.tenant {s u : State} (h : Events s u) (t : Nat) : u.tenant t = s.tenant t := by
  obtain ⟨_, _, _, _, rfl⟩ := h
  rfl

theorem State.emit_tenant (s : State) (o : Out) (t : Nat) : (s.emit o).tenant t = s.tenant t := rfl

theorem State.toUnread_tenant (s : State) (t : Nat) (r : Reply) :
    (s.toUnread t r).tenant t =
      Tenant.carries { s.tenant t with unread := (s.tenant t).unread ++ [{ words := replyWords r }] } s.now := by
  unfold State.toUnread
  dsimp only
  cases h : (s.tenant t).unread.isEmpty
  · rw [doIf_false, State.emit_tenant, State.modTenant_same]
  · rw [doIf_true, Events.tenant (State.windowEvent_events _ t 288), State.emit_tenant, State.modTenant_same]

/-- With nothing queued no malformed packet waits. -/
theorem State.drain_empty (s : State) (t n : Nat) (h : (s.tenant t).queued = []) : State.drain n s t = s := by
  cases n with
  | zero => rfl
  | succ n => simp [State.drain, h]

/-- An answer to the one executing request is the next unread reply. -/
theorem State.finish_reply (s : State) (t : Nat) (p : Packet) (st : Nat) (ws : List Word)
    (he : (s.tenant t).executing = [{ pkt := p }]) (hq : (s.tenant t).queued = []) :
    ((s.finish t p.req.seq st ws).tenant t).unread = (s.tenant t).unread ++
      [{ words := replyWords { status := st, flags := p.req.flags &&& 8, seq := p.req.seq, tag := p.req.tag, payload := ws } }] ∧
    ((s.finish t p.req.seq st ws).tenant t).queued = [] := by
  have e : takeExec (s.tenant t).executing p.req.seq = some ({ pkt := p }, []) := by simp [he, takeExec]
  simp only [State.finish, e, Bool.false_eq_true, if_false]
  rw [State.drain_empty _ _ _ (by simp [State.toUnread_tenant, Tenant.carries, (addCache_unread _ _ _ _).2, hq])]
  simp only [State.toUnread_tenant, State.modTenant_same, Tenant.carries]
  refine ⟨?_, ?_⟩
  · simp [(addCache_unread _ _ _ _).1]
  · simp [(addCache_unread _ _ _ _).2, hq]

theorem cache_find_none (l : List Cached) (seq : Nat) (h : l.all (fun e => e.seq != seq) = true) :
    l.find? (fun e => e.seq == seq) = none := by
  simp only [List.find?_eq_none]
  intro e he
  have := List.all_eq_true.mp h e he
  simpa using this

/-- A request that is ready and passes the checks: its body runs on a state that differs from the one before
in the tenant's books alone, and what the body replies is the next unread reply (R158, R162, R165). -/
theorem opcode_runs (s : State) (t : Fin 16) (r : Req) (sp : OpSpec) (body : State → State × Answer)
    (h : s.Ready t r) (hf : r.flags &&& 8 = 0) (g : s.gate t r sp = none) :
    ∃ s1 n, Books (s.at r.time) s1 ∧ s1.tenant t = Tenant.took (s.tenant t) sp.opcode r (max s.now r.time) n ∧
      ∀ s2 ws, body s1 = (s2, .reply stOk ws) → s2.tenant t = s1.tenant t →
        ∃ u, opcode s t r sp body = .next u ∧ Replied s t r ws u ∧ Books s2 u := by
  obtain ⟨hp, hk, hr, hc, htu, h0, hq, he, ho, hca⟩ := h
  obtain ⟨s1, n, ha, hb, ht⟩ := State.intake_ready (s.at r.time) t sp.opcode r hc htu h0 hq he
  refine ⟨s1, n, hb, ht, ?_⟩
  intro s2 ws hbody htn
  have hk2 : s1.power.keeper = s.power.keeper := by obtain ⟨_, _, _, _, _, _, rfl⟩ := hb; rfl
  have hi2 : s1.inRecovery = false := by obtain ⟨_, _, _, _, _, _, rfl⟩ := hb; exact hr
  have hg : s1.gate t r sp = none := (State.gate_books hb t r sp).trans g
  have hkeep : (s.power.keeper == .starting) = false := by
    simp only [State.keeperUp] at hk
    cases hx : s.power.keeper <;> simp_all
  have hpk : (s.at r.time).takesPackets = true := by
    simp only [State.keeperUp] at hk
    simp only [State.takesPackets, State.at_power, hp]
    cases hx : s.power.keeper <;> simp_all
  have hcn : Tenant.cached (s1.tenant t) r.seq = none := by
    rw [ht]; exact cache_find_none _ _ hca
  have hex : (s2.tenant t).executing = [{ pkt := { opcode := sp.opcode, length := r.payload.length, req := r } }] := by
    rw [htn, ht]; rfl
  have hqu : (s2.tenant t).queued = [] := by rw [htn, ht]; rfl
  have hfin := State.finish_reply s2 t { opcode := sp.opcode, length := r.payload.length, req := r } stOk ws hex hqu
  refine ⟨s2.finish t r.seq stOk ws, ?_, ?_, State.finish_books s2 t _ _ _ _⟩
  · simp only [opcode, evt, hpk, ha, Bool.not_true, Bool.false_eq_true, if_false, if_true, State.runBody, hk2, hkeep,
      Bool.false_and, hcn, hg, hbody, State.answer, State.drain_empty _ _ _ hfin.2]
  · have := hfin.1
    rw [htn, ht] at this
    simpa [Replied, hf, Tenant.took, State.tenant] using this

end Sys2Proof.Machine
end

