-- ==== Sys2Proof/Laws/Protect.lean ====
section
/-! SUPPORT. What a trip and a verification can change (R53, R114, R118, R120 to R123, R131). -/

namespace Sys2Proof.Machine

/-- Two records of a chain that agree but for its verification and the decision on it, its CMDs and SEGMENTs that wait,
its TRIP, its ECHOs, and the faults of a broken ring. -/
def ChainSame (x y : Chain) : Prop :=
  y = { x with
    verify := y.verify, decided := y.decided, queue := y.queue, segments := y.segments, trip := y.trip, echoes := y.echoes
    nextEtag := y.nextEtag, fault := y.fault, breakAfter := y.breakAfter }

theorem ChainSame.refl (x : Chain) : ChainSame x x := rfl

theorem ChainSame.trans {x y z : Chain} (h : ChainSame x y) (k : ChainSame y z) : ChainSame x z := by
  unfold ChainSame at *
  rw [h] at k
  exact k

/-- The states that differ in what tripping and verifying change. -/
def Prot (s t : State) : Prop :=
  (∃ ch st gr pt o rc ev n fr pl, t = { s with
      chains := ch, strs := st, groups := gr, ptos := pt, out := o, recorder := rc
      power := { s.power with heldEvents := ev, heldLost := n }, fresh := fr, pool := pl }) ∧
  ∀ k : Nat, ChainSame (s.chain k) (t.chain k)

theorem Prot.refl (s : State) : Prot s s :=
  ⟨⟨s.chains, s.strs, s.groups, s.ptos, s.out, s.recorder, s.power.heldEvents, s.power.heldLost, s.fresh, s.pool, rfl⟩,
    fun _ => rfl⟩

theorem Prot.trans {s t u : State} (h : Prot s t) (k : Prot t u) : Prot s u := by
  refine ⟨?_, fun j => (h.2 j).trans (k.2 j)⟩
  obtain ⟨⟨_, _, _, _, _, _, _, _, _, _, rfl⟩, _⟩ := h
  obtain ⟨⟨_, _, _, _, _, _, _, _, _, _, rfl⟩, _⟩ := k
  exact ⟨_, _, _, _, _, _, _, _, _, _, rfl⟩

theorem Recs.prot {s t : State} (h : Recs s t) : Prot s t := by
  obtain ⟨rc, ev, n, pl, rfl⟩ := h
  exact ⟨⟨s.chains, s.strs, s.groups, s.ptos, s.out, rc, ev, n, s.fresh, pl, rfl⟩, fun _ => rfl⟩

theorem State.emit_prot (s : State) (o : Out) : Prot s (s.emit o) :=
  ⟨⟨s.chains, s.strs, s.groups, s.ptos, _, s.recorder, s.power.heldEvents, s.power.heldLost, s.fresh, s.pool, rfl⟩, fun _ => rfl⟩

theorem State.modStr_prot (s : State) (c : Nat) (f : Str → Str) : Prot s (s.modStr c f) :=
  ⟨⟨s.chains, _, s.groups, s.ptos, s.out, s.recorder, s.power.heldEvents, s.power.heldLost, s.fresh, s.pool, rfl⟩, fun _ => rfl⟩

theorem State.modGroup_prot (s : State) (c : Nat) (f : Group → Group) : Prot s (s.modGroup c f) :=
  ⟨⟨s.chains, s.strs, _, s.ptos, s.out, s.recorder, s.power.heldEvents, s.power.heldLost, s.fresh, s.pool, rfl⟩, fun _ => rfl⟩

theorem State.modPto_prot (s : State) (c : Nat) (f : Pto → Pto) : Prot s (s.modPto c f) :=
  ⟨⟨s.chains, s.strs, s.groups, _, s.out, s.recorder, s.power.heldEvents, s.power.heldLost, s.fresh, s.pool, rfl⟩, fun _ => rfl⟩

theorem State.tookFree_prot (s : State) : Prot s s.tookFree :=
  ⟨⟨s.chains, s.strs, s.groups, s.ptos, s.out, s.recorder, s.power.heldEvents, s.power.heldLost, _, s.pool, rfl⟩, fun _ => rfl⟩

theorem State.modChain_prot (s : State) (c : Nat) (f : Chain → Chain) (h : ∀ x, ChainSame x (f x)) :
    Prot s (s.modChain c f) := by
  refine ⟨⟨_, s.strs, s.groups, s.ptos, s.out, s.recorder, s.power.heldEvents, s.power.heldLost, s.fresh, s.pool, rfl⟩, fun k => ?_⟩
  by_cases hk : k = c
  · subst hk; rw [State.modChain_chain_same]; exact h _
  · rw [State.modChain_chain_other s c k f hk]; exact ChainSame.refl _

theorem forEach_prot {α : Type} (l : List α) (s : State) (f : State → α → State) (h : ∀ t x, Prot t (f t x)) :
    Prot s (forEach l s f) :=
  forEach_keeps (Prot s) l s f (Prot.refl s) (fun t x _ ht => ht.trans (h t x))

theorem State.emitTrip_prot (s : State) (c a r o : Nat) : Prot s (s.emitTrip c a r o) :=
  forEach_prot _ _ _ (fun t _ => State.emit_prot t _)

theorem State.sendTrip_prot (s : State) (c a r o : Nat) : Prot s (s.sendTrip c a r o) := by
  unfold State.sendTrip
  dsimp only
  have h1 := ((State.modChain_prot s c (fun x =>
    { x with trip := some { action := a, reason := r, origin := o, startedAt := s.now } }) (fun _ => rfl)).trans
    (forEach_prot (s.tripEnds c) _ (fun t e => t.emit (chainOut c e .abort 0 0)) (fun t _ => State.emit_prot t _))).trans
    (State.emitTrip_prot _ c a r o)
  split
  · exact (h1.trans (forEach_prot _ _ _ (fun t _ => State.emit_prot t _))).trans (State.tookFree_prot _)
  · exact h1

theorem State.dropContactor_prot (s : State) (c : Nat) : Prot s (s.dropContactor c) :=
  State.modChain_prot s c _ (fun _ => rfl)

theorem State.queueCmd_prot (s : State) (c : Nat) (m : MonCmd) : Prot s (s.queueCmd c m) :=
  State.modChain_prot s c _ (fun _ => rfl)

theorem State.setVerify_prot (s : State) (c : Nat) (v : Option Verify) : Prot s (s.setVerify c v) :=
  State.modChain_prot s c _ (fun _ => rfl)

theorem State.sendEcho_prot (s : State) (c d : Nat) (e : RingEnd) (w : EchoFor) : Prot s (s.sendEcho c d e w) :=
  (State.modChain_prot s c _ (fun _ => by rfl)).trans (State.emit_prot _ _)

theorem State.stringLost_prot (s : State) (c : Nat) : Prot s (s.stringLost c) := by
  refine forEach_prot _ _ _ (fun t g => ?_)
  split
  · exact State.modGroup_prot t g _
  · exact Prot.refl t

theorem State.latchPtos_prot (s : State) (c bits : Nat) : Prot s (s.latchPtos c bits) := by
  refine forEach_prot _ _ _ (fun t k => ?_)
  dsimp only
  split
  · exact State.modPto_prot t k _
  · exact Prot.refl t

theorem State.syncPtos_prot (s : State) : Prot s s.syncPtos := by
  refine forEach_prot _ _ _ (fun t k => ?_)
  dsimp only
  split
  · exact Prot.refl t
  · exact (State.modPto_prot t k _).trans (State.emit_prot _ _)

/-- A trip (R118). -/
theorem State.trip_prot (s : State) (c bits : Nat) : Prot s (s.trip c bits) := by
  unfold State.trip
  split
  · exact Prot.refl s
  · dsimp only
    have step : ∀ t, Prot s t → Prot s (if bits &&& 0xC0000 != 0 then
        (t.latchPtos c bits).modStr c (fun x => { x with purge := true }) else t.latchPtos c bits) := by
      intro t ht
      split
      · exact (ht.trans (State.latchPtos_prot t c bits)).trans (State.modStr_prot _ c _)
      · exact ht.trans (State.latchPtos_prot t c bits)
    apply step
    split
    · refine Prot.trans ?_ (State.stringLost_prot _ c)
      refine Prot.trans ?_ (State.record_recs _ _ _ _ _).prot
      refine Prot.trans ?_ (State.sendTrip_prot _ c _ _ _)
      exact (State.modStr_prot s c _).trans (State.dropContactor_prot _ c)
    · split
      · exact (State.modStr_prot s c _).trans (State.sendTrip_prot _ c _ _ _)
      · exact Prot.refl s

/-- Causes come and go (R114, R118). -/
theorem State.setCauses_prot (s : State) (c keys on : Nat) : Prot s (s.setCauses c keys on) := by
  unfold State.setCauses
  dsimp only
  split
  · exact Prot.refl s
  · exact ((State.modStr_prot s c _).trans (State.trip_prot _ c _)).trans (State.syncPtos_prot _)

theorem State.setCause_prot (s : State) (c b : Nat) (on : Bool) : Prot s (s.setCause c b on) :=
  State.setCauses_prot s c _ _

theorem State.tripOnce_prot (s : State) (c b : Nat) : Prot s (s.tripOnce c b) := by
  unfold State.tripOnce
  split
  · exact (State.trip_prot s c _).trans (State.syncPtos_prot _)
  · exact (State.setCause_prot s c b _).trans (State.setCause_prot _ c b _)

theorem State.endCroakCauses_prot (s : State) (c : Nat) : Prot s (s.endCroakCauses c) := State.setCauses_prot s c _ _

theorem State.syncChainFault_prot (s : State) (c : Nat) : Prot s (s.syncChainFault c) := State.setCause_prot s c _ _

theorem State.syncExt_prot (s : State) : Prot s s.syncExt :=
  forEach_prot _ _ _ (fun t c => State.setCause_prot t c _ _)

theorem State.startVerify_prot (s : State) (c : Nat) (d : Bool) : Prot s (s.startVerify c d) :=
  (State.setVerify_prot s c _).trans (forEach_prot _ _ _ (fun t _ => State.sendEcho_prot t c _ _ _))

theorem State.tellDecision_prot (s : State) (c : Nat) (h : Bool) (r : Nat) : Prot s (s.tellDecision c h r) := by
  unfold State.tellDecision
  split
  · exact Prot.refl s
  · exact (State.modChain_prot s c _ (fun _ => by rfl)).trans (State.emit_prot _ _)

theorem State.chFault_prot (s : State) (c b : Nat) (v : Bool) : Prot s (s.chFault c b v) :=
  State.modChain_prot s c _ (fun _ => rfl)

theorem State.croakCause_prot (s : State) (c b : Nat) : Prot s (s.croakCause c b) := by
  unfold State.croakCause
  split
  · exact State.tripOnce_prot s c b
  · exact State.setCause_prot s c b _

theorem State.ringMended_prot (s : State) (c : Nat) : Prot s (s.ringMended c) := by
  unfold State.ringMended
  dsimp only
  split
  · exact (State.modChain_prot s c _ (fun _ => by rfl)).trans (State.chFault_prot _ c 2 _)
  · exact Prot.refl s

/-- The string opens by the verification (R121). -/
theorem State.verifyOpen_prot (s : State) (c b : Nat) : Prot s (s.verifyOpen c b) := by
  unfold State.verifyOpen
  repeat' split
  · exact Prot.refl s
  · exact (((State.tellDecision_prot s c _ _).trans (State.setVerify_prot _ c _)).trans (State.croakCause_prot _ c b)).trans
      (State.ringMended_prot _ c)
  · exact (State.setVerify_prot s c _).trans (State.ringMended_prot _ c)

theorem State.readAll_prot (s : State) (c : Nat) : Prot s (s.readAll c) :=
  forEach_prot _ _ _ (fun t _ => State.queueCmd_prot t c _)

/-- A SEGMENT waits for its window. -/
theorem State.turnChain_prot (s : State) (c : Nat) : Prot s (s.turnChain c) := by
  unfold State.turnChain State.sendSegment
  split
  · exact State.modChain_prot _ c _ (fun _ => rfl)
  · exact State.modChain_prot _ c _ (fun _ => rfl)

/-- What a lost Croak brings (R49, R57, R120, R122). -/
theorem State.actOnLoss_prot (s : State) (c : Nat) (own : Bool) : Prot s (s.actOnLoss c own) := by
  unfold State.actOnLoss
  have h : ∀ b : Bool, Prot s (if b then s.turnChain c else s.startVerify c false) := by
    intro b
    split
    · exact State.turnChain_prot s c
    · exact State.startVerify_prot s c _
  dsimp only
  split
  · exact Prot.refl s
  · split
    · exact State.setCause_prot s c _ _
    · split
      · split
        · split
          · exact h _
          · exact (h _).trans (State.setCause_prot _ c _ _)
        · split
          · exact (State.setVerify_prot s c _).trans (State.turnChain_prot _ c)
          · exact State.startVerify_prot s c _
      · exact State.setCause_prot s c _ _

/-- The ring is whole: its fault and its break are gone, and every monitor is read (R53, R68). -/
theorem State.ringIsWhole_prot (s : State) (c : Nat) : Prot s (s.ringIsWhole c) := by
  unfold State.ringIsWhole
  repeat' split
  all_goals first
    | exact Prot.refl s
    | exact (((State.chFault_prot s c 2 _).trans (State.modChain_prot _ c _ (fun _ => by rfl))).trans
        (State.setVerify_prot _ c _)).trans (State.readAll_prot _ c)

end Sys2Proof.Machine
end

