-- ==== Sys2Proof/WellFormed.lean ====
section
/-! DEFINITION. WellFormed: the ranges that the types of the operands do not state. A command that fails is
none that the module can be given; no meaning rests on the check. -/

namespace Sys2Proof

/-- A plant time is a 64-bit count of nanoseconds (R12). -/
def timeWf (t : Nat) : Bool := decide (t < 2 ^ 64)

/-- A request: 16-bit SEQ and TAG, 8-bit FLAGS, at most 255 payload words (R155). -/
def Req.wf (r : Req) : Bool :=
  timeWf r.time && decide (r.seq < 2 ^ 16) && decide (r.tag < 2 ^ 16) && decide (r.flags < 256) &&
    decide (r.payload.length ≤ 255)

/-- Positions count from 1 to at most 128 (chapter 0, Monitor positions per chain). -/
def positionWf (p : Nat) : Bool := decide (1 ≤ p) && decide (p ≤ 128)

/-- A value of an integer type of R229. -/
def IntTy.holds (ty : IntTy) (x : Int) : Bool :=
  if ty.signed then decide (-(2 : Int) ^ (ty.width - 1) ≤ x) && decide (x < (2 : Int) ^ (ty.width - 1))
  else decide (0 ≤ x) && decide (x < (2 : Int) ^ ty.width)

/-- The widths of R229. -/
def IntTy.wf (ty : IntTy) : Bool := [8, 16, 32, 64].contains ty.width

/-- The bits of a REAL or an LREAL. -/
def realWf (wide : Bool) (x : Nat) : Bool := decide (x < 2 ^ (if wide then 64 else 32))

/-- An arithmetic operation has operands of its type; `narrow` alone takes a value of another type. -/
def ArithOp.wf (op : ArithOp) : Bool :=
  match op with
  | .add ty x y => IntTy.wf ty && IntTy.holds ty x && IntTy.holds ty y
  | .sub ty x y => IntTy.wf ty && IntTy.holds ty x && IntTy.holds ty y
  | .mul ty x y => IntTy.wf ty && IntTy.holds ty x && IntTy.holds ty y
  | .div ty x y => IntTy.wf ty && IntTy.holds ty x && IntTy.holds ty y
  | .mod ty x y => IntTy.wf ty && IntTy.holds ty x && IntTy.holds ty y
  | .neg ty x => IntTy.wf ty && IntTy.holds ty x
  | .abs ty x => IntTy.wf ty && IntTy.holds ty x
  | .shl ty x cty n => IntTy.wf ty && IntTy.holds ty x && IntTy.wf cty && IntTy.holds cty n
  | .shr ty x cty n => IntTy.wf ty && IntTy.holds ty x && IntTy.wf cty && IntTy.holds cty n
  | .shra ty x cty n => IntTy.wf ty && IntTy.holds ty x && IntTy.wf cty && IntTy.holds cty n
  | .rol ty x cty n => IntTy.wf ty && IntTy.holds ty x && IntTy.wf cty && IntTy.holds cty n
  | .ror ty x cty n => IntTy.wf ty && IntTy.holds ty x && IntTy.wf cty && IntTy.holds cty n
  | .narrow ty _ => IntTy.wf ty
  | .realAdd w x y => realWf w x && realWf w y
  | .realSub w x y => realWf w x && realWf w y
  | .realMul w x y => realWf w x && realWf w y
  | .realDiv w x y => realWf w x && realWf w y
  | .realToInt w ty _ x => realWf w x && IntTy.wf ty
  | .realSqrt w x => realWf w x
  | .realNeg w x => realWf w x
  | .realAbs w x => realWf w x
  | .realConvert w x => realWf w x
  | .intToReal _ ty x => IntTy.wf ty && IntTy.holds ty x

/-- An Ethernet frame has at least 64 bytes; nodes and PRP numbers have their widths (chapter 10). -/
def EthFrame.wf (f : EthFrame) : Bool :=
  decide (64 ≤ f.length) && decide (f.prpSeq < 2 ^ 16) && decide (f.node < 2 ^ 48) &&
    (match f.vlan with | none => true | some v => decide (v < 4096))

/-- A CAN frame: an 11-bit or 29-bit identifier, and at most 8 or 64 bytes (chapter 15, Features). -/
def CanFrame.wf (f : CanFrame) : Bool :=
  decide (f.id < (if f.ide then 2 ^ 29 else 2 ^ 11)) && decide (f.data.length ≤ (if f.fdf then 64 else 8)) &&
    !(f.fdf && f.remote)

/-- The command's operands are in range. -/
def Instr.wf (i : Instr) : Bool :=
  match i with
  | .plantTickEdge => true
  | .syncLaunch => true
  | .solicitLaunch => true
  | .croakInsert => true
  | .croakLoss _ _ time => timeWf time
  | .croakRestored _ _ time => timeWf time
  | .croakMapSend time => timeWf time
  | .croakMapReceived _ time => timeWf time
  | .croakMapTimeout time => timeWf time
  | .dataFrameReceived _ _ _ time => timeWf time
  | .agfinFrameReceived _ _ time => timeWf time
  | .worstCellRecord _ => true
  | .tripRepeat _ time => timeWf time
  | .tileCutoff _ => true
  | .tickSummaryFlip => true
  | .keeperMirrorPoint => true
  | .dispatchPublish => true
  | .silentMonitor _ p => positionWf p
  | .silentMonitorTrip _ time => timeWf time
  | .blindTimeout _ time => timeWf time
  | .trackingEcho _ => true
  | .echoReturned _ _ _ _ time => timeWf time
  | .echoLost _ _ time => timeWf time
  | .cmdWindow => true
  | .respReceived _ _ _ _ _ _ time => timeWf time
  | .respTimeout _ _ time => timeWf time
  | .relayedCmdReceived _ _ _ _ _ time => timeWf time
  | .keepBroadcast time => timeWf time
  | .enumReceived _ _ time => timeWf time
  | .enumTimeout _ time => timeWf time
  | .chainEnterService _ => true
  | .startTimeWaitExpiry time => timeWf time
  | .verifyGraceEnd _ time => timeWf time
  | .verifyStandbyTimeout _ time => timeWf time
  | .verifyDecisionReceived _ _ _ time => timeWf time
  | .healCheckEcho _ time => timeWf time
  | .prechargeStart _ time => timeWf time
  | .prechargeFail _ time => timeWf time
  | .closePreOff _ time => timeWf time
  | .openTimeout _ time => timeWf time
  | .openFinal _ time => timeWf time
  | .balEvaluate _ time => timeWf time
  | .impedSequenceEnd _ p => positionWf p
  | .zoneEvaluate time => timeWf time
  | .zoneTambTimeout _ time => timeWf time
  | .grantEnd _ => true
  | .eovAssert time => timeWf time
  | .eovRelease time => timeWf time
  | .overrideLapse time => timeWf time
  | .overrideEndingEnd time => timeWf time
  | .overrideRecord time => timeWf time
  | .cwTxdataWrite _ _ => true
  | .cwTxcommitSubmit _ time => timeWf time
  | .cwTxcommitDiscard _ => true
  | .cwRxdataRead _ => true
  | .cwResetWrite _ time => timeWf time
  | .bulkReplyPacket _ => true
  | .replyAcked _ => true
  | .tlsSessionOpen port fp _ time => decide (1 ≤ port) && decide (port ≤ 4) && fp.length == 12 && timeWf time
  | .tlsSessionEnd _ => true
  | .tlsIdleTimeout _ time => timeWf time
  | .sysIdent _ r => Req.wf r
  | .sysState _ r => Req.wf r
  | .sysReset _ r _ => Req.wf r
  | .poolAudit _ r => Req.wf r
  | .bulkRead _ r => Req.wf r
  | .bulkWrite _ r => Req.wf r
  | .bulkWriteContinuation _ r _ => Req.wf r
  | .bulkCancelReply _ r => Req.wf r
  | .bulkCancelWrite _ r => Req.wf r
  | .paramRead _ r => Req.wf r
  | .paramWrite _ r => Req.wf r
  | .tenantList _ r => Req.wf r
  | .cfgBegin _ r => Req.wf r
  | .cfgCommit _ r _ _ _ => Req.wf r
  | .cfgAbort _ r => Req.wf r
  | .cfgStatus _ r => Req.wf r
  | .partnerAck _ time => timeWf time
  | .configEffectiveTick => true
  | .budgetFault _ _ time => timeWf time
  | .geckoExpiry _ _ time => timeWf time
  | .memFault _ _ time => timeWf time
  | .arithFault _ _ op time => ArithOp.wf op && timeWf time
  | .eccFault _ _ time => timeWf time
  | .eccCorrected _ time => timeWf time
  | .partRestart _ time => timeWf time
  | .partStatus _ r => Req.wf r
  | .partReset _ r => Req.wf r
  | .partImageInfo _ r => Req.wf r
  | .evfSourceEvent _ _ time => timeWf time
  | .evfClaimRead _ => true
  | .evfCompleteWrite _ _ time => timeWf time
  | .evfSetenWrite _ _ _ => true
  | .evfClrenWrite _ _ _ => true
  | .evfSetpendWrite _ _ _ => true
  | .evfClrpendWrite _ _ _ => true
  | .registerWrite _ _ bytes _ time => [1, 2, 4].contains bytes && timeWf time
  | .scanCycleStart _ ops time => ops.all ArithOp.wf && timeWf time
  | .scanCycleEnd _ ops err _ time => ops.all ArithOp.wf && err.ops.all ArithOp.wf && timeWf time
  | .scanRun _ r => Req.wf r
  | .scanRunCold _ r => Req.wf r
  | .scanStop _ r => Req.wf r
  | .scanHold _ r => Req.wf r
  | .scanStep _ r => Req.wf r
  | .scanResume _ r => Req.wf r
  | .forceSet _ r => Req.wf r
  | .forceClear _ r => Req.wf r
  | .forceList _ r => Req.wf r
  | .scanStat _ r => Req.wf r
  | .holdPulse time => timeWf time
  | .keeperConfirmTimeout time => timeWf time
  | .pulseSeen time => timeWf time
  | .pulseAbsent time => timeWf time
  | .claimEnd time => timeWf time
  | .contention time => timeWf time
  | .ownPulseMissing time => timeWf time
  | .partnerSenseAbsent time => timeWf time
  | .laneDown _ time => timeWf time
  | .laneUp _ time => timeWf time
  | .controlBlockReceived _ time => timeWf time
  | .giveUp _ time => timeWf time
  | .giveUpReceived _ time => timeWf time
  | .takeoverDecision time => timeWf time
  | .firstOutputReceived time => timeWf time
  | .freezeTimeout time => timeWf time
  | .foldEnd time => timeWf time
  | .switchoverReturn time => timeWf time
  | .mirrorDeltaReceived _ _ time => timeWf time
  | .snapshotReceived num _ time => decide (num < 2 ^ 32) && timeWf time
  | .newtSnapshot time => timeWf time
  | .digestReceived tick digests time => timeWf tick && digests.length == 64 && timeWf time
  | .resyncSlotsReceived _ p tick slots time => positionWf p && timeWf tick && slots.length == 18 && timeWf time
  | .hibernateReceived time => timeWf time
  | .pairStatus _ r => Req.wf r
  | .pairSwitchover _ r => Req.wf r
  | .pairSetSide _ r => Req.wf r
  | .pairResync _ r => Req.wf r
  | .ptpMessageReceived _ _ time => timeWf time
  | .announceTimeout time => timeWf time
  | .ptpMasterSend _ time => timeWf time
  | .launchTimeDue _ _ time => timeWf time
  | .ethFrameReceived _ f time => EthFrame.wf f && timeWf time
  | .prpSupervision time => timeWf time
  | .netLinkChange _ _ time => timeWf time
  | .compareFire _ _ time => timeWf time
  | .cmpNowLoRead _ time => timeWf time
  | .cmpCtrlArm _ _ _ _ time => timeWf time
  | .cmpCtrlDisarm _ _ _ _ => true
  | .timeStatus _ r => Req.wf r
  | .netStatus _ r => Req.wf r
  | .timeSet _ r => Req.wf r
  | .netLaunch _ r => Req.wf r
  | .loopSample _ time => timeWf time
  | .loopFbTimeout _ time => timeWf time
  | .injDurationEnd _ time => timeWf time
  | .valveUpdate _ time => timeWf time
  | .valveUplinkReceived _ _ time => timeWf time
  | .valveLinkFault _ time => timeWf time
  | .valveStill _ time => timeWf time
  | .loopRead _ r => Req.wf r
  | .loopCtrlRun _ r => Req.wf r
  | .loopCtrlTrack _ r => Req.wf r
  | .loopCtrlStop _ r => Req.wf r
  | .injStart _ r => Req.wf r
  | .injStop _ r => Req.wf r
  | .traceArm _ r => Req.wf r
  | .traceTrigger _ r => Req.wf r
  | .traceStatus _ r => Req.wf r
  | .valveRead _ r => Req.wf r
  | .valvePosSet _ r => Req.wf r
  | .fbEdge _ _ time => timeWf time
  | .fbSample _ _ time => timeWf time
  | .fbIndexCapture _ _ time => timeWf time
  | .leapPulseEnd _ time => timeWf time
  | .fbRead _ r => Req.wf r
  | .fbPosSet _ r => Req.wf r
  | .fbLeapArm _ r => Req.wf r
  | .fbLeapDisarm _ r => Req.wf r
  | .anaSample meas field time => meas.length == 32 && field.length == 4 && timeWf time
  | .anaMiswireOpen _ time => timeWf time
  | .anaMiswireRetry _ time => timeWf time
  | .anaRead _ r => Req.wf r
  | .anaTest _ r => Req.wf r
  | .anaTestDone _ code4 code20 time => decide (code4 < 2 ^ 16) && decide (code20 < 2 ^ 16) && timeWf time
  | .hartCmd _ r => Req.wf r
  | .hartReplyReceived _ _ _ data _ time => decide (data.length ≤ 255) && timeWf time
  | .hartTimeout _ time => timeWf time
  | .diChange _ _ time => timeWf time
  | .doOverload _ time => timeWf time
  | .doRetry _ time => timeWf time
  | .doReadbackMismatch _ time => timeWf time
  | .vsupLow _ time => timeWf time
  | .vsupRestored _ time => timeWf time
  | .digRead _ r => Req.wf r
  | .canFrameReceived _ f time => CanFrame.wf f && timeWf time
  | .canTxDone _ _ sof _ time => timeWf sof && timeWf time
  | .canTxTimeout _ _ time => timeWf time
  | .canRecoveryDone _ time => timeWf time
  | .objAckRead _ _ _ => true
  | .canStatus _ r => Req.wf r
  | .canRecover _ r => Req.wf r
  | .canObjRead _ r => Req.wf r
  | .safeCycle _ => true
  | .safeTestPulse _ _ _ => true
  | .safeSupplyLow => true
  | .safeSupplyBand _ volt => decide (volt < 2 ^ 16)
  | .safeStart _ volt => decide (volt < 2 ^ 16)
  | .safeStatusReport time => timeWf time
  | .safePartnerStatus time => timeWf time
  | .safeStatus _ r => Req.wf r
  | .safeConfirm _ r => Req.wf r
  | .safeStopReq _ r _ => Req.wf r
  | .powerOn _ volt => decide (volt < 2 ^ 16)
  | .keeperStart time => timeWf time
  | .adoptionEnd _ => true
  | .cfgRepairWrite _ time => timeWf time
  | .fwTrialConfirm time => timeWf time
  | .defaultTripRepeat time => timeWf time
  | .defaultCommitReset _ time => timeWf time
  | .cableTest _ _ _ time => timeWf time
  | .fwStatus _ r => Req.wf r
  | .fwActivate _ r _ => Req.wf r
  | .certRead _ r => Req.wf r
  | .certClear _ r => Req.wf r
  | .domainLost _ _ time => timeWf time
  | .domainRetry _ _ time => timeWf time
  | .timeWheelFire _ time => timeWf time
  | .supplyLost _ _ volt time => decide (volt < 2 ^ 16) && timeWf time
  | .brownOut time => timeWf time
  | .supplyRestored _ time => timeWf time
  | .keeperWdt _ time => timeWf time
  | .moduleFault _ _ time => timeWf time
  | .thermRead sensors time => sensors.length == 8 && timeWf time
  | .thermRestart _ time => timeWf time
  | .hibernateWake _ _ time => timeWf time
  | .pwrStatus _ r => Req.wf r
  | .pwrHibernate _ r => Req.wf r
  | .recStatus _ r => Req.wf r
  | .recClear _ r => Req.wf r
  | .displayLatch time => timeWf time
  | .dspCommitWrite _ => true
  | .dispRead _ r => Req.wf r
  | .dispTest _ r => Req.wf r
  | .dispTestEnd time => timeWf time
  | .chainEnumerate _ r => Req.wf r
  | .chainCmd _ r => Req.wf r
  | .chainFrameRead _ r => Req.wf r
  | .chainDiag _ r => Req.wf r
  | .estCellRead _ r => Req.wf r
  | .estChainRead _ r => Req.wf r
  | .estStringSummary _ r => Req.wf r
  | .estPlantSummary _ r => Req.wf r
  | .estImpedStart _ r => Req.wf r
  | .estImpedResult _ r => Req.wf r
  | .estReinit _ r => Req.wf r
  | .estSlotRead _ r => Req.wf r
  | .protStatus _ r => Req.wf r
  | .stringClose _ r => Req.wf r
  | .stringOpen _ r => Req.wf r
  | .stringOpenImmediate _ r => Req.wf r
  | .protReset _ r => Req.wf r
  | .ptoStatus _ r => Req.wf r
  | .balStatus _ r => Req.wf r
  | .zoneRead _ r => Req.wf r
  | .zoneTambWrite _ r => Req.wf r
  | .dspRead _ r => Req.wf r
  | .burstRequest _ r => Req.wf r
  | .burstCancel _ r => Req.wf r
  | .overrideStart _ r => Req.wf r
  | .overrideEnd _ r => Req.wf r
  | .dspKeyWrite _ r => Req.wf r
  | .dspStringRead _ r => Req.wf r
  | .alwaysOnRailLoss => true
  | .canBusError _ _ time => timeWf time
  | .sliceBegin _ _ time => timeWf time
  | .hibernatePartnerTimeout time => timeWf time
  | .snapshotRequestReceived _ time => timeWf time
  | .resyncRequestReceived _ time => timeWf time
  | .partnerImageReceived _ _ time => timeWf time
  | .echoResultsReceived _ p _ _ time => (positionWf p || p == 0xFF) && timeWf time
  | .fbForwardReceived _ _ _ _ time => timeWf time
  | .safePartnerStatusReceived _ time => timeWf time
  | .dspKeyReceived kind _ => (kind == 1 || kind == 2)
  | .hartSecondaryMasterFrame _ time => timeWf time
  | .prpEntryForgotten time => timeWf time

end Sys2Proof
end

