-- ==== Sys2Proof/Tests/Slice0.lean ====
section
/-! SUPPORT. The module's own tests: ill-formed terms that WellFormed refuses, small tests whose expected values
come from the spec's worked examples, and a witness for every statement that has hypotheses. -/

set_option maxRecDepth 8000

open Sys2Proof.Machine

namespace Sys2Proof.Tests

/-! ## Ill-formed commands -/

theorem test_wf_time_past_64_bits : Instr.wf (.croakLoss 0 .a (2 ^ 64)) = false := by decide

theorem test_wf_position_zero : Instr.wf (.silentMonitor 0 0) = false := by decide

theorem test_wf_position_past_128 : Instr.wf (.silentMonitor 0 129) = false := by decide

theorem test_wf_position_bounds :
    Instr.wf (.silentMonitor 0 1) = true ∧ Instr.wf (.silentMonitor 0 128) = true := by decide

theorem test_wf_request_seq : Instr.wf (.sysIdent 0 { seq := 65536 }) = false := by decide

theorem test_wf_request_tag : Instr.wf (.sysIdent 0 { tag := 65536 }) = false := by decide

theorem test_wf_request_flags : Instr.wf (.sysIdent 0 { flags := 256 }) = false := by decide

theorem test_wf_request_length : Instr.wf (.sysIdent 0 { payload := List.replicate 256 0 }) = false := by decide

theorem test_wf_request_longest : Instr.wf (.sysIdent 0 { payload := List.replicate 255 0 }) = true := by decide

theorem test_wf_session_port :
    Instr.wf (.tlsSessionOpen 0 (List.replicate 12 0) true 0) = false ∧
    Instr.wf (.tlsSessionOpen 5 (List.replicate 12 0) true 0) = false ∧
    Instr.wf (.tlsSessionOpen 4 (List.replicate 12 0) true 0) = true := by decide

theorem test_wf_fingerprint : Instr.wf (.tlsSessionOpen 1 [] true 0) = false := by decide

theorem test_wf_access_width : Instr.wf (.registerWrite 0 0x10000000 3 0 0) = false := by decide

theorem test_wf_operand_range : Instr.wf (.arithFault 0 0 (.add { width := 16, signed := true } 32768 0) 0) = false := by
  decide

theorem test_wf_type_width : Instr.wf (.arithFault 0 0 (.neg { width := 24, signed := true } 1) 0) = false := by decide

theorem test_wf_real_bits : Instr.wf (.arithFault 0 0 (.realAdd false (2 ^ 32) 0) 0) = false := by decide

theorem test_wf_task_operands : Instr.wf (.scanCycleStart 0 [.neg { width := 24, signed := true } 1] 0) = false := by decide

theorem test_wf_snapshot_number : Instr.wf (.snapshotReceived (2 ^ 32) default 0) = false := by decide

theorem test_wf_digests : Instr.wf (.digestReceived 0 [] 0) = false := by decide

theorem test_wf_slots : Instr.wf (.resyncSlotsReceived 0 1 0 [] 0) = false := by decide

/-! ## The queue and the words -/

theorem test_idle : step State.reset = .next State.reset := by rfl

/-- The table gives no row bits: no word spells a command, and none is put at the front. -/
theorem test_no_words : decodeTableWord 32 7 = none ∧ State.withFetchWord State.reset 32 7 = State.reset := by
  exact ⟨rfl, rfl⟩

/-! ## Small states -/

/-- Parameters as block, instance, index and value. -/
def paramsOf (l : List (Nat × Nat × Nat × Nat)) : ParamMap := l.map (fun (b, i, k, v) => (paddr b i k, some (w32 v)))

/-- Tenants 0, 2 and 3 outside, tenant 1 of partition 0; chains 0 and 1; partitions 0 and 1; and a unit of every
kind set up. -/
def params : ParamMap := paramsOf
  [(0x01, 0x11, 0, 2), (0x01, 0x11, 1, 2), (0x01, 0x12, 0, 1), (0x01, 0x12, 1, 1), (0x01, 0x13, 0, 1),
   (0x03, 0, 0, 1), (0x03, 0, 2, 1), (0x03, 1, 0, 1), (0x03, 0x40, 0, 0), (0x03, 0x40, 4, 0), (0x03, 0x40, 8, 0),
   (0x03, 0x40, 0xA, 0), (0x10, 0, 0, 1), (0x10, 0, 1, 2), (0x10, 1, 0, 1), (0x10, 1, 1, 1),
   (0x11, 0, 2, 0x42C80000), (0x13, 0, 0, 1), (0x13, 0x10, 0, 1), (0x20, 0, 0, 1), (0x20, 0, 4, 1),
   (0x22, 0, 0, 1), (0x22, 0, 0x100, 5), (0x22, 0, 0x101, 1), (0x23, 0, 0, 1), (0x24, 0, 1, 0x301), (0x25, 0, 0, 1)]

/-- The module runs in Single: power on, the Keeper running, every domain up, chain 0 in service and closed. -/
def base : State :=
  { State.reset with
    now := 5000000000
    power := { state := .run, keeper := .running, keeperOk := true, rail := true, applied := true
               doms := (List.range 50).map (fun d => (d, { state := .run })) }
    cfg := { active := params }
    tenants := [(0, { session := some {} }), (2, { session := some {} }), (3, { session := some {} })]
    chains := [(0, { state := .inService, serviceTick := some 10, croak := true, countFound := 2 })]
    strs := [(0, { state := .closed })]
    parts := [(0, { state := .run, image := some {} }), (1, { state := .stopped, image := some {} })]
    net := { ports := [(1, { link := true }), (3, { link := true }), (4, { link := true })] } }

/-- The same module as ACTIVE of a Pair. -/
def active : State :=
  base.modPair (fun p =>
    { p with mode := 1, role := .active, partner := some .standby, lane1 := true, lane2 := true, linkUpAt := some 0 })

/-- The same module as STANDBY of a Pair, on side B. -/
def standby : State :=
  { active with ident := { active.ident with sideB := true } }.modPair (fun p =>
    { p with role := .standby, partner := some .active, partnerPulse := true })

/-- A good DATA frame of position 1: TYPE 3, HEAD, the COMP bit of the status and the CRC; all other bits 0. -/
def frame : BitVec 512 := 3 <<< 500 ||| 1 <<< 484 ||| 1 <<< 98 ||| 0x39B5DD40

/-! ## The spec's worked examples -/

/-- R on a next state; false on a stop. -/
def holdsAfter (o : Outcome) (r : State → Bool) : Bool := match o with | .next u => r u | _ => false

/-- Chapter 2: round trips of 19,224, 36,120 and 54,418 ns give 7,647, 5,535 and 3,248. -/
theorem test_comp_example : compOf 19224 = 7647 ∧ compOf 36120 = 5535 ∧ compOf 54418 = 3248 := by decide

/-- R42: from plant time 0 the first Croak instant is 5 µs. -/
theorem test_croak_instant :
    holdsAfter (execCroakInsert { base with now := 0 }) (fun u => u.now == 5000) = true := by decide

/-- R380's CRC over the bytes "12345678", worked out apart from the model. -/
theorem test_check_value_crc : crc32 [0x31323334, 0x35363738] = 0x9AE0DAAF := by decide +kernel

/-- Chapter 8: INT −32,768 / −1 gives −32,768, DINT 7 / 0 gives 0, SHL of 16#00F0 by 16 gives 0; the first two
set bits 0 and 1 of SYS_CAUSE. -/
theorem test_arith_example :
    let div1 : ArithOp := .div { width := 16, signed := true } (-32768) (-1)
    let div2 : ArithOp := .div { width := 32, signed := true } 7 0
    let shl : ArithOp := .shl { width := 16, signed := false } 0xF0 { width := 16, signed := false } 16
    div1.result.val = -32768 ∧ div2.result.val = 0 ∧ shl.result.val = 0 ∧ arithFlags [div1, div2, shl] = 3 := by decide

/-- Chapter 7: PRIGROUP 3, source 20 of priority 0x32 on top, and source 258 of priority 0x25 pending. -/
def exampleView : State :=
  base.modView 0 (fun v =>
    { v with prigroup := 3, effGroup := 3, deliver := true, stack := [(20, 0x32)], enable := 1 <<< 258 ||| 1 <<< 40
             pending := 1 <<< 258, srcs := [(40, { prio := 0x3A }), (258, { prio := 0x25, count := 1 })] })

/-- The claim returns 0x0001_0102, and the stack depth is 2. -/
theorem test_claim_preempts : holdsAfter (execEvfClaimRead 0 exampleView) (fun u =>
    u.out.contains (.read 0x00010102) && (u.view 0).stack.length == 2) = true := by decide +kernel

/-- Source 40, pending twice, does not pre-empt source 20; when 20 is complete its claim returns 0x0002_0028. -/
theorem test_claim_waits :
    let s := exampleView.modView 0 (fun v =>
      { v with pending := 1 <<< 40, srcs := v.srcs.modify 40 (fun x => { x with count := 2 }) })
    holdsAfter (execEvfClaimRead 0 s) (fun u => u.out.contains (.read 0x3FF)) = true ∧
    holdsAfter (execEvfClaimRead 0 (s.modView 0 (fun v => { v with stack := [] }))) (fun u =>
      u.out.contains (.read 0x00020028)) = true := by decide +kernel

/-- A completion of 20 while 258 is on top faults the partition with EVENT_ORDER. -/
theorem test_event_order : holdsAfter (execEvfCompleteWrite 0 20 0
    (exampleView.modView 0 (fun v => { v with stack := [(258, 0x25), (20, 0x32)] }))) (fun u =>
      (u.part 0).state == .faulted) = true := by decide

/-- Chapter 12: Z captures 40,963 of FB_TURN 8,192: d = 3. The next index captures 49,152: d = 0. -/
theorem test_index_example : indexDiff 40963 0 8192 = 3 ∧ indexDiff 49152 0 8192 = 0 := by decide

/-- Chapter 6: after a lock broken by a fault of its owner, PARAM_WRITE with SEQ 0x0A11 is answered LOCK_BROKEN,
OWNER_FAULT. -/
theorem test_lock_broken : holdsAfter (execParamWrite 0 { seq := 0x0A11, payload := [0, 0] }
    { base with cfg := { base.cfg with broken := some 2 } }) (fun u =>
      (u.tenant 0).unread == [{ words := replyWords { status := 0x0602, seq := 0x0A11 } }]) = true := by decide

/-- Chapter 10: a one-shot 3 s ahead, armed in short mode, fires at once; armed with both words it waits. -/
theorem test_compare_example :
    let s := base.modCmp 0 0 (fun _ => { tgtLo := w32 8000000000, tgtHi := w32 (8000000000 / 2 ^ 32) })
    holdsAfter (execCmpCtrlArm 0 0 false false 0 s) (fun u => (u.cmp 0 0).armed) = false ∧
    holdsAfter (execCmpCtrlArm 0 0 false true 0 s) (fun u => (u.cmp 0 0).armed) = true := by
  decide +kernel

/-- Chapter 19: the code committed before the latch is the one shown. -/
theorem test_display_example : holdsAfter (execDisplayLatch 0
    { base with display := { base.display with zones := [(0, { comLo := 0x11, comHi := 0x22, pending := true })] } })
    (fun u => (u.display.zones.get 0).latchLo == 0x11 && !(u.display.zones.get 0).pending) = true := by decide

/-- R158: an OPERATE tenant's REC_CLEAR is answered DENIED, ROLE. -/
theorem test_role_denied : holdsAfter (execRecClear 3 { seq := 5 } base) (fun u =>
    (u.tenant 3).unread == [{ words := replyWords { status := stRole, seq := 5 } }]) = true := by decide

/-! ## Witnesses -/

theorem test_witness_TrainsAndCroakComplete :
    (∃ (s : State) (c : Fin 64) (e : RingEnd), s.power.rail = true ∧ s.bankUp e = true ∧ s.watches c e = true ∧
      Chain.lostAt (s.chain c) e = none) ∧
    (∃ (s : State) (c : Fin 64) (e : RingEnd), s.power.rail = true ∧ s.bankUp e = true ∧ s.watches c e = true ∧
      (Chain.lostAt (s.chain c) e).isSome = true) ∧
    (∃ (s : State), s.single = false ∧ s.holdsB = true ∧ s.linkUp = true ∧ s.bankUp .b = true) ∧
    (∃ (s : State), s.single = false ∧ s.holdsA = true ∧ s.linkUp = true ∧ s.power.rail = true) ∧
    (∃ (s : State), s.single = false ∧ s.holdsA = true ∧ s.runsPlant = true ∧ s.pair.mapAt = none ∧
      s.power.rail = true) :=
  ⟨⟨base, 0, .b, by decide⟩,
    ⟨base.modChain 0 (fun x => { x with lostB := some 4000 }), 0, .b, by decide⟩,
    ⟨standby, by decide⟩,
    ⟨active, by decide⟩,
    ⟨active, by decide⟩⟩

theorem test_witness_TripAndVerifyComplete :
    (∃ (s : State) (c : Fin 64) (time : Nat) (r : TripRun), (s.chain c).trip = some r ∧ s.now ≤ time ∧
      r.startedAt < time ∧ time ≤ r.startedAt + 10000000 ∧ (time - r.startedAt) % 100000 = 0) ∧
    (∃ (s : State) (c : Fin 64) (p : Nat), (s.chain c).silent.contains p = false ∧ (s.chain c).missing.get p ≠ 0 ∧
      s.parN 0x10 c 5 ≤ (s.chain c).missing.get p) ∧
    (∃ (s : State) (c : Fin 64) (time : Nat) (t : Nat), (s.str c).silentSince = some t ∧ s.protects c = true ∧
      t + s.parN 0x12 c 0x18 * 1000000000 ≤ max s.now time) ∧
    (∃ (s : State) (c : Fin 64) (time : Nat) (t : Nat), (s.str c).lastRecord = some t ∧ s.protects c = true ∧
      s.partnerAway = true ∧ t + s.parN 0x12 c 0x1C * 1000000 ≤ max s.now time) ∧
    (∃ (s : State) (c : Fin 64) (time : Nat) (v : Verify), (s.chain c).verify = some v ∧
      v.graceEnd ≤ max s.now time ∧ s.leadsVerify = true ∧ v.decides = true ∧ v.phase ≠ .waitCroak ∧
      v.phase ≠ .healing) ∧
    (∃ (s : State) (c : Fin 64) (time : Nat) (v : Verify), (s.chain c).verify = some v ∧
      v.graceEnd + 10000000 ≤ max s.now time ∧ s.leadsVerify = false ∧ v.decides = true) ∧
    (∃ (s : State), s.single = false ∧ s.linkUp = true ∧ s.runsPlant = false) ∧
    (∃ (s : State), s.single = false ∧ s.linkUp = true ∧ s.runsPlant = false) :=
  ⟨⟨base.modChain 0 (fun x => { x with trip := some { startedAt := 4999900000 } }), 0, 5000000000,
      { startedAt := 4999900000 }, by decide⟩,
    ⟨base.modChain 0 (fun x => { x with missing := [(1, 10)] }), 0, 1, by decide⟩,
    ⟨base.modStr 0 (fun x => { x with silentSince := some 0 }), 0, 5000000000, 0, by decide⟩,
    ⟨(active.modPair (fun p => { p with partner := none })).modStr 0 (fun x => { x with lastRecord := some 0 }), 0,
      5000000000, 0, by decide⟩,
    ⟨base.modChain 0 (fun x => { x with verify := some { graceEnd := 10 } }), 0, 0, { graceEnd := 10 }, by decide⟩,
    ⟨standby.modChain 0 (fun x => { x with verify := some { graceEnd := 10 } }), 0, 0, { graceEnd := 10 },
      by decide⟩,
    ⟨standby, by decide⟩,
    ⟨standby, by decide⟩⟩

theorem test_witness_EchoCommandsComplete :
    (∃ (s : State) (e : RingEnd), s.holds e = true ∧ s.bankUp e = true ∧ s.role ≠ .offline) ∧
    (∃ (s : State) (c : Fin 64) (e : RingEnd) (etag : BitVec 8) (x : SentEcho), s.bankUp e = true ∧
      s.holds e = true ∧ s.runsPlant = true ∧
      (s.chain c).echoes.find? (fun x => x.etag == etag.toNat && (x.dest == 0xFF || x.from_ == e)) = some x ∧
      x.why = .track) ∧
    (∃ (s : State) (c : Fin 64) (etag : BitVec 8) (x : SentEcho) (v : Verify),
      (s.chain c).echoes.find? (fun x => x.etag == etag.toNat) = some x ∧ x.why = .ring ∧
      (s.chain c).verify = some v ∧ v.phase = .ringEcho ∧ s.leadsVerify = true ∧
      ((s.chain c).echoes.filter (fun z => z != x)).any (fun e => e.why == .ring) = false) ∧
    (∃ (s : State) (p : Nat), s.single = false ∧ s.runsPlant = true ∧ s.linkUp = true ∧ p ≠ 0xFF) ∧
    (∃ (s : State) (c : Fin 64), (s.chain c).state = .healed ∧ Chain.isHealed (s.chain c) = true ∧
      s.holdsA = true ∧ s.bankUp .a = true) :=
  ⟨⟨base, .a, by decide⟩,
    ⟨base.modChain 0 (fun x => { x with echoes := [{}] }), 0, .a, 0, {}, by decide⟩,
    ⟨base.modChain 0 (fun x => { x with echoes := [{ why := .ring }], verify := some {} }), 0, 0, { why := .ring },
      {}, by decide⟩,
    ⟨active, 1, by decide⟩,
    ⟨base.modChain 0 (fun x => { x with state := .healed, running := .healed 1 }), 0, by decide⟩⟩

theorem test_witness_CmdCommandsComplete :
    (∃ (s : State) (c : Nat) (m : MonCmd) (rest : List MonCmd), c < 64 ∧ s.role ≠ .offline ∧ s.keeperUp = true ∧
      (s.chain c).queue = m :: rest ∧ (s.chain c).sent.length < 16 ∧ (s.chain c).verify = none ∧
      (s.chain c).segments = [] ∧ s.mayLeave c 0 m = true) ∧
    (∃ (s : State) (c : Fin 64) (ctag : BitVec 8) (src : BitVec 8) (o : SentCmd),
      (s.chain c).sent.find? (fun o => o.ctag == ctag.toNat && o.cmd.dest == src.toNat) = some o ∧
      o.cmd.why = .setting) ∧
    (∃ (s : State) (c : Fin 64) (ctag : BitVec 8) (time : Nat) (o : SentCmd),
      (s.chain c).sent.find? (fun o => o.ctag == ctag.toNat) = some o ∧ o.cmd.why ≠ .relay ∧ o.cmd.attempt = 0 ∧
      s.respDue c o ≤ max s.now time ∧ ((∀ p, o.cmd.why = .contactor p → (s.str c).state ≠ .tripped))) ∧
    (∃ (s : State) (time : Nat), s.single = false ∧ s.linkUp = true ∧ s.runsPlant = false ∧ s.role ≠ .offline ∧
      (s.at time).windowUsed = none) ∧
    (∃ (s : State) (c : Fin 64) (ctag : BitVec 8) (dest : BitVec 8) (opc : BitVec 8) (params : List Half) (time : Nat) (used : Nat),
      s.single = false ∧ s.linkUp = true ∧ s.runsPlant = false ∧ s.role ≠ .offline ∧
      (s.at time).windowUsed = some used ∧ (s.chain c).queue = [] ∧ (s.chain c).sent.length < 16 ∧
      s.mayLeave c used { dest := dest.toNat, opc := opc.toNat, params := params, why := .relay, ctag := ctag.toNat } = true) ∧
    (∃ (s : State), s.runsPlant = true ∧ s.keeperUp = true) :=
  ⟨⟨base.modChain 0 (fun x => { x with queue := [{ dest := 1 }] }), 0, { dest := 1 }, [], by decide⟩,
    ⟨base.modChain 0 (fun x => { x with sent := [{ ctag := 3, cmd := { dest := 1 } }] }), 0, 3, 1,
      { ctag := 3, cmd := { dest := 1 } }, by decide⟩,
    ⟨base.modChain 0 (fun x => { x with sent := [{ ctag := 3, cmd := { dest := 1 } }] }), 0, 3, 0,
      { ctag := 3, cmd := { dest := 1 } }, ⟨by decide, by decide, by decide, by decide, fun _ h => nomatch h⟩⟩,
    ⟨standby, 0, by decide⟩,
    ⟨standby, 0, 3, 1, 5, [], 5000900000, 60000, by decide⟩,
    ⟨base, by decide⟩⟩

theorem test_witness_EnumerationCommandsComplete :
    (∃ (s : State) (c : Fin 64) (nextPos : BitVec 8) (e : EnumRun), s.runsPlant = true ∧
      (s.chain c).enum = some e ∧ e.phase = .waitEnum ∧ nextPos.toNat - 1 = s.chPositions c) ∧
    (∃ (s : State) (c : Fin 64) (e : EnumRun), (s.chain c).enum = some e ∧ e.phase = .waitEnum ∧ e.attempt < 3) ∧
    (∃ (s : State) (c : Fin 64) (e : EnumRun), (s.chain c).enum = some e ∧ e.phase = .waitEntry ∧
      s.entryHolds = true) ∧
    (∃ (s : State) (time : Nat) (t : Nat), s.time.waitFrom = some t ∧
      t + s.parN 0x01 0 2 * 1000000000 ≤ max s.now time) ∧
    (∃ (s : State) (c : Fin 64) (a : AdoptRun), (s.chain c).adopt = some a ∧ 3 ≤ a.ticks ∧ a.bad = false ∧
      (List.range (s.chPositions c)).all (fun p => a.good.contains (p + 1)) = true) :=
  ⟨⟨base.modChain 0 (fun x => { x with enum := some {} }), 0, 3, {}, by decide⟩,
    ⟨base.modChain 0 (fun x => { x with enum := some {} }), 0, {}, by decide⟩,
    ⟨{ base with time := { base.time with waitOver := true } }.modChain 0 (fun x => { x with enum := some { phase := .waitEntry } }),
      0, { phase := .waitEntry }, by decide⟩,
    ⟨{ base with time := { base.time with waitFrom := some 0 } }, 10000000000, 0, by decide⟩,
    ⟨base.modChain 0 (fun x => { x with adopt := some { ticks := 3, good := [1, 2] } }), 0,
      { ticks := 3, good := [1, 2] }, by decide⟩⟩

theorem test_witness_ChainOpcodesComplete :
    (∃ (s : State) (t : Fin 16) (r : Req), s.Ready t r ∧ s.Allows t r 1 ∧ s.runsPlant = true ∧
      r.payload.length = 1 ∧ (r.w 2).toNat ≤ 63 ∧
      ((s.headDrivers (r.w 2).toNat = none ∨ s.headDrivers (r.w 2).toNat = some 0)) ∧
      s.enumAsked (r.w 2).toNat = none) ∧
    (∃ (s : State) (t : Fin 16) (r : Req), s.Ready t r ∧ s.Allows t r 1 ∧ s.runsPlant = true ∧
      1 ≤ r.payload.length ∧ r.payload.length ≤ 16 ∧
      (r.payload.drop 1).all (fun w => decide (w.toNat ≤ 65535)) = true ∧ fieldOf (r.w 2) 23 16 ≤ 63 ∧
      fieldOf (r.w 2) 15 8 ≠ 0 ∧ ((fieldOf (r.w 2) 15 8 ≤ 128 ∨ fieldOf (r.w 2) 15 8 = 0xFF)) ∧
      fieldOf (r.w 2) 7 0 ≠ 0x02 ∧ fieldOf (r.w 2) 7 0 ≠ 0x0C ∧ fieldOf (r.w 2) 7 0 ≠ 0x0D ∧
      destAdmits (fieldOf (r.w 2) 7 0) (fieldOf (r.w 2) 15 8) = true ∧ ((fieldOf (r.w 2) 15 8 ≠ 0xFF →
      s.namesAbsent (fieldOf (r.w 2) 23 16) (fieldOf (r.w 2) 15 8) (fieldOf (r.w 2) 7 0) ((r.payload.drop 1).map (fun w => w.toNat)) = false ∧
      fieldOf (r.w 2) 15 8 ≤ s.chPositions (fieldOf (r.w 2) 23 16))) ∧
      s.chainServes (fieldOf (r.w 2) 23 16) = true) ∧
    (∃ (s : State) (t : Fin 16) (r : Req) (f : BitVec 512), s.Ready t r ∧ s.Allows t r 0 ∧ r.payload.length = 1 ∧
      fieldOf (r.w 2) 15 8 ≤ 63 ∧ 1 ≤ fieldOf (r.w 2) 7 0 ∧ fieldOf (r.w 2) 7 0 ≤ 128 ∧
      s.chainServes (fieldOf (r.w 2) 15 8) = true ∧ fieldOf (r.w 2) 7 0 ≤ s.chPositions (fieldOf (r.w 2) 15 8) ∧
      (s.chain (fieldOf (r.w 2) 15 8)).lastFrame.get (fieldOf (r.w 2) 7 0) = some f) ∧
    (∃ (s : State) (t : Fin 16) (r : Req), s.Ready t r ∧ s.Allows t r 0 ∧ s.runsPlant = true ∧
      r.payload.length = 1 ∧ fieldOf (r.w 2) 15 8 ≤ 63 ∧ 1 ≤ fieldOf (r.w 2) 7 0 ∧ fieldOf (r.w 2) 7 0 ≤ 128 ∧
      s.chainServes (fieldOf (r.w 2) 15 8) = true ∧ fieldOf (r.w 2) 7 0 ≤ s.chPositions (fieldOf (r.w 2) 15 8)) :=
  ⟨⟨base, 0, { seq := 5, tag := 7, payload := [1] }, by decide⟩,
    ⟨base, 0, { seq := 5, tag := 7, payload := [0x00000105] }, by decide⟩,
    ⟨base.modChain 0 (fun x => { x with lastFrame := [(1, some 7)] }), 0, { seq := 5, tag := 7, payload := [1] },
      7, by decide +kernel⟩,
    ⟨base, 0, { seq := 5, tag := 7, payload := [1] }, by decide⟩⟩

theorem test_witness_EstimationEventsComplete :
    (∃ (s : State) (c : Fin 64) (e : RingEnd) (f : BitVec 512), s.holds e = true ∧ s.bankUp e = true ∧
      s.banksUp = true ∧ frameGood f = true ∧ (s.chain c).adopt = none ∧ s.inService c = true ∧
      framePos f ≤ s.chPositions c ∧ frameComp f = true ∧ frameSeq f = (s.tile c).tick % 256) ∧
    (∃ (s : State) (c : Fin 64) (f : BitVec 512), s.single = false ∧ s.linkUp = true ∧ s.banksUp = true ∧
      frameGood f = true ∧ s.inService c = true ∧ framePos f ≤ s.chPositions c ∧ frameComp f = true ∧
      frameSeq f = (s.tile c).tick % 256) ∧
    (∃ (s : State) (c : Fin 64), s.inService c = true ∧ s.tileWorks c = true ∧
      (s.tile c).tick = (s.toOffset 704000).tickNo) ∧
    (∃ (s : State) (c : Fin 64), s.inService c = true ∧ (s.chain c).adopt = none ∧
      (s.tile c).tick < (s.toOffset 496000).tickNo) ∧
    (∃ (s : State), s.up 41 = true ∧ (s.toOffset 500000).tickNo ≠ 0) ∧
    (∃ (s : State) (c : Fin 64) (p : Nat) (r : ImpRun), (s.tile c).imped.get p = some r ∧
      ImpRun.endTick r ≤ Tile.nextOf (s.tile c) p) :=
  ⟨⟨base, 0, .a, frame, by decide +kernel⟩,
    ⟨standby, 0, frame, by decide +kernel⟩,
    ⟨base.modTile 0 (fun x => { x with tick := 5000 }), 0, by decide⟩,
    ⟨base, 0, by decide⟩,
    ⟨base, by decide⟩,
    ⟨base.modTile 0 (fun x => { x with imped := [(1, some { count := 0 })] }), 0, 1, { count := 0 }, by decide⟩⟩

theorem test_witness_EstimationOpcodesComplete :
    (∃ (s : State) (t : Fin 16) (r : Req), s.Ready t r ∧ s.Allows t r 0 ∧ r.payload.length = 1 ∧
      s.cellAddr (r.w 2) = none) ∧
    (∃ (s : State) (t : Fin 16) (r : Req), s.Ready t r ∧ s.Allows t r 0 ∧ r.payload.length = 1 ∧
      fieldOf (r.w 2) 7 0 ≤ 63 ∧ s.chEnabled (fieldOf (r.w 2) 7 0) = true) ∧
    (∃ (s : State) (t : Fin 16) (r : Req), s.Ready t r ∧ s.Allows t r 0 ∧ r.payload.length = 1 ∧
      fieldOf (r.w 2) 7 0 ≤ 63 ∧ s.chEnabled (fieldOf (r.w 2) 7 0) = true) ∧
    (∃ (s : State) (t : Fin 16) (r : Req), s.Ready t r ∧ s.Allows t r 0 ∧ r.payload = []) ∧
    (∃ (s : State) (t : Fin 16) (r : Req) (z : ImpResult), s.Ready t r ∧ s.Allows t r 0 ∧ r.payload.length = 1 ∧
      s.cellAddr (r.w 2) = none ∧
      (s.slot (fieldOf (r.w 2) 23 16) (fieldOf (r.w 2) 15 8) (fieldOf (r.w 2) 7 0)).imp = z) ∧
    (∃ (s : State) (t : Fin 16) (r : Req), s.Ready t r ∧ s.Allows t r 1 ∧ s.runsPlant = true ∧
      r.payload.length = 1 ∧ s.cellAddr (r.w 2) = none ∧
      (s.tile (fieldOf (r.w 2) 23 16)).imped.get (fieldOf (r.w 2) 15 8) = none ∧
      (s.chain (fieldOf (r.w 2) 23 16)).queue = [] ∧ (s.chain (fieldOf (r.w 2) 23 16)).sent = []) ∧
    (∃ (s : State) (t : Fin 16) (r : Req), s.Ready t r ∧ s.Allows t r 1 ∧ r.payload.length = 1 ∧
      s.cellAddr (r.w 2) = none) ∧
    (∃ (s : State) (t : Fin 16) (r : Req), s.Ready t r ∧ s.Allows t r 1 ∧ r.payload.length = 1 ∧
      s.cellAddr (r.w 2) = none) :=
  ⟨⟨base, 0, { seq := 5, tag := 7, payload := [0x00000101] }, by decide⟩,
    ⟨base, 0, { seq := 5, tag := 7, payload := [0] }, by decide⟩,
    ⟨base, 0, { seq := 5, tag := 7, payload := [0] }, by decide⟩,
    ⟨base, 0, { seq := 5, tag := 7, payload := [] }, by decide⟩,
    ⟨base, 0, { seq := 5, tag := 7, payload := [0x00000101] }, (base.slot 0 1 1).imp, by decide⟩,
    ⟨base, 0, { seq := 5, tag := 7, payload := [0x00000101] }, by decide⟩,
    ⟨base, 0, { seq := 5, tag := 7, payload := [0x00000101] }, by decide⟩,
    ⟨base, 0, { seq := 5, tag := 7, payload := [0x00000101] }, by decide⟩⟩

theorem test_witness_StringsAndZonesComplete :
    (∃ (s : State) (c : Fin 64) (time : Nat), (s.str c).seq = .negOn ∧ s.runsPlant = true ∧
      (s.str c).seqAt + 50000000 ≤ max s.now time) ∧
    (∃ (s : State) (c : Fin 64) (time : Nat), (s.str c).seq = .preOn ∧ (s.str c).state ≠ .tripped ∧
      (s.str c).seqAt + s.parN 0x12 c 0x1E * 1000000 ≤ max s.now time) ∧
    (∃ (s : State) (c : Fin 64) (time : Nat), (s.str c).seq = .posOn ∧ s.runsPlant = true ∧
      (s.str c).lastContactor = some 7 ∧ (s.str c).seqAt + 20000000 ≤ max s.now time) ∧
    (∃ (s : State) (c : Fin 64) (time : Nat), (s.str c).seq = .waitCurrent ∧ s.runsPlant = true ∧
      (s.str c).openingAt + 2000000000 ≤ max s.now time) ∧
    (∃ (s : State) (c : Fin 64) (time : Nat), (s.str c).seq = .posOff ∧ s.runsPlant = true ∧
      (s.str c).lastContactor = some 2 ∧ (s.str c).seqAt + 20000000 ≤ max s.now time) ∧
    (∃ (s : State) (c : Fin 64) (time : Nat), s.power.keeper = .running ∧ s.runsPlant = true ∧
      s.inService c = true ∧ s.parB 0x12 c 0x28 = true ∧
      (s.bal c).lastEval + s.parN 0x12 c 0x2E * 1000000000 ≤ max s.now time) ∧
    (∃ (s : State), s.power.rail = true) ∧
    (∃ (s : State) (z : Fin 16) (time : Nat) (v : Int) (t : Nat), (s.zone z).tamb = some (v, t) ∧
      t + 10000000000 ≤ max s.now time) :=
  ⟨⟨base.modStr 0 (fun x => { x with seq := .negOn, state := .closing }), 0, 0, by decide⟩,
    ⟨base.modStr 0 (fun x => { x with seq := .preOn, state := .closing }), 0, 0, by decide⟩,
    ⟨base.modStr 0 (fun x => { x with seq := .posOn, state := .closing, lastContactor := some 7 }), 0, 0,
      by decide⟩,
    ⟨base.modStr 0 (fun x => { x with seq := .waitCurrent, state := .opening }), 0, 0, by decide⟩,
    ⟨base.modStr 0 (fun x => { x with seq := .posOff, state := .opening, lastContactor := some 2 }), 0, 0,
      by decide⟩,
    ⟨base, 0, 60000000000, by decide⟩,
    ⟨base, by decide⟩,
    ⟨base.modZone 0 (fun x => { x with tamb := some (5, 0) }), 0, 10000000000, 5, 0, by decide⟩⟩

theorem test_witness_ProtectionOpcodesComplete :
    (∃ (s : State) (t : Fin 16) (r : Req), s.Ready t r ∧ s.Allows t r 0 ∧ r.payload.length = 1 ∧
      fieldOf (r.w 2) 7 0 ≤ 63) ∧
    (∃ (s : State) (t : Fin 16) (r : Req), s.Ready t r ∧ s.Allows t r 0 ∧ r.payload.length = 1 ∧
      fieldOf (r.w 2) 7 0 ≤ 63 ∧ s.runsPlant = true ∧ (s.str (fieldOf (r.w 2) 7 0)).state = .open_ ∧
      s.closeUnmet (fieldOf (r.w 2) 7 0) = none) ∧
    (∃ (s : State) (t : Fin 16) (r : Req), s.Ready t r ∧ s.Allows t r 0 ∧ r.payload.length = 2 ∧
      fieldOf (r.w 2) 7 0 ≤ 63 ∧ s.runsPlant = true ∧ bitOf (r.w 3) 0 = false ∧
      (s.str (fieldOf (r.w 2) 7 0)).state = .closed) ∧
    (∃ (s : State) (t : Fin 16) (r : Req), s.Ready t r ∧ s.Allows t r 0 ∧ r.payload.length = 2 ∧
      fieldOf (r.w 2) 7 0 ≤ 63 ∧ s.runsPlant = true ∧ bitOf (r.w 3) 0 = true ∧
      (s.str (fieldOf (r.w 2) 7 0)).state ≠ .tripped) ∧
    (∃ (s : State) (t : Fin 16) (r : Req), s.Ready t r ∧ s.Allows t r 0 ∧ r.payload.length = 1 ∧
      fieldOf (r.w 2) 7 0 ≤ 63 ∧ s.runsPlant = true ∧ (s.str (fieldOf (r.w 2) 7 0)).action ≠ 2 ∧
      (s.str (fieldOf (r.w 2) 7 0)).cause = 0 ∧ (s.str (fieldOf (r.w 2) 7 0)).state = .tripped) ∧
    (∃ (s : State) (t : Fin 16) (r : Req), s.Ready t r ∧ s.Allows t r 0 ∧ r.payload = []) ∧
    (∃ (s : State) (t : Fin 16) (r : Req), s.Ready t r ∧ s.Allows t r 0 ∧ r.payload.length = 1 ∧
      fieldOf (r.w 2) 7 0 ≤ 63) ∧
    (∃ (s : State) (t : Fin 16) (r : Req) (x : Zone), s.Ready t r ∧ s.Allows t r 0 ∧ r.payload.length = 1 ∧
      (r.w 2).toNat ≤ 15 ∧ s.zone (r.w 2).toNat = x) ∧
    (∃ (s : State) (t : Fin 16) (r : Req), s.Ready t r ∧ s.Allows t r 0 ∧ r.payload.length = 2 ∧
      (r.w 2).toNat ≤ 15) :=
  ⟨⟨base, 0, { seq := 5, tag := 7, payload := [0] }, by decide⟩,
    ⟨base.modStr 0 (fun x => { x with state := .open_, goodRecords := 5 }), 0,
      { seq := 5, tag := 7, payload := [0] }, by decide⟩,
    ⟨base, 0, { seq := 5, tag := 7, payload := [0, 0] }, by decide⟩,
    ⟨base, 0, { seq := 5, tag := 7, payload := [0, 1] }, by decide⟩,
    ⟨base.modStr 0 (fun x => { x with state := .tripped }), 0, { seq := 5, tag := 7, payload := [0] }, by decide⟩,
    ⟨base, 0, { seq := 5, tag := 7, payload := [] }, by decide⟩,
    ⟨base, 0, { seq := 5, tag := 7, payload := [0] }, by decide⟩,
    ⟨base, 0, { seq := 5, tag := 7, payload := [0] }, base.zone 0, by decide⟩,
    ⟨base, 0, { seq := 5, tag := 7, payload := [0, 250] }, by decide⟩⟩

theorem test_witness_TickAndPublicationComplete :
    (∃ (s : State), s.keeperUp = true ∧ s.mirrors = true) ∧
    (∃ (s : State) (p : Nat), (s.toOffset 750000).tickNo ≠ 0 ∧ s.parB 0x13 0 0 = true ∧ s.runsPlant = true ∧
      s.keeperUp = true ∧ s.pair.outputAt ≤ (s.toOffset 750000).now ∧ s.dispGroups ≠ [] ∧ s.dispPorts = [p] ∧
      s.udpDest ≠ 0 ∧ s.portOn p = true ∧ s.linkOf p = true) ∧
    (∃ (s : State) (g : Fin 8) (x : Grant), (s.group g).grant = some x ∧ x.endTick ≤ s.tickNo) :=
  ⟨⟨active, by decide⟩,
    ⟨{ base with cfg := { base.cfg with active := (paddr 0x41 1 0, some 5) :: (paddr 0x13 0 1, some 2) :: (paddr 0x13 0 2, some 9) :: (paddr 0x41 3 0, some 5) :: base.cfg.active } },
      3, by decide⟩,
    ⟨base.modGroup 0 (fun x => { x with grant := some { endTick := 1 } }), 0, { endTick := 1 }, by decide⟩⟩

theorem test_witness_OverrideEventsComplete :
    (∃ (s : State), s.runsPlant = true ∧ s.keeperUp = true) ∧
    (∃ (s : State), s.runsPlant = true ∧ s.keeperUp = true) ∧
    (∃ (s : State) (time : Nat), s.disp.ovr = .armedCommand ∧ s.disp.ovrAt + 10000000000 ≤ max s.now time) ∧
    (∃ (s : State) (time : Nat), s.disp.ovr = .ending ∧ s.disp.ovrAt + 500000000 ≤ max s.now time) ∧
    (∃ (s : State) (time : Nat), s.disp.ovr = .inForce ∧ s.disp.lastOvrRecord + 60000000000 ≤ max s.now time ∧
      s.canRecord 3) :=
  ⟨⟨base, by decide⟩,
    ⟨base, by decide⟩,
    ⟨base.modDisp (fun d => { d with ovr := .armedCommand }), 10000000000, by decide⟩,
    ⟨base.modDisp (fun d => { d with ovr := .ending }), 0, by decide⟩,
    ⟨base.modDisp (fun d => { d with ovr := .inForce }), 60000000000, by decide⟩⟩

theorem test_witness_DispatchOpcodesComplete :
    (∃ (s : State) (t : Fin 16) (r : Req), s.Ready t r ∧ s.Allows t r 0 ∧ r.payload.length = 1 ∧
      fieldOf (r.w 2) 7 0 ≤ 7 ∧ s.groupSet (fieldOf (r.w 2) 7 0) = true) ∧
    (∃ (s : State) (t : Fin 16) (r : Req), s.Ready t r ∧ s.Allows t r 0 ∧ r.payload.length = 3 ∧
      fieldOf (r.w 2) 7 0 ≤ 7 ∧ s.runsPlant = true ∧ s.groupSet (fieldOf (r.w 2) 7 0) = true ∧
      10 ≤ fieldOf (r.w 4) 15 0 ∧ fieldOf (r.w 4) 15 0 ≤ 6000 ∧ flt 0 (r.w 3) = true ∧ ffinite (r.w 3) = true) ∧
    (∃ (s : State) (t : Fin 16) (r : Req), s.Ready t r ∧ s.Allows t r 0 ∧ r.payload.length = 1 ∧
      fieldOf (r.w 2) 7 0 ≤ 7 ∧ s.runsPlant = true ∧ s.groupSet (fieldOf (r.w 2) 7 0) = true ∧ (∃ x,
      (s.group (fieldOf (r.w 2) 7 0)).grant = some x ∧ x.tenant = t)) ∧
    (∃ (s : State) (t : Fin 16) (r : Req), s.Ready t r ∧ s.Allows t r 0 ∧ r.payload.length = 1 ∧
      s.runsPlant = true ∧ bitOf (r.w 2) 0 = true) ∧
    (∃ (s : State) (t : Fin 16) (r : Req), s.Ready t r ∧ s.Allows t r 0 ∧ r.payload.length = 1 ∧
      s.runsPlant = true ∧ bitOf (r.w 2) 0 = false) ∧
    (∃ (s : State) (t : Fin 16) (r : Req), s.Ready t r ∧ s.Allows t r 1 ∧ r.payload.length = 5 ∧ r.w 2 = 1) ∧
    (∃ (s : State) (t : Fin 16) (r : Req), s.Ready t r ∧ s.Allows t r 1 ∧ r.payload.length = 9 ∧ r.w 2 = 2) ∧
    (∃ (s : State), s.single = false ∧ s.linkUp = true ∧ s.runsPlant = false) ∧
    (∃ (s : State) (t : Fin 16) (r : Req), s.Ready t r ∧ s.Allows t r 0 ∧ r.payload.length = 1 ∧
      fieldOf (r.w 2) 7 0 ≤ 63) :=
  ⟨⟨base, 0, { seq := 5, tag := 7, payload := [0] }, by decide⟩,
    ⟨base, 0, { seq := 5, tag := 7, payload := [0, 0x3F800000, 100] }, by decide⟩,
    ⟨base.modGroup 0 (fun x => { x with grant := some {} }), 0, { seq := 5, tag := 7, payload := [0] }, ⟨by decide,
      by decide, by decide, by decide, by decide, by decide, ⟨_, rfl, rfl⟩⟩⟩,
    ⟨base, 0, { seq := 5, tag := 7, payload := [1] }, by decide⟩,
    ⟨base, 0, { seq := 5, tag := 7, payload := [0] }, by decide⟩,
    ⟨base, 0, { seq := 5, tag := 7, payload := [1, 11, 12, 13, 14] }, by decide⟩,
    ⟨base, 0, { seq := 5, tag := 7, payload := [2, 11, 12, 13, 14, 15, 16, 17, 18] }, by decide⟩,
    ⟨standby, by decide⟩,
    ⟨base, 0, { seq := 5, tag := 7, payload := [0] }, by decide⟩⟩

theorem test_witness_CommandWindowComplete :
    (∃ (s : State) (p : Fin 12) (t : Nat), s.windowTenant p = some t ∧ (s.tenant t).txHeld = false) ∧
    (∃ (s : State) (p : Fin 12) (time : Nat) (t : Nat), s.windowTenant p = some t ∧ (s.tenant t).txHeld = false ∧
      0 < (s.tenant t).credits ∧ Packet.malformed (packetOf (max s.now time) (s.tenant t).assembly) = false ∧
      (s.tenant t).queued = [] ∧ (s.tenant t).executing = []) ∧
    (∃ (s : State) (p : Fin 12) (t : Nat), s.windowTenant p = some t ∧ (s.tenant t).txHeld = false ∧
      (s.tenant t).credits = 0) ∧
    (∃ (s : State) (p : Fin 12) (t : Nat), s.windowTenant p = some t) ∧
    (∃ (s : State) (p : Fin 12) (t : Nat) (w : Word) (v : Word) (ws : List Word) (rest : List Unread),
      s.windowTenant p = some t ∧ (s.tenant t).unread = { words := w :: v :: ws } :: rest) ∧
    (∃ (s : State) (p : Fin 12) (t : Nat), s.windowTenant p = some t) :=
  ⟨⟨base, 0, 1, by decide⟩,
    ⟨base.modTenant 1 (fun x => { x with assembly := [0x00000101, 5] }), 0, 0, 1, by decide⟩,
    ⟨base.modTenant 1 (fun x => { x with credits := 0 }), 0, 1, by decide⟩,
    ⟨base, 0, 1, by decide⟩,
    ⟨base.modTenant 1 (fun x => { x with credits := 31, unread := [{ words := [1, 2] }] }), 0, 1, 1, 2, [], [],
      by decide⟩,
    ⟨base, 0, 1, by decide⟩⟩

theorem test_witness_SessionsComplete :
    (∃ (s : State) (t : Fin 16) (st : OutStream), (s.tenant t).outStream = some st ∧ 0 < (s.tenant t).credits ∧
      s.takesPackets = true ∧ (s.tenant t).waitingStreams = []) ∧
    (∃ (s : State) (t : Fin 16) (x : Unread) (rest : List Unread), (s.tenant t).session.isSome = true ∧
      (s.tenant t).unread = x :: rest ∧ (s.tenant t).txHeld = false ∧ (s.tenant t).queued = [] ∧
      (s.tenant t).session.all (fun w => packetAhead w.words == none) = true) ∧
    (∃ (s : State) (port : Nat) (fp : List Word) (issuerOk : Bool) (t : Nat), s.takesPackets = true ∧
      s.inRecovery = false ∧ s.listens port = true ∧ s.sessionTenant port fp issuerOk = some t ∧
      (s.tenant t).session = none ∧ s.sessions < 8) ∧
    (∃ (s : State) (t : Fin 16), (s.tenant t).session.isSome = true) ∧
    (∃ (s : State) (t : Fin 16) (time : Nat) (w : Session), (s.tenant t).session = some w ∧ s.parN 0x01 0 1 ≠ 0 ∧
      w.lastPacket + s.parN 0x01 0 1 * 1000000000 ≤ max s.now time) :=
  ⟨⟨base.modTenant 0 (fun x => { x with outStream := some { words := [1, 2] } }), 0, { words := [1, 2] },
      by decide⟩,
    ⟨base.modTenant 0 (fun x => { x with credits := 31, unread := [{ words := [1, 2] }] }), 0, { words := [1, 2] },
      [], by decide⟩,
    ⟨base.modTenant 0 (fun x => { x with session := none }), 4, List.replicate 12 0, true, 0, by decide⟩,
    ⟨base, 0, by decide⟩,
    ⟨base, 0, 70000000000, {}, by decide⟩⟩

theorem test_witness_SystemOpcodesComplete :
    (∃ (s : State) (t : Fin 16) (r : Req), s.Ready t r ∧ s.Allows t r 0 ∧ r.payload.length = 0) ∧
    (∃ (s : State) (t : Fin 16) (r : Req), s.Ready t r ∧ s.Allows t r 0 ∧ r.payload.length = 0) ∧
    (∃ (s : State) (t : Fin 16) (r : Req), s.Ready t r ∧ s.Allows t r 1 ∧ r.payload.length = 1 ∧ r.w 2 = 1) ∧
    (∃ (s : State) (t : Fin 16) (r : Req), s.Ready t r ∧ s.Allows t r 0 ∧ r.payload.length = 0) :=
  ⟨⟨base, 0, { seq := 5, tag := 7, payload := [] }, by decide⟩,
    ⟨base, 0, { seq := 5, tag := 7, payload := [] }, by decide⟩,
    ⟨base, 0, { seq := 5, tag := 7, payload := [1] }, by decide⟩,
    ⟨base, 0, { seq := 5, tag := 7, payload := [] }, by decide⟩⟩

theorem test_witness_BulkComplete :
    (∃ (s : State) (t : Fin 16) (r : Req), s.Ready t r ∧ s.Allows t r 0 ∧ r.payload.length = 3 ∧ bulkObject r = 1 ∧
      s.readPre t r = none ∧ countOk r = true) ∧
    (∃ (s : State) (t : Fin 16) (r : Req), s.Ready t r ∧ s.Allows t r 0 ∧ r.payload.length = 3 ∧ bulkObject r = 5 ∧
      s.readPre t r = none ∧ countOk r = true ∧ s.trace.state = .done) ∧
    (∃ (s : State) (t : Fin 16) (r : Req), s.Ready t r ∧ r.flags = 1 ∧ 1 ≤ s.tntRole t ∧ r.payload.length = 3 ∧
      bulkObject r = 1 ∧ s.writePre r = none ∧ countOk r = true ∧ s.cfg.broken = none ∧ s.cfg.lock = some t.val ∧
      s.runsPlant = true ∧ s.notOpening t r = false ∧ (s.tenant t).inStream = none) ∧
    (∃ (s : State) (t : Fin 16) (r : Req) (w : InStream), s.takesPackets = true ∧ s.keeperUp = true ∧
      s.canSubmit t = true ∧ 0 < (s.tenant t).credits ∧ (s.tenant t).queued = [] ∧ (s.tenant t).txHeld = false ∧
      r.flags = 1 ∧ (s.tenant t).session.all (fun w => packetAhead w.words == none) = true ∧
      (s.tenant t).inStream = some w ∧ w.pkt.req.seq = r.seq ∧ (w.words ++ r.payload).length ≤ w.count) ∧
    (∃ (s : State) (t : Fin 16) (r : Req), s.Ready t r ∧ s.Allows t r 0 ∧ r.payload.length = 1 ∧ r.w 2 = 0) ∧
    (∃ (s : State) (t : Fin 16) (r : Req), s.Ready t r ∧ s.Allows t r 0 ∧ r.payload.length = 1 ∧ r.w 2 = 1) :=
  ⟨⟨base, 0, { seq := 5, tag := 7, payload := [1, 0, 4] }, by decide⟩,
    ⟨{ base with trace := { base.trace with state := .done, samples := [(0, [1, 2])] } }, 0,
      { seq := 5, tag := 7, payload := [5, 0, 1] }, by decide⟩,
    ⟨{ base with cfg := { base.cfg with lock := some 0 } }, 0,
      { seq := 5, tag := 7, flags := 1, payload := [1, 0, 4] }, by decide⟩,
    ⟨base.modTenant 0 (fun x => { x with inStream := some { pkt := { opcode := 0x0111, req := { seq := 5 } }, object := 1, count := 4 }, credits := 31, executing := [{ pkt := { opcode := 0x0111, req := { seq := 5 } } }] }),
      0, { seq := 5, tag := 7, flags := 1, payload := [9] },
      { pkt := { opcode := 0x0111, req := { seq := 5 } }, object := 1, count := 4 }, by decide⟩,
    ⟨base, 0, { seq := 5, tag := 7, payload := [0] }, by decide⟩,
    ⟨base, 0, { seq := 5, tag := 7, payload := [1] }, by decide⟩⟩

theorem test_witness_ConfigurationComplete :
    (∃ (s : State) (t : Fin 16) (r : Req), s.Ready t r ∧ s.Allows t r 0 ∧ r.payload.length = 2 ∧
      paramCount r = some 1 ∧ firstUndefined (r.w 2).toNat 1 = none ∧ readOnlyAt (r.w 2).toNat = false ∧
      isSafeParam (r.w 2).toNat = false) ∧
    (∃ (s : State) (t : Fin 16) (r : Req), s.Ready t r ∧ s.Allows t r 1 ∧ r.payload.length = 3 ∧
      paramCount r = some 1 ∧ fieldOf (r.w 3) 7 0 = 1 ∧ firstUndefined (r.w 2).toNat 1 = none ∧
      readOnlyAt (r.w 2).toNat = false ∧ valueOkAt (r.w 2).toNat (r.w 4) = true ∧
      isSafeParam (r.w 2).toNat = false ∧ s.runsPlant = true ∧ s.cfg.broken = none ∧ s.cfg.lock = some t.val) ∧
    (∃ (s : State) (t : Fin 16) (r : Req), s.Ready t r ∧ s.Allows t r 1 ∧ r.payload.length = 0 ∧
      s.cfg.broken = none ∧ s.cfg.lock = none) ∧
    (∃ (s : State) (writeA : Bool) (writeB : Bool) (t : Fin 16) (r : Req), (writeA || writeB) = true ∧
      s.Ready t r ∧ s.Allows t r 1 ∧ r.payload.length = 1 ∧ s.cfg.broken = none ∧ s.cfg.lock = some t.val ∧
      s.runsPlant = true ∧ r.w 2 = 0 ∧ s.commitFailures s.candidate = [] ∧ s.cfg.stagedSafe = [] ∧
      s.standbyThere = false) ∧
    (∃ (s : State) (t : Fin 16) (r : Req), s.Ready t r ∧ s.Allows t r 1 ∧ r.payload.length = 0 ∧
      s.cfg.broken = none ∧ s.cfg.lock = some t.val) ∧
    (∃ (s : State) (t : Fin 16) (r : Req), s.Ready t r ∧ s.Allows t r 0 ∧ r.payload.length = 0) ∧
    (∃ (s : State) (w : CommitWait), s.single = false ∧ s.linkUp = true ∧ s.runsPlant = true ∧ s.cfg.wait = some w) ∧
    (∃ (s : State) (n : Nat) (m : ParamMap), s.power.state = .run ∧ s.keeperUp = true ∧ s.cfg.defaulted = false ∧
      s.cfg.due = [(n, m)] ∧ n ≤ s.tickNo) :=
  ⟨⟨base, 0, { seq := 5, tag := 7, payload := [0x10000000, 1] }, by decide⟩,
    ⟨{ base with cfg := { base.cfg with lock := some 0 } }, 0,
      { seq := 5, tag := 7, payload := [0x10000000, 1, 1] }, by decide⟩,
    ⟨base, 0, { seq := 5, tag := 7, payload := [] }, by decide⟩,
    ⟨{ base with cfg := { base.cfg with lock := some 0, active := [] } }, true, true, 0,
      { seq := 5, tag := 7, payload := [0] }, by decide⟩,
    ⟨{ base with cfg := { base.cfg with lock := some 0 } }, 0, { seq := 5, tag := 7, payload := [] }, by decide⟩,
    ⟨base, 0, { seq := 5, tag := 7, payload := [] }, by decide⟩,
    ⟨{ active with cfg := { active.cfg with wait := some {} } }, {}, by decide⟩,
    ⟨{ base with cfg := { base.cfg with due := [(1, [])] } }, 1, [], by decide⟩⟩

theorem test_witness_PartitionsComplete :
    (∃ (s : State) (p : Fin 12) (time : Nat), (s.at time).cycleCounts p = true) ∧
    (∃ (s : State) (p : Fin 12) (time : Nat), s.partExec p = true ∧ (s.part p).state ≠ .held ∧
      (s.part p).feedAt + s.parN 0x03 p 5 * 1000000 ≤ max s.now time) ∧
    (∃ (s : State) (p : Fin 12) (time : Nat), (s.at time).partNow p = true) ∧
    (∃ (s : State) (p : Fin 12) (op : ArithOp) (time : Nat), (s.at time).partNow p = true ∧ s.arithTraps p = true ∧
      op.result.flags ≠ 0) ∧
    (∃ (s : State) (p : Fin 12) (time : Nat), (s.at time).partNow p = true) ∧
    (∃ (s : State) (p : Fin 12), s.up 41 = true ∧ s.parB 0x03 p 0 = true) ∧
    (∃ (s : State) (p : Fin 12) (time : Nat) (a : Nat), (s.part p).restartAt = some a ∧ a ≤ max s.now time ∧
      (s.part p).state = .faulted ∧ s.partLive p = true ∧ (s.at time).recentRestarts p < 3) ∧
    (∃ (s : State) (t : Fin 16) (r : Req), s.Ready t r ∧ s.Allows t r 0 ∧ r.payload.length = 1 ∧ partOf r < 12) ∧
    (∃ (s : State) (t : Fin 16) (r : Req), s.Ready t r ∧ s.Allows t r 1 ∧ r.payload.length = 1 ∧ partOf r < 12 ∧
      s.runsPlant = true ∧ s.parB 0x03 (partOf r) 0 = true ∧ s.pairUp (partOf r) = true ∧
      (s.part (partOf r)).image.isSome = true ∧ (s.part (partOf r)).asks = [] ∧
      s.partTenant (partOf r) ≠ some t.val) ∧
    (∃ (s : State) (im : PartImage) (t : Fin 16) (r : Req), s.Ready t r ∧ s.Allows t r 0 ∧ r.payload.length = 1 ∧
      partOf r < 12 ∧ (s.part (partOf r)).image = some im) :=
  ⟨⟨base.modPart 0 (fun x => { x with inCycle := true }), 0, 0, by decide⟩,
    ⟨base, 0, 0, by decide⟩,
    ⟨base, 0, 0, by decide⟩,
    ⟨{ base with cfg := { base.cfg with active := (paddr 0x03 0 9, some 1) :: base.cfg.active } }, 0,
      .div { signed := true, width := 8 } 1 0, 0, by decide⟩,
    ⟨base, 0, 0, by decide⟩,
    ⟨base, 0, by decide⟩,
    ⟨base.modPart 0 (fun x => { x with state := .faulted, restartAt := some 0 }), 0, 0, 0, by decide⟩,
    ⟨base, 0, { seq := 5, tag := 7, payload := [0] }, by decide⟩,
    ⟨base, 0, { seq := 5, tag := 7, payload := [0] }, by decide⟩,
    ⟨base, {}, 0, { seq := 5, tag := 7, payload := [0] }, by decide⟩⟩

theorem test_witness_EventFabricComplete :
    (∃ (s : State) (v : Fin 13) (src : Fin 1024) (time : Nat), src.val < 512 ∧ s.power.state = .run ∧
      s.srcAssigned v src = true ∧ s.forcedSource v src = false ∧ (s.at time).quietView v) ∧
    (∃ (s : State) (v : Fin 12) (src : Fin 1024) (time : Nat) (k : Nat) (pr : Nat), src.val < 512 ∧
      s.power.state = .run ∧ s.srcAssigned v src = true ∧ s.forcedSource v src = false ∧
      (s.at time).tasksRun v = true ∧ (s.view v).pending = 0 ∧ (s.view v).enable.getLsbD src = true ∧ k < 16 ∧
      s.evtBind v k = some (src.val, pr) ∧ (s.part v).evtRan.contains k = false ∧
      (List.range 16).all (fun j => j == k || (s.evtBind v j).all (fun e => e.1 != src.val)) = true) ∧
    (∃ (s : State) (v : Fin 13) (n : Nat), s.viewLive v = true ∧ s.highest v = some n) ∧
    (∃ (s : State) (v : Fin 13), s.viewLive v = true ∧ s.highest v = none) ∧
    (∃ (s : State) (v : Fin 13) (w : Word) (time : Nat) (top : Nat) (pr : Nat) (rest : List (Nat × Nat)),
      (s.at time).viewLive v = true ∧ (s.view v).stack = (top, pr) :: rest ∧ fieldOf w 9 0 = top ∧ top ≠ 0x3FF ∧
      (s.at time).quietView v) ∧
    (∃ (s : State) (v : Fin 13), s.viewLive v = true) ∧
    (∃ (s : State) (v : Fin 13), s.viewLive v = true) ∧
    (∃ (s : State) (v : Fin 13), s.viewLive v = true ∧ s.quietView v) ∧
    (∃ (s : State) (v : Fin 13), s.viewLive v = true) :=
  ⟨⟨{ base with cfg := { base.cfg with active := (paddr 0x03 0 1, some 1) :: base.cfg.active } }, 0, 3, 0,
      by decide +kernel⟩,
    ⟨{ base with cfg := { base.cfg with active := (paddr 0x03 0 0x24, some 0x80020003) :: base.cfg.active } }.modView 0 (fun x => { x with enable := 8 }),
      0, 3, 0, 0, 2, by decide +kernel⟩,
    ⟨base.modView 0 (fun x => { x with pending := 8, enable := 8 }), 0, 3, by decide +kernel⟩,
    ⟨base, 0, by decide +kernel⟩,
    ⟨{ base with cfg := { base.cfg with active := (paddr 0x03 0 1, some 1) :: base.cfg.active } }.modView 0 (fun x => { x with stack := [(3, 128)] }),
      0, 3, 0, 3, 128, [], by decide⟩,
    ⟨base, 0, by decide⟩,
    ⟨base.modView 0 (fun x => { x with enable := 5 }), 0, by decide⟩,
    ⟨{ base with cfg := { base.cfg with active := (paddr 0x03 0 1, some 1) :: base.cfg.active } }, 0, by decide⟩,
    ⟨base.modView 0 (fun x => { x with pending := 5 }), 0, by decide⟩⟩

theorem test_witness_PartitionPagesComplete :
    (∃ (s : State) (pair : Fin 8) (p : Fin 12) (time : Nat), s.power.state = .run ∧
      (s.at time).sliceDue pair p = true) ∧
    (∃ (s : State) (p : Fin 13) (addr : Word) (time : Nat), p.val < 12 ∧ (s.at time).viewLive p = true ∧
      (List.range 4).all (fun i => s.byteWritable p (addr.toNat + i)) = true ∧ Memory.wf (s.part p).mem = true) ∧
    (∃ (s : State), s.viewLive 12 = true) ∧
    (∃ (s : State) (p : Fin 12) (k : Fin 32) (time : Nat), s.power.state = .run ∧ s.up 41 = true ∧
      (s.cmp p k).armed = true ∧ Cmp.reached (s.cmp p k) (max s.now time) = true ∧ (s.at time).quietView p) ∧
    (∃ (s : State) (p : Fin 12) (time : Nat), (s.at time).partNow p = true) ∧
    (∃ (s : State) (p : Fin 12) (k : Fin 32) (long : Bool) (time : Nat), (s.at time).partNow p = true ∧
      Cmp.reached { s.cmp p k with long := long } (max s.now time) = false) ∧
    (∃ (s : State) (p : Fin 12), s.partNow p = true) :=
  ⟨⟨{ base with cfg := { base.cfg with active := (paddr 0x03 1 2, some 1) :: base.cfg.active } }, 1, 0, 0,
      by decide⟩,
    ⟨base, 0, 0x10000000, 0, by decide⟩,
    ⟨base, by decide⟩,
    ⟨{ base with cfg := { base.cfg with active := (paddr 0x03 0 1, some 1) :: base.cfg.active } }.modCmp 0 0 (fun x => { x with armed := true }),
      0, 0, 0, by decide⟩,
    ⟨base, 0, 0, by decide⟩,
    ⟨base.modCmp 0 0 (fun x => { x with tgtHi := 9 }), 0, 0, true, 0, by decide⟩,
    ⟨base.modCmp 0 0 (fun x => { x with armed := true }), 0, by decide⟩⟩

theorem test_witness_ScanEngineComplete :
    (∃ (s : State) (p : Fin 12) (time : Nat), (s.at time).cycleDue p = true) ∧
    (∃ (s : State) (p : Fin 12) (execUs : Nat) (time : Nat), (s.at time).partNow p = true ∧
      (s.part p).inCycle = true ∧ execUs < s.parN 0x03 p 4 ∧ (s.part p).asks = []) ∧
    (∃ (s : State) (t : Fin 16) (r : Req), s.Ready t r ∧ s.Allows t r 0 ∧ r.payload.length = 1 ∧ partOf r < 12 ∧
      s.runsPlant = true ∧ s.parB 0x03 (partOf r) 0 = true ∧ s.pairUp (partOf r) = true ∧
      (s.part (partOf r)).image.isSome = true ∧ (s.part (partOf r)).state = .stopped ∧ bitOf (r.w 2) 8 = false) ∧
    (∃ (s : State) (t : Fin 16) (r : Req), s.Ready t r ∧ s.Allows t r 0 ∧ r.payload.length = 1 ∧ partOf r < 12 ∧
      s.runsPlant = true ∧ s.parB 0x03 (partOf r) 0 = true ∧ s.pairUp (partOf r) = true ∧
      (s.part (partOf r)).image.isSome = true ∧ (s.part (partOf r)).state = .stopped ∧ bitOf (r.w 2) 8 = true) ∧
    (∃ (s : State) (t : Fin 16) (r : Req), s.Ready t r ∧ s.Allows t r 0 ∧ r.payload.length = 1 ∧ partOf r < 12 ∧
      s.runsPlant = true ∧ (s.part (partOf r)).asks = [] ∧
      (((s.part (partOf r)).state = .run ∨ (s.part (partOf r)).state = .starting ∨ (s.part (partOf r)).state = .held))) ∧
    (∃ (s : State) (t : Fin 16) (r : Req), s.Ready t r ∧ s.Allows t r 1 ∧ r.payload.length = 1 ∧ partOf r < 12 ∧
      s.single = true ∧ (s.part (partOf r)).state = .run ∧ (s.part (partOf r)).inCycle = false) ∧
    (∃ (s : State) (t : Fin 16) (r : Req), s.Ready t r ∧ s.Allows t r 1 ∧ r.payload.length = 1 ∧ partOf r < 12 ∧
      s.runsPlant = true ∧ (s.part (partOf r)).state = .held) ∧
    (∃ (s : State) (t : Fin 16) (r : Req), s.Ready t r ∧ s.Allows t r 1 ∧ r.payload.length = 1 ∧ partOf r < 12 ∧
      s.runsPlant = true ∧ (s.part (partOf r)).state = .held ∧ (s.part (partOf r)).asks = []) ∧
    (∃ (s : State) (f : Force) (rest : List Force) (t : Fin 16) (r : Req), s.Ready t r ∧ s.Allows t r 1 ∧
      r.payload.length = 5 ∧ partOf r < 12 ∧
      f = { addr := (r.w 3).toNat, bit := fieldOf (r.w 4) 5 0, width := fieldOf (r.w 4) 14 8, value := ofHiLo (r.w 5) (r.w 6) } ∧
      rest = (s.part (partOf r)).forces.filter (fun e => !(e.addr == f.addr && e.bit == f.bit && e.width == f.width)) ∧
      1 ≤ f.width ∧ f.width ≤ 64 ∧ (inputListed f.addr || outputListed f.addr) = true ∧ rest.length < 64) ∧
    (∃ (s : State) (t : Fin 16) (r : Req), s.Ready t r ∧ s.Allows t r 1 ∧ r.payload.length = 2 ∧ partOf r < 12 ∧
      r.w 3 = 0xFFFFFFFF) ∧
    (∃ (s : State) (t : Fin 16) (r : Req), s.Ready t r ∧ s.Allows t r 0 ∧ r.payload.length = 1 ∧ partOf r < 12 ∧
      (s.part (partOf r)).forces.length ≤ 63) ∧
    (∃ (s : State) (c : CycleStat) (rest : List CycleStat) (t : Fin 16) (r : Req), s.Ready t r ∧ s.Allows t r 0 ∧
      r.payload.length = 1 ∧ partOf r < 12 ∧ (s.part (partOf r)).stats = c :: rest) :=
  ⟨⟨base, 0, 0, by decide⟩,
    ⟨base.modPart 0 (fun x => { x with inCycle := true }), 0, 10, 0, by decide⟩,
    ⟨base.modPart 0 (fun x => { x with state := .stopped }), 0, { seq := 5, tag := 7, payload := [0] }, by decide⟩,
    ⟨base.modPart 0 (fun x => { x with state := .stopped, mem := [(0x20000000, 5)] }), 0,
      { seq := 5, tag := 7, payload := [256] }, by decide⟩,
    ⟨base, 0, { seq := 5, tag := 7, payload := [0] }, by decide⟩,
    ⟨base, 0, { seq := 5, tag := 7, payload := [0] }, by decide⟩,
    ⟨base.modPart 0 (fun x => { x with state := .held }), 0, { seq := 5, tag := 7, payload := [0] }, by decide⟩,
    ⟨base.modPart 0 (fun x => { x with state := .held }), 0, { seq := 5, tag := 7, payload := [0] }, by decide⟩,
    ⟨base, { addr := 0x8000, bit := 0, width := 1, value := 1 }, [], 0,
      { seq := 5, tag := 7, payload := [0, 0x8000, 0x00000100, 0, 1] }, by decide⟩,
    ⟨base.modPart 0 (fun x => { x with forces := [{}] }), 0, { seq := 5, tag := 7, payload := [0, 0xFFFFFFFF] },
      by decide⟩,
    ⟨base.modPart 0 (fun x => { x with forces := [{}] }), 0, { seq := 5, tag := 7, payload := [0] }, by decide⟩,
    ⟨base.modPart 0 (fun x => { x with stats := [{ elapsed := 3 }] }), { elapsed := 3 }, [], 0,
      { seq := 5, tag := 7, payload := [0] }, by decide⟩⟩

theorem test_witness_HoldLineComplete :
    (∃ (s : State), s.single = false ∧ s.power.keeper = .running ∧ s.runsPlant = true) ∧
    (∃ (s : State) (time : Nat), s.pair.driving = true ∧ s.pair.confirmAt + 200000 ≤ max s.now time) ∧
    (∃ (s : State), s.single = false ∧ s.pair.claimAt = none ∧ s.runsPlant = false) ∧
    (∃ (s : State), s.watchesHold = true ∧ s.pair.holdFault = false) ∧
    (∃ (s : State) (time : Nat) (a : Nat), s.pair.claimAt = some a ∧ a + 1000000 ≤ max s.now time ∧
      s.pair.seenOwn = true ∧ s.pair.sideConflict = false) ∧
    (∃ (s : State), s.single = false ∧ s.ident.sideB = true ∧ s.pair.claimAt.isSome = true) ∧
    (∃ (s : State), s.single = false ∧ s.ident.sideB = true ∧ s.pair.claimAt = none ∧ s.runsPlant = true) ∧
    (∃ (s : State), s.single = false ∧ s.runsPlant = true) ∧
    (∃ (s : State), s.single = false) :=
  ⟨⟨active, by decide⟩,
    ⟨active.modPair (fun x => { x with driving := true }), 0, by decide⟩,
    ⟨standby, by decide⟩,
    ⟨standby.modPair (fun x => { x with role := .offline }), by decide⟩,
    ⟨standby.modPair (fun x => { x with role := .offline, claimAt := some 0, seenOwn := true }), 0, 0, by decide⟩,
    ⟨standby.modPair (fun x => { x with claimAt := some 0 }), by decide⟩,
    ⟨standby.modPair (fun x => { x with role := .active }), by decide⟩,
    ⟨active, by decide⟩,
    ⟨active, by decide⟩⟩

theorem test_witness_PairLinkComplete :
    (∃ (s : State), s.power.hibAsk = none ∧ s.pair.lane2 = false) ∧
    (∃ (s : State), s.single = false ∧ s.up 49 = true ∧ s.keeperUp = true) ∧
    (∃ (s : State), s.single = false ∧ s.linkUp = true) ∧
    (∃ (s : State) (time : Nat) (a : Nat), s.single = false ∧ s.runsPlant = true ∧ s.linkUp = true ∧
      s.partnerFollows = true ∧ s.pair.linkUpAt = some a ∧ a + 1000000000 ≤ max s.now time) ∧
    (∃ (s : State) (time : Nat) (a : Nat), s.pair.switchAt = some a ∧ a + 10000000 ≤ max s.now time ∧
      s.pair.role = .offline) ∧
    (∃ (s : State), s.single = false ∧ s.linkUp = true ∧ s.runsPlant = false ∧ s.power.state = .run ∧
      s.power.keeper = .running) ∧
    (∃ (s : State) (time : Nat) (t : Nat) (q : Nat) (a : Nat) (p : Packet), s.power.hibAsk = some (t, q, a) ∧
      a + 1000000000 ≤ max s.now time ∧ (s.tenant t).executing = [{ pkt := p }] ∧ (s.tenant t).queued = [] ∧
      p.req.seq = q ∧ p.req.flags = 0) :=
  ⟨⟨active.modPair (fun x => { x with lane2 := false }), by decide⟩,
    ⟨active.modPair (fun x => { x with lane1 := false, lane2 := false }), by decide⟩,
    ⟨active, by decide⟩,
    ⟨active.modChain 0 (fun x => { x with running := .folded }), 0, 0, by decide⟩,
    ⟨active.modPair (fun x => { x with switchAt := some 0, role := .offline }), 0, 0, by decide⟩,
    ⟨standby, by decide⟩,
    ⟨{ active with power := { active.power with hibAsk := some (0, 5, 0) } }.modTenant 0 (fun x => { x with credits := 31, executing := [{ pkt := { req := { seq := 5 } } }] }),
      0, 0, 5, 0, { req := { seq := 5 } }, by decide⟩⟩

theorem test_witness_GiveUpAndTakeoverComplete :
    (∃ (s : State) (cause : GiveUpCause), s.givesUp cause = true) ∧
    (∃ (s : State), s.single = false ∧ s.linkUp = true) ∧
    (∃ (s : State), s.isFrozen = true) ∧
    (∃ (s : State) (time : Nat) (a : Nat), s.pair.frozen = some a ∧ a + 2500000 ≤ max s.now time) ∧
    (∃ (s : State) (time : Nat), (s.at time).takeoverDue = true ∧ s.keeperUp = true) :=
  ⟨⟨active, .lockstep, by decide⟩,
    ⟨standby, by decide⟩,
    ⟨active.modPair (fun x => { x with role := .offline, frozen := some 0 }), by decide⟩,
    ⟨active.modPair (fun x => { x with role := .offline, frozen := some 0 }), 0, 0, by decide⟩,
    ⟨standby.modPair (fun x => { x with giveUpSeen := some 0 }), 0, by decide⟩⟩

theorem test_witness_MirrorComplete :
    (∃ (s : State) (d : Delta), s.follows = true ∧ s.linkUp = true ∧ d.body.set ≤ 13 ∧
      ((12 ≤ d.body.set ∨ s.pair.mode ≠ 2)) ∧ (s.pair.sets.get d.body.set).snapped = true ∧
      (s.pair.sets.get d.body.set).missing = false ∧ d.crc = blocksCrc d.blocks) ∧
    (∃ (s : State) (body : MirrorBody), s.follows = true ∧ s.linkUp = true ∧ body.set ≤ 13 ∧
      (s.pair.sets.get body.set).kept = []) ∧
    (∃ (s : State), s.mirrors = true) ∧
    (∃ (s : State) (p : Nat), s.mirrors = true ∧ s.pair.mode = 2 ∧ p < 12 ∧ s.parB 0x03 p 0 = true ∧
      (s.part p).inCycle = false) ∧
    (∃ (s : State) (tick : Nat) (c : Nat), s.single = false ∧ s.linkUp = true ∧ tick % 1000 = 0 ∧ c < 64 ∧
      s.inService c = true ∧ s.tileWorks c = true ∧ (s.tile c).tick = tick + 1) ∧
    (∃ (s : State) (c : Fin 64), s.single = false ∧ s.runsPlant = true ∧ s.linkUp = true ∧ s.inService c = true ∧
      s.tileWorks c = true) ∧
    (∃ (s : State) (c : Fin 64) (p : Nat) (t0 : Nat) (ps : List Nat), s.follows = true ∧ s.linkUp = true ∧
      (s.tile c).resync = some (t0, ps) ∧ p ∈ ps) ∧
    (∃ (s : State), s.follows = true ∧ s.linkUp = true) :=
  ⟨⟨standby.modPair (fun x => { x with sets := [(12, { snapped := true })] }),
      { num := 1, base := 0, body := .keeper {} }, by decide⟩,
    ⟨standby, .keeper {}, by decide⟩,
    ⟨active, by decide⟩,
    ⟨active.modPair (fun x => { x with mode := 2 }), 0, by decide⟩,
    ⟨active.modTile 0 (fun x => { x with tick := 1001, digest := 5 }), 1000, 0, by decide⟩,
    ⟨active, 0, by decide⟩,
    ⟨standby.modTile 0 (fun x => { x with resync := some (9, [1, 2]) }), 0, 1, 9, [1, 2], by decide⟩,
    ⟨standby, by decide⟩⟩

theorem test_witness_PairOpcodesComplete :
    (∃ (s : State) (t : Fin 16) (r : Req), s.Ready t r ∧ s.Allows t r 0 ∧ r.payload.length = 0) ∧
    (∃ (s : State) (t : Fin 16) (r : Req), s.Ready t r ∧ s.Allows t r 1 ∧ r.payload.length = 1 ∧ s.single = false ∧
      s.runsPlant = true ∧ s.linkUp = true ∧ s.pair.partner = some .standby) ∧
    (∃ (s : State) (t : Fin 16) (r : Req), s.Ready t r ∧ s.Allows t r 2 ∧ r.payload.length = 1 ∧ s.role ≠ .active ∧
      s.role ≠ .alone ∧ s.role ≠ .newt) ∧
    (∃ (s : State) (t : Fin 16) (r : Req), s.Ready t r ∧ s.Allows t r 1 ∧ r.payload.length = 1 ∧
      fieldOf (r.w 2) 7 0 ≤ 63 ∧ s.follows = true) :=
  ⟨⟨active, 0, { seq := 5, tag := 7, payload := [] }, by decide⟩,
    ⟨active, 0, { seq := 5, tag := 7, payload := [0] }, by decide⟩,
    ⟨standby, 0, { seq := 5, tag := 7, payload := [1] }, by decide⟩,
    ⟨standby, 0, { seq := 5, tag := 7, payload := [0] }, by decide⟩⟩

theorem test_witness_PlantTimeComplete :
    (∃ (s : State) (port : Fin 5) (a : Announce), s.ptpOn port = true ∧ a.domain = s.parN 0x41 0 1) ∧
    (∃ (s : State) (port : Fin 5), s.ptpOn port = true ∧ s.time.selected = some port.val ∧ s.anyInService = true) ∧
    (∃ (s : State) (time : Nat) (a : Announce), ((s.time.state = .locked ∨ s.time.state = .acquiring)) ∧
      s.time.master = some a ∧ s.time.lastHeard + s.parN 0x41 0 7 * a.intervalNs ≤ max s.now time) ∧
    (∃ (s : State) (port : Fin 5) (time : Nat), s.ptpOn port = true ∧ (s.at time).portState port = 6 ∧
      (s.time.ports.get port).lastSync + s.syncNs ≤ max s.now time) ∧
    (∃ (s : State) (t : Fin 16) (r : Req), s.Ready t r ∧ s.Allows t r 0 ∧ r.payload.length = 0) ∧
    (∃ (s : State) (t : Fin 16) (r : Req), s.Ready t r ∧ s.Allows t r 1 ∧ r.payload.length = 2 ∧
      s.runsPlant = true ∧ s.anyInService = false ∧ s.time.state ≠ .locked ∧ s.time.state ≠ .following) :=
  ⟨⟨base, 1, {}, by decide⟩,
    ⟨{ base with time := { base.time with selected := some 1 } }, 1, by decide⟩,
    ⟨{ base with time := { base.time with state := .locked, selected := some 1, master := some {} } }, 0, {},
      by decide⟩,
    ⟨base, 1, 9000000000, by decide⟩,
    ⟨base, 0, { seq := 5, tag := 7, payload := [] }, by decide⟩,
    ⟨{ base with chains := [] }, 0, { seq := 5, tag := 7, payload := [1, 5] }, by decide⟩⟩

theorem test_witness_NetworkComplete :
    (∃ (s : State) (port : Fin 5) (f : EthFrame), port.val ≠ 0 ∧ s.portOn port = true ∧ s.linkOf port = true ∧
      EthFrame.accepted f = true ∧ f.kind = .arp ∧ s.prpSeen port f = false ∧
      s.poolCan (7 + port) ((f.length + 63) / 64) = true) ∧
    (∃ (s : State) (port : Fin 5) (f : EthFrame) (t : Fin 16) (ws : List Word) (w : Session) (time : Nat),
      port.val ≠ 0 ∧ s.portOn port = true ∧ s.linkOf port = true ∧ EthFrame.accepted f = true ∧
      f.kind = .tls t ws ∧ s.prpSeen port f = false ∧ s.poolCan (7 + port) ((f.length + 63) / 64) = true ∧
      (s.tenant t).session = some w ∧ w.port = port.val ∧
      packetAhead (w.words ++ ws) = some (w.words ++ ws).length ∧ s.power.state = .run ∧ s.takesPackets = true ∧
      0 < (s.tenant t).credits ∧ (s.tenant t).queued = [] ∧ (s.tenant t).executing = [] ∧
      Packet.malformed (packetOf (max s.now time) (w.words ++ ws)) = false) ∧
    (∃ (s : State) (time : Nat) (p : Nat), s.portOn 1 = true ∧ s.power.state = .run ∧
      s.net.supervisionAt + 2000000000 ≤ max s.now time ∧ ((p = 1 ∨ p = 2)) ∧ s.linkOf p = true) ∧
    (∃ (s : State) (port : Fin 5) (up : Bool), port.val ≠ 0 ∧ s.up 48 = true ∧ s.linkOf port = !up) ∧
    (∃ (s : State) (port : Fin 4) (queue : Fin 8) (time : Nat) (p : Nat) (f : LaunchFrame) (rest : List LaunchFrame),
      s.queueOf port queue = f :: rest ∧ s.up 48 = true ∧ f.launch ≤ max s.now time ∧
      (List.range queue).all (fun q => (s.queueOf port q).head?.all (fun g => decide (f.launch < g.launch))) = true ∧
      p ∈ launchPorts port ∧ s.linkOf p = true ∧
      max s.now time ≤ f.launch + s.parN 0x41 (launchPort port) 4 * 1000) ∧
    (∃ (s : State) (t : Fin 16) (r : Req), s.Ready t r ∧ s.Allows t r 0 ∧ r.payload.length = 1 ∧
      1 ≤ (r.w 2).toNat ∧ (r.w 2).toNat ≤ 4) ∧
    (∃ (s : State) (n : Nat) (k : Nat) (q : Nat) (f : LaunchFrame) (t : Fin 16) (r : Req), s.Ready t r ∧
      s.Allows t r 0 ∧ r.payload.length = n ∧ launchLen r.payload = true ∧ s.runsPlant = true ∧
      k = fieldOf (r.w 2) 1 0 ∧ q = fieldOf (r.w 2) 10 8 ∧
      f = { launch := ofHiLo (r.w 3) (r.w 4) / 8 * 8, dest := r.w 6, port := fieldOf (r.w 5) 15 0, bytes := fieldOf (r.w 7) 9 0, data := r.payload.drop 6 } ∧
      k ≠ 0 ∧ 2 ≤ q ∧ 1 ≤ f.bytes ∧ f.bytes ≤ 992 ∧ (s.queueOf k q).length < 16 ∧
      ofHiLo (r.w 3) (r.w 4) ≤ max s.now r.time + 1000000000 ∧
      max s.now r.time ≤ ofHiLo (r.w 3) (r.w 4) + s.parN 0x41 (launchPort k) 4 * 1000 ∧
      ((s.at r.time).intake t 0x4104 r).1.poolCan (7 + launchPort k) (LaunchFrame.cells f) = true) :=
  ⟨⟨{ base with cfg := { base.cfg with active := (paddr 0x41 1 0, some 5) :: (paddr 0x41 3 0, some 5) :: (paddr 0x41 4 0, some 5) :: base.cfg.active } },
      1, { length := 64, kind := .arp }, by decide⟩,
    ⟨{ base with cfg := { base.cfg with active := (paddr 0x41 1 0, some 5) :: (paddr 0x41 3 0, some 5) :: (paddr 0x41 4 0, some 5) :: base.cfg.active } },
      4, { length := 64, kind := .tls 0 [0x00000101, 5] }, 0, [0x00000101, 5], {}, 0, by decide⟩,
    ⟨{ base with cfg := { base.cfg with active := (paddr 0x41 1 0, some 5) :: (paddr 0x41 3 0, some 5) :: (paddr 0x41 4 0, some 5) :: base.cfg.active } },
      0, 1, by decide⟩,
    ⟨base, 1, false, by decide⟩,
    ⟨{ base with net := { base.net with queues := [(16 + 3, [{ launch := 4999999000 }])] } }, 2, 3, 0, 3,
      { launch := 4999999000 }, [], by decide⟩,
    ⟨base, 0, { seq := 5, tag := 7, payload := [1] }, by decide⟩,
    ⟨{ base with cfg := { base.cfg with active := (paddr 0x41 1 0, some 5) :: (paddr 0x41 3 0, some 5) :: (paddr 0x41 4 0, some 5) :: base.cfg.active } },
      7, 2, 2, { launch := 5000000000, dest := 0, port := 9, bytes := 4, data := [0x01020304] }, 0,
      { seq := 5, tag := 7, payload := [0x00000202, 1, 705032704, 9, 0, 0x00000004, 0x01020304] }, by decide⟩⟩

theorem test_witness_LoopEventsComplete :
    (∃ (s : State) (i : Fin 64) (time : Nat) (y : Fx), max s.now time % s.loopPeriod i = 0 ∧ s.unitUp 47 = true ∧
      s.runsPlant = true ∧ (s.loop i).state = .run ∧ s.feedback i (max s.now time) = (y, true)) ∧
    (∃ (s : State) (i : Fin 64) (time : Nat) (y : Fx), max s.now time % s.loopPeriod i = 0 ∧ s.unitUp 47 = true ∧
      s.runsPlant = true ∧ (s.loop i).state = .run ∧ s.feedback i (max s.now time) = (y, false)) ∧
    (∃ (s : State) (i : Fin 64) (time : Nat), max s.now time % s.loopPeriod i = 0 ∧ s.unitUp 47 = true ∧
      s.runsPlant = true ∧ (s.loop i).state = .track ∧ s.destFaulted i = false) ∧
    (∃ (s : State) (i : Fin 64) (time : Nat) (a : Nat), (s.loop i).fbSince = some a ∧ (s.loop i).state = .run ∧
      a + s.parN 0x24 i 6 * 1000000 ≤ max s.now time ∧ s.canRecord 2) ∧
    (∃ (s : State) (g : Fin 4) (time : Nat), (s.inj g).running = true ∧ s.parN 0x24 (0x40 + g) 5 ≠ 0 ∧
      (s.inj g).startAt + s.parN 0x24 (0x40 + g) 5 * 1000000 ≤ max s.now time) :=
  ⟨⟨base.modLoop 1 (fun x => { x with state := .run }), 1, 0, { val := 0 }, by decide⟩,
    ⟨base.modLoop 0 (fun x => { x with state := .run }), 0, 0,
      (State.feedback (base.modLoop 0 (fun x => { x with state := .run })) 0 5000000000).1, by decide⟩,
    ⟨base.modLoop 0 (fun x => { x with state := .track, track := 7 }), 0, 0, by decide⟩,
    ⟨base.modLoop 0 (fun x => { x with state := .run, fbSince := some 0 }), 0, 0, 0, by decide⟩,
    ⟨{ base with cfg := { base.cfg with active := (paddr 0x24 0x40 5, some 10) :: base.cfg.active } }.modInj 0 (fun x => { x with running := true }),
      0, 0, by decide⟩⟩

theorem test_witness_ValveEventsComplete :
    (∃ (s : State) (v : Fin 16) (time : Nat), max s.now time % 50000 = 0 ∧ s.valveLive (v.val + 1) = true ∧
      ((s.isFrozen = true ∨ s.runsPlant = true)) ∧ (s.valve (v.val + 1)).driver = true) ∧
    (∃ (s : State) (v : Fin 16) (bits : BitVec 40), s.valveLive (v.val + 1) = true ∧ s.runsPlant = true ∧
      lineField bits 0 3 = 9 ∧ crc8 (bitsMsb 28 (lineField bits 4 31)) = lineField bits 32 39 ∧
      lineField bits 4 7 = (s.valve (v.val + 1)).seq ∧ Nat.testBit (lineField bits 8 15) 3 = true) ∧
    (∃ (s : State) (v : Fin 16) (bits : BitVec 40), s.valveLive (v.val + 1) = true ∧ s.runsPlant = true ∧
      lineField bits 0 3 = 9 ∧ crc8 (bitsMsb 28 (lineField bits 4 31)) ≠ lineField bits 32 39) ∧
    (∃ (s : State) (v : Fin 16), s.valveLive (v.val + 1) = true ∧ s.runsPlant = true ∧
      s.parN 0x25 v 5 ≤ (s.valve (v.val + 1)).missed) ∧
    (∃ (s : State) (v : Fin 16) (time : Nat) (a : Nat), (s.valve (v.val + 1)).stillSince = some a ∧
      (s.valve (v.val + 1)).state = .run ∧ a + s.parN 0x25 v 4 * 1000000 ≤ max s.now time) :=
  ⟨⟨base.modValve 1 (fun x => { x with driver := true }), 0, 0, by decide⟩,
    ⟨base, 0, BitVec.ofNat 40 (9 * 2 ^ 36 + 529438 * 2 ^ 8 + crc8 (bitsMsb 28 529438)), by decide⟩,
    ⟨base, 0, BitVec.ofNat 40 (9 * 2 ^ 36 + 529438 * 2 ^ 8 + 1), by decide⟩,
    ⟨base.modValve 1 (fun x => { x with missed := 20, state := .run }), 0, by decide⟩,
    ⟨base.modValve 1 (fun x => { x with stillSince := some 0, state := .run }), 0, 0, 0, by decide⟩⟩

theorem test_witness_LoopOpcodesComplete :
    (∃ (s : State) (t : Fin 16) (r : Req), s.Ready t r ∧ s.Allows t r 0 ∧ r.payload.length = 1 ∧
      (r.w 2).toNat < 64) ∧
    (∃ (s : State) (t : Fin 16) (r : Req), s.Ready t r ∧ s.Allows t r 1 ∧ r.payload.length = 2 ∧
      s.runsPlant = true ∧ fieldOf (r.w 2) 9 8 = 0 ∧ s.ownerRuns (s.ownLoop (fieldOf (r.w 2) 5 0)) = true ∧
      (((s.loop (fieldOf (r.w 2) 5 0)).state = .off ∨ (s.loop (fieldOf (r.w 2) 5 0)).state = .track))) ∧
    (∃ (s : State) (t : Fin 16) (r : Req), s.Ready t r ∧ s.Allows t r 1 ∧ r.payload.length = 2 ∧
      s.runsPlant = true ∧ fieldOf (r.w 2) 9 8 = 1 ∧ s.ownerRuns (s.ownLoop (fieldOf (r.w 2) 5 0)) = true ∧
      (((s.loop (fieldOf (r.w 2) 5 0)).state = .run ∨ (s.loop (fieldOf (r.w 2) 5 0)).state = .track))) ∧
    (∃ (s : State) (t : Fin 16) (r : Req), s.Ready t r ∧ s.Allows t r 1 ∧ r.payload.length = 2 ∧
      s.runsPlant = true ∧ fieldOf (r.w 2) 9 8 = 2 ∧ s.ownerRuns (s.ownLoop (fieldOf (r.w 2) 5 0)) = true ∧
      (((s.loop (fieldOf (r.w 2) 5 0)).state = .run ∨ (s.loop (fieldOf (r.w 2) 5 0)).state = .track))) ∧
    (∃ (s : State) (i : Nat) (t : Fin 16) (r : Req), s.Ready t r ∧ s.Allows t r 1 ∧ r.payload.length = 1 ∧
      s.runsPlant = true ∧ (r.w 2).toNat < 4 ∧ i = s.parN 0x24 (0x40 + (r.w 2).toNat) 0 % 64 ∧
      (s.loop i).state = .run ∧ (s.inj (r.w 2).toNat).running = false ∧ (s.inj (r.w 2).toNat).armed = false ∧
      s.parN 0x24 (0x40 + (r.w 2).toNat) 1 = 0) ∧
    (∃ (s : State) (t : Fin 16) (r : Req), s.Ready t r ∧ s.Allows t r 1 ∧ r.payload.length = 1 ∧
      s.runsPlant = true ∧ (r.w 2).toNat < 4) ∧
    (∃ (s : State) (t : Fin 16) (r : Req), s.Ready t r ∧ s.Allows t r 1 ∧ r.payload.length = 0 ∧
      s.runsPlant = true ∧ s.trcChans ≠ [] ∧ s.traceStreams = false) ∧
    (∃ (s : State) (t : Fin 16) (r : Req), s.Ready t r ∧ s.Allows t r 0 ∧ r.payload.length = 0 ∧
      s.trace.state = .armed) ∧
    (∃ (s : State) (t : Fin 16) (r : Req), s.Ready t r ∧ s.Allows t r 0 ∧ r.payload.length = 0 ∧
      s.trace.samples = []) ∧
    (∃ (s : State) (t : Fin 16) (r : Req), s.Ready t r ∧ s.Allows t r 0 ∧ r.payload.length = 1 ∧
      1 ≤ (r.w 2).toNat ∧ (r.w 2).toNat ≤ 16) ∧
    (∃ (s : State) (t : Fin 16) (r : Req), s.Ready t r ∧ s.Allows t r 1 ∧ r.payload.length = 2 ∧
      s.runsPlant = true ∧ 1 ≤ (r.w 2).toNat ∧ (r.w 2).toNat ≤ 16 ∧
      (((s.valve (r.w 2).toNat).state = .safe ∨ (s.valve (r.w 2).toNat).state = .standstill))) :=
  ⟨⟨base, 0, { seq := 5, tag := 7, payload := [0] }, by decide⟩,
    ⟨base, 0, { seq := 5, tag := 7, payload := [0, 0] }, by decide⟩,
    ⟨base.modLoop 0 (fun x => { x with state := .run }), 0, { seq := 5, tag := 7, payload := [0x100, 5] },
      by decide⟩,
    ⟨base.modLoop 0 (fun x => { x with state := .run }), 0, { seq := 5, tag := 7, payload := [0x200, 0] },
      by decide⟩,
    ⟨base.modLoop 0 (fun x => { x with state := .run }), 0, 0, { seq := 5, tag := 7, payload := [0] }, by decide⟩,
    ⟨base.modInj 0 (fun x => { x with running := true }), 0, { seq := 5, tag := 7, payload := [0] }, by decide⟩,
    ⟨{ base with cfg := { base.cfg with active := (paddr 0x24 0x50 0x10, some 0x80000000) :: base.cfg.active } },
      0, { seq := 5, tag := 7, payload := [] }, by decide⟩,
    ⟨{ base with trace := { base.trace with state := .armed } }, 0, { seq := 5, tag := 7, payload := [] },
      by decide⟩,
    ⟨base, 0, { seq := 5, tag := 7, payload := [] }, by decide⟩,
    ⟨base, 0, { seq := 5, tag := 7, payload := [1] }, by decide⟩,
    ⟨base, 0, { seq := 5, tag := 7, payload := [1, 7] }, by decide⟩⟩

theorem test_witness_FeedbackComplete :
    (∃ (s : State) (port : Fin 8) (levels : BitVec 3) (n : Int), s.unitUp 45 = true ∧ s.fbMode (port.val + 1) = 1 ∧
      (s.fb (port.val + 1)).levels.getLsbD 2 = true ∧ quadCount (s.fb (port.val + 1)).levels levels = some n) ∧
    (∃ (s : State) (port : Fin 8) (time : Nat), max s.now time % 62500 = 0 ∧ s.unitUp 45 = true ∧
      s.fbMode (port.val + 1) = 1 ∧ (s.fb (port.val + 1)).posSet = none ∧ (s.fb (port.val + 1)).leapSet = none) ∧
    (∃ (s : State) (port : Fin 8) (levels : BitVec 3) (n : Int), s.unitUp 45 = true ∧ s.fbMode (port.val + 1) = 1 ∧
      levels.getLsbD 2 = true ∧ (s.fb (port.val + 1)).levels.getLsbD 2 = false ∧
      quadCount (s.fb (port.val + 1)).levels levels = some n) ∧
    (∃ (s : State) (port : Fin 8) (time : Nat) (e : Nat), (s.fb (port.val + 1)).leapEnd = some e ∧
      e ≤ max s.now time) ∧
    (∃ (s : State), s.runsPlant = false) ∧
    (∃ (s : State) (t : Fin 16) (r : Req), s.Ready t r ∧ s.Allows t r 0 ∧ r.payload.length = 1 ∧
      1 ≤ (r.w 2).toNat ∧ (r.w 2).toNat ≤ 8) ∧
    (∃ (s : State) (t : Fin 16) (r : Req), s.Ready t r ∧ s.Allows t r 1 ∧ r.payload.length = 2 ∧
      s.runsPlant = true ∧ 1 ≤ (r.w 2).toNat ∧ (r.w 2).toNat ≤ 8 ∧
      ((s.fbMode (r.w 2).toNat = 1 ∨ s.fbMode (r.w 2).toNat = 2))) ∧
    (∃ (s : State) (t : Fin 16) (r : Req), s.Ready t r ∧ s.Allows t r 1 ∧ r.payload.length = 3 ∧ s.single = true ∧
      1 ≤ (r.w 2).toNat ∧ (r.w 2).toNat ≤ 8 ∧ s.fbMode (r.w 2).toNat ≠ 0 ∧ bitOf (r.w 4) 0 = true ∧
      leapMeets (s.parB 0x23 ((r.w 2).toNat - 1) 0xF) (s.fb (r.w 2).toNat).count (r.w 3) = false) ∧
    (∃ (s : State) (t : Fin 16) (r : Req), s.Ready t r ∧ s.Allows t r 1 ∧ r.payload.length = 3 ∧ s.single = true ∧
      1 ≤ (r.w 2).toNat ∧ (r.w 2).toNat ≤ 8 ∧ s.fbMode (r.w 2).toNat ≠ 0 ∧ bitOf (r.w 4) 0 = false) :=
  ⟨⟨base.modFb 1 (fun x => { x with levels := 4 }), 0, 5, 1, by decide⟩,
    ⟨base, 0, 0, by decide⟩,
    ⟨base, 0, 5, 1, by decide⟩,
    ⟨base.modFb 1 (fun x => { x with leapEnd := some 0 }), 0, 0, 0, by decide⟩,
    ⟨standby, by decide⟩,
    ⟨base, 0, { seq := 5, tag := 7, payload := [1] }, by decide⟩,
    ⟨base, 0, { seq := 5, tag := 7, payload := [1, 5] }, by decide⟩,
    ⟨base, 0, { seq := 5, tag := 7, payload := [1, 5, 1] }, by decide⟩,
    ⟨base, 0, { seq := 5, tag := 7, payload := [1, 5, 0] }, by decide⟩⟩

theorem test_witness_AnalogComplete :
    (∃ (s : State) (time : Nat) (i : Nat), time % 1000000 = 0 ∧ s.unitUp 44 = true ∧ i < 32 ∧
      s.anaMode (i + 1) = 0) ∧
    (∃ (s : State) (meas : List AnaMeas) (field : List Nat) (time : Nat) (i : Nat), time % 1000000 = 0 ∧
      s.unitUp 44 = true ∧ i < 32 ∧ ((s.anaMode (i + 1) = 1 ∨ s.anaMode (i + 1) = 2)) ∧ s.parN 0x20 i 1 = 0 ∧
      (s.ana (i + 1)).offOnce = false ∧ (s.ana (i + 1)).opened = false ∧ (s.ana (i + 1)).recovering = false ∧
      (s.ana (i + 1)).test = none ∧ 1850 < field.getD (anaGroup (i + 1)) 0 ∧ 7600 ≤ (meas.getD i {}).code ∧
      (meas.getD i {}).code ≤ 41000) ∧
    (∃ (s : State) (ch : Fin 32) (time : Nat) (a : Nat), (s.ana (ch.val + 1)).limitSince = some a ∧
      a + 100000000 ≤ max s.now time ∧ s.unitUp 44 = true) ∧
    (∃ (s : State) (ch : Fin 32) (time : Nat), (s.ana (ch.val + 1)).opened = true ∧
      (s.ana (ch.val + 1)).retrying = none ∧ (s.ana (ch.val + 1)).openedAt + 2000000000 ≤ max s.now time ∧
      s.unitUp 44 = true) ∧
    (∃ (s : State) (ch : Fin 32) (time : Nat) (t : Nat) (seq : Nat) (stop : Nat) (p : Packet),
      (s.ana (ch.val + 1)).test = some (t, seq, stop) ∧ stop ≤ max s.now time ∧
      (s.tenant t).executing = [{ pkt := p }] ∧ (s.tenant t).queued = [] ∧ p.req.seq = seq ∧ p.req.flags = 0 ∧
      (s.ana (ch.val + 1)).hart = none) ∧
    (∃ (s : State) (ch : Fin 32) (h : HartRun) (p : Packet), (s.ana (ch.val + 1)).hart = some h ∧
      (s.tenant h.tenant).executing = [{ pkt := p }] ∧ (s.tenant h.tenant).queued = [] ∧ p.req.seq = h.seq ∧
      p.req.flags = 0) ∧
    (∃ (s : State) (ch : Fin 32) (h : HartRun), (s.ana (ch.val + 1)).hart = some h) ∧
    (∃ (s : State) (t : Fin 16) (r : Req), s.Ready t r ∧ s.Allows t r 0 ∧ r.payload.length = 1 ∧ 1 ≤ chanOf r ∧
      chanOf r ≤ 32) ∧
    (∃ (s : State) (t : Fin 16) (r : Req), s.Ready t r ∧ s.Allows t r 1 ∧ r.payload.length = 1 ∧
      s.runsPlant = true ∧ 1 ≤ chanOf r ∧ chanOf r ≤ 32 ∧ s.anaMode (chanOf r) ≠ 0 ∧ s.anaMode (chanOf r) ≠ 3 ∧
      (s.ana (chanOf r)).opened = false ∧ (s.ana (chanOf r)).test = none) ∧
    (∃ (s : State) (n : Nat) (t : Fin 16) (r : Req), s.Ready t r ∧ s.Allows t r 1 ∧ r.payload.length = n ∧
      hartLen r.payload = true ∧ s.runsPlant = true ∧ 1 ≤ chanOf r ∧ chanOf r ≤ 32 ∧
      s.parB 0x20 (chanOf r - 1) 4 = true ∧ (s.ana (chanOf r)).hart = none) :=
  ⟨⟨base, 5000000000, 1, by decide⟩,
    ⟨base, [{ code := 8000 }], [2400, 2400, 2400, 2400], 5000000000, 0, by decide⟩,
    ⟨base.modAna 1 (fun x => { x with limitSince := some 0 }), 0, 0, 0, by decide⟩,
    ⟨base.modAna 1 (fun x => { x with opened := true }), 0, 0, by decide⟩,
    ⟨(base.modAna 1 (fun x => { x with test := some (0, 5, 0) })).modTenant 0 (fun x => { x with credits := 31, executing := [{ pkt := { req := { seq := 5 } } }] }),
      0, 0, 0, 5, 0, { req := { seq := 5 } }, by decide⟩,
    ⟨(base.modAna 1 (fun x => { x with hart := some { seq := 5 } })).modTenant 0 (fun x => { x with credits := 31, executing := [{ pkt := { req := { seq := 5 } } }] }),
      0, { seq := 5 }, { req := { seq := 5 } }, by decide⟩,
    ⟨base.modAna 1 (fun x => { x with hart := some { seq := 5 } }), 0, { seq := 5 }, by decide⟩,
    ⟨base, 0, { seq := 5, tag := 7, payload := [1] }, by decide⟩,
    ⟨base, 0, { seq := 5, tag := 7, payload := [1] }, by decide⟩,
    ⟨base, 5, 0, { seq := 5, tag := 7, payload := [1, 0, 0, 0x00000004, 0x01020304] }, by decide⟩⟩

theorem test_witness_DigitalComplete :
    (∃ (s : State), s.unitUp 45 = true) ∧
    (∃ (s : State) (k : Fin 32), (s.dout (k.val + 1)).on = true) ∧
    (∃ (s : State) (k : Fin 32) (time : Nat) (a : Nat), (s.dout (k.val + 1)).shutAt = some a ∧
      a + s.parN 0x21 (0x40 + k.val) 0 * 1000000 ≤ max s.now time ∧ (s.dout (k.val + 1)).cmd = true ∧
      s.runsPlant = true ∧ s.unitUp 45 = true ∧ s.vsupLow.get (doGroup (k.val + 1)) = false) ∧
    (∃ (s : State) (k : Fin 32) (time : Nat), s.runsPlant = true ∧ s.unitUp 45 = true ∧
      (s.dout (k.val + 1)).changedAt + 5000000 < max s.now time) ∧
    (∃ (s : State), s.runsPlant = true ∧ s.unitUp 45 = true) ∧
    (∃ (s : State) (t : Fin 16) (r : Req), s.Ready t r ∧ s.Allows t r 0 ∧ r.payload.length = 0 ∧
      s.runsPlant = true) :=
  ⟨⟨base, by decide⟩,
    ⟨base.modDo 1 (fun x => { x with on := true, cmd := true }), 0, by decide⟩,
    ⟨base.modDo 1 (fun x => { x with shutAt := some 0, cmd := true }), 0, 0, 0, by decide⟩,
    ⟨base, 0, 0, by decide⟩,
    ⟨base.modDo 1 (fun x => { x with cmd := true }), by decide⟩,
    ⟨base, 0, { seq := 5, tag := 7, payload := [] }, by decide⟩⟩

theorem test_witness_CanComplete :
    (∃ (s : State) (k : Fin 8), s.canLive k = true ∧ s.canMonitor k = false) ∧
    (∃ (s : State) (k : Fin 8) (f : CanFrame) (o : Nat), s.canLive k = true ∧ (s.can k).recCnt = 0 ∧
      f.remote = false ∧ s.poolCan k 1 = true ∧ s.rxObject k f = some o) ∧
    (∃ (s : State) (k : Fin 8) (f : CanFrame), s.canLive k = true ∧ (s.can k).recCnt = 0 ∧ f.remote = false ∧
      s.poolCan k 1 = true ∧ s.rxObject k f = none) ∧
    (∃ (s : State) (k : Fin 8) (o : Fin 64) (sof : Nat) (t0 : Nat) (tq : Nat) (d : List Byte), s.canLive k = true ∧
      s.canMonitor k = false ∧ ((s.can k).objs.get o).pend = some (t0, [(d, tq)]) ∧ tq ≤ sof) ∧
    (∃ (s : State) (k : Fin 8) (o : Fin 64) (time : Nat) (t0 : Nat) (vs : List (List Byte × Nat)),
      ((s.can k).objs.get o).pend = some (t0, vs) ∧ t0 + s.parN 0x22 k 0xD * 1000000 ≤ max s.now time) ∧
    (∃ (s : State) (k : Fin 8) (time : Nat) (f : CanFrame), (s.can k).dispatch = [f] ∧
      (s.can k).dispAt.get f.id + s.parN 0x22 k 0xD * 1000000 ≤ max s.now time) ∧
    (∃ (s : State) (k : Fin 8), (s.can k).recovering = true ∧ s.unitUp 46 = true) ∧
    (∃ (s : State) (k : Nat) (t : Fin 16) (r : Req), s.Ready t r ∧ s.Allows t r 0 ∧ r.payload.length = 1 ∧
      canOf r = some k) ∧
    (∃ (s : State) (k : Nat) (t : Fin 16) (r : Req), s.Ready t r ∧ s.Allows t r 1 ∧ r.payload.length = 1 ∧
      canOf r = some k ∧ s.runsPlant = true ∧ (s.can k).state = 2) ∧
    (∃ (s : State) (k : Nat) (t : Fin 16) (r : Req), s.Ready t r ∧ s.Allows t r 0 ∧ r.payload.length = 1 ∧
      canOf r = some k) :=
  ⟨⟨base.modCan 0 (fun x => { x with state := 0 }), 0, by decide⟩,
    ⟨{ base with cfg := { base.cfg with active := (paddr 0x22 0 0x100, some 0x80000005) :: (paddr 0x22 0 0x101, some 0) :: base.cfg.active } }.modCan 0 (fun x => { x with state := 0 }),
      0, { id := 5, data := [1, 2] }, 0, by decide⟩,
    ⟨base.modCan 0 (fun x => { x with state := 0 }), 0, { id := 9, data := [1, 2] }, by decide⟩,
    ⟨base.modCan 0 (fun x => { x with state := 0, objs := [(0, { pend := some (0, [([1, 2], 0)]) })] }), 0, 0, 5,
      0, 0, [1, 2], by decide⟩,
    ⟨base.modCan 0 (fun x => { x with state := 0, objs := [(0, { pend := some (0, [([1, 2], 0)]) })] }), 0, 0, 0,
      0, [([1, 2], 0)], by decide⟩,
    ⟨base.modCan 0 (fun x => { x with state := 0, dispatch := [{ id := 5, data := [] }] }), 0, 0,
      { id := 5, data := [] }, by decide⟩,
    ⟨base.modCan 0 (fun x => { x with state := 2, recovering := true, tec := 256 }), 0, by decide⟩,
    ⟨base, 0, 0, { seq := 5, tag := 7, payload := [1] }, by decide⟩,
    ⟨base.modCan 0 (fun x => { x with state := 2 }), 0, 0, { seq := 5, tag := 7, payload := [1] }, by decide⟩,
    ⟨base.modCan 0 (fun x => { x with state := 0 }), 0, 0, { seq := 5, tag := 7, payload := [1] }, by decide⟩⟩

theorem test_witness_SafetyComplete :
    (∃ (s : State), SafeEval.live s.safe = true) ∧
    (∃ (s : State) (k : Fin 4) (readA : BitVec 24) (i : Nat) (f : Nat), SafeEval.live s.safe = true ∧ i < 24 ∧
      siTest (SafeEval.set_ s.safe) (i + 1) = k.val + 1 ∧ (s.safe.inA.get (i + 1)).raw = true ∧
      readA.getLsbD i = true ∧ fnOfInput (SafeEval.set_ s.safe) (i + 1) = some f) ∧
    (∃ (s : State), s.safe.powered = true) ∧
    (∃ (s : State) (volt : Nat), s.safe.powered = true ∧ s.safe.band = false ∧ 3000 < volt ∧ volt ≤ 3200) ∧
    (∃ (s : State) (volt : Nat), s.safe.powered = false ∧ 2040 < volt ∧ volt ≤ 3200 ∧ s.safe.setGood = true ∧
      s.safe.confirmed = true) ∧
    (∃ (s : State), s.safe.powered = true ∧ s.keeperUp = true) ∧
    (∃ (s : State), s.single = false ∧ s.linkUp = true ∧ s.keeperUp = true) ∧
    (∃ (s : State), s.single = false ∧ s.linkUp = true) ∧
    (∃ (s : State) (a : Nat) (t : Fin 16) (r : Req), s.Ready t r ∧ s.Allows t r 0 ∧ r.payload.length = 1 ∧
      r.w 2 = 0 ∧ s.safe.own.at_ = some a) ∧
    (∃ (s : State) (t : Fin 16) (r : Req), s.Ready t r ∧ s.Allows t r 2 ∧ r.payload.length = 1 ∧
      s.safe.state = .unconfirmed ∧ checkValue s.safe.setA = r.w 2 ∧ checkValue s.safe.setB = r.w 2) ∧
    (∃ (s : State) (t : Fin 16) (r : Req), s.Ready t r ∧ s.Allows t r 0 ∧ r.payload.length = 1 ∧
      r.w 2 &&& 0xFFFFF0F0 = 0 ∧ SafeEval.live s.safe = true) :=
  ⟨⟨{ base with safe := { base.safe with powered := true, state := .run, pairs := [(1, { state := .on })] } },
      by decide⟩,
    ⟨{ base with safe := { base.safe with powered := true, state := .run, setGood := true, setA := [(paddr 0x30 0x40 0, some 1), (paddr 0x30 0x10 0, some 1), (paddr 0x30 0x10 1, some 0x201)], inA := [(1, { raw := true })] } },
      0, 1, 0, 0, by decide⟩,
    ⟨{ base with safe := { base.safe with powered := true, state := .run } }, by decide⟩,
    ⟨{ base with safe := { base.safe with powered := true, state := .run } }, 3100, by decide⟩,
    ⟨{ base with safe := { base.safe with setGood := true, confirmed := true } }, 2400, by decide⟩,
    ⟨{ base with safe := { base.safe with powered := true, state := .run, events := [(3, 5)] } }, by decide⟩,
    ⟨active, by decide⟩,
    ⟨active, by decide⟩,
    ⟨{ base with safe := { base.safe with own := { at_ := some 0, words := [1] } } }, 0, 0,
      { seq := 5, tag := 7, payload := [0] }, by decide⟩,
    ⟨{ base with safe := { base.safe with powered := true, state := .unconfirmed, setGood := true } }, 0,
      { seq := 5, tag := 7, payload := [checkValue []] }, by decide +kernel⟩,
    ⟨{ base with safe := { base.safe with powered := true, state := .run, pairs := [(1, { state := .on })] } }, 0,
      { seq := 5, tag := 7, payload := [1] }, by decide⟩⟩

theorem test_witness_StartUpComplete :
    (∃ (s : State) (volt : Nat), s.power.state = .off ∧ 1800 ≤ volt) ∧
    (∃ (s : State), s.power.state = .run ∧ s.power.keeper = .starting ∧ s.ident.recovery = false ∧
      CfgCopy.good s.cfg.copyA = true ∧ CfgCopy.good s.cfg.copyB = true ∧
      s.cfg.copyA.generation = s.cfg.copyB.generation) ∧
    (∃ (s : State), s.keeperUp = true ∧ s.cfg.repair = some 0) ∧
    (∃ (s : State), s.keeperUp = true ∧ s.cfg.repair = some 1) ∧
    (∃ (s : State) (time : Nat), s.keeperUp = true ∧ s.inRecovery = false ∧ s.pair.stayOffline = false ∧
      s.ident.booted ≤ 1 ∧ (s.fwSlot s.ident.booted).state = .trial ∧
      s.ident.bootedAt + 600000000000 ≤ max s.now time) ∧
    (∃ (s : State) (c : Nat), s.cfg.defaulted = true ∧ s.power.state = .run ∧ s.power.keeper = .safe ∧ c < 64 ∧
      (s.chain c).cableA = true ∧ s.bankUp .a = true) ∧
    (∃ (s : State) (time : Nat) (a : Nat), s.cfg.resetAt = some a ∧ a ≤ max s.now time ∧ s.power.state = .run) ∧
    (∃ (s : State) (c : Fin 64), s.portIdle c .a = true) :=
  ⟨⟨{ base with power := { base.power with state := .off } }, 2400, by decide⟩,
    ⟨{ base with power := { base.power with keeper := .starting }, cfg := { base.cfg with copyA := { crcGood := true, checkGood := true, generation := 3, params := base.cfg.active }, copyB := { crcGood := true, checkGood := true, generation := 3, params := base.cfg.active } } },
      by decide⟩,
    ⟨{ base with cfg := { base.cfg with repair := some 0, copyB := { generation := 4 } } }, by decide⟩,
    ⟨{ base with cfg := { base.cfg with repair := some 1, copyA := { generation := 4 } } }, by decide⟩,
    ⟨{ base with ident := { base.ident with slot0 := { state := .trial, words := [0x4B460001] }, slot1 := { state := .active } } },
      600000000000, by decide⟩,
    ⟨{ base with cfg := { base.cfg with defaulted := true }, power := { base.power with keeper := .safe } }.modChain 0 (fun x => { x with cableA := true }),
      0, by decide⟩,
    ⟨{ base with cfg := { base.cfg with resetAt := some 0 } }, 0, 0, by decide⟩,
    ⟨base, 5, by decide⟩⟩

theorem test_witness_FirmwareAndPowerOpcodesComplete :
    (∃ (s : State) (t : Fin 16) (r : Req), s.Ready t r ∧ s.Allows t r 0 ∧ r.payload.length = 0) ∧
    (∃ (s : State) (t : Fin 16) (r : Req), s.Ready t r ∧ s.Allows t r 1 ∧ r.payload.length = 1 ∧
      (r.w 2).toNat ≤ 1 ∧ s.single = true ∧ (s.fwSlot (r.w 2).toNat).state = .inactive ∧
      s.ident.antiRollback ≤ FwSlot.rollback (s.fwSlot (r.w 2).toNat)) ∧
    (∃ (s : State) (t : Fin 16) (r : Req), s.Ready t r ∧ s.Allows t r 0 ∧ r.payload.length = 1 ∧ r.w 2 = 0) ∧
    (∃ (s : State) (t : Fin 16) (r : Req), s.Ready t r ∧ s.Allows t r 2 ∧ r.payload.length = 0) ∧
    (∃ (s : State) (t : Fin 16) (r : Req), s.Ready t r ∧ s.Allows t r 0 ∧ r.payload.length = 0) ∧
    (∃ (s : State) (t : Fin 16) (r : Req), s.Ready t r ∧ s.Allows t r 1 ∧ r.payload.length = 0 ∧ s.single = true ∧
      s.hibernateRefusal = none ∧ s.power.hibAsk = none) :=
  ⟨⟨base, 0, { seq := 5, tag := 7, payload := [] }, by decide⟩,
    ⟨{ base with ident := { base.ident with slot1 := { state := .inactive } } }, 0,
      { seq := 5, tag := 7, payload := [1] }, by decide⟩,
    ⟨{ base with ident := { base.ident with deviceCert := [1, 2, 3] } }, 0, { seq := 5, tag := 7, payload := [0] },
      by decide⟩,
    ⟨{ base with ident := { base.ident with operatorCert := some [1] } }, 0, { seq := 5, tag := 7, payload := [] },
      by decide⟩,
    ⟨base, 0, { seq := 5, tag := 7, payload := [] }, by decide⟩,
    ⟨{ base with strs := [], parts := [] }, 0, { seq := 5, tag := 7, payload := [] }, by decide⟩⟩

theorem test_witness_PowerEventsComplete :
    (∃ (s : State) (d : Fin 50), d.val ≠ 0 ∧ s.up d = true) ∧
    (∃ (s : State) (d : Fin 50) (time : Nat) (a : Nat), s.power.state = .run ∧ (s.power.doms.get d).lost = true ∧
      (s.power.doms.get d).retryAt = some a ∧ a ≤ max s.now time ∧
      ((s.power.doms.get d).attempts.filter (fun b => decide (max s.now time < b + 60000000000))).length < 3) ∧
    (∃ (s : State) (d : Fin 50) (time : Nat) (w : Nat), (s.power.doms.get d).wake = some w ∧
      (s.power.doms.get d).state = .idle ∧ w ≤ max s.now time + 2500) ∧
    (∃ (s : State), s.power.state ≠ .off ∧ s.canRecord 3) ∧
    (∃ (s : State), s.isOn = true) ∧
    (∃ (s : State), s.power.state = .stopped ∧ s.power.brownStop = true ∧ s.power.thermStop = false) ∧
    (∃ (s : State), s.power.state ≠ .off) ∧
    (∃ (s : State) (time : Nat), s.power.state = .run ∧ s.inRecovery = false ∧
      s.power.confirmAt + 100000000 ≤ max s.now time) ∧
    (∃ (s : State), s.power.state = .run ∧ s.inRecovery = false ∧ s.single = true ∧ s.power.faultResets = []) ∧
    (∃ (s : State) (tj : Int), tj < 12500 ∧ s.power.state ≠ .off) ∧
    (∃ (s : State) (tj : Int), 12500 ≤ tj ∧ 1 ≤ s.power.hot ∧ s.isOn = true) ∧
    (∃ (s : State) (time : Nat) (a : Nat), s.power.state = .stopped ∧ s.power.thermStop = true ∧
      s.power.coolSince = some a ∧ a + 60000000000 ≤ max s.now time ∧ s.parB 0x01 0 4 = true ∧
      s.power.brownStop = false) ∧
    (∃ (s : State) (by_ : WakeBy), s.power.state = .hibernate ∧ s.wakes by_ = true) :=
  ⟨⟨base, 45, by decide⟩,
    ⟨{ base with power := { base.power with doms := base.power.doms.set 45 { lost := true, retryAt := some 0 } } },
      45, 0, 0, by decide⟩,
    ⟨{ base with power := { base.power with doms := base.power.doms.set 1 { state := .idle, wake := some 0 } } },
      1, 0, 0, by decide⟩,
    ⟨base, by decide⟩,
    ⟨base, by decide⟩,
    ⟨{ base with power := { base.power with state := .stopped, brownStop := true } }, by decide⟩,
    ⟨base, by decide⟩,
    ⟨base, 0, by decide⟩,
    ⟨base, by decide⟩,
    ⟨base, 5000, by decide⟩,
    ⟨{ base with power := { base.power with hot := 1 } }, 12600, by decide⟩,
    ⟨{ base with power := { base.power with state := .stopped, thermStop := true, coolSince := some 0 } },
      60000000000, 0, by decide⟩,
    ⟨{ base with power := { base.power with state := .hibernate } }, .eov, by decide⟩⟩

theorem test_witness_RecorderAndDisplayComplete :
    (∃ (s : State) (x : Rec) (rest : List Rec) (t : Fin 16) (r : Req), s.Ready t r ∧ s.Allows t r 0 ∧
      r.payload.length = 0 ∧ s.recorder.recs = x :: rest) ∧
    (∃ (s : State), s.power.state = .run ∧ s.up 41 = true) ∧
    (∃ (s : State) (p : Nat), s.power.state = .run ∧ s.up 41 = true ∧ p < 12 ∧
      (s.display.zones.get p).pending = true) ∧
    (∃ (s : State) (p : Fin 12), s.viewLive p = true) ∧
    (∃ (s : State) (time : Nat) (a : Nat), s.display.testUntil = some a ∧ a ≤ max s.now time) ∧
    (∃ (s : State) (t : Fin 16) (r : Req), s.Ready t r ∧ s.Allows t r 0 ∧ r.payload.length = 0) ∧
    (∃ (s : State) (t : Fin 16) (r : Req), s.Ready t r ∧ s.Allows t r 0 ∧ r.payload.length = 0) :=
  ⟨⟨{ base with recorder := { base.recorder with recs := [{ source := 1 }] } }, { source := 1 }, [], 0,
      { seq := 5, tag := 7, payload := [] }, by decide⟩,
    ⟨base, by decide⟩,
    ⟨{ base with display := { base.display with zones := [(0, { pending := true, comLo := 5 })] } }, 0, by decide⟩,
    ⟨base, 0, by decide⟩,
    ⟨{ base with display := { base.display with testUntil := some 0 } }, 0, 0, by decide⟩,
    ⟨base, 0, { seq := 5, tag := 7, payload := [] }, by decide⟩,
    ⟨base, 0, { seq := 5, tag := 7, payload := [] }, by decide⟩⟩

theorem test_witness_ReplyCreditReturns :
    (∃ (s : State) (p : Fin 12) (t : Nat) (w : Word) (ws : List Word) (rest : List Unread),
      s.windowTenant p = some t ∧ (s.tenant t).unread = { words := w :: ws } :: rest ∧
      (s.tenant t).session = none ∧ (s.tenant t).queued.all (fun q => !Packet.malformed q) = true) :=
  ⟨base.modTenant 1 (fun x => { x with credits := 31, unread := [{ words := [7] }] }), 0, 1, 7, [], [], by decide⟩

theorem test_witness_PoolAuditBooks :
    (∃ (s : State) (t : Fin 16) (r : Req), s.Ready t r ∧ s.Allows t r 0 ∧ r.payload.length = 0 ∧ s.poolBalanced) :=
  ⟨base, 0, { seq := 5, tag := 7, payload := [] }, by decide⟩

theorem test_witness_RecorderCleared :
    (∃ (s : State) (t : Fin 16) (r : Req), s.Ready t r ∧ s.Allows t r 0 ∧ r.payload.length = 0 ∧ s.tntRole t < 2) ∧
    (∃ (s : State) (t : Fin 16) (r : Req), s.Ready t r ∧ s.Allows t r 2 ∧ r.payload.length = 0 ∧
      s.canRecord (2 + 1024) ∧ s.recorder.waiting.get 0x50 = [] ∧ s.recorder.lost.get 0x50 = 0) ∧
    (∃ (s : State) (st : OutStream) (k : Fin 16) (t : Fin 16) (r : Req), s.Ready t r ∧ s.Allows t r 2 ∧
      r.payload.length = 0 ∧ st.object = 4 ∧ (s.tenant k).outStream = some st ∧ (s.tenant k).waitingStreams = [] ∧
      0 < (s.tenant k).credits) :=
  ⟨⟨base, 3, { seq := 5, tag := 7, payload := [] }, by decide⟩,
    ⟨{ base with recorder := { base.recorder with recs := [{ source := 1 }], overwritten := 3 } }, 0,
      { seq := 5, tag := 7, payload := [] }, by decide⟩,
    ⟨base.modTenant 2 (fun x => { x with outStream := some { object := 4 } }), { object := 4 }, 2, 0,
      { seq := 5, tag := 7, payload := [] }, by decide⟩⟩

theorem test_witness_QuadratureCounts :
    let at_ (l : BitVec 3) : State := base.modFb 1 (fun x => { x with levels := l })
    ∀ old new : BitVec 3, old.getLsbD 2 = new.getLsbD 2 → (at_ old).up 45 = true ∧ (at_ old).fbMode 1 = 1 ∧
      ((at_ old).fb 1).levels.getLsbD 2 = new.getLsbD 2 ∧ max (at_ old).now 5000000000 % 62500 = 0 := by decide

theorem test_witness_RolesDeny : ∃ (s : State) (t : Fin 16) (r : Req), s.Ready t r ∧ r.flags = 0 ∧
    r.payload.length = 1 ∧ s.tntRole t < 1 := ⟨base, 3, { seq := 5, payload := [0] }, by decide⟩

theorem test_witness_RolesDeny_commission : ∃ (s : State) (t : Fin 16) (r : Req), s.Ready t r ∧ r.flags = 0 ∧
    r.payload.length = 0 ∧ s.tntRole t = 1 :=
  ⟨{ base with cfg := { base.cfg with active := (paddr 0x01 0x13 1, some 1) :: base.cfg.active } }, 3, { seq := 5 }, by decide⟩

theorem test_witness_StepTakesFront : ∃ (s : State) (c : Instr) (rest : List Instr), s.pending = c :: rest :=
  ⟨{ base with pending := [.croakInsert, .cmdWindow] }, _, _, rfl⟩

/-- The module after one Croak instant: a step that changes the state, from a state with the invariant. -/
def waiting : State := { State.reset with now := 7, pending := [.croakInsert] }

theorem test_witness_invariants : ∃ u : State, waiting.memoriesCanonical ∧ waiting.poolBalanced ∧
    waiting.booksBounded ∧ waiting.creditsBalanced ∧ waiting.stacksBounded ∧ waiting.waitsBounded ∧
    step waiting = .next u ∧ u.now ≠ waiting.now :=
  ⟨_, fun _ => ⟨rfl, rfl, rfl⟩, by decide, fun _ => ⟨Nat.zero_le _, Nat.zero_le _⟩, fun _ => rfl, fun _ => Nat.zero_le _,
    fun _ => Nat.zero_le _, rfl, by decide⟩

/-- A command of each of the four frames answers a next state and changes one of the regions it names. -/
theorem test_witness_frames :
    (∃ u, exec .croakInsert base = .next u ∧ u.now ≠ base.now) ∧
    (∃ u, exec (.cwTxcommitDiscard 0) (base.modTenant 1 (fun x => { x with txHeld := true })) = .next u ∧
      (u.tenant 1).txHeld = false) ∧
    (∃ u, exec (.anaMiswireOpen 0 0) (base.modAna 1 (fun x => { x with opened := false })) = .next u) ∧
    (∃ u, exec (.dspCommitWrite 0) base = .next u ∧ (u.display.zones.get 0).pending = true) := by
  refine ⟨⟨_, rfl, by decide⟩, ⟨_, rfl, by decide⟩, ⟨_, rfl⟩, ⟨_, rfl, by decide⟩⟩

/-- A command of each kind of unit answers a next state for one unit beside another. -/
theorem test_witness_OtherChannelsStay :
    (∃ u, (2 : Nat) ≠ (0 : Fin 32).val + 1 ∧ exec (.anaMiswireOpen 0 0) base = .next u) ∧
    (∃ u, (2 : Nat) ≠ (0 : Fin 32).val + 1 ∧ exec (.doOverload 0 0) base = .next u) ∧
    (∃ u, (2 : Nat) ≠ (0 : Fin 8).val + 1 ∧ exec (.fbEdge 0 1 0) base = .next u) ∧
    (∃ u, (2 : Nat) ≠ (0 : Fin 16).val + 1 ∧ exec (.valveUpdate 0 0) base = .next u) ∧
    (∃ u, (1 : Nat) ≠ (0 : Fin 8).val ∧ exec (.canRecoveryDone 0 0) base = .next u) ∧
    (∃ u, (1 : Nat) ≠ (0 : Fin 64).val ∧ exec (.prechargeStart 0 0) base = .next u) ∧
    (∃ u, (1 : Nat) ≠ (0 : Fin 13).val ∧ exec (.evfClaimRead 0) base = .next u) := by
  refine ⟨⟨_, by decide, rfl⟩, ⟨_, by decide, rfl⟩, ⟨_, by decide, rfl⟩, ⟨_, by decide, rfl⟩, ⟨_, by decide, rfl⟩,
    ⟨_, by decide, rfl⟩, ⟨_, by decide, rfl⟩⟩

end Sys2Proof.Tests
end

section
namespace Sys2Proof.Machine

/-! ## Reading off what an operation leaves -/

/-- A region that an operation does not list holds the same before and after. -/
theorem Only.keeps {l : List Region} {s u : State} (h : Only l s u) (r : Region) (hr : l.contains r = false) :
    r.same s u :=
  h.2.1 r (by simpa using hr)

/-- What the power unit holds beside the domains and the events of HIBERNATE stays where the supply region does. -/
theorem Only.supplied {α : Type} {l : List Region} {s u : State} (h : Only l s u) (f : Power → α)
    (hf : ∀ x, f { x with heldEvents := [], heldLost := 0, doms := [] } = f x) (hl : l.contains .supply = false) :
    f u.power = f s.power := by
  have e := congrArg f (h.keeps .supply hl)
  rwa [hf, hf] at e

/-! ## Domains that wake (R20) -/

/-- The record of domain d. -/
def State.dom (s : State) (d : Nat) : Domain := s.power.doms.get d

/-- A domain as it was, or taken from IDLE to RUN with its entry kept (R20). -/
def WokenFrom (x y : Domain) : Prop := y = x ∨ (x.state = .idle ∧ y = { x with state := .run })

theorem WokenFrom.trans {x y z : Domain} (h : WokenFrom x y) (k : WokenFrom y z) : WokenFrom x z := by
  rcases h with rfl | ⟨hx, rfl⟩
  · exact k
  · rcases k with rfl | ⟨hy, -⟩
    · exact .inr ⟨hx, rfl⟩
    · cases hy

/-- From s to u no domain changes but by a wake from IDLE (R20). -/
def Wakes (s u : State) : Prop := ∀ d : Nat, WokenFrom (s.dom d) (u.dom d)

theorem Wakes.refl (s : State) : Wakes s s := fun _ => .inl rfl

theorem Wakes.trans {s t u : State} (h : Wakes s t) (k : Wakes t u) : Wakes s u := fun d => (h d).trans (k d)

/-- An operation that does not list the domains wakes none. -/
theorem Only.wakes {l : List Region} {s u : State} (h : Only l s u) (hl : l.contains .doms = false) : Wakes s u :=
  fun d => .inl (congrArg (fun m => Map.get m d) (h.keeps .doms hl))

theorem forEach_wakes {α : Type} (l : List α) (s : State) (f : State → α → State) (h : ∀ t x, Wakes t (f t x)) :
    Wakes s (forEach l s f) :=
  forEach_keeps (Wakes s) l s f (Wakes.refl s) (fun t x _ ht => ht.trans (h t x))

theorem doIf_wakes (b : Bool) (s : State) (f : State → State) (h : Wakes s (f s)) : Wakes s (doIf b s f) :=
  doIf_keeps (Wakes s) b s f (Wakes.refl s) (fun _ => h)

theorem Wakes.ite {p : Prop} [Decidable p] {s t u : State} (h : p → Wakes s t) (k : ¬ p → Wakes s u) :
    Wakes s (if p then t else u) := by
  split
  · exact h ‹_›
  · exact k ‹_›

/-- A turn that runs under a condition. -/
theorem forEach_ite_wakes {α : Type} (l : List α) (s : State) (q : State → α → Prop) [∀ t x, Decidable (q t x)]
    (f : State → α → State) (h : ∀ t x, Wakes t (f t x)) :
    Wakes s (forEach l s (fun s x => if q s x then f s x else s)) :=
  forEach_wakes l s _ (fun t x => Wakes.ite (fun _ => h t x) (fun _ => Wakes.refl t))

/-- A domain that is down stays as it is. -/
theorem Wakes.down {s u : State} (h : Wakes s u) (d : Nat) (hd : (s.dom d).state = .down) : u.dom d = s.dom d := by
  rcases h d with e | ⟨e, -⟩
  · exact e
  · rw [hd] at e; cases e

/-- A domain in RUN stays as it is. -/
theorem Wakes.running {s u : State} (h : Wakes s u) (d : Nat) (hd : (s.dom d).state = .run) : u.dom d = s.dom d := by
  rcases h d with e | ⟨e, -⟩
  · exact e
  · rw [hd] at e; cases e

theorem State.modDom_dom_same (s : State) (d : Nat) (f : Domain → Domain) : (s.modDom d f).dom d = f (s.dom d) := by
  simp [State.modDom, State.dom, State.modPower, Map.modify]

theorem State.modDom_dom_other (s : State) (d k : Nat) (f : Domain → Domain) (h : k ≠ d) :
    (s.modDom d f).dom k = s.dom k := by
  simp [State.modDom, State.dom, State.modPower, Map.modify, Map.get_set_other _ _ _ _ h]

theorem State.awake_wakes (s : State) (d : Nat) : Wakes s (s.awake d) := by
  unfold State.awake
  split
  · rename_i hi
    intro k
    by_cases hk : k = d
    · subst hk
      exact .inr ⟨beq_iff_eq.mp hi, State.modDom_dom_same s k _⟩
    · exact .inl (State.modDom_dom_other s d k _ hk)
  · exact Wakes.refl s

/-! ### Events and the tenants' books -/

theorem State.signal_wakes (s : State) (v : Nat) : Wakes s (s.signal v) :=
  doIf_wakes _ _ _ ((State.awake_wakes s _).trans ((State.emit_only ..).wakes rfl))

theorem State.tryTask_wakes (s : State) (p pr k : Nat) : Wakes s (s.tryTask p pr k) := by
  unfold State.tryTask
  split
  · exact Wakes.refl s
  · exact Wakes.ite (fun _ => State.awake_wakes s _) (fun _ => Wakes.refl s)

theorem State.raise_wakes (s : State) (v n : Nat) : Wakes s (s.raise v n) := by
  have tasks : ∀ t : State, Wakes t (t.runTasks v) := fun t =>
    Wakes.ite (fun _ => forEach_wakes _ _ _ (fun u pr => forEach_wakes _ _ _ (fun w k => State.tryTask_wakes w v pr k)))
      (fun _ => Wakes.refl t)
  unfold State.raise
  refine Wakes.ite (fun _ => ?_) (fun _ => Wakes.refl s)
  have h1 : Wakes s (s.modView v (fun w => w.event n)) := Wakes.refl s
  exact Wakes.ite (fun _ => (h1.trans (tasks _)).trans (State.signal_wakes _ v)) (fun _ => h1.trans (State.signal_wakes _ v))

theorem State.event_wakes (s : State) (v n : Nat) : Wakes s (s.event v n) := doIf_wakes _ _ _ (State.raise_wakes s v n)

theorem State.eventAll_wakes (s : State) (n : Nat) : Wakes s (s.eventAll n) :=
  forEach_wakes _ _ _ (fun t v => State.event_wakes t v n)

theorem State.windowEvent_wakes (s : State) (t n : Nat) : Wakes s (s.windowEvent t n) :=
  Wakes.ite (fun _ => State.event_wakes s _ n) (fun _ => Wakes.refl s)

theorem State.modTenant_wakes (s : State) (t : Nat) (f : Tenant → Tenant) : Wakes s (s.modTenant t f) := Wakes.refl s

theorem State.toUnread_wakes (s : State) (t : Nat) (r : Reply) : Wakes s (s.toUnread t r) := by
  unfold State.toUnread
  have h1 : Wakes s ((s.modTenant t (fun x => Tenant.carries { x with unread := x.unread ++ [{ words := replyWords r }] }
    s.now)).emit (.reply t r)) := Wakes.refl s
  exact h1.trans (doIf_wakes _ _ _ (State.windowEvent_wakes _ t 288))

theorem State.enqueue_wakes (s : State) (t : Nat) (p : Packet) : Wakes s (s.enqueue t p) :=
  Wakes.ite (fun _ => Wakes.refl s) (fun _ => (State.awake_wakes s 33).trans (State.modTenant_wakes _ t _))

theorem State.answerMalformed_wakes (s : State) (t : Nat) (p : Packet) : Wakes s (s.answerMalformed t p) := by
  unfold State.answerMalformed
  refine Wakes.ite (fun _ => (State.modTenant_wakes s t _).trans (State.toUnread_wakes _ t _)) (fun _ => ?_)
  split
  · exact (State.modTenant_wakes s t _).trans (State.toUnread_wakes _ t _)
  · exact ((State.modTenant_wakes s t _).trans (State.modTenant_wakes _ t _)).trans (State.toUnread_wakes _ t _)

theorem State.drain_wakes (fuel : Nat) (s : State) (t : Nat) : Wakes s (State.drain fuel s t) := by
  induction fuel generalizing s with
  | zero => exact Wakes.refl s
  | succ n ih =>
    unfold State.drain
    split
    · exact Wakes.ite (fun _ => (State.answerMalformed_wakes s t _).trans (ih _)) (fun _ => Wakes.refl s)
    · exact Wakes.refl s

theorem State.readSession_wakes (fuel : Nat) (s : State) (t : Nat) : Wakes s (State.readSession fuel s t) := by
  induction fuel generalizing s with
  | zero => exact Wakes.refl s
  | succ n ih =>
    unfold State.readSession
    split
    · exact Wakes.refl s
    · split
      · exact Wakes.refl s
      · exact Wakes.ite (fun _ => Wakes.refl s)
          (fun _ => ((State.modTenant_wakes s t _).trans (State.enqueue_wakes _ t _)).trans (ih _))

theorem State.creditBack_wakes (s : State) (t : Nat) : Wakes s (s.creditBack t) := by
  unfold State.creditBack
  have h1 := (State.modTenant_wakes s t (fun x => { x with credits := x.credits + 1 })).trans
    (State.windowEvent_wakes _ t 289)
  refine Wakes.ite (fun _ => ?_) (fun _ => ?_)
  · exact ((h1.trans (State.modTenant_wakes _ t _)).trans (State.enqueue_wakes _ t _)).trans (State.drain_wakes _ _ t)
  · exact (h1.trans (State.readSession_wakes _ _ t)).trans (State.drain_wakes _ _ t)

/-- An answer wakes domains alone (R20, R162). -/
theorem State.finish_wakes (s : State) (t seq status : Nat) (payload : List Word) (flags : Nat) :
    Wakes s (s.finish t seq status payload flags) := by
  unfold State.finish
  split
  · exact Wakes.refl s
  · refine Wakes.ite (fun _ => (State.modTenant_wakes s t _).trans (State.creditBack_wakes _ t)) (fun _ => ?_)
    exact (((State.modTenant_wakes s t _).trans (State.modTenant_wakes _ t _)).trans (State.toUnread_wakes _ t _)).trans
      (State.drain_wakes _ _ t)

/-! ### Units that lose their domain (R26), and roles -/

theorem State.loopOff_wakes (s : State) (i : Nat) : Wakes s (s.loopOff i) := by
  have off : Wakes s ((((s.injEndAll i).modLoop i (fun x =>
      { sp := x.sp, satCount := x.satCount, arithCount := x.arithCount, at_ := x.at_, uPrev := x.u }))).loopDestSafe i) :=
    ((State.injEndAll_only ..).wakes rfl).trans (((State.modLoop_only ..).wakes rfl).trans
      ((State.loopDestSafe_only ..).wakes rfl))
  unfold State.loopOff State.loopChange
  exact Wakes.ite (fun _ => Wakes.refl s) (fun _ =>
    Wakes.ite (fun _ => off.trans (State.event_wakes _ _ _)) (fun _ => off))

theorem State.outputsSafe_wakes (s : State) (p : Nat) : Wakes s (s.outputsSafe p) := by
  unfold State.outputsSafe
  refine Wakes.trans ?_ ((State.syncFdp_only _).wakes rfl)
  refine Wakes.trans ?_ (Wakes.refl _)
  refine Wakes.trans ?_ (forEach_ite_wakes _ _ _ _ (fun t _ => (State.leapSafe_only t _).wakes rfl))
  refine Wakes.trans ?_ (forEach_ite_wakes _ _ _ _ (fun t _ => (State.valveSafe_only t _).wakes rfl))
  refine Wakes.trans ?_ (forEach_ite_wakes _ _ _ _ (fun t _ => (State.anaSafe_only t _).wakes rfl))
  refine Wakes.trans ?_ (forEach_ite_wakes _ _ _ _ (fun t _ => (State.doSafe_only t _).wakes rfl))
  exact forEach_ite_wakes _ _ _ _ (fun t i => State.loopOff_wakes t i)

theorem State.partStop_wakes (s : State) (p : Nat) : Wakes s (s.partStop p) :=
  (State.outputsSafe_wakes s p).trans (Wakes.refl _)

theorem State.refuseAsks_wakes (s : State) (p : Nat) : Wakes s (s.refuseAsks p) := by
  unfold State.refuseAsks
  refine Wakes.trans (t := s.modPart p (fun x => { x with asks := [] })) (Wakes.refl s) (forEach_wakes _ _ _ (fun t a => ?_))
  cases a <;> exact State.finish_wakes t _ _ _ _ _

theorem State.corePairLost_wakes (s : State) (k : Nat) : Wakes s (s.corePairLost k) := by
  refine forEach_wakes _ _ _ (fun t p => Wakes.ite (fun _ => ?_) (fun _ => Wakes.refl t))
  exact Wakes.ite (fun _ => (State.partStop_wakes t p).trans (State.refuseAsks_wakes _ p))
    (fun _ => (State.partStop_wakes t p).trans (Wakes.refl _))

theorem State.keeperLost_wakes (s : State) : Wakes s s.keeperLost :=
  ((State.keeperDown_only s).wakes rfl).trans (forEach_wakes _ _ _ (fun t k => State.corePairLost_wakes t k))

theorem State.setAnaFlags_wakes (s : State) (ch : Nat) (f : BitVec 16) : Wakes s (s.setAnaFlags ch f) := by
  have hart (t : State) (st : Nat) (ws : List Word) : Wakes t (t.hartEnd ch st ws) := by
    unfold State.hartEnd
    split
    · exact Wakes.refl t
    · exact ((State.modAna_only ..).wakes rfl).trans (State.finish_wakes _ _ _ _ _ _)
  unfold State.setAnaFlags
  refine Wakes.ite (fun _ => Wakes.refl s) (fun _ => ?_)
  exact (((State.modAna_only ..).wakes rfl).trans (State.eventAll_wakes _ _)).trans (doIf_wakes _ _ _ (hart _ _ _))

theorem State.canConfigureAll_wakes (s : State) : Wakes s (forEach (List.range 8) s (fun s k => s.canConfigure k)) :=
  forEach_wakes _ _ _ (fun _ _ => (State.canConfigure_only ..).wakes rfl)

/-- The loss of a domain's units wakes domains alone (R20, R26). -/
theorem State.unitsLost_wakes (s : State) (d : Nat) : Wakes s (s.unitsLost d) := by
  unfold State.unitsLost
  refine Wakes.ite (fun _ => ((State.tileLost_only ..).wakes rfl).trans ((State.tileLost_only ..).wakes rfl)) (fun _ => ?_)
  refine Wakes.ite (fun _ => State.corePairLost_wakes s _) (fun _ => ?_)
  refine Wakes.ite (fun _ => (State.bankLost_only ..).wakes rfl) (fun _ => ?_)
  refine Wakes.ite (fun _ => (State.bankLost_only ..).wakes rfl) (fun _ => ?_)
  refine Wakes.ite (fun _ => forEach_wakes _ _ _ (fun t i => ?_)) (fun _ => ?_)
  · exact (State.setAnaFlags_wakes t _ _).trans (((State.modAna_only ..).wakes rfl).trans ((State.anaSafe_only ..).wakes rfl))
  refine Wakes.ite (fun _ => ?_) (fun _ => ?_)
  · exact ((only_dis_fbs s _ _).wakes rfl).trans
      (((State.driveAllDo_only ..).wakes rfl).trans ((State.syncExt_only ..).wakes rfl))
  refine Wakes.ite (fun _ => State.canConfigureAll_wakes s) (fun _ => ?_)
  refine Wakes.ite (fun _ => ?_) (fun _ => ?_)
  · exact (forEach_wakes _ _ _ (fun t i => State.loopOff_wakes t i)).trans
      (forEach_wakes _ _ _ (fun _ _ => (State.modValve_only ..).wakes rfl))
  refine Wakes.ite (fun _ => ?_) (fun _ => ?_)
  · exact ((State.modNet_only ..).wakes rfl).trans ((forEach_wakes _ _ _ (fun _ _ => (State.syncNet_only ..).wakes rfl)).trans
      ((State.modTime_only ..).wakes rfl))
  exact Wakes.ite (fun _ => (State.linkLost_only ..).wakes rfl) (fun _ => Wakes.refl s)

theorem State.domEffects_wakes (s : State) (d : Nat) : Wakes s (s.domEffects d) :=
  Wakes.ite (fun _ => State.keeperLost_wakes s) (fun _ =>
    Wakes.ite (fun _ => (State.keeperLost_wakes s).trans (forEach_wakes _ _ _ (fun t d => State.unitsLost_wakes t d)))
      (fun _ => State.unitsLost_wakes s d))

theorem State.canToMonitor_wakes (s : State) (k : Nat) : Wakes s (s.canToMonitor k) := by
  have moved (t : State) (st : Nat) : Wakes t (t.canTo k st) := by
    unfold State.canTo
    refine Wakes.ite (fun _ => Wakes.refl t) (fun _ => ?_)
    refine Wakes.trans ?_ (doIf_wakes _ _ _ ((State.canDrop_only ..).wakes rfl))
    exact (((State.modCan_only ..).wakes rfl).trans (State.eventAll_wakes _ _)).trans ((State.record_only ..).wakes rfl)
  unfold State.canToMonitor
  refine Wakes.ite (fun _ => Wakes.refl s) (fun _ => ?_)
  exact ((State.modCan_only ..).wakes rfl).trans (((State.canDrop_only ..).wakes rfl).trans
    (((State.modCan_only ..).wakes rfl).trans (doIf_wakes _ _ _ (moved _ _))))

theorem State.setRole_wakes (s : State) (r : Role) : Wakes s (s.setRole r) := by
  unfold State.setRole
  refine Wakes.ite (fun _ => Wakes.refl s) (fun _ => ?_)
  have seen (f : Pair → Pair) (g : TimeUnit → TimeUnit) :
      Wakes s ((((s.modPair f).modTime g).eventAll 291).driveAllDo) :=
    Wakes.trans (t := (s.modPair f).modTime g) (Wakes.refl s)
      ((State.eventAll_wakes _ _).trans ((State.driveAllDo_only ..).wakes rfl))
  refine Wakes.ite (fun _ => seen _ _) (fun _ => Wakes.ite (fun _ => ?_) (fun _ => ?_))
  · exact ((seen _ _).trans (State.canConfigureAll_wakes _)).trans ((State.meetEov_only ..).wakes rfl)
  · exact (seen _ _).trans (forEach_wakes _ _ _ (fun t k => State.canToMonitor_wakes t k))

/-- The transitions of the role wake domains alone (R20, R242). -/
theorem State.settleRole_wakes (s : State) : Wakes s s.settleRole := by
  unfold State.settleRole
  refine Wakes.ite (fun _ => Wakes.refl s) (fun _ => ?_)
  split <;> first
    | exact Wakes.refl s
    | exact Wakes.ite (fun _ => State.setRole_wakes s _) (fun _ => Wakes.refl s)
    | exact Wakes.ite (fun _ => Wakes.refl s) (fun _ => State.setRole_wakes s _)

end Sys2Proof.Machine
end

section
namespace Sys2Proof.Machine

/-! ### A domain that was lost stays down until its retry (R410) -/

/-- From s to u every domain that is down and lost stays so, and its retry keeps its instant. -/
def LostStays (s u : State) : Prop := ∀ d : Nat, d < 50 → (s.dom d).state = .down → (s.dom d).lost = true →
  (u.dom d).state = .down ∧ (u.dom d).lost = true ∧ (u.dom d).retryAt = (s.dom d).retryAt

theorem LostStays.trans {s t u : State} (h : LostStays s t) (k : LostStays t u) : LostStays s u := by
  intro d hd hs hl
  obtain ⟨ts, tl, tr⟩ := h d hd hs hl
  obtain ⟨us, ul, ur⟩ := k d hd ts tl
  exact ⟨us, ul, ur.trans tr⟩

theorem Wakes.lostStays {s u : State} (h : Wakes s u) : LostStays s u :=
  fun d _ hs hl => by rw [h.down d hs]; exact ⟨hs, hl, rfl⟩

/-- Domains that come into use are powered, the lost ones not (R409, R410). -/
theorem State.powerUsed_lostStays (s : State) : LostStays s s.powerUsed := by
  refine forEach_keeps (LostStays s) _ s _ (Wakes.refl s).lostStays (fun t k _ ht => ht.trans ?_)
  split
  · rename_i hk
    intro d _ hs hl
    by_cases e : d = k
    · subst e
      simp only [State.dom] at hl
      simp [hl] at hk
    · have h : (t.setDom k .run).dom d = t.dom d := State.modDom_dom_other t k d _ e
      rw [h]
      exact ⟨hs, hl, rfl⟩
  · exact (Wakes.refl t).lostStays

theorem State.completeCommit_lostStays (s : State) (w : CommitWait) : LostStays s (s.completeCommit w) := by
  unfold State.completeCommit
  have used (t : State) : LostStays t (t.powerCommitted w.params) :=
    State.powerUsed_lostStays { t with cfg := { t.cfg with active := w.params } }
  refine LostStays.trans ?_ (State.finish_wakes _ _ _ _ _ _).lostStays
  have h1 := LostStays.trans (Only.wakes (State.installCommit_only s w) rfl).lostStays (used _)
  split
  · exact h1
  · exact h1.trans ((State.toSafe_only ..).wakes rfl).lostStays

theorem State.settleWaits_lostStays (s : State) : LostStays s s.settleWaits := by
  unfold State.settleWaits
  split
  · exact (Wakes.refl s).lostStays
  · refine LostStays.trans ?_ (forEach_wakes _ _ _ (fun t e => State.finish_wakes t _ _ _ _ _)).lostStays
    refine LostStays.trans ?_ (Wakes.refl _).lostStays
    split
    · exact (Wakes.refl s).lostStays
    · exact State.completeCommit_lostStays s _

theorem Map.get_range_map {α : Type} [Inhabited α] (f : Nat → α) (n d : Nat) (h : d < n) :
    Map.get ((List.range n).map (fun k => (k, f k))) d = f d := by
  have key : ∀ l : List Nat, d ∈ l → Map.get (l.map (fun k => (k, f k))) d = f d := by
    intro l hl
    induction l with
    | nil => cases hl
    | cons k r ih =>
      by_cases e : k = d
      · simp [Map.get, e]
      · simpa [Map.get, e] using ih ((List.mem_cons.mp hl).resolve_left (Ne.symm e))
  exact key _ (List.mem_range.mpr h)

theorem State.keepDomains_lostStays (s : State) (keep : Nat → Bool) : LostStays s (s.keepDomains keep) := by
  intro d hd hs hl
  have e : (s.keepDomains keep).dom d =
      { (s.dom d) with state := if keep d && s.up d then (.run : DomState) else .down, wake := none } :=
    Map.get_range_map _ 50 d hd
  have hu : s.up d = false := by simp [State.up, State.dom] at hs ⊢; exact hs
  rw [e]
  exact ⟨by simp [hu], hl, rfl⟩

/-- A reset takes domains down and forgets no loss (R410, R422). -/
theorem State.cleared_lostStays (s : State) (b : Bool) : LostStays s (s.cleared b) := by
  intro d _ hs hl
  simp only [State.dom, State.cleared] at hs hl ⊢
  generalize s.power.doms = m at hs hl ⊢
  induction m with
  | nil => cases hl
  | cons e r ih =>
    obtain ⟨k, x⟩ := e
    by_cases hk : k = d
    · simp only [Map.get, hk, if_true] at hs hl
      by_cases hc : d = 0 ∨ (b = true ∧ (d = 42 ∨ d = 43)) <;> simp [Map.get, hk, hc, hs, hl]
    · simp only [Map.get, hk, if_false] at hs hl
      by_cases hc : k = 0 ∨ (b = true ∧ (k = 42 ∨ k = 43)) <;> simpa [Map.get, hk, hc] using ih hs hl

/-- D48 is powered again for the kept port where it was up (R414). -/
theorem State.keepPort_lostStays {s t : State} (h : LostStays s t) (f : Power → Power)
    (hf : ∀ p, (f p).doms = p.doms.modify 48 (fun x => { x with state := if s.up 48 then .run else .down })) :
    LostStays s (t.modPower f) := by
  intro d hd hs hl
  obtain ⟨ts, tl, tr⟩ := h d hd hs hl
  by_cases e : d = 48
  · subst e
    have hu : s.up 48 = false := by simpa [State.up, State.dom] using hs
    have he : (t.modPower f).dom 48 = { (t.dom 48) with state := .down } := by
      simp [State.dom, State.modPower, hf, Map.modify, hu]
    rw [he]
    exact ⟨rfl, tl, tr⟩
  · have he : (t.modPower f).dom d = t.dom d := by
      simp [State.dom, State.modPower, hf, Map.modify, Map.get_set_other _ _ _ _ e]
    rw [he]
    exact ⟨ts, tl, tr⟩

/-- HIBERNATE powers no domain that is down (R414). -/
theorem State.enterHibernate_lostStays (s : State) : LostStays s s.enterHibernate := by
  unfold State.enterHibernate
  have h1 : Wakes s (s.writeLedger.commitRetained).hibernateSegments :=
    ((State.writeLedger_only s).wakes rfl).trans (((State.commitRetained_only _).wakes rfl).trans
      ((State.hibernateSegments_only _).wakes rfl))
  refine LostStays.trans ?_ ((State.syncPtos_only _).wakes rfl).lostStays
  refine LostStays.trans ?_ ((State.emit_only _ _).wakes rfl).lostStays
  refine LostStays.trans ?_ ((State.modNet_only _ _).wakes rfl).lostStays
  exact State.keepPort_lostStays ((h1.lostStays.trans (State.keepDomains_lostStays _ _)).trans
    (State.cleared_lostStays _ true)) _ (fun _ => rfl)

/-- The end of the link, with HIBERNATE or without, powers no lost domain (R410, R413). -/
theorem State.linkGone_lostStays (s : State) : LostStays s s.linkGone := by
  unfold State.linkGone State.hibernateDone
  split
  · split
    · exact (Wakes.refl s).lostStays
    · refine LostStays.trans (Wakes.lostStays ?_) (State.enterHibernate_lostStays _)
      exact ((State.modPower_keep s _ (fun _ => rfl)).wakes rfl).trans (State.finish_wakes _ _ _ _ _ _)
  · exact (State.settleRole_wakes s).lostStays.trans (State.settleWaits_lostStays _)

theorem State.domsChanged_lostStays (s : State) (was : Bool) : LostStays s (s.domsChanged was) := by
  unfold State.domsChanged
  split
  · exact (Wakes.refl s).lostStays
  · split
    · exact State.linkGone_lostStays s
    · exact (State.settleRole_wakes s).lostStays

/-- Where the link stays as it was, the change of a domain wakes others alone. -/
theorem State.domsChanged_wakes (s : State) (was : Bool) (h : s.linkUp = was) : Wakes s (s.domsChanged was) := by
  unfold State.domsChanged
  refine Wakes.ite (fun _ => Wakes.refl s) (fun _ => Wakes.ite (fun hd => ?_) (fun _ => State.settleRole_wakes s))
  simp [h] at hd

end Sys2Proof.Machine
end

section
namespace Sys2Proof.Machine

theorem Only.out_eq {l : List Region} {s u : State} (h : Only l s u) (hl : l.contains .out = false) : u.out = s.out :=
  h.keeps .out hl

@[simp] theorem State.at_now (s : State) (time : Nat) : (s.at time).now = max s.now time := rfl

/-! ## Records (R427) -/

/-- A record that the recorder stages at once is the newest of the ring (R427, R431). -/
theorem State.record_recorded (s : State) (source type inst : Nat) (body : List Word) (h2 : 2 ≤ body.length)
    (h : s.canRecord body.length) : Recorded source type inst body (s.record source type inst body) := by
  obtain ⟨hh, hu, hp⟩ := h
  have hb : recBody body = body := by simp [recBody, Nat.sub_eq_zero_of_le h2]
  have e : (s.record source type inst body).recorder =
      ((s.recorder.flush source (fun n => s.newRec source 0xFF 127 [w32 n])).append (s.newRec source type inst body)) := by
    simp [State.record, State.addRec, State.newRec, hh, hu, hb, hp]
  simp [Recorded, e, Recorder.append, State.newRec, hb]

/-! ## Starts and stops (R395, R417, R420) -/

/-- What leaves the module stays in the step's record while the plant trip outputs settle. -/
theorem State.syncPtos_mem_out (s : State) (o : Out) (h : o ∈ s.out) : o ∈ s.syncPtos.out := by
  refine forEach_keeps (fun t => o ∈ t.out) _ s _ h (fun t k _ ht => ?_)
  dsimp only
  split
  · exact ht
  · exact List.mem_append_left _ ht

/-- The choice of the firmware slot and the domains that a start powers (R393, R395). -/
theorem State.bootDomains_only (s : State) (b : BootCheck) :
    Only [.ident, .doms] s (forEach [0, 33, 41, 48] (s.chooseSlot b).1 (fun s d =>
      (s.setDom d .run).modPower (fun p =>
        { p with doms := p.doms.modify d (fun x => { x with lost := false, retryAt := none }) }))) :=
  forEach_only _ _ (fun t x => (State.modPower_doms _ _ (fun _ => rfl)).after (by decide)
    ((State.setDom_only ..).after (by decide) (Only.refl _ _)))
    ((State.chooseSlot_ident s b).after (by decide) (Only.refl _ _))

/-- The power unit as a start leaves it: in RUN, with the causes it was given and those collected before (R395, R419). -/
theorem State.bootUp_power (s : State) (b : BootCheck) (causes : BitVec 7) :
    (s.bootUp b causes).power.state = .run ∧ (s.bootUp b causes).power.causes = causes ||| s.power.nextCauses ∧
    (s.bootUp b causes).power.cycles = s.power.cycles := by
  unfold State.bootUp
  have h := State.bootDomains_only s b
  have hn := h.supplied Power.nextCauses (fun _ => rfl) rfl
  have hc := h.supplied Power.cycles (fun _ => rfl) rfl
  clear h
  revert hn hc
  cases s.chooseSlot b with | mk s1 k =>
  intro hn hc
  cases k with
  | some n => exact ⟨rfl, congrArg (causes ||| ·) hn, hc⟩
  | none =>
    have hs (t : State) : t.syncPtos.power.state = t.power.state ∧ t.syncPtos.power.causes = t.power.causes ∧
        t.syncPtos.power.cycles = t.power.cycles :=
      have h := State.syncPtos_only t
      ⟨h.supplied Power.state (fun _ => rfl) rfl, h.supplied Power.causes (fun _ => rfl) rfl,
        h.supplied Power.cycles (fun _ => rfl) rfl⟩
    exact ⟨(hs _).1, (hs _).2.1.trans (congrArg (causes ||| ·) hn), (hs _).2.2.trans hc⟩

/-- A start takes back nothing that has left the module. -/
theorem State.bootUp_mem_out (s : State) (b : BootCheck) (causes : BitVec 7) (o : Out) (h : o ∈ s.out) :
    o ∈ (s.bootUp b causes).out := by
  unfold State.bootUp
  have hd := (State.bootDomains_only s b).out_eq rfl
  revert hd
  cases s.chooseSlot b with | mk s1 k =>
  dsimp only
  generalize forEach [0, 33, 41, 48] s1 _ = t
  intro hd
  rw [← hd] at h
  cases k with
  | some n => exact h
  | none => exact State.syncPtos_mem_out _ o h

/-- A restart begins with the causes collected at the stop, and counts as a power cycle (R422). -/
theorem State.restart_power (s : State) (b : BootCheck) :
    (s.restart b).power.state = .run ∧ (s.restart b).power.causes = s.power.nextCauses ∧
    (s.restart b).power.cycles = (s.power.cycles + 1) % 2 ^ 32 := by
  obtain ⟨h1, h2, h3⟩ := State.bootUp_power (s.modPower (fun p =>
    { p with cycles := (p.cycles + 1) % 2 ^ 32, coolSince := none, hot := 0 })) b 0
  exact ⟨h1, h2.trans (BitVec.zero_or ..), h3⟩

/-- The power unit as an orderly stop leaves it (R420). -/
theorem State.orderlyStop_power (s : State) (st : PowerState) (cause : BitVec 7) :
    (s.orderlyStop st cause).power.state = st ∧ (s.orderlyStop st cause).power.nextCauses = s.power.nextCauses ||| cause := by
  unfold State.orderlyStop
  exact ⟨(State.syncPtos_only _).supplied Power.state (fun _ => rfl) rfl,
    (State.syncPtos_only _).supplied Power.nextCauses (fun _ => rfl) rfl⟩

/-- The power unit as a module reset leaves it (R417). -/
theorem State.moduleReset_power (s : State) (b : BootCheck) (cause : BitVec 7) :
    (s.moduleReset b cause).power.state = .run ∧
    (s.moduleReset b cause).power.causes = cause ||| s.power.nextCauses := by
  unfold State.moduleReset
  obtain ⟨h1, h2, -⟩ := State.bootUp_power
    ((({ s.cleared true with chains := (s.cleared true).chains.map (fun (e : Nat × Chain) =>
      (e.1, { e.2 with croak := e.2.croak && s.croakThroughReset })) } : State).emit (.hold false)).syncPtos) b cause
  refine ⟨h1, h2.trans ?_⟩
  rw [(State.syncPtos_only _).supplied Power.nextCauses (fun _ => rfl) rfl]
  rfl

/-- The fourth reset with a fault cause within 600 s holds the module (R418). -/
theorem State.faultReset_holds (s : State) (b : BootCheck) (cause : BitVec 7)
    (h : 3 ≤ (s.power.faultResets.filter (fun a => decide (s.now ≤ a + 600000000000))).length) :
    (s.faultReset b cause).power.state = .hold := by
  unfold State.faultReset
  dsimp only
  rw [if_pos h]
  exact (State.orderlyStop_power _ _ _).1

/-- A fault with fewer of them before it resets the module, with its cause (R418). -/
theorem State.faultReset_resets (s : State) (b : BootCheck) (cause : BitVec 7)
    (h : ¬ 3 ≤ (s.power.faultResets.filter (fun a => decide (s.now ≤ a + 600000000000))).length) :
    (s.faultReset b cause).power.state = .run ∧ (s.faultReset b cause).power.causes = cause ||| s.power.nextCauses := by
  unfold State.faultReset
  dsimp only
  rw [if_neg h]
  exact State.moduleReset_power _ _ _

/-! ## The events of power management (R410 to R422) -/

theorem State.up_of_down {s : State} {d : Nat} (h : (s.dom d).state = .down) : s.up d = false :=
  bne_eq_false_iff_eq.mpr h

theorem State.down_of_up {s : State} {d : Nat} (h : s.up d = false) : (s.dom d).state = .down :=
  bne_eq_false_iff_eq.mp h

/-- A domain that goes down is down (R26, R408). -/
theorem State.domDown_down (s : State) (d : Nat) : ((s.domDown d).dom d).state = .down := by
  unfold State.domDown
  split
  · have stays (t : State) (ht : (t.dom d).state = .down) : ((t.domEffects d).dom d).state = .down := by
      rw [(State.domEffects_wakes t d).down d ht]
      exact ht
    exact stays _ (by simp [State.setDom, State.modPower, State.dom, Map.modify])
  · exact State.down_of_up (by simpa using ‹¬ s.up d = true›)

/-- A domain that is powered and lost is down, with its retry a second later (R410). -/
theorem execDomainLost_completes (s : State) (d : Fin 50) (pll : Bool) (time : Nat) (h0 : d.val ≠ 0) (hu : s.up d = true) :
    Completes (.domainLost d pll time) s (fun u => u.up d = false ∧ (u.power.doms.get d).lost = true ∧
      (u.power.doms.get d).retryAt = some (max s.now time + 1000000000)) := by
  refine ⟨_, congrArg Host.Outcome.next (if_neg (by simp [h0]; exact hu)), ?_⟩
  generalize (s.at time).record 0x01 0x02 127 [w32 d, w32 (b2n pll)] = s1
  have lost := State.domsChanged_lostStays ((s1.domDown d).modDom d (fun x =>
    { x with lost := true, retryAt := some ((s.at time).now + 1000000000) })) (s.at time).linkUp d d.isLt
  rw [State.modDom_dom_same] at lost
  obtain ⟨us, ul, ur⟩ := lost (State.domDown_down s1 d) rfl
  exact ⟨State.up_of_down us, ul, ur⟩

/-- A domain comes back with its retry (R410). -/
theorem execDomainRetry_completes (s : State) (d : Fin 50) (time a : Nat) (hp : s.power.state = .run)
    (hl : (s.power.doms.get d).lost = true) (ha : (s.power.doms.get d).retryAt = some a) (ht : a ≤ max s.now time)
    (hn : ((s.power.doms.get d).attempts.filter (fun b => decide (max s.now time < b + 60000000000))).length < 3) :
    Completes (.domainRetry d true time) s (fun u => (u.power.doms.get d).lost = false ∧
      (u.power.doms.get d).retryAt = none ∧ (s.domInUse d = true → (u.power.doms.get d).state = .run)) := by
  have hp : (s.at time).power.state = .run := hp
  have hl : ((s.at time).power.doms.get d).lost = true := hl
  have ha : ((s.at time).power.doms.get d).retryAt = some a := ha
  have ht : ¬ (s.at time).now < a := Nat.not_lt.mpr ht
  have hn : ¬ 3 ≤ (((s.at time).power.doms.get d).attempts.filter
    (fun b => decide ((s.at time).now < b + 60000000000))).length := Nat.not_le.mpr hn
  generalize hs1 : (s.at time).modDom d (fun x =>
    { x with lost := false, retryAt := none, state := if (s.at time).domInUse d then .run else .down,
             attempts := (s.at time).now :: ((s.at time).power.doms.get d).attempts.filter
               (fun b => decide ((s.at time).now < b + 60000000000)) }) = s1
  generalize hs2 : doIf (d.val == 46) s1 (fun s => forEach (List.range 8) s (fun s k => s.canConfigure k)) = s2
  have e : exec (.domainRetry d true time) s = .next (s2.domsChanged (s.at time).linkUp) := by
    subst hs2 hs1
    simp only [exec, execDomainRetry, evt, ha, hl, hp, ht, hn, decide_false, Bool.not_true, Bool.or_false,
      bne_self_eq_false, Bool.false_and, Bool.false_eq_true, if_false, if_true]
  have hc : Only [.pool, .cans] s1 s2 := hs2 ▸ doIf_only _ _ (fun t =>
    forEach_only _ _ (fun _ _ => State.canConfigure_only ..) (Only.refl _ t)) (Only.refl _ s1)
  have hk : s2.linkUp = (s.at time).linkUp := by
    have : s2.pair = s1.pair := hc.keeps .pair rfl
    rw [← hs1] at this
    simp only [State.linkUp, this]
    rfl
  have hw : Wakes s1 (s2.domsChanged (s.at time).linkUp) := (hc.wakes rfl).trans (State.domsChanged_wakes s2 _ hk)
  have hd := State.modDom_dom_same (s.at time) d (fun x =>
    { x with lost := false, retryAt := none, state := if (s.at time).domInUse d then .run else .down,
             attempts := (s.at time).now :: ((s.at time).power.doms.get d).attempts.filter
               (fun b => decide ((s.at time).now < b + 60000000000)) })
  rw [hs1] at hd
  have he : (s2.domsChanged (s.at time).linkUp).dom d = s1.dom d := by
    cases hu : (s.at time).domInUse d
    · exact hw.down d (by rw [hd, hu]; rfl)
    · exact hw.running d (by rw [hd, hu]; rfl)
  rw [hd] at he
  exact ⟨_, e, congrArg Domain.lost he, congrArg Domain.retryAt he, fun hu => (congrArg Domain.state he).trans (if_pos hu)⟩

/-- An idle domain runs when its entry comes up (R20, R412). -/
theorem execTimeWheelFire_completes (s : State) (d : Fin 50) (time w : Nat) (hw : (s.power.doms.get d).wake = some w)
    (hi : (s.power.doms.get d).state = .idle) (ht : w ≤ max s.now time + 2500) :
    Completes (.timeWheelFire d time) s (fun u => (u.power.doms.get d).state = .run ∧
      (u.power.doms.get d).wake = none) := by
  refine ⟨(s.at time).modDom d (fun x => { x with state := .run, wake := none }), ?_, ?_⟩
  · simp [exec, execTimeWheelFire, evt, hw, hi, State.at, ht]
  · have := State.modDom_dom_same (s.at time) d (fun x => { x with state := .run, wake := none })
    exact ⟨congrArg Domain.state this, congrArg Domain.wake this⟩

/-- The loss of a supply makes an entry (R416). -/
theorem execSupplyLost_completes (s : State) (x2 returned : Bool) (volt time : Nat) (hp : s.power.state ≠ .off)
    (hr : s.canRecord 3) :
    Completes (.supplyLost x2 returned volt time) s (fun u =>
      (if x2 then u.power.supplyB else u.power.supplyA) = volt ∧
      Recorded 0x01 0x04 127 [w32 (if x2 then 2 else 1), w32 (b2n returned), w32 volt] u) := by
  refine ⟨_, congrArg Host.Outcome.next (if_neg (by simpa using hp)), ?_, ?_⟩
  · have h := (State.record_only ((s.at time).modPower (fun p => if x2 then { p with supplyB := volt } else
      { p with supplyA := volt })) 0x01 0x04 127 [w32 (if x2 then 2 else 1), w32 (b2n returned), w32 volt]).supplied
      (fun p => if x2 then p.supplyB else p.supplyA) (fun _ => rfl) rfl
    rw [h]
    cases x2 <;> rfl
  · refine State.record_recorded _ _ _ _ _ (by simp) ?_
    cases x2 <;> exact hr

/-- A brown-out stops the module in order, and the stop awaits the supply (R416, R420). -/
theorem execBrownOut_completes (s : State) (time : Nat) (h : s.isOn = true) :
    Completes (.brownOut time) s (fun u => u.power.state = .stopped ∧ u.power.brownStop = true ∧
      u.power.nextCauses.getLsbD 1 = true) := by
  refine ⟨_, congrArg Host.Outcome.next (if_pos h), ?_, rfl, ?_⟩
  · exact (State.orderlyStop_power (s.at time) .stopped 2).1
  · have h2 := congrArg (BitVec.getLsbD · 1) (State.orderlyStop_power (s.at time) .stopped 2).2
    exact h2.trans (by simp)

/-- The supply is back after a brown-out (R416). -/
theorem execSupplyRestored_completes (s : State) (boot : BootCheck) (time : Nat) (hs : s.power.state = .stopped)
    (hb : s.power.brownStop = true) (ht : s.power.thermStop = false) :
    Completes (.supplyRestored boot time) s (fun u => u.power.state = .run ∧ u.power.causes = s.power.nextCauses ∧
      u.power.cycles = (s.power.cycles + 1) % 2 ^ 32) := by
  refine ⟨((s.at time).modPower (fun p => { p with brownStop := false })).restart boot, ?_, State.restart_power _ boot⟩
  simp [exec, execSupplyRestored, evt, hs, hb, ht]

/-- The loss of the always-on rail asserts every plant trip output (R24, R131). -/
theorem execAlwaysOnRailLoss_completes (s : State) (h : s.power.state ≠ .off) :
    Completes .alwaysOnRailLoss s (fun u => u.power.state = .off ∧ ∀ k : Nat, k < 8 → Out.pto k true ∈ u.out) := by
  refine ⟨_, congrArg Host.Outcome.next (if_neg (by simpa using h)), ?_, fun k hk => ?_⟩
  · exact forEach_keeps (fun t => t.power.state = .off) _ _ _ rfl (fun _ _ _ ht => ht)
  · exact forEach_mem _ _ _ k _ (List.mem_range.mpr hk) (fun t _ => State.emit_emits t _) (fun t _ => State.mem_emit t _)

/-- The Keeper watchdog (R418). -/
theorem execKeeperWdt_completes (s : State) (boot : BootCheck) (time : Nat) (hs : s.power.state = .run)
    (hr : s.inRecovery = false) (hc : s.power.confirmAt + 100000000 ≤ max s.now time) :
    Completes (.keeperWdt boot time) s (fun u =>
      if 3 ≤ (s.power.faultResets.filter (fun a => decide (max s.now time ≤ a + 600000000000))).length
      then u.power.state = .hold else u.power.state = .run ∧ u.power.causes.getLsbD 4 = true) := by
  have hr' : (s.at time).inRecovery = false := hr
  have hc' : decide ((s.at time).power.confirmAt + 100000000 ≤ (s.at time).now) = true := decide_eq_true hc
  refine ⟨(s.at time).faultReset boot 16, congrArg Host.Outcome.next (if_pos ?_), ?_⟩
  · rw [hc', hr', State.at_power, hs]
    rfl
  by_cases h3 : 3 ≤ (s.power.faultResets.filter (fun a => decide (max s.now time ≤ a + 600000000000))).length
  · exact (if_pos h3).mpr (State.faultReset_holds (s.at time) boot 16 h3)
  · obtain ⟨h1, h2⟩ := State.faultReset_resets (s.at time) boot 16 h3
    exact (if_neg h3).mpr ⟨h1, by rw [h2]; simp⟩

/-- A module fault in Single resets the module (R418). -/
theorem execModuleFault_completes (s : State) (kind : FaultKind) (boot : BootCheck) (time : Nat) (hs : s.power.state = .run)
    (hr : s.inRecovery = false) (h1 : s.single = true) (hf : s.power.faultResets = []) :
    Completes (.moduleFault kind boot time) s (fun u => u.power.state = .run ∧ u.power.causes.getLsbD 5 = true) := by
  have hr' : (s.at time).inRecovery = false := hr
  have h1' : (s.at time).single = true := h1
  refine ⟨(s.at time).faultReset boot 32, by simp [exec, execModuleFault, evt, hs, hr', h1'], ?_⟩
  obtain ⟨h2, h3⟩ := State.faultReset_resets (s.at time) boot 32 (by rw [State.at_power, hf]; simp)
  exact ⟨h2, by rw [h3]; simp⟩

/-- THERM_WARN changes what it shows, and the recorder (R421). -/
theorem State.thermWarn_power {α : Type} (s : State) (tj : Int) (f : Power → α)
    (hf : ∀ x, f { x with heldEvents := [], heldLost := 0, doms := [] } = f x) (hw : ∀ x b, f { x with thermWarn := b } = f x) :
    f (s.thermWarn tj).power = f s.power := by
  unfold State.thermWarn
  split
  · exact ((State.record_only ..).supplied f hf rfl).trans (hw _ _)
  · split
    · exact ((State.record_only ..).supplied f hf rfl).trans (hw _ _)
    · rfl

/-- The power unit with a reading of the junction (R421). -/
def Power.read (p : Power) (tj : Int) (now : Nat) : Power :=
  { p with
    tj := tj, hot := if 12500 ≤ tj then p.hot + 1 else 0
    coolSince := if tj ≤ 9500 then (match p.coolSince with | some a => some a | none => some now) else none }

/-- The state with a reading taken and THERM_WARN as it asks. -/
def State.readTherm (s : State) (tj : Int) : State := (s.modPower (fun p => Power.read p tj s.now)).thermWarn tj

/-- What a reading of one sensor does (R421). -/
theorem exec_thermRead (s : State) (tj : Int) (time : Nat) (hs : s.power.state ≠ .off) :
    exec (.thermRead [tj] time) s = .next (
      if 2 ≤ ((s.at time).readTherm tj).power.hot then
        (if ((s.at time).readTherm tj).isOn then
          (((s.at time).readTherm tj).orderlyStop .stopped 4).modPower (fun p => { p with thermStop := true, coolSince := none })
        else if ((s.at time).readTherm tj).power.state == .stopped && !((s.at time).readTherm tj).power.thermStop then
          ((s.at time).readTherm tj).modPower
            (fun p => { p with thermStop := true, nextCauses := p.nextCauses ||| 4, coolSince := none })
        else (s.at time).readTherm tj)
      else (s.at time).readTherm tj) :=
  congrArg Host.Outcome.next (if_neg (by simpa using hs))

/-- What a reading leaves of the power unit (R421). -/
theorem State.readTherm_power (s : State) (tj : Int) :
    (s.readTherm tj).power.tj = tj ∧ (s.readTherm tj).power.hot = (if 12500 ≤ tj then s.power.hot + 1 else 0) ∧
    (s.readTherm tj).power.state = s.power.state :=
  ⟨State.thermWarn_power _ tj Power.tj (fun _ => rfl) (fun _ _ => rfl),
    State.thermWarn_power _ tj Power.hot (fun _ => rfl) (fun _ _ => rfl),
    State.thermWarn_power _ tj Power.state (fun _ => rfl) (fun _ _ => rfl)⟩

/-- A reading below 125 °C ends a run of hot ones (R421). -/
theorem execThermRead_cool (s : State) (tj : Int) (time : Nat) (ht : tj < 12500) (hs : s.power.state ≠ .off) :
    Completes (.thermRead [tj] time) s (fun u => u.power.tj = tj ∧ u.power.hot = 0) := by
  obtain ⟨htj, hh, -⟩ := State.readTherm_power (s.at time) tj
  rw [if_neg (by omega)] at hh
  exact ⟨_, (exec_thermRead s tj time hs).trans (congrArg Host.Outcome.next (if_neg (by omega))), htj, hh⟩

/-- A second reading of 125 °C or above stops the module in order (R421). -/
theorem execThermRead_hot (s : State) (tj : Int) (time : Nat) (ht : 12500 ≤ tj) (hh : 1 ≤ s.power.hot) (hs : s.isOn = true) :
    Completes (.thermRead [tj] time) s (fun u => u.power.state = .stopped ∧ u.power.thermStop = true ∧
      u.power.nextCauses.getLsbD 2 = true) := by
  obtain ⟨-, h2, hst⟩ := State.readTherm_power (s.at time) tj
  rw [if_pos ht, State.at_power] at h2
  rw [State.at_power] at hst
  have hon : ((s.at time).readTherm tj).isOn = true := by simp only [State.isOn, hst]; exact hs
  have hoff : s.power.state ≠ .off := by
    intro h
    simp [State.isOn, h] at hs
  refine ⟨_, (exec_thermRead s tj time hoff).trans (congrArg Host.Outcome.next
    ((if_pos (by omega)).trans (if_pos hon))), ?_, rfl, ?_⟩
  · exact (State.orderlyStop_power _ .stopped 4).1
  · exact (congrArg (BitVec.getLsbD · 2) (State.orderlyStop_power _ .stopped 4).2).trans (by simp)

/-- The restart after a thermal shutdown (R421). -/
theorem execThermRestart_completes (s : State) (boot : BootCheck) (time a : Nat) (hs : s.power.state = .stopped)
    (ht : s.power.thermStop = true) (hc : s.power.coolSince = some a) (ha : a + 60000000000 ≤ max s.now time)
    (hp : s.parB 0x01 0 4 = true) (hb : s.power.brownStop = false) :
    Completes (.thermRestart boot time) s (fun u => u.power.state = .run ∧ u.power.causes = s.power.nextCauses) := by
  have hp' : (s.at time).parB 0x01 0 4 = true := hp
  obtain ⟨h1, h2, -⟩ := State.restart_power ((s.at time).modPower (fun p => { p with thermStop := false })) boot
  refine ⟨((s.at time).modPower (fun p => { p with thermStop := false })).restart boot, ?_, h1, h2⟩
  simp only [exec, execThermRestart, evt, State.at_power, State.at_now, hs, ht, hc, hp', hb, Nat.not_lt.mpr ha,
    bne_self_eq_false, Bool.not_true, decide_false, Bool.or_false, Bool.false_eq_true, if_false]

/-- A wake from HIBERNATE (R415). -/
theorem execHibernateWake_completes (s : State) (by_ : WakeBy) (boot : BootCheck) (time : Nat)
    (hs : s.power.state = .hibernate) (hw : s.wakes by_ = true) :
    Completes (.hibernateWake by_ boot time) s (fun u => u.power.state = .run ∧ Out.hold true ∈ u.out ∧
      u.power.causes.getLsbD 6 = true) := by
  have hw' : (s.at time).wakes by_ = true := by cases by_ <;> exact hw
  obtain ⟨h1, h2, -⟩ := State.bootUp_power ((s.at time).emit (.hold true)) boot 64
  refine ⟨((s.at time).emit (.hold true)).bootUp boot 64, by simp [exec, execHibernateWake, evt, hs, hw'], h1, ?_, ?_⟩
  · exact State.bootUp_mem_out _ _ _ _ (State.mem_emit _ _)
  · rw [h2]; simp

/-- Settles O40: each event of power management, from what its command leaves of the power unit; a lost domain stays
down because every other operation only wakes domains from IDLE. -/
theorem powerEventsComplete : Obligations.PowerEventsComplete := by
  unfold Obligations.PowerEventsComplete
  exact ⟨execDomainLost_completes, execDomainRetry_completes, execTimeWheelFire_completes, execSupplyLost_completes,
    execBrownOut_completes, execSupplyRestored_completes, execAlwaysOnRailLoss_completes, execKeeperWdt_completes,
    execModuleFault_completes, fun s tj time => ⟨execThermRead_cool s tj time, execThermRead_hot s tj time⟩,
    execThermRestart_completes, execHibernateWake_completes⟩

end Sys2Proof.Machine
end

section
namespace Sys2Proof.Machine

/-! ## A request whose body moves plant time (R158, R162) -/

/-- A request passes the checks of R158: it is long enough, sets no flag, its role suffices, and the module runs the
plant where that is asked. -/
theorem State.gate_none (s : State) (t : Nat) (r : Req) (sp : OpSpec) (hr : s.inRecovery = false)
    (hlen : sp.len r.payload = true) (hf : r.flags = 0) (hpre : sp.pre = none) (hrole : sp.role ≤ s.tntRole t)
    (hcfg : sp.config = false) (hact : sp.active = true → s.runsPlant = true) : s.gate t r sp = none := by
  have ha : (sp.active && !s.runsPlant) = false := by
    cases h : sp.active
    · rfl
    · simp [hact h]
  simp [State.gate, hr, hlen, hf, hpre, Nat.not_lt.mpr hrole, hcfg, ha]

/-- A request that is ready and passes the checks executes at once, on a state that differs from the one before in the
tenant's books alone; what its body answers then goes to the tenant (R158, R162, R164). -/
theorem opcode_executes (s : State) (t : Fin 16) (r : Req) (sp : OpSpec) (body : State → State × Answer)
    (h : s.Ready t r) (g : s.gate t r sp = none) :
    ∃ s1 n, Books (s.at r.time) s1 ∧ s1.tenant t = Tenant.took (s.tenant t) sp.opcode r (max s.now r.time) n ∧
      opcode s t r sp body = .next (((body s1).1.answer t sp r (body s1).2).drain 32 t) := by
  obtain ⟨hp, hk, hr, hc, htu, h0, hq, he, -, hca⟩ := h
  obtain ⟨s1, n, ha, hb, ht⟩ := State.intake_ready (s.at r.time) t sp.opcode r hc htu h0 hq he
  refine ⟨s1, n, hb, ht, ?_⟩
  have hcn : Tenant.cached (s1.tenant t) r.seq = none := ht ▸ cache_find_none _ _ hca
  have hg : s1.gate t r sp = none := (State.gate_books hb t r sp).trans g
  have hpk : (s.at r.time).takesPackets = true ∧ (s1.power.keeper == .starting) = false := by
    obtain ⟨_, _, _, _, _, _, rfl⟩ := hb
    simp only [State.keeperUp] at hk
    cases hx : s.power.keeper <;> simp_all [State.takesPackets]
  simp only [opcode, evt, hpk.1, hpk.2, ha, State.runBody, hcn, hg, Bool.not_true, Bool.false_and, Bool.false_eq_true,
    if_false, if_true]

/-- A body that answers OK and leaves the executing request and the unread replies of the tenant: the reply is the
tenant's next unread one, and beyond that the answer changes books alone. -/
theorem State.answer_ok (s : State) (t : Fin 16) (r : Req) (sp : OpSpec) (ws : List Word) (hf : r.flags = 0)
    (he : (s.tenant t).executing = [{ pkt := { opcode := sp.opcode, length := r.payload.length, req := r } }])
    (hq : (s.tenant t).queued = []) :
    Replied s t r ws ((s.answer t sp r (.reply stOk ws)).drain 32 t) ∧
      Books s ((s.answer t sp r (.reply stOk ws)).drain 32 t) := by
  obtain ⟨hu, hd⟩ := State.finish_reply s t { opcode := sp.opcode, length := r.payload.length, req := r } stOk ws he hq
  rw [State.answer, State.drain_empty _ _ _ hd]
  exact ⟨by simpa [Replied, hf] using hu, State.finish_books s t _ _ _ _⟩

/-! ## A step of plant time (R13, R271) -/

/-- The books of a tenant stand as they were when plant time steps: only its session's baseline moves. -/
theorem State.timeStepped_tenant (s : State) (n t : Nat) :
    ∃ w, (s.timeStepped n).tenant t = { s.tenant t with session := w } := by
  rcases Map.get_map s.tenants (fun x => { x with session := x.session.map (fun w =>
    { w with lastPacket := shifted s.now n w.lastPacket }) }) t with e | ⟨e, e2⟩
  · exact ⟨_, e⟩
  · exact ⟨(default : Tenant).session, e.trans (by rw [State.tenant, e2])⟩

/-- Compare units that are stepped over leave the plant time and the tenants. -/
theorem State.cmpsStepped_only (s : State) (o n : Nat) (l : List Nat) :
    Only [.out, .parts, .views, .cmps, .doms] s (forEach l s (fun s k => s.cmpStepped (k / 32) (k % 32) o n)) :=
  forEach_only _ _ (fun _ _ => (State.cmpStepped_only ..).after (by decide) (Only.refl _ _)) (Only.refl _ s)

theorem State.stepTime_now (s : State) (n : Nat) : (s.stepTime n).now = n := by
  unfold State.stepTime
  split
  · exact (State.cmpsStepped_only (s.timeStepped n) s.now n _).keeps .now rfl
  · rfl

theorem State.stepTime_tenant (s : State) (n t : Nat) : ∃ w, (s.stepTime n).tenant t = { s.tenant t with session := w } := by
  unfold State.stepTime
  split
  · rw [(State.cmpsStepped_only (s.timeStepped n) s.now n _).tenant_eq t rfl]
    exact State.timeStepped_tenant s n t
  · exact State.timeStepped_tenant s n t

/-! ## PTP (R262 to R264) -/

/-- While a chain is in service an offset is slewed, whatever its size (R13). -/
theorem State.discipline_slews (s : State) (off : Int) (h : s.anyInService = true) :
    s.discipline off = (s.modTime (fun t => { t with offset := off })).modTime
      (fun t => { t with rate := Config.servoRate t.rate off, slew := -off }) := by
  simp [State.discipline, h]

/-- A Sync exchange on the selected port while a chain is in service (R264). -/
theorem State.ptpOffset_slews (s : State) (p t1 t2 : Nat) (hs : s.time.selected = some p) (h : s.anyInService = true) :
    (s.ptpOffset p t1 t2).time.offset = (t2 : Int) - t1 - (s.time.ports.get p).delay ∧
    (s.ptpOffset p t1 t2).time.slew = -(s.ptpOffset p t1 t2).time.offset ∧
    (s.ptpOffset p t1 t2).time.selected = some p ∧ (s.ptpOffset p t1 t2).now = s.now := by
  have kept (u : State) (g : Nat) (q : Bool) (f : TimeUnit → TimeUnit)
      (hf : f = fun t => if t.state == .acquiring && q then { t with state := .locked, lockedAt := some u.now, good := g }
        else { t with good := g }) :
      (u.modTime f).time.offset = u.time.offset ∧ (u.modTime f).time.slew = u.time.slew ∧
      (u.modTime f).time.selected = u.time.selected ∧ (u.modTime f).now = u.now := by
    subst hf
    by_cases h : (u.time.state == .acquiring && q) = true
    · simp [State.modTime, h]
    · simp [State.modTime, h]
  unfold State.ptpOffset
  rw [if_neg (by simp [hs])]
  dsimp only
  obtain ⟨ho, hw, hp, hn⟩ := kept (s.discipline ((t2 : Int) - t1 - (s.time.ports.get p).delay)) _ _ _ rfl
  rw [ho, hw, hp, hn, State.discipline_slews s _ h]
  exact ⟨rfl, rfl, hs, rfl⟩

theorem Map.get_modify {α β : Type} [Inhabited α] (m : Map α) (k : Nat) (f : α → α) (g : α → β)
    (hf : ∀ x, g (f x) = g x) (p : Nat) : g ((m.modify k f).get p) = g (m.get p) := by
  by_cases h : p = k
  · subst h; simp [Map.modify, hf]
  · simp [Map.modify, Map.get_set_other _ _ _ _ h]

/-- The selection of a master keeps what was heard, and from whom (R264). -/
theorem State.selectMaster_heard (s : State) :
    s.selectMaster.time.lastHeard = s.time.lastHeard ∧
    ∀ p : Nat, (s.selectMaster.time.ports.get p).foreign = (s.time.ports.get p).foreign := by
  have states (u : State) (st : Nat → Nat) (l : List Nat) (m : Map PtpPort) (p : Nat) :
      ((l.foldl (fun m p => m.modify p (fun x => { x with state := st p })) m).get p).foreign = (m.get p).foreign := by
    induction l generalizing m with
    | nil => rfl
    | cons k r ih => exact (ih _).trans (Map.get_modify m k (fun x => { x with state := st k }) PtpPort.foreign (fun _ => rfl) p)
  unfold State.selectMaster
  cases s.bestMaster with
  | none => exact ⟨rfl, fun p => states s _ _ _ p⟩
  | some b => exact ⟨rfl, fun p => states s _ _ _ p⟩

/-- An Announce is entered with its master, and its arrival is the last one heard (R264). -/
theorem execPtpMessageReceived_announce (s : State) (port : Fin 5) (a : Announce) (time : Nat) (hp : s.ptpOn port = true)
    (hd : a.domain = s.parN 0x41 0 1) :
    Completes (.ptpMessageReceived port (.announce a) time) s (fun u =>
      (u.time.ports.get port).foreign.any (fun f => f.data == a && f.heard.head? == some (max s.now time)) = true ∧
      u.time.lastHeard = max s.now time) := by
  have hp' : (s.at time).ptpOn port = true := hp
  have hd' : a.domain = (s.at time).parN 0x41 0 1 := hd
  refine ⟨_, congrArg Host.Outcome.next (if_neg (by simp [hp', PtpMsg.domain, hd'])), ?_⟩
  dsimp only
  obtain ⟨hl, hf⟩ := State.selectMaster_heard
    ((((s.at time).modPtp port (fun x => PtpPort.entered x a (s.at time).now)).modTime
      (fun t => { t with lastHeard := (s.at time).now })))
  refine ⟨?_, hl⟩
  rw [hf]
  simp [State.modPtp, State.modTime, Map.modify, PtpPort.entered]

/-- A Sync exchange in service is slewed, and the module asks for the delay (R13, R263, R264). -/
theorem execPtpMessageReceived_sync (s : State) (port : Fin 5) (t1 t2 time : Nat) (hp : s.ptpOn port = true)
    (hs : s.time.selected = some port.val) (ha : s.anyInService = true) :
    Completes (.ptpMessageReceived port (.sync (s.parN 0x41 0 1) (some t1) t2) time) s (fun u =>
      u.time.offset = (t2 : Int) - t1 - (s.time.ports.get port).delay ∧ u.time.slew = -u.time.offset ∧
      u.now = max s.now time ∧ Out.net port "DELAY_REQ" ∈ u.out) := by
  have hp' : (s.at time).ptpOn port = true := hp
  refine ⟨_, congrArg Host.Outcome.next (if_neg ?_), ?_⟩
  · simp only [hp', PtpMsg.domain]
    simp
    rfl
  dsimp only
  generalize h1 : (s.at time).modPtp port (fun x => { x with t1 := some t1, t2 := some t2 }) = s1
  have hd : (s1.time.ports.get port).delay = (s.time.ports.get port).delay := by
    rw [← h1]
    exact Map.get_modify s.time.ports port (fun x => { x with t1 := some t1, t2 := some t2 }) PtpPort.delay (fun _ => rfl) port
  obtain ⟨ho, hw, hsel, hn⟩ := State.ptpOffset_slews s1 port t1 t2 (h1 ▸ hs) (h1 ▸ ha)
  rw [decide_eq_true hsel, doIf_true]
  refine ⟨hd ▸ ho, hw, ?_, State.mem_emit _ _⟩
  exact hn.trans (h1 ▸ rfl)

/-- Without an Announce the module goes on in HOLDOVER (R264). -/
theorem execAnnounceTimeout_completes (s : State) (time : Nat) (a : Announce)
    (hs : s.time.state = .locked ∨ s.time.state = .acquiring) (hm : s.time.master = some a)
    (ht : s.time.lastHeard + s.parN 0x41 0 7 * a.intervalNs ≤ max s.now time) :
    Completes (.announceTimeout time) s (fun u => u.time.state = .holdover ∧ u.time.selected = none) := by
  have hst : ((s.at time).time.state == .locked || (s.at time).time.state == .acquiring) = true := by
    rw [State.at_time]
    rcases hs with h | h <;> rw [h] <;> rfl
  have ht' : (s.at time).time.lastHeard + (s.at time).parN 0x41 0 7 *
      ((s.at time).time.master.map Announce.intervalNs).getD announceNs ≤ (s.at time).now := by
    rw [State.at_time, hm]
    exact ht
  exact ⟨_, congrArg Host.Outcome.next (if_pos (Bool.and_eq_true_iff.mpr ⟨hst, decide_eq_true ht'⟩)), rfl, rfl⟩

/-- An Announce that leaves keeps the Sync before it and the instant of that Sync. -/
theorem State.announce_keepsSync (s : State) (p n : Nat) (o : Out) (h : Out.net p "SYNC" ∈ s.out)
    (hl : (s.time.ports.get p).lastSync = n) (f : PtpPort → PtpPort) (hf : ∀ x, (f x).lastSync = x.lastSync) :
    Out.net p "SYNC" ∈ ((s.modPtp p f).emit o).out ∧ (((s.modPtp p f).emit o).time.ports.get p).lastSync = n :=
  ⟨List.mem_append_left _ h, (Map.get_modify s.time.ports p f PtpPort.lastSync hf p).trans hl⟩

/-- A master's Sync whose interval `k` is over leaves, and its instant is remembered, whether its time follows in a
message of its own and an Announce comes after it or not. -/
theorem State.masterSend_sync (s : State) (p k : Nat) (hk : (s.time.ports.get p).lastSync + k ≤ s.now) (b : Bool)
    (c : Prop) [Decidable c] (o : Out) (u : State)
    (hu : u =
      let s1 := if (s.time.ports.get p).lastSync + k ≤ s.now then
          doIf b ((s.modPtp p (fun x => { x with lastSync := s.now })).emit (.net p "SYNC"))
            (fun s => s.emit (.net p "FOLLOW_UP"))
        else s
      if c then (s1.modPtp p (fun x => { x with lastAnnounce := s.now })).emit o else s1) :
    Out.net p "SYNC" ∈ u.out ∧ (u.time.ports.get p).lastSync = s.now := by
  rw [if_pos hk] at hu
  subst hu
  have sent : Out.net p "SYNC" ∈ (doIf b ((s.modPtp p (fun x => { x with lastSync := s.now })).emit (.net p "SYNC"))
        (fun s => s.emit (.net p "FOLLOW_UP"))).out ∧
      ((doIf b ((s.modPtp p (fun x => { x with lastSync := s.now })).emit (.net p "SYNC"))
        (fun s => s.emit (.net p "FOLLOW_UP"))).time.ports.get p).lastSync = s.now := by
    cases b <;> simp [State.modPtp, State.modTime, State.emit, Map.modify]
  dsimp only
  split
  · exact State.announce_keepsSync _ _ _ _ sent.1 sent.2 _ (fun _ => rfl)
  · exact sent

/-- The module as master sends Sync at its interval (R263). -/
theorem execPtpMasterSend_completes (s : State) (port : Fin 5) (time : Nat) (hp : s.ptpOn port = true)
    (hm : (s.at time).portState port = 6) (ht : (s.time.ports.get port).lastSync + s.syncNs ≤ max s.now time) :
    Completes (.ptpMasterSend port time) s (fun u => Out.net port "SYNC" ∈ u.out ∧
      (u.time.ports.get port).lastSync = max s.now time) := by
  have hp' : (s.at time).ptpOn port = true := hp
  have hk : (s.at time).syncNs = s.syncNs := by
    unfold State.syncNs
    rw [show (s.at time).parN 0x41 0 6 = s.parN 0x41 0 6 from rfl]
  rw [← hk] at ht
  exact ⟨_, congrArg Host.Outcome.next (if_neg (by simp [hp', hm])),
    State.masterSend_sync (s.at time) port _ ht _ _ _ _ rfl⟩

/-- TIME_STATUS shows the time unit (R274). -/
theorem execTimeStatus_runs : Runs .timeStatus 0 0 (fun _ _ _ => True) (fun s t r => Replied s t r
    [w32 s.time.state.code, s.offsetWord, i32 s.time.rate, hiWord (max s.now r.time), loWord (max s.now r.time),
      hiWord s.time.gm, loWord s.time.gm]) := by
  intro s t r hr hallow hn _
  have g := State.gate_none s t r { opcode := 0x4101 } hr.2.2.1 (by simpa using hn) hallow.2 rfl (Nat.zero_le _) rfl (by simp)
  obtain ⟨s1, n, hb, -, hrun⟩ := opcode_runs s t r { opcode := 0x4101 } (fun s =>
    (s, .reply stOk
      [w32 s.time.state.code, s.offsetWord, i32 s.time.rate, hiWord s.now, loWord s.now, hiWord s.time.gm, loWord s.time.gm]))
    hr (by simp [hallow.2]) g
  obtain ⟨u, hu, hrep, -⟩ := hrun s1 _ rfl rfl
  refine ⟨u, hu, ?_⟩
  obtain ⟨_, _, _, _, _, _, rfl⟩ := hb
  exact hrep

/-- TIME_SET steps plant time by command while no chain is in service (R13). -/
theorem execTimeSet_runs : Runs .timeSet 1 2 (fun s _ _ => s.runsPlant = true ∧ s.anyInService = false ∧
      s.time.state ≠ .locked ∧ s.time.state ≠ .following)
    (fun s t r u => Replied s t r [] u ∧ u.now = ofHiLo (r.w 2) (r.w 3)) := by
  rintro s t r hr hallow hn ⟨hrun, hserv, hlock, hfol⟩
  have g := State.gate_none s t r { opcode := 0x4103, role := 1, len := lenIs 2, active := true } hr.2.2.1
    (by simp [lenIs, hn]) hallow.2 rfl hallow.1 rfl (fun _ => hrun)
  obtain ⟨s1, n, hb, ht, he⟩ := opcode_executes s t r { opcode := 0x4103, role := 1, len := lenIs 2, active := true }
    (fun s =>
      if s.anyInService then (s, no (stRejected 0x10))
      else if s.time.state == .locked || s.time.state == .following then (s, no (stRejected 0x11))
      else (s.stepTime (ofHiLo (r.w 2) (r.w 3)), ok)) hr g
  have hserv1 : s1.anyInService = false := by
    obtain ⟨_, _, _, _, _, _, rfl⟩ := hb
    exact hserv
  have hst : s1.time.state = s.time.state := by
    obtain ⟨_, _, _, _, _, _, rfl⟩ := hb
    rfl
  have hstep : (if s1.anyInService then (s1, no (stRejected 0x10))
      else if s1.time.state == .locked || s1.time.state == .following then (s1, no (stRejected 0x11))
      else (s1.stepTime (ofHiLo (r.w 2) (r.w 3)), ok)) = (s1.stepTime (ofHiLo (r.w 2) (r.w 3)), ok) := by
    simp [hserv1, hst, hlock, hfol]
  rw [hstep] at he
  obtain ⟨w, hw⟩ := s1.stepTime_tenant (ofHiLo (r.w 2) (r.w 3)) t
  obtain ⟨hrep, hbooks⟩ := State.answer_ok (s1.stepTime (ofHiLo (r.w 2) (r.w 3))) t r
    { opcode := 0x4103, role := 1, len := lenIs 2, active := true } [] hallow.2 (by rw [hw, ht]; rfl) (by rw [hw, ht]; rfl)
  refine ⟨_, he, ?_, ?_⟩
  · rw [Replied, hw, ht] at hrep
    exact hrep
  · obtain ⟨_, _, _, _, _, _, e⟩ := hbooks
    exact (congrArg State.now e).trans (s1.stepTime_now _)

/-- Settles O28: each event of plant time by its rule above, on the state at the event's instant. -/
theorem plantTimeComplete : Obligations.PlantTimeComplete :=
  ⟨execPtpMessageReceived_announce, execPtpMessageReceived_sync, execAnnounceTimeout_completes,
    execPtpMasterSend_completes, execTimeStatus_runs, execTimeSet_runs⟩

end Sys2Proof.Machine
end

section
namespace Sys2Proof.Machine

/-! ## Plant time through the tick edge (R12, R13) -/

/-- The units of a domain other than that of the network's time unit leave the time unit alone (R408). -/
theorem State.unitsLost_time (s : State) (d : Nat) (h : d ≠ 48) : (s.unitsLost d).time = s.time := by
  unfold State.unitsLost
  split
  · exact ((State.tileLost_only ..).keeps .time rfl).trans ((State.tileLost_only ..).keeps .time rfl)
  split
  · exact (State.corePairLost_only ..).keeps .time rfl
  split
  · exact (State.bankLost_only ..).keeps .time rfl
  split
  · exact (State.bankLost_only ..).keeps .time rfl
  split
  · exact forEach_keeps (fun u => u.time = s.time) _ _ _ rfl (fun t i _ e => ((State.anaSafe_only ..).keeps .time rfl).trans
      (((State.modAna_only ..).keeps .time rfl).trans (((State.setAnaFlags_only ..).keeps .time rfl).trans e)))
  split
  · exact ((State.syncExt_only ..).keeps .time rfl).trans ((State.driveAllDo_only ..).keeps .time rfl)
  split
  · exact forEach_keeps (fun u => u.time = s.time) _ _ _ rfl
      (fun t k _ e => ((State.canConfigure_only ..).keeps .time rfl).trans e)
  split
  · refine forEach_keeps (fun u => u.time = s.time) _ _ _ ?_
      (fun t v _ e => ((State.modValve_only t _ _).keeps .time rfl).trans e)
    exact forEach_keeps (fun u => u.time = s.time) _ _ _ rfl
      (fun t i _ e => ((State.loopOff_only ..).keeps .time rfl).trans e)
  split
  · exact (State.linkLost_only ..).keeps .time rfl
  · rfl

/-- A domain that carries neither the network nor the units of all of them leaves the time unit as it goes down. -/
theorem State.domDown_time (s : State) (d : Nat) (h1 : d ≠ 41) (h : d ≠ 48) : (s.domDown d).time = s.time := by
  unfold State.domDown
  split
  · dsimp only [State.domEffects]
    rw [if_neg h1]
    split
    · exact (State.keeperLost_only ..).keeps .time rfl
    · exact State.unitsLost_time _ d h
  · rfl

/-- D41 and D48 are always in use, so the domains that the configuration drops leave the time unit (R409). -/
theorem State.dropUnused_time (s : State) : s.dropUnused.time = s.time := by
  unfold State.dropUnused
  split
  · refine forEach_keeps (fun u => u.time = s.time) _ _ _ rfl (fun t d _ e => ?_)
    split
    · exact e
    · next hu =>
      have hd : d ≠ 41 ∧ d ≠ 48 := ⟨by rintro rfl; exact hu rfl, by rintro rfl; exact hu rfl⟩
      exact (State.domDown_time t d hd.1 hd.2).trans e
  · rfl

/-- What the module does at the tick edge where it runs, beyond stepping the time unit. -/
def State.tickWork (s : State) : State :=
  forEach (List.range 12)
    (forEach (List.range 32) (forEach (List.range 64) s (fun s c => s.applyRunning c)).dropUnused
      (fun s ch => s.noteRefusals ch))
    (fun s p => (s.noteCorrections p).noteErrors p)

/-- The time unit as the tick edge leaves it. -/
def State.tickStart (s : State) : State :=
  ({ s with now := (s.tickNo + 1) * 1000000, out := [] } : State).modTime (fun t => { t with slew := slewed t.slew })

theorem exec_plantTickEdge (s : State) : exec .plantTickEdge s =
    .next (if s.tickStart.power.state == .run && s.tickStart.keeperUp then s.tickStart.tickWork else s.tickStart) :=
  (apply_ite Host.Outcome.next _ _ _).symm

/-- The work of the tick edge leaves plant time and its slew. -/
theorem State.tickWork_time (s : State) : s.tickWork.now = s.now ∧ s.tickWork.time = s.time := by
  have h1 : Only [.chains] s (forEach (List.range 64) s (fun s c => s.applyRunning c)) :=
    forEach_only _ _ (fun t c => State.applyRunning_only t c) (Only.refl _ s)
  unfold State.tickWork
  generalize forEach (List.range 64) s (fun s c => s.applyRunning c) = s1 at *
  have h2 : Only [.power, .pool, .parts, .recorder] s1.dropUnused (forEach (List.range 12)
      (forEach (List.range 32) s1.dropUnused (fun s ch => s.noteRefusals ch))
      (fun s p => (s.noteCorrections p).noteErrors p)) :=
    forEach_only _ _ (fun t p => (State.noteErrors_only ..).after (by decide) (State.noteCorrections_only t p))
      (forEach_only _ _ (fun t ch => (State.noteRefusals_only t ch).after (by decide) (Only.refl _ _)) (Only.refl _ _))
  exact ⟨(h2.keeps .now rfl).trans (((State.dropUnused_only s1).keeps .now rfl).trans (h1.keeps .now rfl)),
    (h2.keeps .time rfl).trans ((State.dropUnused_time s1).trans (h1.keeps .time rfl))⟩

/-- The tick edge takes plant time to the next tick, and slews it (R12, R13). -/
theorem execPlantTickEdge_completes (s : State) :
    Completes .plantTickEdge s (fun u => u.now = (s.tickNo + 1) * 1000000 ∧ u.time.slew = slewed s.time.slew) := by
  refine ⟨_, exec_plantTickEdge s, ?_⟩
  split
  · obtain ⟨hn, ht⟩ := State.tickWork_time s.tickStart
    exact ⟨hn, congrArg TimeUnit.slew ht⟩
  · exact ⟨rfl, rfl⟩

/-! ## The Keeper's mirror point (R252) -/

/-- An offset within the tick is reached within the same tick or the next. -/
theorem State.toOffset_mod (s : State) (off : Nat) (h : off < 1000000) : (s.toOffset off).now % 1000000 = off := by
  dsimp only [State.toOffset]
  split <;> omega

/-- A set beyond those of the partitions leaves as a delta against the last that left (R252). -/
theorem State.sendDelta_out (s : State) (k : Nat) (hm : s.mirrors = true) (hk : 12 ≤ k) :
    (s.sendDelta k).out = s.out ++ [.mirror (deltaOf (((s.pair.sets.get k).last + 1) % 2 ^ 32) (s.pair.sets.get k).last
      (s.pair.sets.get k).sent (s.mirrorBody k)) false] := by
  unfold State.sendDelta
  rw [if_pos (by simp [hm, hk])]
  rfl

/-- The Keeper set goes to the partner as a delta (R252). -/
theorem execKeeperMirrorPoint_completes (s : State) (hk : s.keeperUp = true) (hm : s.mirrors = true) :
    Completes .keeperMirrorPoint s (fun u => u.now % 1000000 = 700000 ∧
      u.out = [.mirror (deltaOf (((s.pair.sets.get 12).last + 1) % 2 ^ 32) (s.pair.sets.get 12).last
        (s.pair.sets.get 12).sent ((s.toOffset 700000).mirrorBody 12)) false]) := by
  have hk' : (s.toOffset 700000).keeperUp = true := hk
  refine ⟨_, congrArg Host.Outcome.next (if_pos hk'), ?_, ?_⟩
  · have hn := (State.keeperIdle_only { (s.toOffset 700000).sendDelta 12 with
      chains := (s.toOffset 700000).chains.map (fun (e : Nat × Chain) => (e.1, { e.2 with decided := none })) }).keeps .now rfl
    exact (congrArg (· % 1000000) (hn.trans ((State.sendDelta_only (s.toOffset 700000) 12).keeps .now rfl))).trans
      (s.toOffset_mod 700000 (by decide))
  · exact (State.keeperIdle_only _).out_eq rfl |>.trans (State.sendDelta_out (s.toOffset 700000) 12 hm (by decide))

/-! ## The publication and the end of a grant (R141, R146, R150) -/

/-- A reachable port with the link up publishes (R146). -/
theorem State.publishOn_out (s : State) (ws : List Word) (p : Nat) (hd : s.udpDest ≠ 0) (hp : s.portOn p = true)
    (hl : s.linkOf p = true) : (s.publishOn ws p).out = s.out ++ [.udp p s.udpDest 30411 ws] := by
  unfold State.publishOn
  rw [if_neg (not_or.mpr ⟨hd, by simp [hp]⟩), if_pos hl]
  rfl

/-- Turns that change groups change nothing else. -/
theorem forEach_modGroup (l : List Nat) (s : State) (f : Group → Group) :
    ∃ gs, forEach l s (fun s g => s.modGroup g f) = { s with groups := gs } := by
  induction l generalizing s with
  | nil => exact ⟨s.groups, rfl⟩
  | cons g r ih =>
    obtain ⟨gs, h⟩ := ih (s.modGroup g f)
    exact ⟨gs, h⟩

/-- The publication takes no time, and one port sends the datagram once, whatever the controllers send (R141, R146). -/
theorem State.published (s : State) (ws : List Word) (n : Nat) (late : Bool) (p : Nat) (hd : s.udpDest ≠ 0)
    (hp : s.portOn p = true) (hl : s.linkOf p = true) (u : State)
    (hu : forEach (List.range 8)
      (forEach [p] (forEach (List.range 8) s (fun s g => s.modGroup g (fun x => { x with block := x.ready })))
        (fun s p => s.publishOn ws p)) (fun s k => s.publishCan n late k) = u) :
    u.now = s.now ∧ u.out = s.out ++ [.udp p s.udpDest 30411 ws] := by
  obtain ⟨gs, h1⟩ := forEach_modGroup (List.range 8) s (fun x => { x with block := x.ready })
  rw [h1] at hu
  have h2 : Only [.pool, .cans] (({ s with groups := gs } : State).publishOn ws p) u :=
    hu ▸ forEach_only _ _ (fun t k => State.publishCan_only t n late k) (Only.refl _ _)
  exact ⟨(h2.keeps .now rfl).trans ((State.publishOn_only ..).keeps .now rfl),
    (h2.out_eq rfl).trans (State.publishOn_out { s with groups := gs } ws p hd hp hl)⟩

/-- The publication at +1.750 ms on one port (R141, R146). -/
theorem execDispatchPublish_completes (s : State) (p : Nat) (ht : (s.toOffset 750000).tickNo ≠ 0)
    (he : s.parB 0x13 0 0 = true) (hr : s.runsPlant = true) (hk : s.keeperUp = true)
    (ha : s.pair.outputAt ≤ (s.toOffset 750000).now) (hg : s.dispGroups ≠ []) (hp : s.dispPorts = [p])
    (hd : s.udpDest ≠ 0) (ho : s.portOn p = true) (hl : s.linkOf p = true) :
    Completes .dispatchPublish s (fun u => u.now % 1000000 = 750000 ∧
      u.out = [.udp p s.udpDest 30411 ((s.toOffset 750000).datagram ((s.toOffset 750000).tickNo - 1)
        (s.disp.doneTick != some ((s.toOffset 750000).tickNo - 1)))]) := by
  have hrun : ((s.toOffset 750000).tickNo = 0 || !(s.toOffset 750000).parB 0x13 0 0 || !(s.toOffset 750000).runsPlant ||
      !(s.toOffset 750000).keeperUp || decide ((s.toOffset 750000).now < (s.toOffset 750000).pair.outputAt) ||
      (s.toOffset 750000).dispGroups.isEmpty) = false := by
    have he' : (s.toOffset 750000).parB 0x13 0 0 = true := he
    have hr' : (s.toOffset 750000).runsPlant = true := hr
    have hk' : (s.toOffset 750000).keeperUp = true := hk
    have ha' : (s.toOffset 750000).pair.outputAt ≤ (s.toOffset 750000).now := ha
    have hg' : (s.toOffset 750000).dispGroups ≠ [] := hg
    simp only [ht, he', hr', hk', decide_eq_false (Nat.not_lt.mpr ha'), List.isEmpty_eq_false_iff.mpr hg', decide_false,
      Bool.not_true, Bool.or_self]
  refine ⟨_, congrArg Host.Outcome.next (if_neg (by rw [hrun]; decide)), ?_⟩
  dsimp only
  rw [show (s.toOffset 750000).dispPorts = [p] from hp]
  obtain ⟨hn, hs⟩ := State.published (s.toOffset 750000) _ _ _ p hd ho hl _ rfl
  exact ⟨(congrArg (· % 1000000) hn).trans (s.toOffset_mod 750000 (by decide)), hs⟩

/-- A grant whose last tick is over ends (R150). -/
theorem execGrantEnd_completes (s : State) (g : Fin 8) (x : Grant) (hx : (s.group g).grant = some x)
    (he : x.endTick ≤ s.tickNo) : Completes (.grantEnd g) s (fun u => (u.group g).grant = none) := by
  have hx' : (({ s with out := [] } : State).group g).grant = some x := hx
  have he' : x.endTick ≤ ({ s with out := [] } : State).tickNo := he
  refine ⟨({ s with out := [] } : State).modGroup g (fun y => { y with grant := none }), ?_,
    by simp [State.modGroup, State.group, Map.modify]⟩
  simp only [exec, execGrantEnd, evt0, hx', if_pos he']

/-- Settles O11: the tick edge, the mirror point, the publication and the end of a grant each by its rule above. -/
theorem tickAndPublicationComplete : Obligations.TickAndPublicationComplete :=
  ⟨execPlantTickEdge_completes, execKeeperMirrorPoint_completes, execDispatchPublish_completes, execGrantEnd_completes⟩

end Sys2Proof.Machine
end

section
namespace Sys2Proof.Machine

/-! ## What the estimation of a chain leaves (R70, R74 to R78, R86) -/

/-- The tick a tile works on, and its worst-cell record as last issued. -/
def Tile.marks (x : Tile) : Nat × Bool × List Word := (x.tick, x.issued, x.record)

/-- From s to u every chain keeps what neither a trip, a verification nor a queued CMD changes, and every tile its tick
and its record. -/
def Works (s u : State) : Prop :=
  (∀ k : Nat, ChainSame (s.chain k) (u.chain k)) ∧ ∀ k : Nat, Tile.marks (u.tile k) = Tile.marks (s.tile k)

theorem Works.refl (s : State) : Works s s := ⟨fun _ => ChainSame.refl _, fun _ => rfl⟩

theorem Works.trans {s t u : State} (h : Works s t) (k : Works t u) : Works s u :=
  ⟨fun j => (h.1 j).trans (k.1 j), fun j => (k.2 j).trans (h.2 j)⟩

theorem Works.tick {s u : State} (h : Works s u) (c : Nat) : (u.tile c).tick = (s.tile c).tick :=
  congrArg Prod.fst (h.2 c)

/-- An operation that lists neither the chains nor the tiles. -/
theorem Only.works {l : List Region} {s u : State} (h : Only l s u) (hc : l.contains .chains = false)
    (ht : l.contains .tiles = false) : Works s u :=
  ⟨fun k => (congrArg (fun m => ChainSame (s.chain k) (Map.get m k)) (h.keeps .chains hc)).mpr (ChainSame.refl _),
    fun k => congrArg (fun m => Tile.marks (Map.get m k)) (h.keeps .tiles ht)⟩

/-- Tripping and verifying leave the tiles. -/
theorem Prot.works {s u : State} (h : Prot s u) : Works s u := by
  refine ⟨h.2, fun k => ?_⟩
  obtain ⟨⟨_, _, _, _, _, _, _, _, _, _, rfl⟩, -⟩ := h
  rfl

theorem State.modTile_works (s : State) (c : Nat) (f : Tile → Tile)
    (h : ∀ x, (f x).tick = x.tick ∧ (f x).issued = x.issued ∧ (f x).record = x.record) : Works s (s.modTile c f) := by
  refine ⟨fun _ => ChainSame.refl _, fun k => ?_⟩
  by_cases hk : k = c
  · subst hk
    obtain ⟨ht, hi, hr⟩ := h (s.tile k)
    rw [State.modTile_tile_same, Tile.marks, ht, hi, hr]
    rfl
  · rw [State.modTile_tile_other s c k f hk]

theorem forEach_works {α : Type} (l : List α) (s : State) (f : State → α → State) (h : ∀ t x, Works t (f t x)) :
    Works s (forEach l s f) :=
  forEach_keeps (Works s) l s f (Works.refl s) (fun t x _ ht => ht.trans (h t x))

/-! ### Deferred work (R78, R95, R99, R101) -/

theorem State.formPart_works (s : State) (c p n : Nat) : Works s (s.formPart c p n) :=
  State.modTile_works s c _ (by exact fun _ => ⟨rfl, rfl, rfl⟩)

theorem State.roundRobin_works (s : State) (c p : Nat) : Works s (s.roundRobin c p) := by
  unfold State.roundRobin
  dsimp only
  split
  · exact Works.refl s
  · split
    · exact Works.refl s
    · exact (State.modTile_works s c _ (by exact fun _ => ⟨rfl, rfl, rfl⟩)).trans (State.queueCmd_prot _ c _).works

/-- A sequence that is over leaves a slot, it ends, and the round robin goes on (R99, R101). -/
theorem State.extractEnded_over (s : State) (c p : Nat) (r : ImpRun) (hr : (s.tile c).imped.get p = some r)
    (he : ¬ Tile.nextOf (s.tile c) p < ImpRun.endTick r) : ∃ m : Map Slot, s.extractEnded c p =
      (s.modTile c (fun x =>
        { x with slots := m, imped := x.imped.set p none, impedOld := x.impedOld.set p (some r) })).roundRobin c p := by
  unfold State.extractEnded
  simp only [hr, if_neg he]
  split
  · exact ⟨_, rfl⟩
  · split
    · exact ⟨_, rfl⟩
    · exact ⟨_, rfl⟩

/-- Without a sequence that is over there is nothing to extract. -/
theorem State.extractEnded_none (s : State) (c p : Nat)
    (h : ∀ r, (s.tile c).imped.get p = some r → Tile.nextOf (s.tile c) p < ImpRun.endTick r) : s.extractEnded c p = s := by
  unfold State.extractEnded
  dsimp only
  split
  · rfl
  · next r hr => rw [if_pos (h r hr)]

theorem State.extractEnded_works (s : State) (c p : Nat) : Works s (s.extractEnded c p) := by
  by_cases h : ∀ r, (s.tile c).imped.get p = some r → Tile.nextOf (s.tile c) p < ImpRun.endTick r
  · rw [State.extractEnded_none s c p h]
    exact Works.refl s
  · obtain ⟨r, hn⟩ := Classical.not_forall.mp h
    obtain ⟨hr, he⟩ := Classical.not_imp.mp hn
    obtain ⟨m, e⟩ := State.extractEnded_over s c p r hr he
    rw [e]
    exact (State.modTile_works s c _ (by exact fun _ => ⟨rfl, rfl, rfl⟩)).trans (State.roundRobin_works _ c p)

theorem State.reinitNow_works (s : State) (c p cell : Nat) (t : Word) (v : Word × Nat) (b : Bool) :
    Works s (s.reinitNow c p cell t v b) := by
  unfold State.reinitNow
  dsimp only
  split
  · exact Works.refl s
  · exact (State.modTile_works s c _ (by exact fun _ => ⟨rfl, rfl, rfl⟩)).trans (State.formPart_works _ c p _)

theorem State.doWork_works (s : State) (c : Nat) (w : Work) : Works s (s.doWork c w) := by
  cases w with
  | extract p => exact State.extractEnded_works s c p
  | reinit p cell t v code enters => exact State.reinitNow_works s c p cell t (v, code) enters

theorem State.runWork_works (s : State) (c : Nat) (sel : Work → Bool) : Works s (s.runWork c sel) :=
  (State.modTile_works s c _ (by exact fun _ => ⟨rfl, rfl, rfl⟩)).trans
    (forEach_works _ _ _ (fun t w => State.doWork_works t c w))

theorem State.pushWork_works (s : State) (c : Nat) (w : Work) : Works s (s.pushWork c w) := by
  unfold State.pushWork
  dsimp only
  split
  · exact (State.runWork_works s c _).trans (State.modTile_works _ c _ (by exact fun _ => ⟨rfl, rfl, rfl⟩))
  · exact State.modTile_works s c _ (by exact fun _ => ⟨rfl, rfl, rfl⟩)

/-! ### The update of a position (R74 to R76, R254) -/

/-- What the update of a cell leaves is stored, and what it brings is recorded and queued. -/
def State.putCell (s : State) (c p cell : Nat) (o : CellOut) : State :=
  let s1 := s.modTile c (fun x => { x with slots := x.slots.set (slotKey p cell) o.slot, imped := x.imped.set p o.run })
  let s2 := match o.bad with
    | some off => s1.record 0x11 0x01 c [packWord [(16, c), (8, p), (0, cell)], w32 off]
    | none => s1
  match o.work with
  | some w => s2.pushWork c w
  | none => s2

theorem State.putCell_works (s : State) (c p cell : Nat) (o : CellOut) : Works s (s.putCell c p cell o) := by
  have h1 : Works s (s.modTile c (fun x =>
      { x with slots := x.slots.set (slotKey p cell) o.slot, imped := x.imped.set p o.run })) :=
    State.modTile_works s c _ (by exact fun _ => ⟨rfl, rfl, rfl⟩)
  unfold State.putCell
  cases o.bad <;> cases o.work
  · exact h1
  · exact h1.trans (State.pushWork_works _ c _)
  · exact h1.trans (State.record_recs ..).prot.works
  · exact (h1.trans (State.record_recs ..).prot.works).trans (State.pushWork_works _ c _)

/-- A cell is absent, or its update is stored, with a head frame or without one (R75, R94). -/
theorem State.updateCell_cases (s : State) (c p n cell : Nat) (f hd : Option (BitVec 512)) (tamb : Word) :
    (∃ m : Map Slot, s.updateCell c p n cell f hd tamb = s.modTile c (fun x => { x with slots := m })) ∨
      ∃ o : CellOut, s.updateCell c p n cell f hd tamb = s.putCell c p cell o := by
  unfold State.updateCell
  dsimp only
  split
  · exact .inl ⟨_, rfl⟩
  · cases hd with
    | none => exact .inr ⟨(s.asOf n).cellHold c p cell n f tamb ((s.tile c).slots.get (slotKey p cell))
        ((s.tile c).imped.get p), rfl⟩
    | some h => exact .inr ⟨(s.asOf n).cellUpdate c p cell n f h tamb ((s.tile c).slots.get (slotKey p cell))
        ((s.tile c).imped.get p), rfl⟩

theorem State.updateCell_works (s : State) (c p n cell : Nat) (f hd : Option (BitVec 512)) (tamb : Word) :
    Works s (s.updateCell c p n cell f hd tamb) := by
  rcases State.updateCell_cases s c p n cell f hd tamb with ⟨m, e⟩ | ⟨o, e⟩
  · rw [e]; exact State.modTile_works s c _ (by exact fun _ => ⟨rfl, rfl, rfl⟩)
  · rw [e]; exact State.putCell_works s c p cell o

theorem State.updatePosition_works (s : State) (c p n : Nat) (f hd : Option (BitVec 512)) :
    Works s (s.updatePosition c p n f hd) := by
  unfold State.updatePosition
  dsimp only
  generalize hs2 : State.formPart _ c p n = s2
  have h2 : Works s s2 := by
    rw [← hs2]
    exact ((((State.runWork_works s c _).trans (State.modTile_works _ c _ (by exact fun _ => ⟨rfl, rfl, rfl⟩))).trans
      (forEach_works _ _ _ (fun t k => State.updateCell_works t c p n (k + 1) f hd _))).trans
      (State.modTile_works _ c _ (by exact fun _ => ⟨rfl, rfl, rfl⟩))).trans (State.formPart_works _ c p n)
  have h3 : Works s (match (s2.tile c).imped.get p with
      | some r => if ImpRun.endTick r ≤ n + 1 then s2.pushWork c (.extract p) else s2
      | none => s2) := by
    split
    · split
      · exact h2.trans (State.pushWork_works _ c _)
      · exact h2
    · exact h2
  split
  · exact Works.trans h3 (State.modTile_works _ c _ (by exact fun _ => ⟨rfl, rfl, rfl⟩))
  · exact h3

theorem State.installSlots_works (s : State) (c p : Nat) (zs : List Slot) : Works s (s.installSlots c p zs) := by
  unfold State.installSlots
  extract_lets rest s1
  split
  · exact (State.modTile_works s c _ (by exact fun _ => ⟨rfl, rfl, rfl⟩)).trans ((State.modPair_only ..).works rfl rfl)
  · exact State.modTile_works s c _ (by exact fun _ => ⟨rfl, rfl, rfl⟩)

theorem State.resyncHook_works (s : State) (c p n : Nat) : Works s (s.resyncHook c p n) := by
  unfold State.resyncHook
  split
  · exact Works.refl s
  · split
    · exact Works.refl s
    · split
      · exact (State.modTile_works s c _ (by exact fun _ => ⟨rfl, rfl, rfl⟩)).trans (State.emit_prot _ _).works
      · split
        · exact State.installSlots_works s c p _
        · exact Works.refl s

theorem State.advance_works (fuel : Nat) (s : State) (c p : Nat) : Works s (State.advance fuel s c p) := by
  induction fuel generalizing s with
  | zero => exact Works.refl s
  | succ k ih =>
    unfold State.advance
    dsimp only
    split
    · split
      · exact ((State.updatePosition_works s c p _ _ _).trans (State.resyncHook_works _ c p _)).trans (ih _)
      · exact Works.refl s
    · exact Works.refl s

theorem State.advanceAll_works (s : State) (c : Nat) : Works s (s.advanceAll c) :=
  forEach_works _ s _ (fun t p => State.advance_works 2 t c (p + 1))

/-! ### The Matrix takes a head frame and a record (R77, R114, R126) -/

theorem State.warning_works (s : State) (c k : Nat) (a b : Bool) (w : Word) : Works s (s.warning c k a b w) :=
  (State.warning_only ..).works rfl rfl

theorem State.recordLayer_works (s : State) (c : Nat) (r : List Word) : Works s (s.recordLayer c r) :=
  (((((State.modStr_only s c _).works rfl rfl).trans (State.warning_works ..)).trans (State.warning_works ..)).trans
    (State.warning_works ..)).trans (State.setCauses_prot ..).works

theorem State.takeRecord_works (s : State) (c : Nat) (r : List Word) : Works s (s.takeRecord c r) := by
  unfold State.takeRecord
  have h1 := ((State.modStr_prot s c (fun x => { x with lastRecord := some s.now })).trans
    (State.setCause_prot _ c 20 false)).works
  dsimp only
  split
  · exact h1.trans (State.recordLayer_works _ c r)
  · exact h1

theorem State.headSequence_prot (s : State) (c : Nat) (f : BitVec 512) : Prot s (s.headSequence c f) := by
  unfold State.headSequence
  dsimp only
  split
  · exact Prot.refl s
  · split
    · split
      · exact ((State.modStr_prot s c _).trans (State.modStr_prot _ c _)).trans (State.queueCmd_prot _ c _)
      · exact State.modStr_prot s c _
    · split
      · exact State.modStr_prot s c _
      · exact Prot.refl s
    · split
      · exact (State.modStr_prot s c _).trans (State.queueCmd_prot _ c _)
      · exact Prot.refl s
    · exact Prot.refl s

theorem State.headFrame_prot (s : State) (c : Nat) (f : BitVec 512) : Prot s (s.headFrame c f) := by
  unfold State.headFrame
  dsimp only
  have rest (t : State) : Prot t ((t.headProtection c f).headSequence c f) :=
    ((State.modStr_prot t c _).trans (State.setCauses_prot _ c _ _)).trans (State.headSequence_prot _ c f)
  split
  · exact Prot.refl s
  · split
    · exact (State.modChain_prot s c _ (fun _ => by rfl)).trans (rest _)
    · exact rest s

/-- The record of a tick is issued, and what follows leaves it (R77). -/
theorem State.issueRecord_works (s : State) (c : Nat) :
    Works (s.modTile c (fun x => { x with record := (s.asOf (s.tile c).tick).formRecord c, issued := true }))
      (s.issueRecord c) := by
  unfold State.issueRecord
  dsimp only
  split
  · exact (State.takeRecord_works _ c _).trans (State.runWork_works _ c _)
  · exact State.takeRecord_works _ c _

end Sys2Proof.Machine
end

section
namespace Sys2Proof.Machine

/-! ## Good frames (R66, R69) -/

/-- From s to u every chain keeps what neither a trip, a verification nor a queued CMD changes. -/
def SameChains (s u : State) : Prop := ∀ k : Nat, ChainSame (s.chain k) (u.chain k)

theorem SameChains.trans {s t u : State} (h : SameChains s t) (k : SameChains t u) : SameChains s u :=
  fun j => (h j).trans (k j)

theorem SameChains.lastFrame {s u : State} (h : SameChains s u) (c : Nat) :
    (u.chain c).lastFrame = (s.chain c).lastFrame := by
  have e := h c
  unfold ChainSame at e
  rw [e]

/-- The issue of a record changes no chain beyond what a trip does. -/
theorem State.issueRecord_sameChains (s : State) (c : Nat) : SameChains s (s.issueRecord c) :=
  (State.issueRecord_works s c).1

/-- A good copy is the last good frame of its position, whatever the tile and the Matrix make of it (R69). -/
theorem State.takeCopy_lastFrame (s : State) (c p n : Nat) (f : BitVec 512) :
    ((s.takeCopy c p n f).chain c).lastFrame.get p = some f := by
  unfold State.takeCopy
  extract_lets x s1 s2 before s3 s4 y
  have taken : (s1.chain c).lastFrame.get p = some f := by
    rw [State.modChain_chain_same]
    exact Map.get_set_same _ _ _
  have h2 : SameChains s1 s2 := by
    unfold s2
    split
    · exact (State.headFrame_prot (s1.modTile c _) c f).2
    · exact fun _ => ChainSame.refl _
  have h4 : SameChains s1 s4 := by
    unfold s4
    split
    · exact h2.trans (State.advanceAll_works s3 c).1
    · exact h2.trans (State.advance_works 2 s3 c p).1
  split
  · rw [h2.lastFrame c]
    exact taken
  · split
    · rw [(h4.trans (State.issueRecord_sameChains s4 c)).lastFrame c]
      exact taken
    · rw [h4.lastFrame c]
      exact taken

/-- A frame of the tick that a tile works on, with COMP_SET, is taken (R39, R45, R66). -/
theorem State.takeFrame_lastFrame (s : State) (c : Nat) (f : BitVec 512) (hb : s.banksUp = true)
    (hp : framePos f ≤ s.chPositions c) (hc : frameComp f = true) (hs : frameSeq f = (s.tile c).tick % 256) :
    ((s.takeFrame c f).chain c).lastFrame.get (framePos f) = some f := by
  unfold State.takeFrame
  simp only [hb, hc, hs, Nat.not_lt.mpr hp, decide_false, Bool.not_true, Bool.or_self, Bool.false_eq_true, if_false, if_true]
  exact State.takeCopy_lastFrame s c (framePos f) (s.tile c).tick f

/-- Line activity is noted, and the state of the chain and its adoption stay. -/
theorem State.lineActive_chain (s : State) (c : Nat) (e : RingEnd) :
    ((s.lineActive c e).chain c).adopt = (s.chain c).adopt ∧ (s.lineActive c e).inService c = s.inService c := by
  unfold State.lineActive State.inService
  rw [State.modChain_chain_same]
  cases e <;> exact ⟨rfl, rfl⟩

/-- DATA_FRAME_RECEIVED of a good frame (R66). -/
theorem execDataFrameReceived_completes (s : State) (c : Fin 64) (e : RingEnd) (f : BitVec 512) (time : Nat)
    (hh : s.holds e = true) (hu : s.bankUp e = true) (hb : s.banksUp = true) (hg : frameGood f = true)
    (ha : (s.chain c).adopt = none) (hi : s.inService c = true) (hp : framePos f ≤ s.chPositions c)
    (hc : frameComp f = true) (hs : frameSeq f = (s.tile c).tick % 256) :
    Completes (.dataFrameReceived c e f time) s (fun u => (u.chain c).lastFrame.get (framePos f) = some f) := by
  have hh' : (s.at time).holds e = true := hh
  have hu' : (s.at time).bankUp e = true := hu
  obtain ⟨h1, h2⟩ := State.lineActive_chain (s.at time) c e
  have ha' : (((s.at time).lineActive c e).chain c).adopt = none := h1.trans ha
  have hi' : ((s.at time).lineActive c e).inService c = true := h2.trans hi
  have hh2 : ((s.at time).lineActive c e).holds e = true := hh
  have hu2 : ((s.at time).lineActive c e).bankUp e = true := hu
  refine ⟨if ((s.at time).lineActive c e).single || !((s.at time).lineActive c e).linkUp then
      ((s.at time).lineActive c e).takeFrame c f
    else (((s.at time).lineActive c e).emit (.agfin "DATA" (w32 c :: frameWords f))).takeFrame c f, ?_, ?_⟩
  · simp only [exec, execDataFrameReceived, evt, hh', hu', hh2, hu2, hg, ha', hi', Bool.and_self, Bool.not_true, Bool.or_self,
      Bool.false_eq_true, if_true, if_false, Option.isSome_none]
    split <;> rfl
  · split
    · exact State.takeFrame_lastFrame ((s.at time).lineActive c e) c f hb hp hc hs
    · exact State.takeFrame_lastFrame (((s.at time).lineActive c e).emit _) c f hb hp hc hs

/-- AGFIN_FRAME_RECEIVED of a good frame (R58, R66). -/
theorem execAgfinFrameReceived_completes (s : State) (c : Fin 64) (f : BitVec 512) (time : Nat) (h1 : s.single = false)
    (hl : s.linkUp = true) (hb : s.banksUp = true) (hg : frameGood f = true) (hi : s.inService c = true)
    (hp : framePos f ≤ s.chPositions c) (hc : frameComp f = true) (hs : frameSeq f = (s.tile c).tick % 256) :
    Completes (.agfinFrameReceived c f time) s (fun u => (u.chain c).lastFrame.get (framePos f) = some f) := by
  have h1' : (s.at time).single = false := h1
  have hl' : (s.at time).linkUp = true := hl
  have hi' : (s.at time).inService c = true := hi
  exact ⟨_, congrArg Host.Outcome.next (if_neg (by simp [h1', hl', hg, hi'])),
    State.takeFrame_lastFrame (s.at time) c f hb hp hc hs⟩

/-! ## The worst-cell record and the cutoff (R75, R77) -/

/-- The record of a chain does not depend on plant time or on what leaves. -/
theorem State.toOffset_formRecord (s : State) (off n c : Nat) :
    ((s.toOffset off).asOf n).formRecord c = (s.asOf n).formRecord c := by
  unfold State.asOf
  split
  · next h => rw [if_pos (show n < s.cfg.activeFrom from h)]; rfl
  · next h => rw [if_neg (show ¬ n < s.cfg.activeFrom from h)]; rfl

/-- The issued record of a tile is its record for its tick (R77). -/
theorem State.issueRecord_marks (s : State) (c : Nat) : Tile.marks ((s.issueRecord c).tile c) =
    ((s.tile c).tick, true, (s.asOf (s.tile c).tick).formRecord c) := by
  rw [(State.issueRecord_works s c).2 c, State.modTile_tile_same]
  rfl

/-- WORST_CELL_RECORD at +704 µs (R77). -/
theorem execWorstCellRecord_completes (s : State) (c : Fin 64) (hi : s.inService c = true) (hw : s.tileWorks c = true)
    (ht : (s.tile c).tick = (s.toOffset 704000).tickNo) :
    Completes (.worstCellRecord c) s (fun u => u.now % 1000000 = 704000 ∧
      (u.tile c).issued = true ∧ (u.tile c).record = (s.asOf (s.tile c).tick).formRecord c) := by
  have hi' : (s.toOffset 704000).inService c = true := hi
  have hw' : (s.toOffset 704000).tileWorks c = true := hw
  have ht' : ((s.toOffset 704000).tile c).tick = (s.toOffset 704000).tickNo := ht
  refine ⟨_, congrArg Host.Outcome.next (if_pos (by simp [hi', hw', ht'])), ?_⟩
  have idle : Only [.doms] ((s.toOffset 704000).issueRecord c) (((s.toOffset 704000).issueRecord c).tileIdle c) :=
    State.tileIdle_only ..
  have hn := (idle.keeps .now rfl).trans ((State.issueRecord_only (s.toOffset 704000) c).keeps .now rfl)
  have hm := (congrArg (fun m => Tile.marks (Map.get m c.val)) (idle.keeps .tiles rfl)).trans
    (State.issueRecord_marks (s.toOffset 704000) c)
  rw [State.toOffset_formRecord] at hm
  obtain ⟨-, hm⟩ := Prod.mk.inj hm
  obtain ⟨hiss, hrec⟩ := Prod.mk.inj hm
  exact ⟨hn ▸ s.toOffset_mod 704000 (by decide), hiss, hrec⟩

theorem State.closeTick_tick (s : State) (c n : Nat) : ((s.closeTick c n).tile c).tick = n + 1 := by
  unfold State.closeTick
  dsimp only
  rw [State.modTile_tile_same]

/-- TILE_CUTOFF closes the tick of the tile, or passes over it where the tile does not work (R26, R75). -/
theorem execTileCutoff_completes (s : State) (c : Fin 64) (hi : s.inService c = true) (ha : (s.chain c).adopt = none)
    (ht : (s.tile c).tick < (s.toOffset 496000).tickNo) :
    Completes (.tileCutoff c) s (fun u => u.now % 1000000 = 496000 ∧ (u.tile c).tick = (s.tile c).tick + 1) := by
  have hi' : (s.toOffset 496000).inService c = true := hi
  have ha' : ((s.toOffset 496000).chain c).adopt.isSome = false := congrArg Option.isSome ha
  have ht' : ¬ (s.toOffset 496000).tickNo ≤ ((s.toOffset 496000).tile c).tick := Nat.not_le.mpr ht
  refine ⟨_, congrArg Host.Outcome.next ((if_neg (by simp [ha'])).trans (if_neg (by simp [hi', ht']))), ?_⟩
  extract_lets s1 s2 s3
  have hm : s1.now % 1000000 = 496000 :=
    (congrArg (· % 1000000) ((State.countMissing_only (s.toOffset 496000) c).keeps .now rfl)).trans
      (s.toOffset_mod 496000 (by decide))
  split
  · refine ⟨hm, ?_⟩
    rw [State.modTile_tile_same]
    rfl
  · have h3 : s3.now = s1.now := by
      have h2 : s2.now = s1.now := (State.finishTick_only s1 c _).keeps .now rfl
      unfold s3
      split
      · exact h2
      · exact ((State.issueRecord_only s2 c).keeps .now rfl).trans h2
    refine ⟨?_, ?_⟩
    · rw [(State.advanceAll_only ..).keeps .now rfl, (State.closeTick_only ..).keeps .now rfl,
        (State.runWork_only ..).keeps .now rfl, h3]
      exact hm
    · rw [(State.advanceAll_works _ c).tick c, State.closeTick_tick]
      rfl

/-! ## The exchange of the summary buffers (R16) -/

/-- The buffer of tick n is the readable one after the exchange (R16). -/
theorem State.flipBuffers_read (s : State) (n : Nat) : (s.flipBuffers n).readB = !s.readB ∧
    (s.flipBuffers n).readBuf.tick = n ∧ (s.flipBuffers n).readBuf.sample = tickTime n := by
  unfold State.flipBuffers
  dsimp only
  split
  · next h => rw [h]; exact ⟨rfl, rfl, rfl⟩
  · next h => rw [Bool.eq_false_iff.mpr h]; exact ⟨rfl, rfl, rfl⟩

theorem State.readBuf_eq {s u : State} (ha : u.bufA = s.bufA) (hb : u.bufB = s.bufB) (hr : u.readB = s.readB) :
    u.readBuf = s.readBuf := by
  rw [State.readBuf, ha, hb, hr, State.readBuf]

/-- After the exchange the ledger is staged, digests leave and the dispatch is computed (R16, R97, R108, R141). -/
theorem exec_tickSummaryFlip (s : State) (hu : s.up 41 = true) (ht : (s.toOffset 500000).tickNo ≠ 0) :
    ∃ u, exec .tickSummaryFlip s = .next u ∧
      Only [.tiles, .ledger, .out, .power, .tenants, .pool, .strLimits, .groups, .disp, .parts, .views, .recorder, .doms]
        ((s.toOffset 500000).flipBuffers ((s.toOffset 500000).tickNo - 1)) u := by
  have hu' : (s.toOffset 500000).up 41 = true := hu
  refine ⟨_, congrArg Host.Outcome.next (if_neg (by simp [hu', ht])), ?_⟩
  dsimp only
  generalize (s.toOffset 500000).tickNo - 1 = n
  generalize (s.toOffset 500000).flipBuffers n = t
  have h1 : Only [.tiles, .ledger, .out, .power, .tenants, .pool, .strLimits, .groups, .disp, .parts, .views, .recorder,
      .doms] t ((forEach (List.range 64) t (fun s c => s.stageLedger c)).sendDigests n) :=
    (State.sendDigests_only ..).after (by decide)
      (forEach_only _ _ (fun u c => (State.stageLedger_only u c).after (by decide) (Only.refl _ _)) (Only.refl _ _))
  split
  · exact (State.computeDispatch_only ..).after (by decide) h1
  · exact h1

/-- TICK_SUMMARY_FLIP (R16). -/
theorem execTickSummaryFlip_completes (s : State) (hu : s.up 41 = true) (ht : (s.toOffset 500000).tickNo ≠ 0) :
    Completes .tickSummaryFlip s (fun u => u.now % 1000000 = 500000 ∧ u.readB = !s.readB ∧
      u.readBuf.tick + 1 = u.tickNo ∧ u.readBuf.sample = tickTime u.readBuf.tick) := by
  obtain ⟨u, he, h⟩ := exec_tickSummaryFlip s hu ht
  obtain ⟨hb, hk, hs⟩ := (s.toOffset 500000).flipBuffers_read ((s.toOffset 500000).tickNo - 1)
  have hn : u.now = (s.toOffset 500000).now := (h.keeps .now rfl).trans ((State.flipBuffers_only ..).keeps .now rfl)
  have hread := State.readBuf_eq (h.keeps .bufA rfl) (h.keeps .bufB rfl) (h.keeps .readB rfl)
  refine ⟨u, he, hn ▸ s.toOffset_mod 500000 (by decide), (h.keeps .readB rfl).trans hb, ?_, ?_⟩
  · rw [hread, hk, show u.tickNo = (s.toOffset 500000).tickNo from congrArg (· / 1000000) hn]
    exact Nat.sub_add_cancel (Nat.pos_of_ne_zero ht)
  · rw [hread, hk, hs]

/-! ## The end of an impedance sequence (R101) -/

/-- The round robin queues a CMD and remembers its cell; no sequence begins yet (R98, R99). -/
theorem State.roundRobin_imped (s : State) (c p : Nat) : ((s.roundRobin c p).tile c).imped = (s.tile c).imped := by
  unfold State.roundRobin
  dsimp only
  split
  · rfl
  · split
    · rfl
    · next k _ =>
      show ((s.modTile c (fun x => { x with nextCell := x.nextCell.set p k })).tile c).imped = _
      rw [State.modTile_tile_same]

theorem execImpedSequenceEnd_completes (s : State) (c : Fin 64) (p : Nat) (r : ImpRun)
    (hr : (s.tile c).imped.get p = some r) (he : ImpRun.endTick r ≤ Tile.nextOf (s.tile c) p) :
    Completes (.impedSequenceEnd c p) s (fun u => (u.tile c).imped.get p = none) := by
  refine ⟨_, rfl, ?_⟩
  have hr' : (({ s with out := [] } : State).tile c).imped.get p = some r := hr
  have he' : ¬ Tile.nextOf (({ s with out := [] } : State).tile c) p < ImpRun.endTick r := Nat.not_lt.mpr he
  generalize ({ s with out := [] } : State) = s0 at *
  obtain ⟨m, e⟩ := State.extractEnded_over s0 c p r hr' he'
  show ((s0.extractEnded c p).tile c).imped.get p = none
  rw [e, State.roundRobin_imped, State.modTile_tile_same]
  exact Map.get_set_same _ _ _

/-- Settles O7: each event of the estimation by its rule above, on the state at the event's instant. -/
theorem estimationEventsComplete : Obligations.EstimationEventsComplete :=
  ⟨execDataFrameReceived_completes, execAgfinFrameReceived_completes, execWorstCellRecord_completes,
    execTileCutoff_completes, execTickSummaryFlip_completes, execImpedSequenceEnd_completes⟩

end Sys2Proof.Machine
end

section
namespace Sys2Proof.Machine

/-! ## What a request finds when it executes (R158, R162, R164) -/

/-- A wake from IDLE takes no domain up or down (R20, R408). -/
theorem Wakes.up {s u : State} (h : Wakes s u) (d : Nat) : u.up d = s.up d := by
  show ((u.dom d).state != .down) = ((s.dom d).state != .down)
  rcases h d with e | ⟨hi, e⟩
  · rw [e]
  · rw [e, hi]; rfl

/-- Taking up a request wakes domains alone. -/
theorem State.intake_wakes (s : State) (t op : Nat) (r : Req) : Wakes s (s.intake t op r).1 := by
  have start (u : State) (p : Packet) : Wakes u (u.startHead t p) :=
    Wakes.ite (fun _ => Wakes.refl u) (fun _ => State.modTenant_wakes u t _)
  have queued (p : Packet) : Wakes s ((s.enqueue t p).modTenant t (fun x => Tenant.carries x s.now)) :=
    (State.enqueue_wakes s t p).trans (State.modTenant_wakes _ t _)
  unfold State.intake
  dsimp only
  split
  · split
    · split
      · exact start s _
      · exact Wakes.refl s
    · exact Wakes.refl s
  · split
    · exact Wakes.refl s
    · split
      · exact (queued _).trans (start _ _)
      · exact queued _

theorem Books.tile {s u : State} (h : Books s u) (c : Nat) : u.tile c = s.tile c := by
  obtain ⟨_, _, _, _, _, _, rfl⟩ := h
  rfl

/-- The state in which the request of tenant t executes: only the tenant's books and domains that woke differ from the
state at its instant. -/
structure Executing (s : State) (t : Fin 16) (r : Req) (op : Nat) (u : State) : Prop where
  books : Books (s.at r.time) u
  wakes : Wakes (s.at r.time) u
  tenant : ∃ n, u.tenant t = Tenant.took (s.tenant t) op r (max s.now r.time) n

/-- A request that is ready and passes the checks executes at once, and what its body answers goes to the tenant: as
`opcode_executes`, for bodies that read which domains are up. -/
theorem opcode_answers (s : State) (t : Fin 16) (r : Req) (sp : OpSpec) (body : State → State × Answer)
    (h : s.Ready t r) (g : s.gate t r sp = none) : ∃ u, Executing s t r sp.opcode u ∧
      opcode s t r sp body = .next (((body u).1.answer t sp r (body u).2).drain 32 t) := by
  obtain ⟨hp, hk, hr, hc, htu, h0, hq, he, -, hca⟩ := h
  obtain ⟨u, n, ha, hb, ht⟩ := State.intake_ready (s.at r.time) t sp.opcode r hc htu h0 hq he
  have hw : Wakes (s.at r.time) u := by
    have := State.intake_wakes (s.at r.time) t sp.opcode r
    rwa [ha] at this
  refine ⟨u, ⟨hb, hw, n, ht⟩, ?_⟩
  have hcached : Tenant.cached (u.tenant t) r.seq = none := ht ▸ cache_find_none _ _ hca
  have hgate : u.gate t r sp = none := (State.gate_books hb t r sp).trans g
  have hkeeper : (s.at r.time).takesPackets = true ∧ (u.power.keeper == .starting) = false := by
    obtain ⟨_, _, _, _, _, _, rfl⟩ := hb
    simp only [State.keeperUp] at hk
    cases hx : s.power.keeper <;> simp_all [State.takesPackets]
  simp only [opcode, evt, hkeeper.1, hkeeper.2, ha, State.runBody, hcached, hgate, Bool.not_true, Bool.false_and,
    Bool.false_eq_true, if_false, if_true]

section
variable {s u : State} {t : Fin 16} {r : Req} {op : Nat}

/-- The one request that executes, with nothing behind it. -/
theorem Executing.alone (h : Executing s t r op u) : (u.tenant t).queued = [] ∧
    (u.tenant t).executing = [{ pkt := { opcode := op, length := r.payload.length, req := r } }] := by
  obtain ⟨n, ht⟩ := h.tenant
  rw [ht]
  exact ⟨rfl, rfl⟩

theorem Executing.unread (h : Executing s t r op u) : (u.tenant t).unread = (s.tenant t).unread := by
  obtain ⟨n, ht⟩ := h.tenant
  rw [ht]
  rfl

theorem Executing.outStream (h : Executing s t r op u) : (u.tenant t).outStream = (s.tenant t).outStream := by
  obtain ⟨n, ht⟩ := h.tenant
  rw [ht]
  rfl

/-! ### What a read finds (R104, R106, R111) -/

theorem Executing.cellAddr (h : Executing s t r op u) (w : Word) : u.cellAddr w = s.cellAddr w := by
  obtain ⟨_, _, _, _, _, _, rfl⟩ := h.books
  rfl

theorem Executing.chEnabled (h : Executing s t r op u) (c : Nat) : u.chEnabled c = s.chEnabled c := by
  obtain ⟨_, _, _, _, _, _, rfl⟩ := h.books
  rfl

theorem Executing.chPositions (h : Executing s t r op u) (c : Nat) : u.chPositions c = s.chPositions c := by
  obtain ⟨_, _, _, _, _, _, rfl⟩ := h.books
  rfl

theorem Executing.readBuf (h : Executing s t r op u) : u.readBuf = s.readBuf := by
  obtain ⟨_, _, _, _, _, _, rfl⟩ := h.books
  rfl

theorem Executing.chain (h : Executing s t r op u) (c : Nat) : u.chain c = s.chain c := by
  obtain ⟨_, _, _, _, _, _, rfl⟩ := h.books
  rfl

theorem Executing.tile (h : Executing s t r op u) (c : Nat) : u.tile c = s.tile c := h.books.tile c

theorem Executing.slot (h : Executing s t r op u) (c p k : Nat) : u.slot c p k = s.slot c p k := by
  obtain ⟨_, _, _, _, _, _, rfl⟩ := h.books
  rfl

theorem Executing.outsRead (h : Executing s t r op u) (c p k : Nat) : u.outsRead c p k = s.outsRead c p k := by
  obtain ⟨_, _, _, _, _, _, rfl⟩ := h.books
  rfl

theorem Executing.tileWorks (h : Executing s t r op u) (c : Nat) : u.tileWorks c = s.tileWorks c := by
  rw [State.tileWorks, h.wakes.up, h.wakes.up]
  rfl

theorem Executing.flagsRead (h : Executing s t r op u) (c p k : Nat) : u.flagsRead c p k = s.flagsRead c p k := by
  have hw := h.tileWorks c
  rw [State.flagsRead, hw]
  obtain ⟨_, _, _, _, _, _, rfl⟩ := h.books
  rfl

theorem Executing.slotRead (h : Executing s t r op u) (c p k : Nat) : u.slotRead c p k = s.slotRead c p k := by
  rw [State.slotRead, h.flagsRead, h.slot, State.slotRead]
  obtain ⟨_, _, _, _, _, _, rfl⟩ := h.books
  rfl

end

/-! ## Replies of a request that executes alone (R155, R162, R166) -/

/-- A body that answers OK and keeps the tenant: its words are the next unread reply, and nothing but books changes. -/
theorem opcode_replies (s : State) (t : Fin 16) (r : Req) (sp : OpSpec) (body : State → State × Answer) (ws : List Word)
    (P : State → Prop) (h : s.Ready t r) (hf : r.flags = 0) (g : s.gate t r sp = none)
    (hb : ∀ u, Executing s t r sp.opcode u → ∃ v, body u = (v, .reply stOk ws) ∧ v.tenant t = u.tenant t ∧
      ∀ w, Books v w → P w) :
    ∃ w, opcode s t r sp body = .next w ∧ Replied s t r ws w ∧ P w := by
  obtain ⟨u, hx, he⟩ := opcode_answers s t r sp body h g
  obtain ⟨v, hbody, ht, hP⟩ := hb u hx
  rw [hbody] at he
  obtain ⟨hrep, hbooks⟩ := State.answer_ok v t r sp ws hf (ht ▸ hx.alone.2) (ht ▸ hx.alone.1)
  rw [Replied, ht, hx.unread] at hrep
  exact ⟨_, he, hrep, hP _ hbooks⟩

/-- A body that only reads. -/
theorem opcode_reads (s : State) (t : Fin 16) (r : Req) (sp : OpSpec) (body : State → State × Answer) (ws : List Word)
    (h : s.Ready t r) (hf : r.flags = 0) (g : s.gate t r sp = none)
    (hb : ∀ u, Executing s t r sp.opcode u → body u = (u, .reply stOk ws)) :
    ∃ w, opcode s t r sp body = .next w ∧ Replied s t r ws w := by
  obtain ⟨w, he, hrep, -⟩ := opcode_replies s t r sp body ws (fun _ => True) h hf g
    (fun u hx => ⟨u, hb u hx, rfl, fun _ _ => trivial⟩)
  exact ⟨w, he, hrep⟩

/-- The first packet of a bulk read that has not failed (R166). -/
theorem streamPacket_first (st : OutStream) (h : st.flags = 0) (hf : st.pkt.req.flags = 0) :
    (streamPacket st).1 =
      { status := stOk, flags := if st.words.length ≤ 255 then 3 else 1, seq := st.pkt.req.seq, tag := st.pkt.req.tag,
        payload := st.words.take 255 } := by
  have hl : (st.words.drop 255).isEmpty = decide (st.words.length ≤ 255) := by
    rw [Bool.eq_iff_iff, List.isEmpty_iff, List.drop_eq_nil_iff, decide_eq_true_iff]
  by_cases hw : st.words.length ≤ 255
  · simp [streamPacket, hl, hw, h, hf, stOk]
  · simp [streamPacket, hl, hw, h, hf, stOk]

/-- A stream in answer to the one executing request leaves at once where none runs (R166). -/
theorem State.streamReply_first (s : State) (t : Nat) (st : OutStream) (hr : st.recs = [])
    (he : (s.tenant t).executing = [{ pkt := st.pkt }]) (hq : (s.tenant t).queued = [])
    (ho : (s.tenant t).outStream = none) :
    ((s.streamReply t st).tenant t).unread =
      (s.tenant t).unread ++ [{ words := replyWords (streamPacket st).1 }] ∧
    ((s.streamReply t st).tenant t).queued = [] := by
  have e : takeExec (s.tenant t).executing st.pkt.req.seq = some ({ pkt := st.pkt }, []) := by simp [he, takeExec]
  have hfill : s.fillStream st = st := by
    obtain ⟨p, obj, ws, fl, recs, room⟩ := st
    cases hr
    rfl
  simp only [State.streamReply, ho, Option.isSome_none, Bool.false_eq_true, if_false, State.startStream, hfill, e]
  rw [State.drain_empty _ _ _ (by simp [State.toUnread_tenant, Tenant.carries, (addCache_unread _ _ _ _).2, hq])]
  simp only [State.toUnread_tenant, State.modTenant_same, Tenant.carries]
  exact ⟨by simp [(addCache_unread _ _ _ _).1], by simp [(addCache_unread _ _ _ _).2, hq]⟩

/-- A body that only reads and answers in bulk (R166). -/
theorem opcode_readsBulk (s : State) (t : Fin 16) (r : Req) (sp : OpSpec) (body : State → State × Answer) (obj : Nat)
    (ws : List Word) (h : s.Ready t r) (hf : r.flags = 0) (g : s.gate t r sp = none)
    (hb : ∀ u, Executing s t r sp.opcode u → body u = (u, .bulk obj ws)) :
    ∃ w, opcode s t r sp body = .next w ∧ RepliedBulk s t r ws w := by
  obtain ⟨u, hx, he⟩ := opcode_answers s t r sp body h g
  obtain ⟨-, -, -, -, -, -, -, -, ho, -⟩ := h
  rw [hb u hx] at he
  obtain ⟨hu, hq⟩ := State.streamReply_first u t
    { pkt := { opcode := sp.opcode, length := r.payload.length, req := r }, object := obj, words := ws } rfl
    hx.alone.2 hx.alone.1 (hx.outStream.trans ho)
  rw [streamPacket_first _ rfl hf, hx.unread] at hu
  dsimp only at he
  rw [State.answer, State.drain_empty _ _ _ hq] at he
  exact ⟨_, he, hu⟩

/-! ## The opcodes of group 0x11 (R111) -/

section
variable (s : State) (t : Fin 16) (r : Req)

/-- The checks of a request of one word that the plant need not be run for. -/
theorem State.gate_oneWord (op role : Nat) (h : s.Ready t r) (ha : s.Allows t r role) (hn : r.payload.length = 1) :
    s.gate t r { opcode := op, role := role, len := lenIs 1 } = none := by
  obtain ⟨-, -, hrec, -⟩ := h
  exact State.gate_none s t r _ hrec (by simp [lenIs, hn]) ha.2 rfl ha.1 rfl (by simp)

theorem execEstCellRead_completes (h : s.Ready t r) (ha : s.Allows t r 0) (hn : r.payload.length = 1)
    (hc : s.cellAddr (r.w 2) = none) :
    Completes (.estCellRead t r) s (Replied s t r
      (s.outsRead (fieldOf (r.w 2) 23 16) (fieldOf (r.w 2) 15 8) (fieldOf (r.w 2) 7 0) ++
        [s.flagsRead (fieldOf (r.w 2) 23 16) (fieldOf (r.w 2) 15 8) (fieldOf (r.w 2) 7 0),
          hiWord s.readBuf.tick, loWord s.readBuf.tick])) := by
  refine opcode_reads s t r _ _ _ h ha.2 (s.gate_oneWord t r 0x1101 0 h ha hn) (fun u hx => ?_)
  simp only [hx.cellAddr, hc, hx.outsRead, hx.flagsRead, hx.readBuf]

theorem execEstChainRead_completes (h : s.Ready t r) (ha : s.Allows t r 0) (hn : r.payload.length = 1)
    (hc : fieldOf (r.w 2) 7 0 ≤ 63) (hen : s.chEnabled (fieldOf (r.w 2) 7 0) = true) :
    Completes (.estChainRead t r) s (RepliedBulk s t r
      ((List.range (s.chPositions (fieldOf (r.w 2) 7 0))).flatMap (fun p => (List.range 18).flatMap (fun k =>
        s.outsRead (fieldOf (r.w 2) 7 0) (p + 1) (k + 1) ++ [s.flagsRead (fieldOf (r.w 2) 7 0) (p + 1) (k + 1)])))) := by
  refine opcode_readsBulk s t r _ _ 0x102 _ h ha.2 (s.gate_oneWord t r 0x1102 0 h ha hn) (fun u hx => ?_)
  simp only [Nat.not_lt.mpr hc, if_false, hx.chEnabled, hen, Bool.not_true, Bool.false_eq_true, hx.chPositions,
    hx.outsRead, hx.flagsRead]

theorem execEstStringSummary_completes (h : s.Ready t r) (ha : s.Allows t r 0) (hn : r.payload.length = 1)
    (hc : fieldOf (r.w 2) 7 0 ≤ 63) (hen : s.chEnabled (fieldOf (r.w 2) 7 0) = true) :
    Completes (.estStringSummary t r) s (Replied s t r
      ((List.range 16).map (fun i => (s.readBuf.strings.get (fieldOf (r.w 2) 7 0)).getD i 0))) := by
  refine opcode_reads s t r _ _ _ h ha.2 (s.gate_oneWord t r 0x1103 0 h ha hn) (fun u hx => ?_)
  simp only [Nat.not_lt.mpr hc, if_false, hx.chEnabled, hen, Bool.not_true, Bool.false_eq_true, hx.readBuf]

theorem execEstPlantSummary_completes (h : s.Ready t r) (ha : s.Allows t r 0) (hn : r.payload = []) :
    Completes (.estPlantSummary t r) s
      (Replied s t r ((List.range 29).map (fun i => s.readBuf.plant.getD i 0))) := by
  have ⟨_, _, hrec, _⟩ := h
  refine opcode_reads s t r _ _ _ h ha.2
    (State.gate_none s t r { opcode := 0x1104 } hrec (by simp [hn]) ha.2 rfl ha.1 rfl (by simp)) (fun u hx => ?_)
  simp only [hx.readBuf]

theorem execEstImpedResult_completes (z : ImpResult) (h : s.Ready t r) (ha : s.Allows t r 0)
    (hn : r.payload.length = 1) (hc : s.cellAddr (r.w 2) = none)
    (hz : (s.slot (fieldOf (r.w 2) 23 16) (fieldOf (r.w 2) 15 8) (fieldOf (r.w 2) 7 0)).imp = z) :
    Completes (.estImpedResult t r) s (Replied s t r
      [z.rOhm, z.rCt, z.h0, z.rms, w32 z.result, hiWord z.tick, loWord z.tick]) := by
  refine opcode_reads s t r _ _ _ h ha.2 (s.gate_oneWord t r 0x1106 0 h ha hn) (fun u hx => ?_)
  simp only [hx.cellAddr, hc, hx.slot, hz]

/-- With no CMD in hand and no sequence running the start is queued, and the reply waits for its RESP (R98, R111). -/
theorem execEstImpedStart_completes (h : s.Ready t r) (ha : s.Allows t r 1) (hp : s.runsPlant = true)
    (hn : r.payload.length = 1) (hc : s.cellAddr (r.w 2) = none)
    (hi : (s.tile (fieldOf (r.w 2) 23 16)).imped.get (fieldOf (r.w 2) 15 8) = none)
    (hq : (s.chain (fieldOf (r.w 2) 23 16)).queue = []) (hs : (s.chain (fieldOf (r.w 2) 23 16)).sent = []) :
    Completes (.estImpedStart t r) s (fun u => (u.chain (fieldOf (r.w 2) 23 16)).queue =
      [{ dest := fieldOf (r.w 2) 15 8, opc := 0x0A, params := [half (fieldOf (r.w 2) 7 0), 0, 64],
         why := .impedance (fieldOf (r.w 2) 7 0) true t r.seq }]) := by
  have ⟨_, _, hrec, _⟩ := h
  have g := State.gate_none s t r { opcode := 0x1105, role := 1, len := lenIs 1, active := true } hrec
    (by simp [lenIs, hn]) ha.2 rfl ha.1 rfl (fun _ => hp)
  obtain ⟨u, hx, he⟩ := opcode_answers s t r _ _ h g
  refine ⟨_, he, ?_⟩
  simp only [hx.cellAddr, hc, hx.chain, hx.tile, hi, hq, hs, List.any_nil, Bool.or_self, Bool.false_eq_true, if_false,
    State.answer]
  rw [State.drain_empty]
  · simp only [State.startImped, State.queueCmd, State.modChain_chain_same, hx.chain, hq, List.nil_append]
  · exact hx.alone.1

/-- EST_REINIT marks the cell (R95). -/
theorem execEstReinit_completes (h : s.Ready t r) (ha : s.Allows t r 1) (hn : r.payload.length = 1)
    (hc : s.cellAddr (r.w 2) = none) :
    Completes (.estReinit t r) s (fun u => Replied s t r [] u ∧
      ((u.tile (fieldOf (r.w 2) 23 16)).slots.get (slotKey (fieldOf (r.w 2) 15 8) (fieldOf (r.w 2) 7 0))).reinit =
        true) := by
  refine opcode_replies s t r _ _ _ _ h ha.2 (s.gate_oneWord t r 0x1107 1 h ha hn) (fun u hx => ?_)
  simp only [hx.cellAddr, hc]
  refine ⟨_, rfl, rfl, ?_⟩
  intro w hw
  rw [hw.tile, State.modTile_tile_same, Map.modify, Map.get_set_same]

theorem execEstSlotRead_completes (h : s.Ready t r) (ha : s.Allows t r 1) (hn : r.payload.length = 1)
    (hc : s.cellAddr (r.w 2) = none) :
    Completes (.estSlotRead t r) s (RepliedBulk s t r
      (slotWords (s.slotRead (fieldOf (r.w 2) 23 16) (fieldOf (r.w 2) 15 8) (fieldOf (r.w 2) 7 0)))) := by
  refine opcode_readsBulk s t r _ _ 0x108 _ h ha.2 (s.gate_oneWord t r 0x1108 1 h ha hn) (fun u hx => ?_)
  simp only [hx.cellAddr, hc, hx.slotRead]

end

/-- Settles O8: each opcode of group 0x11 by its rule above, on the state in which its request executes. -/
theorem estimationOpcodesComplete : Obligations.EstimationOpcodesComplete :=
  ⟨execEstCellRead_completes, execEstChainRead_completes, execEstStringSummary_completes, execEstPlantSummary_completes,
    execEstImpedResult_completes, execEstImpedStart_completes, execEstReinit_completes, execEstSlotRead_completes⟩

end Sys2Proof.Machine
end

section
namespace Sys2Proof.Machine

/-! ## What has left the module stays in `out` (R206, R209) -/

theorem State.raise_out (s : State) (v n : Nat) : s.out ⊆ (s.raise v n).out := by
  have signalled (u : State) : u.out ⊆ (u.signal v).out := by
    refine doIf_keeps (fun w => u.out ⊆ w.out) _ u _ (List.Subset.refl _) (fun _ => ?_)
    rw [State.emit, (State.awake_only ..).out_eq rfl]
    exact List.subset_append_left _ _
  have tasks (u : State) : (u.runTasks v).out = u.out := (State.runTasks_only ..).out_eq rfl
  unfold State.raise
  dsimp only
  split
  · split
    · exact tasks (s.modView v _) ▸ signalled _
    · exact signalled (s.modView v _)
  · exact List.Subset.refl _

theorem State.eventAll_out (s : State) (n : Nat) : s.out ⊆ (s.eventAll n).out :=
  forEach_keeps (fun u => s.out ⊆ u.out) _ s _ (List.Subset.refl _) (fun u v _ h =>
    List.Subset.trans h (doIf_keeps (fun w => u.out ⊆ w.out) _ u _ (List.Subset.refl _) (fun _ => State.raise_out u v n)))

/-! ## The role of a module that follows (R242) -/

theorem State.follows_iff (s : State) :
    s.follows = true ↔ s.single = false ∧ (s.pair.role = .standby ∨ s.pair.role = .notReady) := by
  simp [State.follows]

theorem State.follows_pair {s u : State} (h : u.pair = s.pair) : u.follows = s.follows := by
  rw [State.follows, State.single, h]
  rfl

theorem State.runsPlant_of_follows {s : State} (h : s.follows = true) : s.runsPlant = false := by
  obtain ⟨h1, h2 | h2⟩ := s.follows_iff.mp h
  · simp [State.runsPlant, State.role, h1, h2]
  · simp [State.runsPlant, State.role, h1, h2]

/-- What the change to another role of a module that follows leaves: the views and the outputs see it. -/
def State.turned (s : State) (r : Role) (f : TimeUnit → TimeUnit) : State :=
  (((s.modPair (fun p => { p with role := r })).modTime f).eventAll 291).driveAllDo

theorem State.turned_pair (s : State) (r : Role) (f : TimeUnit → TimeUnit) :
    (s.turned r f).pair = { s.pair with role := r } :=
  ((State.driveAllDo_only _).keeps .pair rfl).trans ((State.eventAll_only _ _).keeps .pair rfl)

theorem State.turned_out (s : State) (r : Role) (f : TimeUnit → TimeUnit) : s.out ⊆ (s.turned r f).out := by
  rw [State.turned, (State.driveAllDo_only _).out_eq rfl]
  exact State.eventAll_out ((s.modPair (fun p => { p with role := r })).modTime f) 291

/-- A module that follows changes over between its two roles without running the plant. -/
theorem State.setRole_follows (s : State) (r : Role) (h : s.follows = true) (hr : r = .standby ∨ r = .notReady) :
    s.setRole r = s ∨ ∃ f, s.setRole r = s.turned r f := by
  have keeps (f : TimeUnit → TimeUnit) : (s.turned r f).runsPlant = false := by
    refine State.runsPlant_of_follows ((State.follows_iff _).mpr ?_)
    rw [State.single, State.turned_pair]
    exact ⟨(s.follows_iff.mp h).1, hr⟩
  unfold State.setRole
  split
  · exact .inl rfl
  · refine .inr ⟨_, if_pos ?_⟩
    rw [State.runsPlant_of_follows h]
    exact beq_iff_eq.mpr (keeps _).symm

/-- A module that follows and settles keeps its role, or changes over to the other one of the two. -/
theorem State.settleRole_follows (s : State) (h : s.follows = true) :
    s.settleRole = s ∨ ∃ r f, s.settleRole = s.turned r f := by
  have turn (r : Role) (hr : r = .standby ∨ r = .notReady) : s.setRole r = s ∨ ∃ q f, s.setRole r = s.turned q f :=
    (s.setRole_follows r h hr).imp_right (fun ⟨f, e⟩ => ⟨r, f, e⟩)
  obtain ⟨h1, h2⟩ := s.follows_iff.mp h
  unfold State.settleRole
  rw [if_neg (by simp [h1])]
  rcases h2 with h2 | h2
  · simp only [h2]
    split
    · exact .inl rfl
    · exact turn .notReady (.inr rfl)
  · simp only [h2]
    split
    · exact turn .standby (.inl rfl)
    · exact .inl rfl

theorem State.settleRole_sets (s : State) (h : s.follows = true) : s.settleRole.pair.sets = s.pair.sets := by
  rcases s.settleRole_follows h with e | ⟨r, f, e⟩
  · rw [e]
  · rw [e, State.turned_pair]

theorem State.settleRole_out (s : State) (h : s.follows = true) : s.out ⊆ s.settleRole.out := by
  rcases s.settleRole_follows h with e | ⟨r, f, e⟩
  · rw [e]
    exact List.Subset.refl _
  · exact e ▸ s.turned_out r f

theorem State.settleRole_tile (s : State) (c : Nat) : s.settleRole.tile c = s.tile c :=
  congrArg (fun m => Map.get m c) ((State.settleRole_only s).keeps .tiles rfl)

/-! ## The sets of the mirror (R251, R252, R256) -/

theorem State.modSet_same (s : State) (k : Nat) (f : MirrorSet → MirrorSet) :
    (s.modSet k f).pair.sets.get k = f (s.pair.sets.get k) :=
  Map.get_set_same _ _ _

/-- A content that becomes current leaves the books of the pair. -/
theorem State.applyBody_pair (s : State) (b : MirrorBody) : (s.applyBody b).pair = s.pair :=
  (State.applyBody_only s b).keeps .pair rfl

theorem State.applyDelta_set (s : State) (d : Delta) : (s.applyDelta d).pair.sets.get d.body.set =
    { s.pair.sets.get d.body.set with
      last := d.num, current := some (Delta.apply d (s.pair.sets.get d.body.set).current) } := by
  rw [State.applyDelta, State.applyBody_pair, State.modSet_same]

theorem State.applyDelta_follows (s : State) (d : Delta) : (s.applyDelta d).follows = s.follows :=
  (State.follows_pair (State.applyBody_pair _ _)).trans rfl

theorem State.baseMissing_set (s : State) (k : Nat) : (s.baseMissing k).pair.sets.get k =
    { s.pair.sets.get k with missing := true, asked := true, kept := [] } :=
  State.modSet_same s k _

/-- A delta on the last one applied becomes the set's content; on another base a snapshot is asked for (R251). -/
theorem execMirrorDeltaReceived_completes (s : State) (d : Delta) (time : Nat) (hf : s.follows = true)
    (hl : s.linkUp = true) (hk : d.body.set ≤ 13) (hm : 12 ≤ d.body.set ∨ s.pair.mode ≠ 2)
    (hs : (s.pair.sets.get d.body.set).snapped = true) (hmiss : (s.pair.sets.get d.body.set).missing = false)
    (hcrc : d.crc = blocksCrc d.blocks) :
    Completes (.mirrorDeltaReceived d true time) s (fun u =>
      if d.base = (s.pair.sets.get d.body.set).last then
        (u.pair.sets.get d.body.set).last = d.num ∧
          (u.pair.sets.get d.body.set).current = some (Delta.apply d (s.pair.sets.get d.body.set).current)
      else (u.pair.sets.get d.body.set).missing = true ∧
        Out.agfin "SNAPSHOT_REQUEST" [w32 d.body.set] ∈ u.out) := by
  have hf' : (s.at time).follows = true := hf
  have hl' : (s.at time).linkUp = true := hl
  have hmode : (decide (d.body.set < 12) && s.pair.mode == 2) = false := by
    rcases hm with hm | hm
    · simp [Nat.not_lt.mpr hm]
    · simp [hm]
  refine ⟨_, congrArg Host.Outcome.next ((if_neg ?_).trans (if_pos ?_)), ?_⟩
  · simp [hf', hl', hcrc, Nat.not_lt.mpr hk, hmode]
  · simp [hs, hmiss]
  dsimp only
  by_cases hb : d.base = ((s.at time).pair.sets.get d.body.set).last
  · rw [if_pos hb, if_pos (show d.base = (s.pair.sets.get d.body.set).last from hb),
      State.settleRole_sets _ ((State.applyDelta_follows (s.at time) d).trans hf), State.applyDelta_set]
    exact ⟨rfl, rfl⟩
  · have hf1 : ((s.at time).baseMissing d.body.set).follows = true := hf
    rw [if_neg hb, if_neg (show ¬ d.base = (s.pair.sets.get d.body.set).last from hb),
      State.settleRole_sets _ hf1, State.baseMissing_set]
    exact ⟨rfl, State.settleRole_out _ hf1 (State.mem_emit _ _)⟩

/-- A snapshot is the set's content from now on (R251, R256). -/
theorem execSnapshotReceived_completes (s : State) (num : Nat) (body : MirrorBody) (time : Nat) (hf : s.follows = true)
    (hl : s.linkUp = true) (hk : body.set ≤ 13) (hkept : (s.pair.sets.get body.set).kept = []) :
    Completes (.snapshotReceived num body time) s (fun u => (u.pair.sets.get body.set).last = num ∧
      (u.pair.sets.get body.set).current = some body ∧ (u.pair.sets.get body.set).snapped = true) := by
  have hf' : (s.at time).follows = true := hf
  have hl' : (s.at time).linkUp = true := hl
  refine ⟨_, congrArg Host.Outcome.next (if_neg (by simp [hf', hl', hk])), ?_⟩
  dsimp only
  rw [show ((s.at time).pair.sets.get body.set).kept = [] from hkept, State.applyKept, forEach_nil]
  generalize h1 : State.applyBody _ body = s1
  have hp : s1.pair = _ := h1 ▸ State.applyBody_pair _ body
  have hf1 : s1.follows = true := (State.follows_pair hp).trans hf
  have settled (v : State) (hv : v.follows = true) (hs : v.pair.sets = s1.pair.sets) :
      (v.settleRole.pair.sets.get body.set).last = num ∧ (v.settleRole.pair.sets.get body.set).current = some body ∧
        (v.settleRole.pair.sets.get body.set).snapped = true := by
    rw [State.settleRole_sets v hv, hs, hp, State.modSet_same]
    exact ⟨rfl, rfl, rfl⟩
  cases body with
  | part p m =>
    dsimp only
    split
    · exact settled _ hf1 rfl
    · exact settled _ hf1 rfl
  | keeper m => exact settled _ hf1 rfl
  | loops m => exact settled _ hf1 rfl

theorem State.sendSnapshot_out (s : State) (k : Nat) (hm : s.mirrors = true) : (s.sendSnapshot k).out =
    s.out ++ [.mirror (snapshotOf (s.pair.sets.get k).last (s.mirrorBody k)) true] :=
  congrArg State.out (if_pos hm)

/-- A snapshot that the partner asks for leaves (R251). -/
theorem execSnapshotRequestReceived_completes (s : State) (k : Fin 14) (time : Nat) (hm : s.mirrors = true) :
    Completes (.snapshotRequestReceived k time) s (fun u => u.out =
      [.mirror (snapshotOf (s.pair.sets.get k).last ((s.at time).mirrorBody k)) true]) :=
  ⟨_, rfl, (s.at time).sendSnapshot_out k hm⟩

/-! ### The snapshots of Newt mode (R256) -/

/-- The states in which partition p's snapshot is the one that leaves in s: only marks of other partitions, and what has
left the module, differ. -/
def SameSnapshot (p : Nat) (s u : State) : Prop :=
  (∃ pt o, u = { s with parts := pt, out := o }) ∧ u.part p = s.part p

theorem SameSnapshot.trans {p : Nat} {s t u : State} (h : SameSnapshot p s t) (k : SameSnapshot p t u) :
    SameSnapshot p s u := by
  obtain ⟨⟨_, _, rfl⟩, hp⟩ := h
  obtain ⟨⟨_, _, rfl⟩, kp⟩ := k
  exact ⟨⟨_, _, rfl⟩, kp.trans hp⟩

theorem SameSnapshot.body {p : Nat} {s u : State} (h : SameSnapshot p s u) (hp : p < 12) :
    u.mirrorBody p = s.mirrorBody p := by
  obtain ⟨⟨pt, o, rfl⟩, e⟩ := h
  rw [State.mirrorBody, if_pos hp, State.mirrorBody, if_pos hp, State.partMirror, e]
  rfl

theorem SameSnapshot.enabled {p : Nat} {s u : State} (h : SameSnapshot p s u) : u.parB 0x03 p 0 = s.parB 0x03 p 0 := by
  obtain ⟨⟨_, _, rfl⟩, -⟩ := h
  rfl

theorem SameSnapshot.mirrors {p : Nat} {s u : State} (h : SameSnapshot p s u) : u.mirrors = s.mirrors := by
  obtain ⟨⟨_, _, rfl⟩, -⟩ := h
  rfl

theorem SameSnapshot.pair {p : Nat} {s u : State} (h : SameSnapshot p s u) : u.pair = s.pair := by
  obtain ⟨⟨_, _, rfl⟩, -⟩ := h
  rfl

/-- One partition's turn in NEWT_SNAPSHOT. -/
def State.newtTurn (s : State) (p : Nat) : State :=
  if !s.parB 0x03 p 0 then s
  else if (s.part p).inCycle then s.modPart p (fun x => { x with newtDue := true })
  else s.sendSnapshot p

theorem State.newtTurn_out (s : State) (q : Nat) : s.out ⊆ (s.newtTurn q).out := by
  unfold State.newtTurn
  split
  · exact List.Subset.refl _
  · split
    · exact List.Subset.refl _
    · unfold State.sendSnapshot
      split
      · exact List.subset_append_left _ _
      · exact List.Subset.refl _

theorem State.newtTurn_same (s : State) (p q : Nat) (h : q ≠ p) : SameSnapshot p s (s.newtTurn q) := by
  unfold State.newtTurn
  split
  · exact ⟨⟨s.parts, s.out, rfl⟩, rfl⟩
  · split
    · exact ⟨⟨_, s.out, rfl⟩, State.modPart_part_other s q p _ h.symm⟩
    · unfold State.sendSnapshot
      split
      · exact ⟨⟨s.parts, _, rfl⟩, rfl⟩
      · exact ⟨⟨s.parts, s.out, rfl⟩, rfl⟩

/-- In Newt mode the snapshot of an enabled partition between cycles leaves (R256). -/
theorem execNewtSnapshot_completes (s : State) (time p : Nat) (hm : s.mirrors = true) (hmode : s.pair.mode = 2)
    (hp : p < 12) (hen : s.parB 0x03 p 0 = true) (hc : (s.part p).inCycle = false) :
    Completes (.newtSnapshot time) s (fun u =>
      Out.mirror (snapshotOf (s.pair.sets.get p).last ((s.at time).mirrorBody p)) true ∈ u.out) := by
  refine ⟨_, congrArg Host.Outcome.next (if_pos hmode), ?_⟩
  refine forEach_at (SameSnapshot p (s.at time)) _ (List.range 12) List.nodup_range (s.at time) State.newtTurn p
    (List.mem_range.mpr hp) ⟨⟨s.parts, _, rfl⟩, rfl⟩ (fun t q hq h => h.trans (t.newtTurn_same p q hq)) (fun t h => ?_)
    (fun t q _ h => t.newtTurn_out q h)
  have hen' : t.parB 0x03 p 0 = true := h.enabled.trans hen
  have hc' : (t.part p).inCycle = false := (congrArg Part.inCycle h.2).trans hc
  rw [State.newtTurn, hen', hc', if_neg (by decide), if_neg (by decide), t.sendSnapshot_out p (h.mirrors.trans hm),
    h.body hp, h.pair]
  exact List.mem_append_right _ (List.mem_singleton.mpr rfl)

/-! ## Twin estimators (R108, R254) -/

/-- One chain's turn in DIGEST_RECEIVED. -/
def State.compareDigest (s : State) (tick : Nat) (digests : List Word) (c : Nat) : State :=
  let x := s.tile c
  let theirs := digests.getD c 0
  if !s.inService c || !s.tileWorks c || x.tick ≠ tick + 1 then s
  else if x.digest = theirs then s.modTile c (fun x => { x with mismatch := false })
  else
    let s1 := (s.modTile c (fun x => { x with mismatch := true })).record 0x11 0x02 c
      [hiWord tick, loWord tick, x.digest, theirs]
    s1.modPair (fun p => { p with resynced := p.resynced.filter (fun k => k != c) })

theorem State.record_tile (s : State) (source type inst : Nat) (body : List Word) (c : Nat) :
    (s.record source type inst body).tile c = s.tile c :=
  congrArg (fun m => Map.get m c) ((State.record_only ..).keeps .tiles rfl)

theorem State.compareDigest_only (s : State) (tick : Nat) (digests : List Word) (c : Nat) :
    Only [.tiles, .power, .pool, .recorder, .pair] s (s.compareDigest tick digests c) := by
  unfold State.compareDigest
  dsimp only
  split
  · exact Only.refl _ _
  · split
    · exact (State.modTile_only ..).after (by decide) (Only.refl _ _)
    · exact (State.modPair_only ..).after (by decide) ((State.record_only ..).after (by decide)
        ((State.modTile_only ..).after (by decide) (Only.refl _ _)))

theorem State.compareDigest_other (s : State) (tick : Nat) (digests : List Word) (k c : Nat) (h : c ≠ k) :
    (s.compareDigest tick digests k).tile c = s.tile c := by
  unfold State.compareDigest
  dsimp only
  split
  · rfl
  · split
    · exact State.modTile_tile_other s k c _ h
    · exact (State.record_tile _ _ _ _ _ c).trans (State.modTile_tile_other s k c _ h)

/-- A tile that holds the digest of the same tick notes whether the two differ (R108). -/
theorem State.compareDigest_mismatch (s : State) (tick : Nat) (digests : List Word) (c : Nat)
    (hi : s.inService c = true) (hw : s.tileWorks c = true) (ht : (s.tile c).tick = tick + 1) :
    ((s.compareDigest tick digests c).tile c).mismatch = decide ((s.tile c).digest ≠ digests.getD c 0) := by
  unfold State.compareDigest
  dsimp only
  rw [if_neg (by simp [hi, hw, ht])]
  by_cases hd : (s.tile c).digest = digests.getD c 0
  · rw [if_pos hd, State.modTile_tile_same, decide_eq_false (not_not_intro hd)]
  · rw [if_neg hd, decide_eq_true hd]
    show ((State.record _ _ _ _ _).tile c).mismatch = true
    rw [State.record_tile, State.modTile_tile_same]

theorem execDigestReceived_completes (s : State) (tick : Nat) (digests : List Word) (time c : Nat)
    (h1 : s.single = false) (hl : s.linkUp = true) (hk : tick % 1000 = 0) (hc : c < 64) (hi : s.inService c = true)
    (hw : s.tileWorks c = true) (ht : (s.tile c).tick = tick + 1) :
    Completes (.digestReceived tick digests time) s (fun u =>
      (u.tile c).mismatch = decide ((s.tile c).digest ≠ digests.getD c 0)) := by
  have h1' : (s.at time).single = false := h1
  have hl' : (s.at time).linkUp = true := hl
  refine ⟨_, congrArg Host.Outcome.next (if_neg (by simp [h1', hl', hk])), ?_⟩
  dsimp only
  rw [State.settleRole_tile]
  refine forEach_at (fun t => Only [.tiles, .power, .pool, .recorder, .pair] (s.at time) t ∧ t.tile c = s.tile c)
    (fun t => (t.tile c).mismatch = decide ((s.tile c).digest ≠ digests.getD c 0)) (List.range 64) List.nodup_range
    (s.at time) (fun t c => t.compareDigest tick digests c) c (List.mem_range.mpr hc) ⟨Only.refl _ _, rfl⟩ ?_ ?_ ?_
  · rintro t k hne ⟨ho, he⟩
    exact ⟨(t.compareDigest_only tick digests k).after (by decide) ho,
      (t.compareDigest_other tick digests k c hne.symm).trans he⟩
  · rintro t ⟨ho, he⟩
    have hi' : t.inService c = true := by
      rw [State.inService, State.chain, show t.chains = s.chains from ho.keeps .chains rfl]
      exact hi
    have hw' : t.tileWorks c = true := by
      rw [State.tileWorks, State.up, State.up, show t.power.doms = s.power.doms from ho.keeps .doms rfl]
      exact hw
    rw [t.compareDigest_mismatch tick digests c hi' hw' (he ▸ ht), he]
  · intro t k hne hp
    rw [t.compareDigest_other tick digests k c hne.symm]
    exact hp

/-- Tick m is the first whose edge lies at least 2 ms ahead (R254). -/
theorem execResyncRequestReceived_completes (s : State) (c : Fin 64) (time : Nat) (h1 : s.single = false)
    (hr : s.runsPlant = true) (hl : s.linkUp = true) (hi : s.inService c = true) (hw : s.tileWorks c = true) :
    Completes (.resyncRequestReceived c time) s (fun u => (u.tile c).resync =
      some ((max s.now time + 2999999) / 1000000, (List.range (s.chPositions c)).map (· + 1))) := by
  have h1' : (s.at time).single = false := h1
  have hr' : (s.at time).runsPlant = true := hr
  have hl' : (s.at time).linkUp = true := hl
  have hi' : (s.at time).inService c = true := hi
  have hw' : (s.at time).tileWorks c = true := hw
  exact ⟨_, congrArg Host.Outcome.next (if_neg (by simp [h1', hr', hl', hi', hw'])),
    congrArg Tile.resync (State.modTile_tile_same (s.at time) c _)⟩

/-- A position's 18 slots, once they are in place (R79). -/
theorem slots_installed (m : Map Slot) (zs : List Slot) (p n k : Nat) (h : k < n) :
    ((List.range n).foldl (fun m k => m.set (slotKey p (k + 1)) (zs.getD k {})) m).get (slotKey p (k + 1)) =
      zs.getD k {} := by
  induction n with
  | zero => exact absurd h (Nat.not_lt_zero k)
  | succ n ih =>
    rw [List.range_succ, List.foldl_append, List.foldl_cons, List.foldl_nil]
    by_cases hk : k = n
    · rw [hk, Map.get_set_same]
    · rw [Map.get_set_other _ _ _ _ (by unfold slotKey; omega)]
      exact ih (by omega)

/-- The slots are in place, and the tile waits for the same frames as before (R254). -/
theorem State.installSlots_tile (s : State) (c p : Nat) (zs : List Slot) : ∃ m r w,
    (s.installSlots c p zs).tile c = { s.tile c with slots := m, resync := r, resyncWait := w } ∧
      ∀ k : Nat, k < 18 → m.get (slotKey p (k + 1)) = zs.getD k {} := by
  have installed := slots_installed (s.tile c).slots zs p 18
  unfold State.installSlots
  extract_lets rest s1
  have h1 : s1.tile c = _ := State.modTile_tile_same s c _
  split
  · exact ⟨_, _, _, h1, installed⟩
  · exact ⟨_, _, _, h1, installed⟩

/-- A position that no tick has passed, without a frame in hand, has nothing to catch up with (R76, R254). -/
theorem State.catchUp_idle (s : State) (c p : Nat) (ht : (s.tile c).tick ≤ Tile.nextOf (s.tile c) p)
    (hw : (s.tile c).waiting = []) : s.catchUp c p = s := by
  unfold State.catchUp
  dsimp only
  rw [Nat.sub_eq_zero_of_le ht, List.range_zero, List.map_nil, forEach_nil]
  unfold State.advance
  dsimp only
  rw [hw, List.find?_nil]
  split
  · next h => cases h
  · rfl

theorem State.installSlots_catchUp (s : State) (c p : Nat) (zs : List Slot)
    (ht : (s.tile c).tick ≤ Tile.nextOf (s.tile c) p) (hw : (s.tile c).waiting = []) :
    (s.installSlots c p zs).catchUp c p = s.installSlots c p zs := by
  obtain ⟨m, r, w, e, -⟩ := s.installSlots_tile c p zs
  refine State.catchUp_idle _ c p ?_ ?_
  · rw [e]
    exact ht
  · rw [e]
    exact hw

/-- Slots of a tick that the position has passed are installed at once, others are kept (R254). -/
theorem execResyncSlotsReceived_completes (s : State) (c : Fin 64) (p tick : Nat) (slots : List Slot) (time t0 : Nat)
    (ps : List Nat) (hf : s.follows = true) (hl : s.linkUp = true) (hr : (s.tile c).resync = some (t0, ps)) (hp : p ∈ ps) :
    Completes (.resyncSlotsReceived c p tick slots time) s (fun u =>
      (Tile.nextOf (s.tile c) p ≤ tick → (p, tick, slots) ∈ (u.tile c).resyncWait) ∧
      (tick < Tile.nextOf (s.tile c) p → (s.tile c).tick ≤ Tile.nextOf (s.tile c) p → (s.tile c).waiting = [] →
        ∀ k : Nat, k < 18 → (u.tile c).slots.get (slotKey p (k + 1)) = slots.getD k {})) := by
  have hf' : (s.at time).follows = true := hf
  have hl' : (s.at time).linkUp = true := hl
  have hr' : ((s.at time).tile c).resync = some (t0, ps) := hr
  refine ⟨_, rfl, ?_⟩
  dsimp only
  rw [hr']
  dsimp only
  rw [if_neg (by simp [hf', hl', hp])]
  generalize hs : State.modTile _ _ _ = s1
  have h1 : s1.tile c = { s.tile c with resync := some (tick, ps) } := hs ▸ State.modTile_tile_same (s.at time) c _
  by_cases hn : tick < Tile.nextOf ((s.at time).tile c) p
  · rw [if_pos hn, State.settleRole_tile]
    refine ⟨fun h => absurd hn (Nat.not_lt.mpr h), fun _ ht hw k hk => ?_⟩
    obtain ⟨m, r, w, e, installed⟩ := s1.installSlots_tile c p slots
    have ht1 : (s1.tile c).tick ≤ Tile.nextOf (s1.tile c) p := by rw [h1]; exact ht
    have hw1 : (s1.tile c).waiting = [] := by rw [h1]; exact hw
    rw [s1.installSlots_catchUp c p slots ht1 hw1, e]
    exact installed k hk
  · rw [if_neg hn, State.modTile_tile_same]
    exact ⟨fun _ => List.mem_cons_self .., fun h => absurd h hn⟩

/-- An image of a commit takes both copies, waits for its tick and is acknowledged (R176, R255). -/
theorem execPartnerImageReceived_completes (s : State) (c : CfgCopy) (time : Nat) (hf : s.follows = true)
    (hl : s.linkUp = true) :
    Completes (.partnerImageReceived (.config c) false time) s (fun u => u.out = [.agfin "ACK" [0]] ∧
      u.cfg.generation = c.generation ∧ u.cfg.copyA.params = c.params ∧ u.cfg.copyB.params = c.params ∧
      u.cfg.due = s.cfg.due ++ [(effectiveTick c.time, c.params)]) := by
  have hf' : (s.at time).follows = true := hf
  have hl' : (s.at time).linkUp = true := hl
  exact ⟨_, congrArg Host.Outcome.next (if_neg (by simp [hf', hl'])), rfl, rfl, rfl, rfl, rfl⟩

/-- Settles O26: each event between the two modules by its rule above, on the state at the event's instant. -/
theorem mirrorComplete : Obligations.MirrorComplete :=
  ⟨execMirrorDeltaReceived_completes, execSnapshotReceived_completes, execSnapshotRequestReceived_completes,
    execNewtSnapshot_completes, execDigestReceived_completes, execResyncRequestReceived_completes,
    execResyncSlotsReceived_completes, execPartnerImageReceived_completes⟩

end Sys2Proof.Machine
end

section
namespace Sys2Proof.Machine

/-! ## What a trip leaves of its string (R114, R118) -/

theorem Only.str {l : List Region} {s u : State} (h : Only l s u) (hl : l.contains .strs = false) (c : Nat) :
    u.str c = s.str c :=
  congrArg (fun m => Map.get m c) (h.keeps .strs hl)

theorem Only.chain {l : List Region} {s u : State} (h : Only l s u) (hl : l.contains .chains = false) (c : Nat) :
    u.chain c = s.chain c :=
  congrArg (fun m => Map.get m c) (h.keeps .chains hl)

/-- The string once causes with these bits have tripped it (R118). -/
def Str.trippedBy (x : Str) (bits : Nat) : Str :=
  { x with
    state := .tripped, firstCause := lowestReason (causeBits bits), action := highestAction (causeBits bits)
    seq := .none_, lastContactor := some 0, purge := (bits &&& 0xC0000 != 0) || x.purge }

theorem State.trip_str (s : State) (c bits : Nat) (hb : bits ≠ 0) (hs : (s.str c).state ≠ .tripped) :
    (s.trip c bits).str c = Str.trippedBy (s.str c) bits := by
  unfold State.trip
  rw [if_neg hb]
  dsimp only
  rw [if_pos (bne_iff_ne.mpr hs)]
  generalize hl : State.latchPtos _ c bits = s1
  have h1 : s1.str c = { s.str c with
      state := .tripped, firstCause := lowestReason (causeBits bits), action := highestAction (causeBits bits)
      seq := .none_, lastContactor := some 0 } := by
    rw [← hl, (State.latchPtos_only ..).str rfl, (State.stringLost_only ..).str rfl, (State.record_only ..).str rfl,
      (State.sendTrip_only ..).str rfl, (State.dropContactor_only ..).str rfl, State.modStr_str_same]
  unfold Str.trippedBy
  cases hp : bits &&& 0xC0000 != 0
  · exact h1
  · exact (State.modStr_str_same ..).trans (congrArg (fun x : Str => { x with purge := true }) h1)

/-- The bits of a cause word that are not set. -/
theorem testBit_unset (n i : Nat) (h : n < 2 ^ 23) :
    (2 ^ 23 - 1 - n).testBit i = (decide (i < 23) && !n.testBit i) := by
  rw [Nat.sub_sub, Nat.add_comm 1 n, Nat.testBit_two_pow_sub_succ h]

/-- Bits that stay of a cause word are none that appear. -/
theorem kept_and_unset (n k : Nat) (h : n < 2 ^ 23) : (n &&& k) &&& (2 ^ 23 - 1 - n) = 0 := by
  refine Nat.eq_of_testBit_eq (fun i => ?_)
  rw [Nat.testBit_and, Nat.testBit_and, testBit_unset n i h, Nat.zero_testBit]
  cases n.testBit i <;> simp

/-- Of a cause word with one more bit, that bit alone appears. -/
theorem added_and_unset (n b : Nat) (h : n < 2 ^ 23) (hb : b < 23) (hn : n.testBit b = false) :
    ((n &&& (2 ^ 23 - 1 - 2 ^ b)) ||| 2 ^ b) &&& (2 ^ 23 - 1 - n) = 2 ^ b := by
  refine Nat.eq_of_testBit_eq (fun i => ?_)
  rw [Nat.testBit_and, Nat.testBit_or, Nat.testBit_and, testBit_unset n i h, Nat.testBit_two_pow]
  by_cases hi : b = i
  · subst hi
    simp [hb, hn]
  · cases n.testBit i <;> simp [hi]

/-- Causes that end trip nothing (R118). -/
theorem State.setCauses_end_str (s : State) (c keys : Nat) :
    ∃ x, (s.setCauses c keys 0).str c = { s.str c with cause := x } := by
  have hbits := kept_and_unset (s.str c).cause.toNat (2 ^ 23 - 1 - keys) (s.str c).cause.isLt
  unfold State.setCauses
  rw [Nat.zero_and]
  dsimp only
  rw [Nat.or_zero]
  split
  · exact ⟨_, rfl⟩
  · rw [hbits, (State.syncPtos_only _).str rfl, State.trip, if_pos rfl, State.modStr_str_same]
    exact ⟨_, rfl⟩

/-- A cause that appears trips its string (R118). -/
theorem State.setCause_appears_str (s : State) (c b : Nat) (hb : b < 23) (hn : (s.str c).cause.toNat.testBit b = false)
    (hs : (s.str c).state ≠ .tripped) :
    ∃ x, (s.setCause c b true).str c = Str.trippedBy { s.str c with cause := x } (2 ^ b) := by
  have hbits := added_and_unset (s.str c).cause.toNat b (s.str c).cause.isLt hb hn
  have hnew : ((s.str c).cause.toNat &&& (2 ^ 23 - 1 - 2 ^ b)) ||| 2 ^ b ≠ (s.str c).cause.toNat := by
    intro e
    have he := congrArg (fun n => Nat.testBit n b) e
    simp [hn] at he
  unfold State.setCause State.setCauses
  rw [if_pos rfl, Nat.and_self]
  dsimp only
  rw [if_neg hnew, hbits, (State.syncPtos_only _).str rfl, State.trip_str _ c _ (Nat.ne_of_gt (Nat.two_pow_pos b))
    (by rw [State.modStr_str_same]; exact hs), State.modStr_str_same]
  exact ⟨_, rfl⟩

/-- A cause that lasts only for the instant trips its string all the same (R118). -/
theorem State.tripOnce_str (s : State) (c b : Nat) (hb : b < 23) (hs : (s.str c).state ≠ .tripped) :
    ∃ x, (s.tripOnce c b).str c = Str.trippedBy { s.str c with cause := x } (2 ^ b) := by
  unfold State.tripOnce
  split
  · rw [(State.syncPtos_only _).str rfl, State.trip_str s c _ (Nat.ne_of_gt (Nat.two_pow_pos b)) hs]
    exact ⟨_, rfl⟩
  · next hn =>
    obtain ⟨x, hx⟩ := State.setCause_appears_str s c b hb (Bool.eq_false_iff.mpr hn) hs
    obtain ⟨y, hy⟩ := State.setCauses_end_str (s.setCause c b true) c (2 ^ b)
    exact ⟨y, hy.trans (congrArg (fun z : Str => { z with cause := y }) hx)⟩

/-- One bit trips with its own REASON and ACTION (R114). -/
theorem one_cause : ∀ b < 23,
    lowestReason (causeBits (2 ^ b)) = causeReason b ∧ highestAction (causeBits (2 ^ b)) = causeAction b := by
  decide

theorem State.tripOnce_trips (s : State) (c b : Nat) (hb : b < 23) (hs : (s.str c).state ≠ .tripped) :
    ((s.tripOnce c b).str c).state = .tripped ∧ ((s.tripOnce c b).str c).firstCause = causeReason b ∧
      ((s.tripOnce c b).str c).action = causeAction b := by
  obtain ⟨x, hx⟩ := s.tripOnce_str c b hb hs
  rw [hx]
  exact ⟨rfl, one_cause b hb⟩

/-! ## The steps of closing and opening a string (R126 to R128) -/

/-- A step of a sequence changes its string and queues its CONTACTOR (R126, R128). -/
theorem State.contactorStep (s : State) (c p0 : Nat) (f : Str → Str) :
    ((s.modStr c f).sendContactor c p0).str c = f (s.str c) ∧
      (((s.modStr c f).sendContactor c p0).chain c).queue = (s.chain c).queue ++ [cmdContactor p0] := by
  refine ⟨State.modStr_str_same s c f, ?_⟩
  rw [State.sendContactor, State.queueCmd, State.modChain_chain_same]
  rfl

section
variable (s : State) (c : Fin 64) (time : Nat)

theorem execPrechargeStart_completes (hq : (s.str c).seq = .negOn) (hr : s.runsPlant = true)
    (ht : (s.str c).seqAt + 50000000 ≤ max s.now time) :
    Completes (.prechargeStart c time) s (fun u => (u.str c).seq = .preOn ∧ (u.str c).seqAt = max s.now time ∧
      (u.chain c).queue = (s.chain c).queue ++ [cmdContactor 3]) := by
  have hr' : (s.at time).runsPlant = true := hr
  have hq' : ((s.at time).str c).seq = .negOn := hq
  have ht' : ((s.at time).str c).seqAt + 50000000 ≤ (s.at time).now := ht
  refine ⟨_, congrArg Host.Outcome.next (if_pos (by simp only [hr', hq', decide_eq_true ht']; rfl)), ?_⟩
  obtain ⟨hstr, hqueue⟩ := (s.at time).contactorStep c 3 _
  exact ⟨congrArg Str.seq hstr, congrArg Str.seqAt hstr, hqueue⟩

/-- Precharge that has not ended in time trips the string with cause 16 of R114 (R127). -/
theorem execPrechargeFail_completes (hq : (s.str c).seq = .preOn) (hs : (s.str c).state ≠ .tripped)
    (ht : (s.str c).seqAt + s.parN 0x12 c 0x1E * 1000000 ≤ max s.now time) :
    Completes (.prechargeFail c time) s (fun u => (u.str c).state = .tripped ∧ (u.str c).firstCause = 0x1B ∧
      (u.str c).action = 1) := by
  have hq' : ((s.at time).str c).seq = .preOn := hq
  have ht' : ((s.at time).str c).seqAt + (s.at time).parN 0x12 c 0x1E * 1000000 ≤ (s.at time).now := ht
  refine ⟨_, congrArg Host.Outcome.next (if_pos (by simp only [hq', decide_eq_true ht']; rfl)),
    (s.at time).tripOnce_trips c 16 (by decide) hs⟩

theorem execClosePreOff_completes (hq : (s.str c).seq = .posOn) (hr : s.runsPlant = true)
    (hl : (s.str c).lastContactor = some 7) (ht : (s.str c).seqAt + 20000000 ≤ max s.now time) :
    Completes (.closePreOff c time) s (fun u => (u.str c).seq = .preOff ∧
      (u.chain c).queue = (s.chain c).queue ++ [cmdContactor 6]) := by
  have hr' : (s.at time).runsPlant = true := hr
  have hq' : ((s.at time).str c).seq = .posOn := hq
  have hl' : ((s.at time).str c).lastContactor = some 7 := hl
  have ht' : ((s.at time).str c).seqAt + 20000000 ≤ (s.at time).now := ht
  refine ⟨_, congrArg Host.Outcome.next (if_pos (by simp only [hr', hq', hl', decide_eq_true ht']; rfl)), ?_⟩
  obtain ⟨hstr, hqueue⟩ := (s.at time).contactorStep c 6 _
  exact ⟨congrArg Str.seq hstr, hqueue⟩

/-- The string opens whether or not the current above the opening level is recorded (R128). -/
theorem execOpenTimeout_completes (hq : (s.str c).seq = .waitCurrent) (hr : s.runsPlant = true)
    (ht : (s.str c).openingAt + 2000000000 ≤ max s.now time) :
    Completes (.openTimeout c time) s (fun u => (u.str c).seq = .posOff ∧
      (u.chain c).queue = (s.chain c).queue ++ [cmdContactor 2]) := by
  have hr' : (s.at time).runsPlant = true := hr
  have hq' : ((s.at time).str c).seq = .waitCurrent := hq
  have ht' : ((s.at time).str c).openingAt + 2000000000 ≤ (s.at time).now := ht
  refine ⟨_, congrArg Host.Outcome.next (if_pos (by simp only [hr', hq', decide_eq_true ht']; rfl)), ?_⟩
  have opened (u : State) (hu : u.chain c = s.chain c) : ((u.openPosOff c).str c).seq = .posOff ∧
      ((u.openPosOff c).chain c).queue = (s.chain c).queue ++ [cmdContactor 2] := by
    obtain ⟨hstr, hqueue⟩ := u.contactorStep c 2 (fun x => { x with seq := .posOff })
    exact ⟨congrArg Str.seq hstr, hu ▸ hqueue⟩
  refine opened _ ?_
  split
  · rfl
  · exact (State.record_only ..).chain rfl c

theorem execOpenFinal_completes (hq : (s.str c).seq = .posOff) (hr : s.runsPlant = true)
    (hl : (s.str c).lastContactor = some 2) (ht : (s.str c).seqAt + 20000000 ≤ max s.now time) :
    Completes (.openFinal c time) s (fun u => (u.str c).state = .open_ ∧ (u.str c).seq = .none_ ∧
      (u.chain c).queue = (s.chain c).queue ++ [cmdContactor 0]) := by
  have hr' : (s.at time).runsPlant = true := hr
  have hq' : ((s.at time).str c).seq = .posOff := hq
  have hl' : ((s.at time).str c).lastContactor = some 2 := hl
  have ht' : ((s.at time).str c).seqAt + 20000000 ≤ (s.at time).now := ht
  refine ⟨_, congrArg Host.Outcome.next (if_pos (by simp only [hr', hq', hl', decide_eq_true ht']; rfl)), ?_⟩
  obtain ⟨hstr, hqueue⟩ := (s.at time).contactorStep c 0 _
  exact ⟨congrArg Str.state hstr, congrArg Str.seq hstr, hqueue⟩

/-! ## Balancing and zones (R132, R134, R136) -/

/-- The policy of a chain runs when its period is over, and notes the target and the instant (R132). -/
theorem execBalEvaluate_completes (hk : s.power.keeper = .running) (hr : s.runsPlant = true)
    (hi : s.inService c = true) (hb : s.parB 0x12 c 0x28 = true)
    (ht : (s.bal c).lastEval + s.parN 0x12 c 0x2E * 1000000000 ≤ max s.now time) :
    Completes (.balEvaluate c time) s (fun u => (u.bal c).lastEval = max s.now time ∧
      (u.bal c).target = extVal ((s.readBuf.strings.get c).getD 3 0)) := by
  have hk' : (s.at time).power.keeper = .running := hk
  have hr' : (s.at time).runsPlant = true := hr
  have hi' : (s.at time).inService c = true := hi
  have hb' : (s.at time).parB 0x12 c 0x28 = true := hb
  have ht' : ¬ (s.at time).now < ((s.at time).bal c).lastEval + (s.at time).parN 0x12 c 0x2E * 1000000000 :=
    Nat.not_lt.mpr ht
  refine ⟨_, congrArg Host.Outcome.next ((if_neg ?_).trans (if_neg ?_)), ?_⟩
  · simp only [hk', hr', hi']; decide
  · simp only [hb', decide_eq_false ht', Bool.not_true, Bool.and_false, Bool.or_false, Bool.false_eq_true,
      not_false_eq_true]
  · dsimp only
    rw [State.modBal_bal_same]
    exact ⟨rfl, rfl⟩

end

theorem State.evalZone_now (s : State) (z : Nat) : (s.evalZone z).now = s.now :=
  (State.evalZone_only s z).keeps .now rfl

theorem State.tookFree_zone (s : State) (z : Nat) : s.tookFree.zone z = s.zone z := rfl

/-- An evaluation notes its instant, and leaves every other zone (R134). -/
theorem State.evalZone_zones (s : State) (z : Nat) : ((s.evalZone z).zone z).evaluated = some s.now ∧
    ∀ k : Nat, k ≠ z → (s.evalZone z).zone k = s.zone k := by
  have noted (f : Zone → Zone) (h : ∀ x, (f x).evaluated = some s.now) :
      ((s.modZone z f).zone z).evaluated = some s.now ∧ ∀ k : Nat, k ≠ z → (s.modZone z f).zone k = s.zone k :=
    ⟨by rw [State.modZone_zone_same, h], fun k hk => State.modZone_zone_other s z k f hk⟩
  unfold State.evalZone
  dsimp only
  split
  · exact noted _ (by exact fun _ => rfl)
  · split
    · simp only [State.tookFree_zone]
      exact noted _ (by exact fun _ => rfl)
    · exact noted _ (by exact fun _ => rfl)

/-- One zone's turn in ZONE_EVALUATE. -/
def State.zoneTurn (s : State) (z : Nat) : State :=
  match (s.zone z).evaluated with
  | some t => if t + 100000000 ≤ s.now then s.evalZone z else s
  | none => s.evalZone z

theorem State.zoneTurn_other (s : State) (z k : Nat) (h : k ≠ z) :
    (s.zoneTurn z).zone k = s.zone k ∧ (s.zoneTurn z).now = s.now := by
  have evaluated : (s.evalZone z).zone k = s.zone k ∧ (s.evalZone z).now = s.now :=
    ⟨(s.evalZone_zones z).2 k h, s.evalZone_now z⟩
  unfold State.zoneTurn
  split
  · split
    · exact evaluated
    · exact ⟨rfl, rfl⟩
  · exact evaluated

/-- A zone that has not been evaluated is due (R134). -/
theorem State.zoneTurn_first (s : State) (z : Nat) (h : (s.zone z).evaluated = none) : s.zoneTurn z = s.evalZone z := by
  rw [State.zoneTurn, h]

theorem execZoneEvaluate_completes (s : State) (time : Nat) (hr : s.power.rail = true) :
    Completes (.zoneEvaluate time) s (fun u =>
      ∀ z : Nat, z < 16 → (s.zone z).evaluated = none → (u.zone z).evaluated = some (max s.now time)) := by
  have hr' : (s.at time).power.rail = true := hr
  refine ⟨_, congrArg Host.Outcome.next (if_neg (by rw [hr']; decide)), fun z hz hn => ?_⟩
  refine forEach_at (fun t => (t.zone z).evaluated = none ∧ t.now = max s.now time)
    (fun t => (t.zone z).evaluated = some (max s.now time)) (List.range 16) List.nodup_range (s.at time) State.zoneTurn
    z (List.mem_range.mpr hz) ⟨hn, rfl⟩ ?_ ?_ ?_
  · rintro t k hk ⟨he, ht⟩
    obtain ⟨hzone, hnow⟩ := t.zoneTurn_other k z hk.symm
    exact ⟨hzone ▸ he, hnow.trans ht⟩
  · rintro t ⟨he, ht⟩
    rw [t.zoneTurn_first z he, (t.evalZone_zones z).1, ht]
  · intro t k hk he
    rw [(t.zoneTurn_other k z hk.symm).1]
    exact he

/-- An ambient temperature that nobody has written for 10 s is missing (R136). -/
theorem execZoneTambTimeout_completes (s : State) (z : Fin 16) (time : Nat) (v : Int) (t : Nat)
    (hz : (s.zone z).tamb = some (v, t)) (ht : t + 10000000000 ≤ max s.now time) :
    Completes (.zoneTambTimeout z time) s (fun u => (u.zone z).tamb = none) := by
  have hz' : ((s.at time).zone z).tamb = some (v, t) := hz
  have ht' : t + 10000000000 ≤ (s.at time).now := ht
  refine ⟨(s.at time).modZone z (fun x => { x with tamb := none }), ?_,
    congrArg Zone.tamb (State.modZone_zone_same ..)⟩
  simp only [exec, execZoneTambTimeout, evt, hz', if_pos ht']

/-- Settles O9: each step of a string, of balancing and of the zones by its rule above, on the state at its instant. -/
theorem stringsAndZonesComplete : Obligations.StringsAndZonesComplete :=
  ⟨execPrechargeStart_completes, execPrechargeFail_completes, execClosePreOff_completes, execOpenTimeout_completes,
    execOpenFinal_completes, execBalEvaluate_completes, execZoneEvaluate_completes, execZoneTambTimeout_completes⟩

end Sys2Proof.Machine
end

section
namespace Sys2Proof.Machine

/-! ## What an opcode of group 0x12 finds (R125, R137, R139) -/

theorem Books.str {s u : State} (h : Books s u) (c : Nat) : u.str c = s.str c := by
  obtain ⟨_, _, _, _, _, _, rfl⟩ := h
  rfl

theorem Books.chain {s u : State} (h : Books s u) (c : Nat) : u.chain c = s.chain c := by
  obtain ⟨_, _, _, _, _, _, rfl⟩ := h
  rfl

theorem Books.zone {s u : State} (h : Books s u) (z : Nat) : u.zone z = s.zone z := by
  obtain ⟨_, _, _, _, _, _, rfl⟩ := h
  rfl

section
variable {s u : State} {t : Fin 16} {r : Req} {op : Nat}

theorem Executing.str (h : Executing s t r op u) (c : Nat) : u.str c = s.str c := h.books.str c

theorem Executing.zone (h : Executing s t r op u) (z : Nat) : u.zone z = s.zone z := h.books.zone z

theorem Executing.bal (h : Executing s t r op u) (c : Nat) : u.bal c = s.bal c := by
  obtain ⟨_, _, _, _, _, _, rfl⟩ := h.books
  rfl

theorem Executing.pto (h : Executing s t r op u) (k : Nat) : u.pto k = s.pto k := by
  obtain ⟨_, _, _, _, _, _, rfl⟩ := h.books
  rfl

theorem Executing.now (h : Executing s t r op u) : u.now = max s.now r.time := by
  obtain ⟨_, _, _, _, _, _, rfl⟩ := h.books
  rfl

theorem Executing.runsPlant (h : Executing s t r op u) : u.runsPlant = s.runsPlant := by
  obtain ⟨_, _, _, _, _, _, rfl⟩ := h.books
  rfl

theorem Executing.strWord (h : Executing s t r op u) (c : Nat) : u.strWord c = s.strWord c := by
  obtain ⟨_, _, _, _, _, _, rfl⟩ := h.books
  rfl

theorem Executing.closeUnmet (h : Executing s t r op u) (c : Nat) : u.closeUnmet c = s.closeUnmet c := by
  obtain ⟨_, _, _, _, _, _, rfl⟩ := h.books
  rfl

theorem Executing.ptoCauses (h : Executing s t r op u) (k : Nat) : u.ptoCauses k = s.ptoCauses k := by
  obtain ⟨_, _, _, _, _, _, rfl⟩ := h.books
  rfl

theorem Executing.bleeding (h : Executing s t r op u) (c : Nat) : u.bleeding c = (s.at r.time).bleeding c := by
  obtain ⟨_, _, _, _, _, _, rfl⟩ := h.books
  rfl

end

/-! ## The opcodes of group 0x12 (R125, R128 to R130, R136, R139) -/

section
variable (s : State) (t : Fin 16) (r : Req)

/-- The checks of a request of two words that the plant need not be run for. -/
theorem State.gate_twoWords (op role : Nat) (h : s.Ready t r) (ha : s.Allows t r role) (hn : r.payload.length = 2) :
    s.gate t r { opcode := op, role := role, len := lenIs 2 } = none := by
  obtain ⟨-, -, hrec, -⟩ := h
  exact State.gate_none s t r _ hrec (by simp [lenIs, hn]) ha.2 rfl ha.1 rfl (by simp)

theorem execProtStatus_completes (h : s.Ready t r) (ha : s.Allows t r 0) (hn : r.payload.length = 1)
    (hc : fieldOf (r.w 2) 7 0 ≤ 63) :
    Completes (.protStatus t r) s (Replied s t r [s.strWord (fieldOf (r.w 2) 7 0),
      w32 (s.str (fieldOf (r.w 2) 7 0)).cause.toNat, w32 (s.chain (fieldOf (r.w 2) 7 0)).breakAfter]) := by
  refine opcode_reads s t r _ _ _ h ha.2 (s.gate_oneWord t r 0x1201 0 h ha hn) (fun u hx => ?_)
  simp only [Nat.not_lt.mpr hc, if_false, hx.strWord, hx.str, hx.chain]

/-- An open string that meets R125 closes, beginning with NEG on (R126 step 1). -/
theorem execStringClose_completes (h : s.Ready t r) (ha : s.Allows t r 0) (hn : r.payload.length = 1)
    (hc : fieldOf (r.w 2) 7 0 ≤ 63) (hp : s.runsPlant = true) (ho : (s.str (fieldOf (r.w 2) 7 0)).state = .open_)
    (hm : s.closeUnmet (fieldOf (r.w 2) 7 0) = none) :
    Completes (.stringClose t r) s (fun u => Replied s t r [] u ∧
      (u.str (fieldOf (r.w 2) 7 0)).state = .closing ∧ (u.str (fieldOf (r.w 2) 7 0)).seq = .negOn ∧
      (u.chain (fieldOf (r.w 2) 7 0)).queue = (s.chain (fieldOf (r.w 2) 7 0)).queue ++ [cmdContactor 2]) := by
  refine opcode_replies s t r _ _ _ _ h ha.2 (s.gate_oneWord t r 0x1202 0 h ha hn) (fun u hx => ?_)
  simp only [Nat.not_lt.mpr hc, if_false, hx.runsPlant, hp, Bool.not_true, Bool.false_eq_true, hx.str, ho,
    bne_self_eq_false, hx.closeUnmet, hm]
  refine ⟨_, rfl, rfl, ?_⟩
  intro w hw
  obtain ⟨hstr, hqueue⟩ := u.contactorStep (fieldOf (r.w 2) 7 0) 2
    (fun x => { x with state := .closing, seq := .negOn, seqAt := u.now })
  rw [hw.str, hw.chain, hqueue, hstr, hx.chain]
  exact ⟨rfl, rfl, rfl⟩

/-- A closed string begins to open, and waits for its current to fall (R128). -/
theorem execStringOpen_completes (h : s.Ready t r) (ha : s.Allows t r 0) (hn : r.payload.length = 2)
    (hc : fieldOf (r.w 2) 7 0 ≤ 63) (hp : s.runsPlant = true) (hb : bitOf (r.w 3) 0 = false)
    (ho : (s.str (fieldOf (r.w 2) 7 0)).state = .closed) :
    Completes (.stringOpen t r) s (fun u => Replied s t r [] u ∧
      (u.str (fieldOf (r.w 2) 7 0)).state = .opening ∧ (u.str (fieldOf (r.w 2) 7 0)).seq = .waitCurrent) := by
  refine opcode_replies s t r _ _ _ _ h ha.2 (s.gate_twoWords t r 0x1203 0 h ha hn) (fun u hx => ?_)
  simp only [stringOpenBody, Nat.not_lt.mpr hc, if_false, hx.runsPlant, hp, Bool.not_true, Bool.false_eq_true, hb,
    State.openString, hx.str, ho]
  refine ⟨_, rfl, rfl, ?_⟩
  intro w hw
  rw [hw.str, State.modStr_str_same]
  exact ⟨rfl, rfl⟩

/-- With the immediate bit the string trips with OPERATOR, cause 22 of R114 (R129). -/
theorem execStringOpenImmediate_completes (h : s.Ready t r) (ha : s.Allows t r 0) (hn : r.payload.length = 2)
    (hc : fieldOf (r.w 2) 7 0 ≤ 63) (hp : s.runsPlant = true) (hb : bitOf (r.w 3) 0 = true)
    (ho : (s.str (fieldOf (r.w 2) 7 0)).state ≠ .tripped) :
    Completes (.stringOpenImmediate t r) s (fun u => Replied s t r [] u ∧
      (u.str (fieldOf (r.w 2) 7 0)).state = .tripped ∧ (u.str (fieldOf (r.w 2) 7 0)).firstCause = 0x42 ∧
      (u.str (fieldOf (r.w 2) 7 0)).action = 1) := by
  refine opcode_replies s t r _ _ _ _ h ha.2 (s.gate_twoWords t r 0x1203 0 h ha hn) (fun u hx => ?_)
  simp only [stringOpenBody, Nat.not_lt.mpr hc, if_false, hx.runsPlant, hp, Bool.not_true, Bool.false_eq_true, hb,
    if_true]
  refine ⟨_, rfl, (State.tripOnce_only ..).tenant_eq t rfl, ?_⟩
  intro w hw
  rw [hw.str]
  exact u.tripOnce_trips (fieldOf (r.w 2) 7 0) 22 (by decide) (hx.str _ ▸ ho)

/-- A tripped string whose causes are over is open again (R130). -/
theorem execProtReset_completes (h : s.Ready t r) (ha : s.Allows t r 0) (hn : r.payload.length = 1)
    (hc : fieldOf (r.w 2) 7 0 ≤ 63) (hp : s.runsPlant = true) (h2 : (s.str (fieldOf (r.w 2) 7 0)).action ≠ 2)
    (h0 : (s.str (fieldOf (r.w 2) 7 0)).cause = 0) (ho : (s.str (fieldOf (r.w 2) 7 0)).state = .tripped) :
    Completes (.protReset t r) s (fun u => Replied s t r [] u ∧
      (u.str (fieldOf (r.w 2) 7 0)).state = .open_ ∧ (u.str (fieldOf (r.w 2) 7 0)).firstCause = 0 ∧
      (u.str (fieldOf (r.w 2) 7 0)).action = 0) := by
  refine opcode_replies s t r _ _ _ _ h ha.2 (s.gate_oneWord t r 0x1204 0 h ha hn) (fun u hx => ?_)
  simp only [Nat.not_lt.mpr hc, if_false, hx.runsPlant, hp, Bool.not_true, Bool.false_eq_true, hx.str, h2, decide_false,
    Bool.false_and, h0, ne_eq, not_true_eq_false, ho, bne_self_eq_false]
  refine ⟨_, rfl, (State.unlatchPtos_only ..).tenant_eq t rfl, ?_⟩
  intro w hw
  rw [hw.str, (State.unlatchPtos_only ..).str rfl, State.modStr_str_same]
  exact ⟨rfl, rfl, rfl⟩

theorem execPtoStatus_completes (h : s.Ready t r) (ha : s.Allows t r 0) (hn : r.payload = []) :
    Completes (.ptoStatus t r) s (Replied s t r
      (packWord ((List.range 8).map (fun k => (k, b2n (s.pto k).asserted))) ::
        (List.range 8).map (fun k => w32 (s.ptoCauses k)))) := by
  have ⟨_, _, hrec, _⟩ := h
  refine opcode_reads s t r _ _ _ h ha.2
    (State.gate_none s t r { opcode := 0x1205 } hrec (by simp [hn]) ha.2 rfl ha.1 rfl (by simp)) (fun u hx => ?_)
  simp only [hx.pto, hx.ptoCauses]

theorem execBalStatus_completes (h : s.Ready t r) (ha : s.Allows t r 0) (hn : r.payload.length = 1)
    (hc : fieldOf (r.w 2) 7 0 ≤ 63) :
    Completes (.balStatus t r) s (Replied s t r [w32 (s.bal (fieldOf (r.w 2) 7 0)).target,
      w32 ((s.at r.time).bleeding (fieldOf (r.w 2) 7 0)),
      w32 ((s.bal (fieldOf (r.w 2) 7 0)).lastEval / 1000000000)]) := by
  refine opcode_reads s t r _ _ _ h ha.2 (s.gate_oneWord t r 0x1206 0 h ha hn) (fun u hx => ?_)
  simp only [Nat.not_lt.mpr hc, if_false, hx.bal, hx.bleeding]

theorem execZoneRead_completes (x : Zone) (h : s.Ready t r) (ha : s.Allows t r 0) (hn : r.payload.length = 1)
    (hz : (r.w 2).toNat ≤ 15) (hx : s.zone (r.w 2).toNat = x) :
    Completes (.zoneRead t r) s (Replied s t r
      [w32 x.demand, packWord [(0, b2n x.heat), (8, x.vent)], i32 x.tzMax, i32 x.tzMin]) := by
  refine opcode_reads s t r _ _ _ h ha.2 (s.gate_oneWord t r 0x1207 0 h ha hn) (fun u hu => ?_)
  simp only [Nat.not_lt.mpr hz, if_false, hu.zone, hx]

theorem execZoneTambWrite_completes (h : s.Ready t r) (ha : s.Allows t r 0) (hn : r.payload.length = 2)
    (hz : (r.w 2).toNat ≤ 15) :
    Completes (.zoneTambWrite t r) s (fun u => Replied s t r [] u ∧
      (u.zone (r.w 2).toNat).tamb = some ((r.w 3).toInt, max s.now r.time)) := by
  refine opcode_replies s t r _ _ _ _ h ha.2 (s.gate_twoWords t r 0x1208 0 h ha hn) (fun u hx => ?_)
  simp only [Nat.not_lt.mpr hz, if_false]
  refine ⟨_, rfl, rfl, ?_⟩
  intro w hw
  rw [hw.zone, State.modZone_zone_same, hx.now]

end

/-- Settles O10: each opcode of group 0x12 by its rule above, on the state in which its request executes. -/
theorem protectionOpcodesComplete : Obligations.ProtectionOpcodesComplete :=
  ⟨execProtStatus_completes, execStringClose_completes, execStringOpen_completes, execStringOpenImmediate_completes,
    execProtReset_completes, execPtoStatus_completes, execBalStatus_completes, execZoneRead_completes,
    execZoneTambWrite_completes⟩

end Sys2Proof.Machine
end

section
namespace Sys2Proof.Machine

/-! ## The states of the emergency override (R151) -/

/-- The state that the input leads to on a module that runs the plant (R151). -/
def eovTarget (eov : Bool) (o : OvrState) : OvrState :=
  match o, eov with
  | .normal, true => .armedInput
  | .armedCommand, true => .inForce
  | .armedInput, false => .normal
  | .inForce, false => .ending
  | o, _ => o

/-- The state that OVERRIDE start or end leads to (R151). -/
def commandTarget (start : Bool) (o : OvrState) : OvrState :=
  match o, start with
  | .normal, true => .armedCommand
  | .armedInput, true => .inForce
  | .armedCommand, false => .normal
  | .inForce, false => .ending
  | o, _ => o

/-- The entry into a state changes of the dispatch unit the state and the instants that go with it (R151, R152). -/
theorem State.enterOvr_disp (s : State) (o : OvrState) : (s.enterOvr o).disp = { s.disp with
    ovr := o, ovrAt := s.now, lastOvrRecord := if o == .inForce then s.now else s.disp.lastOvrRecord } := by
  cases o with
  | normal => rfl
  | armedInput => rfl
  | armedCommand => rfl
  | inForce => exact (State.ovrRecord_only _).keeps .disp rfl
  | ending => exact ((State.cutAll_only _).keeps .disp rfl).trans ((State.ovrRecord_only _).keeps .disp rfl)

theorem State.enterOvr_ovr (s : State) (o : OvrState) : (s.enterOvr o).disp.ovr = o := by
  rw [State.enterOvr_disp]

theorem State.enterOvr_eov (s : State) (o : OvrState) : (s.enterOvr o).disp.eov = s.disp.eov := by
  rw [State.enterOvr_disp]

/-- A module that runs the plant enters the state that its input leads to, where that is another one (R151). -/
theorem State.meetEov_enters (s : State) (hr : s.runsPlant = true) (hk : s.keeperUp = true) :
    s.meetEov = if eovTarget s.disp.eov s.disp.ovr = s.disp.ovr then s
      else s.enterOvr (eovTarget s.disp.eov s.disp.ovr) := by
  rw [State.meetEov, hr, hk]
  cases s.disp.ovr <;> cases s.disp.eov <;> rfl

theorem State.meetEov_eov_ovr (s : State) (hr : s.runsPlant = true) (hk : s.keeperUp = true) :
    s.meetEov.disp.eov = s.disp.eov ∧ s.meetEov.disp.ovr = eovTarget s.disp.eov s.disp.ovr := by
  rw [s.meetEov_enters hr hk]
  split
  · next he => exact ⟨rfl, he.symm⟩
  · exact ⟨s.enterOvr_eov _, s.enterOvr_ovr _⟩

/-- The input at a new level on a module that runs the plant (R151). -/
theorem State.eovSet_meets (s : State) (eov : Bool) (hr : s.runsPlant = true) (hk : s.keeperUp = true) :
    (s.modDisp (fun d => { d with eov := eov })).meetEov.disp.eov = eov ∧
    (s.modDisp (fun d => { d with eov := eov })).meetEov.disp.ovr = eovTarget eov s.disp.ovr :=
  State.meetEov_eov_ovr (s.modDisp (fun d => { d with eov := eov })) hr hk

/-! ## The events of the emergency override (R151, R152) -/

section
variable (s : State) (time : Nat)

theorem execEovAssert_completes (hr : s.runsPlant = true) (hk : s.keeperUp = true) :
    Completes (.eovAssert time) s (fun u => u.disp.eov = true ∧
      (s.disp.ovr = .normal → u.disp.ovr = .armedInput) ∧ (s.disp.ovr = .armedCommand → u.disp.ovr = .inForce)) := by
  obtain ⟨he, ho⟩ := (s.at time).eovSet_meets true hr hk
  exact ⟨_, rfl, he, fun hn => ho.trans (congrArg (eovTarget true) hn),
    fun hc => ho.trans (congrArg (eovTarget true) hc)⟩

theorem execEovRelease_completes (hr : s.runsPlant = true) (hk : s.keeperUp = true) :
    Completes (.eovRelease time) s (fun u => u.disp.eov = false ∧
      (s.disp.ovr = .armedInput → u.disp.ovr = .normal) ∧ (s.disp.ovr = .inForce → u.disp.ovr = .ending)) := by
  obtain ⟨he, ho⟩ := (s.at time).eovSet_meets false hr hk
  exact ⟨_, rfl, he, fun ha => ho.trans (congrArg (eovTarget false) ha),
    fun hf => ho.trans (congrArg (eovTarget false) hf)⟩

/-- A command that no input has met for 10 s lapses (R151). -/
theorem execOverrideLapse_completes (ho : s.disp.ovr = .armedCommand)
    (ht : s.disp.ovrAt + 10000000000 ≤ max s.now time) :
    Completes (.overrideLapse time) s (fun u => u.disp.ovr = .normal) := by
  have ho' : (s.at time).disp.ovr = .armedCommand := ho
  have ht' : (s.at time).disp.ovrAt + 10000000000 ≤ (s.at time).now := ht
  exact ⟨_, congrArg Host.Outcome.next (if_pos (by simp only [ho', decide_eq_true ht']; rfl)), State.enterOvr_ovr ..⟩

/-- 500 ms after the entry into ENDING the input alone decides (R151). -/
theorem execOverrideEndingEnd_completes (ho : s.disp.ovr = .ending) (ht : s.disp.ovrAt + 500000000 ≤ max s.now time) :
    Completes (.overrideEndingEnd time) s (fun u => u.disp.ovr = (if s.disp.eov then .armedInput else .normal)) := by
  have ho' : (s.at time).disp.ovr = .ending := ho
  have ht' : (s.at time).disp.ovrAt + 500000000 ≤ (s.at time).now := ht
  exact ⟨_, congrArg Host.Outcome.next (if_pos (by simp only [ho', decide_eq_true ht']; rfl)), State.enterOvr_ovr ..⟩

/-- In IN_FORCE an entry with the plant's lowest charge and voltage is made every 60 s (R152). -/
theorem execOverrideRecord_completes (ho : s.disp.ovr = .inForce)
    (ht : s.disp.lastOvrRecord + 60000000000 ≤ max s.now time) (hc : s.canRecord 3) :
    Completes (.overrideRecord time) s (fun u => u.disp.lastOvrRecord = max s.now time ∧
      Recorded 0x13 0x01 127 [3, s.readBuf.plant.getD 6 0, s.readBuf.plant.getD 2 0] u) := by
  have ho' : (s.at time).disp.ovr = .inForce := ho
  have ht' : (s.at time).disp.lastOvrRecord + 60000000000 ≤ (s.at time).now := ht
  refine ⟨_, congrArg Host.Outcome.next (if_pos (by simp only [ho', decide_eq_true ht']; rfl)), ?_, ?_⟩
  · exact congrArg Disp.lastOvrRecord ((State.ovrRecord_only _).keeps .disp rfl)
  · have hcode : w32 (((s.at time).modDisp (fun d => { d with lastOvrRecord := (s.at time).now })).disp.ovr.code) = 3 :=
      congrArg (fun o : OvrState => w32 o.code) ho
    rw [State.ovrRecord, hcode]
    exact State.record_recorded _ _ _ _ _ (by simp) hc

end

/-- Settles O12: the input by the state it leads to, and each of the other events by its rule above. -/
theorem overrideEventsComplete : Obligations.OverrideEventsComplete :=
  ⟨execEovAssert_completes, execEovRelease_completes, execOverrideLapse_completes, execOverrideEndingEnd_completes,
    execOverrideRecord_completes⟩

end Sys2Proof.Machine
end

section
namespace Sys2Proof.Machine

/-! ## What an opcode of group 0x13 finds (R137, R140, R154) -/

section
variable {s u : State} {t : Fin 16} {r : Req} {op : Nat}

theorem Executing.group (h : Executing s t r op u) (g : Nat) : u.group g = s.group g := by
  obtain ⟨_, _, _, _, _, _, rfl⟩ := h.books
  rfl

theorem Executing.groupSet (h : Executing s t r op u) (g : Nat) : u.groupSet g = s.groupSet g := by
  obtain ⟨_, _, _, _, _, _, rfl⟩ := h.books
  rfl

theorem Executing.strLimits (h : Executing s t r op u) : u.strLimits = s.strLimits := by
  obtain ⟨_, _, _, _, _, _, rfl⟩ := h.books
  rfl

theorem Books.group (h : Books s u) (g : Nat) : u.group g = s.group g := by
  obtain ⟨_, _, _, _, _, _, rfl⟩ := h
  rfl

theorem Books.disp (h : Books s u) : u.disp = s.disp := by
  obtain ⟨_, _, _, _, _, _, rfl⟩ := h
  rfl

theorem Executing.disp (h : Executing s t r op u) : u.disp = s.disp := h.books.disp

end

/-- A configured group is not refused. -/
theorem State.groupBad_none (s : State) (g : Nat) (hg : g ≤ 7) (hs : s.groupSet g = true) : s.groupBad g = none := by
  simp only [State.groupBad, Nat.not_lt.mpr hg, if_false, hs, Bool.not_true, Bool.false_eq_true]

/-- OVERRIDE enters the state that it leads to, answers its code, and leaves the tenants (R151). -/
theorem overrideBody_enters (r : Req) (s : State) (hr : s.runsPlant = true) :
    ∃ v, overrideBody r s = (v, .reply stOk [w32 (commandTarget (bitOf (r.w 2) 0) s.disp.ovr).code]) ∧
      (∀ t, v.tenant t = s.tenant t) ∧ v.disp.ovr = commandTarget (bitOf (r.w 2) 0) s.disp.ovr := by
  have hans : (overrideBody r s).2 = .reply stOk [w32 (overrideBody r s).1.disp.ovr.code] := by
    rw [overrideBody, hr]
    rfl
  have hovr : (overrideBody r s).1.disp.ovr = commandTarget (bitOf (r.w 2) 0) s.disp.ovr := by
    simp only [overrideBody, hr, Bool.not_true, Bool.false_eq_true, if_false]
    cases bitOf (r.w 2) 0 with
    | true =>
      cases ho : s.disp.ovr with
      | normal => simp only [if_true, State.enterOvr_ovr, commandTarget]
      | armedInput => simp only [if_true, State.enterOvr_ovr, commandTarget]
      | armedCommand => exact ho
      | inForce => exact ho
      | ending => exact ho
    | false =>
      cases ho : s.disp.ovr with
      | armedCommand => simp only [Bool.false_eq_true, if_false, State.enterOvr_ovr, commandTarget]
      | inForce => simp only [Bool.false_eq_true, if_false, State.enterOvr_ovr, commandTarget]
      | normal => exact ho
      | armedInput => exact ho
      | ending => exact ho
  exact ⟨_, Prod.ext rfl (hovr ▸ hans), fun t => (overrideBody_only r s).tenant_eq t rfl, hovr⟩

/-! ## The opcodes of group 0x13 (R149 to R151, R154) -/

section
variable (s : State) (t : Fin 16) (r : Req)

theorem execDspRead_completes (h : s.Ready t r) (ha : s.Allows t r 0) (hn : r.payload.length = 1)
    (hg : fieldOf (r.w 2) 7 0 ≤ 7 ∧ s.groupSet (fieldOf (r.w 2) 7 0) = true) :
    Completes (.dspRead t r) s (Replied s t r (s.group (fieldOf (r.w 2) 7 0)).block) := by
  obtain ⟨hle, hset⟩ := hg
  refine opcode_reads s t r _ _ _ h ha.2 (s.gate_oneWord t r 0x1301 0 h ha hn) (fun u hx => ?_)
  simp only [u.groupBad_none _ hle (hx.groupSet _ ▸ hset), hx.group]

/-- A burst request that is in range waits for the next tick (R149). -/
theorem execBurstRequest_completes (h : s.Ready t r) (ha : s.Allows t r 0) (hn : r.payload.length = 3)
    (hq : fieldOf (r.w 2) 7 0 ≤ 7 ∧ s.runsPlant = true ∧ s.groupSet (fieldOf (r.w 2) 7 0) = true ∧
      10 ≤ fieldOf (r.w 4) 15 0 ∧ fieldOf (r.w 4) 15 0 ≤ 6000 ∧ flt 0 (r.w 3) = true ∧ ffinite (r.w 3) = true) :
    Completes (.burstRequest t r) s (fun u => u.disp.asks = s.disp.asks ++
      [{ tenant := t, seq := r.seq, group := fieldOf (r.w 2) 7 0, chg := bitOf (r.w 2) 8, kw := bitOf (r.w 2) 9,
         value := r.w 3, dur := fieldOf (r.w 4) 15 0 }]) := by
  obtain ⟨hg, hp, hs, hlo, hhi, hpos, hfin⟩ := hq
  have ⟨_, _, hrec, _⟩ := h
  obtain ⟨u, hx, he⟩ := opcode_answers s t r _ _ h
    (State.gate_none s t r { opcode := 0x1302, len := lenIs 3 } hrec (by simp [lenIs, hn]) ha.2 rfl ha.1 rfl (by simp))
  refine ⟨_, he, ?_⟩
  simp only [Nat.not_lt.mpr hg, hx.runsPlant, hp, hx.groupSet, hs, Nat.not_lt.mpr hlo, Nat.not_lt.mpr hhi, hpos, hfin,
    or_self, Bool.not_true, Bool.or_self, Bool.false_eq_true, if_false, State.answer]
  rw [State.drain_empty _ _ _ (by exact hx.alone.1)]
  exact congrArg (fun d : Disp => d.asks ++ _) hx.disp

/-- The tenant that holds a grant gives it back (R150). -/
theorem execBurstCancel_completes (h : s.Ready t r) (ha : s.Allows t r 0) (hn : r.payload.length = 1)
    (hq : fieldOf (r.w 2) 7 0 ≤ 7 ∧ s.runsPlant = true ∧ s.groupSet (fieldOf (r.w 2) 7 0) = true ∧
      ∃ x, (s.group (fieldOf (r.w 2) 7 0)).grant = some x ∧ x.tenant = t) :
    Completes (.burstCancel t r) s (fun u => Replied s t r [] u ∧ (u.group (fieldOf (r.w 2) 7 0)).grant = none) := by
  obtain ⟨hg, hp, hs, x, hx, ht⟩ := hq
  refine opcode_replies s t r _ _ _ _ h ha.2 (s.gate_oneWord t r 0x1303 0 h ha hn) (fun u hu => ?_)
  simp only [Nat.not_lt.mpr hg, hu.runsPlant, hp, hu.groupSet, hs, Bool.not_true, Bool.false_eq_true, if_false, hu.group,
    hx, ht, if_true]
  refine ⟨_, rfl, rfl, fun w hw => ?_⟩
  rw [hw.group, State.modGroup_group_same]

/-- OVERRIDE leads from a state to the next, and answers the code of the next (R151). -/
theorem opcode_override (start : Bool) (h : s.Ready t r) (ha : s.Allows t r 0) (hn : r.payload.length = 1)
    (hp : s.runsPlant = true) (hb : bitOf (r.w 2) 0 = start) :
    ∃ u, opcode s t r { opcode := 0x1304, len := lenIs 1 } (overrideBody r) = .next u ∧
      ∀ o, s.disp.ovr = o → u.disp.ovr = commandTarget start o ∧ Replied s t r [w32 (commandTarget start o).code] u := by
  subst hb
  have ⟨u, he, hrep, hovr⟩ : ∃ u, opcode s t r { opcode := 0x1304, len := lenIs 1 } (overrideBody r) = .next u ∧
      Replied s t r [w32 (commandTarget (bitOf (r.w 2) 0) s.disp.ovr).code] u ∧
      u.disp.ovr = commandTarget (bitOf (r.w 2) 0) s.disp.ovr := by
    refine opcode_replies s t r _ _ _ _ h ha.2 (s.gate_oneWord t r 0x1304 0 h ha hn) (fun u hx => ?_)
    obtain ⟨v, hbody, htenant, hovr⟩ := overrideBody_enters r u (hx.runsPlant.trans hp)
    rw [hx.disp] at hbody hovr
    exact ⟨v, hbody, htenant t, fun w hw => (congrArg Disp.ovr hw.disp).trans hovr⟩
  refine ⟨u, he, ?_⟩
  rintro o rfl
  exact ⟨hovr, hrep⟩

theorem execOverrideStart_completes (h : s.Ready t r) (ha : s.Allows t r 0) (hn : r.payload.length = 1)
    (hq : s.runsPlant = true ∧ bitOf (r.w 2) 0 = true) :
    Completes (.overrideStart t r) s (fun u =>
      (s.disp.ovr = .normal → u.disp.ovr = .armedCommand ∧ Replied s t r [2] u) ∧
      (s.disp.ovr = .armedInput → u.disp.ovr = .inForce ∧ Replied s t r [3] u)) := by
  obtain ⟨u, he, hled⟩ := opcode_override s t r true h ha hn hq.1 hq.2
  exact ⟨u, he, hled .normal, hled .armedInput⟩

theorem execOverrideEnd_completes (h : s.Ready t r) (ha : s.Allows t r 0) (hn : r.payload.length = 1)
    (hq : s.runsPlant = true ∧ bitOf (r.w 2) 0 = false) :
    Completes (.overrideEnd t r) s (fun u =>
      (s.disp.ovr = .armedCommand → u.disp.ovr = .normal ∧ Replied s t r [0] u) ∧
      (s.disp.ovr = .inForce → u.disp.ovr = .ending ∧ Replied s t r [4] u)) := by
  obtain ⟨u, he, hled⟩ := opcode_override s t r false h ha hn hq.1 hq.2
  exact ⟨u, he, hled .armedCommand, hled .inForce⟩

/-- A key of either kind, with four words for each of its 128 bits, is taken (R147, R154). -/
theorem execDspKeyWrite_completes (k : Nat) (hk : k = 1 ∨ k = 2) (h : s.Ready t r) (ha : s.Allows t r 1)
    (hn : r.payload.length = 4 * k + 1) (hw : (r.w 2).toNat = k) :
    Completes (.dspKeyWrite t r) s (fun u => Replied s t r [] u ∧ u.disp.keyKind = k ∧
      u.disp.key = r.payload.drop 1) := by
  have ⟨_, _, hrec, _⟩ := h
  have hlen : (r.payload.length == 5 || r.payload.length == 9) = true := by
    rcases hk with rfl | rfl <;> rw [hn] <;> rfl
  have hkind : ¬ (k ≠ 1 ∧ k ≠ 2) := fun ⟨h1, h2⟩ => hk.elim h1 h2
  have hdrop : ¬ (r.payload.drop 1).length ≠ 4 * k := by simp [hn]
  have hgate := State.gate_none s t r
    { opcode := 0x1305, role := 1, len := fun ws => ws.length == 5 || ws.length == 9 } hrec hlen ha.2 rfl ha.1 rfl
    (by simp)
  refine opcode_replies s t r _ _ _ _ h ha.2 hgate (fun u hx => ?_)
  simp only [hw, if_neg hkind, if_neg hdrop]
  refine ⟨_, rfl, ?_, fun w hbooks => ?_⟩
  · split
    · rfl
    · rfl
  · rw [hbooks.disp]
    split
    · exact ⟨rfl, rfl⟩
    · exact ⟨rfl, rfl⟩

/-- The module that follows takes the key of its partner (R422). -/
theorem execDspKeyReceived_completes (kind : Nat) (key : List Word) (hs : s.single = false) (hl : s.linkUp = true)
    (hr : s.runsPlant = false) :
    Completes (.dspKeyReceived kind key) s (fun u => u.disp.keyKind = kind ∧ u.disp.key = key) := by
  have hs' : ({ s with out := [] } : State).single = false := hs
  have hl' : ({ s with out := [] } : State).linkUp = true := hl
  have hr' : ({ s with out := [] } : State).runsPlant = false := hr
  exact ⟨_, congrArg Host.Outcome.next (if_neg (by rw [hs', hl', hr']; decide)), rfl, rfl⟩

theorem execDspStringRead_completes (h : s.Ready t r) (ha : s.Allows t r 0) (hn : r.payload.length = 1)
    (hc : fieldOf (r.w 2) 7 0 ≤ 63) :
    Completes (.dspStringRead t r) s (Replied s t r
      ((List.range 8).map (fun i => limWord ((s.strLimits.get (fieldOf (r.w 2) 7 0)).amps.getD i 0 *
          ((((s.readBuf.strings.get (fieldOf (r.w 2) 7 0)).getD 14 0).toNat : Rat) / 20) / 1000)) ++
        (List.range 8).map (fun i => limWord ((s.strLimits.get (fieldOf (r.w 2) 7 0)).amps.getD i 0)) ++
        [packWord ((List.range 8).map (fun i =>
          (4 * i, (s.strLimits.get (fieldOf (r.w 2) 7 0)).codes.getD i 0)))])) := by
  refine opcode_reads s t r _ _ _ h ha.2 (s.gate_oneWord t r 0x1306 0 h ha hn) (fun u hx => ?_)
  simp only [Nat.not_lt.mpr hc, if_false, hx.strLimits, hx.readBuf]

end

/-- Settles O13: each opcode of group 0x13 by its rule above, a key of either kind by the one rule for both. -/
theorem dispatchOpcodesComplete : Obligations.DispatchOpcodesComplete :=
  ⟨execDspRead_completes, execBurstRequest_completes, execBurstCancel_completes, execOverrideStart_completes,
    execOverrideEnd_completes,
    fun s t r h ha hn hw => execDspKeyWrite_completes s t r 1 (.inl rfl) h ha hn (congrArg BitVec.toNat hw),
    fun s t r h ha hn hw => execDspKeyWrite_completes s t r 2 (.inr rfl) h ha hn (congrArg BitVec.toNat hw),
    execDspKeyReceived_completes, execDspStringRead_completes⟩

end Sys2Proof.Machine
end

section
namespace Sys2Proof.Machine

/-! ## The pair's own record through the operations of other units (R236 to R246) -/

/-- An operation that does not list the pair leaves it. -/
theorem Only.pair_eq {l : List Region} {s u : State} (h : Only l s u) (hl : l.contains .pair = false) : u.pair = s.pair :=
  h.keeps .pair hl

theorem forEach_pair {α : Type} (l : List α) (s : State) (f : State → α → State) (h : ∀ t x, (f t x).pair = t.pair) :
    (forEach l s f).pair = s.pair :=
  forEach_keeps (fun u => u.pair = s.pair) l s f rfl (fun t x _ ht => (h t x).trans ht)

/-- The role stays, or it turns and the CAN controllers follow what the module runs from then on (R242, R359). -/
theorem State.setRole_turned (s : State) (r : Role) : (s.setRole r = s ∧ s.pair.role = r) ∨ ∃ f, s.setRole r =
    if s.runsPlant == (s.turned r f).runsPlant then s.turned r f
    else if (s.turned r f).runsPlant then (forEach (List.range 8) (s.turned r f) (fun s k => s.canConfigure k)).meetEov
    else forEach (List.range 8) (s.turned r f) (fun s k => s.canToMonitor k) := by
  by_cases h : s.pair.role = r
  · exact .inl ⟨if_pos (beq_iff_eq.mpr h), h⟩
  · exact .inr ⟨_, if_neg (mt beq_iff_eq.mp h)⟩

/-- A change of the role leaves the rest of the pair's record (R242). -/
theorem State.setRole_pair (s : State) (r : Role) : (s.setRole r).pair = { s.pair with role := r } := by
  rcases s.setRole_turned r with ⟨e, rfl⟩ | ⟨f, e⟩
  · rw [e]
  · rw [e]
    split
    · exact s.turned_pair r f
    · split
      · rw [(State.meetEov_only _).pair_eq rfl, forEach_pair _ _ _ (fun _ _ => (State.canConfigure_only ..).pair_eq rfl),
          State.turned_pair]
      · rw [forEach_pair _ _ _ (fun _ _ => (State.canToMonitor_only ..).pair_eq rfl), State.turned_pair]

/-- A role that settles stays, or changes; a module that runs the plant then is ACTIVE or ALONE (R242). -/
theorem State.settleRole_cases (s : State) : s.settleRole = s ∨
    ∃ r, s.settleRole = s.setRole r ∧ (s.runsPlant = true → r = .active ∨ r = .alone) := by
  have turns (u : State) (p : Prop) [Decidable p] (r : Role) (hr : s.runsPlant = true → r = .active ∨ r = .alone)
      (hu : u = if p then s.setRole r else s) :
      u = s ∨ ∃ q, u = s.setRole q ∧ (s.runsPlant = true → q = .active ∨ q = .alone) := by
    by_cases h : p
    · exact .inr ⟨r, hu.trans (if_pos h), hr⟩
    · exact .inl (hu.trans (if_neg h))
  have leaves (p : Prop) [Decidable p] (r : Role) :
      (if p then s else s.setRole r) = if ¬ p then s.setRole r else s := (ite_not ..).symm
  have followed (h1 : ¬ s.single = true) (h : s.pair.role = .standby ∨ s.pair.role = .notReady) (r : Role)
      (hr : s.runsPlant = true) : r = .active ∨ r = .alone := by
    rw [State.runsPlant_of_follows (s.follows_iff.mpr ⟨Bool.eq_false_iff.mpr h1, h⟩)] at hr
    cases hr
  unfold State.settleRole
  split
  · exact .inl rfl
  · next h1 =>
    split
    · exact turns _ _ .active (fun _ => .inl rfl) rfl
    · exact turns _ _ .alone (fun _ => .inr rfl) (leaves _ _)
    · exact turns _ _ .active (fun _ => .inl rfl) rfl
    · next hr => exact turns _ _ .standby (followed h1 (.inr hr) _) rfl
    · next hr => exact turns _ _ .notReady (followed h1 (.inl hr) _) (leaves _ _)
    · exact .inl rfl

theorem State.settleRole_pair (s : State) : ∃ r, s.settleRole.pair = { s.pair with role := r } := by
  rcases s.settleRole_cases with e | ⟨r, e, -⟩
  · exact ⟨s.pair.role, by rw [e]⟩
  · exact ⟨r, by rw [e, State.setRole_pair]⟩

/-- What awaited the standby's acknowledgment leaves the pair's record, and nothing else of it changes (R197). -/
theorem State.settleWaits_pair (s : State) : ∃ l, s.settleWaits.pair = { s.pair with imgWaits := l } := by
  unfold State.settleWaits
  split
  · exact ⟨s.pair.imgWaits, rfl⟩
  · refine ⟨[], (forEach_pair _ _ _ (fun _ _ => (State.finish_only ..).pair_eq rfl)).trans ?_⟩
    split
    · rfl
    · exact congrArg (fun p : Pair => { p with imgWaits := [] }) ((State.completeCommit_only ..).pair_eq rfl)

/-- From s to u the pair's record changes in the tiles that are resynchronised alone. -/
def Resyncs (s u : State) : Prop := ∃ l, u.pair = { s.pair with resynced := l }

theorem Resyncs.trans {s t u : State} (h : Resyncs s t) (k : Resyncs t u) : Resyncs s u := by
  obtain ⟨l, h⟩ := h
  obtain ⟨m, k⟩ := k
  exact ⟨m, by rw [k, h]⟩

theorem Resyncs.of_pair {s u : State} (h : u.pair = s.pair) : Resyncs s u := ⟨s.pair.resynced, h⟩

theorem State.installSlots_resyncs (s : State) (c p : Nat) (zs : List Slot) : Resyncs s (s.installSlots c p zs) := by
  unfold State.installSlots
  extract_lets rest s1
  split
  · exact ⟨_, rfl⟩
  · exact .of_pair rfl

theorem State.resyncHook_resyncs (s : State) (c p n : Nat) : Resyncs s (s.resyncHook c p n) := by
  unfold State.resyncHook
  split
  · exact .of_pair rfl
  · split
    · exact .of_pair rfl
    · split
      · exact .of_pair rfl
      · split
        · exact State.installSlots_resyncs ..
        · exact .of_pair rfl

theorem State.advance_resyncs (fuel : Nat) (s : State) (c p : Nat) : Resyncs s (State.advance fuel s c p) := by
  induction fuel generalizing s with
  | zero => exact .of_pair rfl
  | succ k ih =>
    unfold State.advance
    dsimp only
    split
    · split
      · exact ((Resyncs.of_pair ((State.updatePosition_only ..).pair_eq rfl)).trans
          (State.resyncHook_resyncs ..)).trans (ih _)
      · exact .of_pair rfl
    · exact .of_pair rfl

theorem forEach_resyncs {α : Type} (l : List α) (s : State) (f : State → α → State) (h : ∀ t x, Resyncs t (f t x)) :
    Resyncs s (forEach l s f) :=
  forEach_keeps (Resyncs s) l s f (.of_pair rfl) (fun t x _ ht => ht.trans (h t x))

theorem State.endResync_resyncs (s : State) (c : Nat) : Resyncs s (s.endResync c) := by
  have caughtUp (t : State) (p : Nat) : Resyncs t (t.catchUp c p) :=
    (Resyncs.of_pair (forEach_pair _ _ _ (fun _ _ => (State.updatePosition_only ..).pair_eq rfl))).trans
      (State.advance_resyncs ..)
  unfold State.endResync
  split
  · exact .of_pair rfl
  · exact (Resyncs.of_pair rfl).trans (forEach_resyncs _ _ _ caughtUp)

/-- Resynchronisations that end leave the rest of the pair's record (R254). -/
theorem State.endResyncs_resyncs (s : State) : Resyncs s s.endResyncs := forEach_resyncs _ _ _ State.endResync_resyncs

/-- A module that begins to follow is STANDBY-NOT-READY (R240, R242). -/
theorem State.beginFollow_pair (s : State) : s.beginFollow.pair = { s.pair with role := .notReady } := by
  unfold State.beginFollow
  rw [forEach_pair _ _ _ (fun _ _ => (State.modChain_only ..).pair_eq rfl), (State.startChains_only _).pair_eq rfl,
    State.setRole_pair]

/-! ## Giving up (R244, R245) -/

theorem State.dropWaits_pair (s : State) : s.dropWaits.pair = { s.pair with imgWaits := [] } := by
  unfold State.dropWaits
  refine ((State.refuseAll_only ..).pair_eq rfl).trans ?_
  split
  · rfl
  · exact congrArg (fun p : Pair => { p with imgWaits := [] }) ((State.dropRequest_only ..).pair_eq rfl)

/-- The pair's record as a give-up leaves it (R245): OFFLINE, the line released, and the outputs frozen where the module ran
the plant. -/
def Pair.gaveUp (p : Pair) (cause : GiveUpCause) (ran : Bool) (now : Nat) : Pair :=
  { p with
    role := .offline, driving := false, claimAt := none, giveUpAt := some now, imgWaits := []
    frozen := if ran then some now else p.frozen, rampDown := if ran then none else p.rampDown
    stayOffline := p.stayOffline || GiveUpCause.isFault cause
    switchAt := if cause == .switchover then some now else none }

theorem State.doGiveUp_pair (s : State) (cause : GiveUpCause) :
    (s.doGiveUp cause).pair = Pair.gaveUp s.pair cause s.runsPlant s.now := by
  unfold State.doGiveUp
  extract_lets code s1 s2 s3 s4 s5 s6
  have h1 : s1.pair = { s.pair with
      frozen := if s.runsPlant then some s.now else s.pair.frozen
      rampDown := if s.runsPlant then none else s.pair.rampDown } := by
    simp only [s1]
    cases s.runsPlant
    · rfl
    · rfl
  have h2 : s2.pair = { s1.pair with role := .offline, imgWaits := [] } := by
    simp only [s2]
    rw [State.dropWaits_pair, State.setRole_pair, (State.partsFreeze_only _).pair_eq rfl]
  have h3 : s3.pair = s2.pair := forEach_pair _ _ _ (fun _ _ => (State.chainStops_only ..).pair_eq rfl)
  have h4 : s4.pair = s3.pair := by
    simp only [s4]
    rw [State.modDisp_pair, (State.refuseAll_only ..).pair_eq rfl, (State.dropHibernate_only ..).pair_eq rfl]
  have h5 : s5.pair = s4.pair := by
    have unlocked : (s4.breakLock 3).pair = s4.pair := (State.breakLock_only ..).pair_eq rfl
    simp only [s5]
    exact doIf_keeps (fun u => u.pair = s4.pair) _ _ _ unlocked (fun h => (State.emit_pair ..).trans h)
  have h6 : s6.pair = { s5.pair with
      driving := false, claimAt := none, giveUpAt := some s.now
      stayOffline := s5.pair.stayOffline || GiveUpCause.isFault cause
      switchAt := if cause == .switchover then some s.now else none } := rfl
  rw [(State.record_only ..).pair_eq rfl, h6, h5, h4, h3, h2, h1]
  rfl

end Sys2Proof.Machine
end

section
namespace Sys2Proof.Machine

/-! ## The HOLD line (R236, R237, R240, R244) -/

theorem State.runsPlant_iff (s : State) : s.runsPlant = true ↔
    s.single = true ∨ s.pair.role = .active ∨ s.pair.role = .alone ∨ s.pair.role = .newt ∨ s.pair.role = .single := by
  unfold State.runsPlant State.role
  cases s.single
  · cases s.pair.role <;> simp
  · simp

theorem State.single_of_pair {s u : State} (h : u.pair.mode = s.pair.mode) : u.single = s.single := by
  rw [State.single, h, State.single]

/-- A module that runs the plant runs it on when its role settles (R242). -/
theorem State.settleRole_runsPlant (s : State) (h : s.runsPlant = true) : s.settleRole.runsPlant = true := by
  rcases s.settleRole_cases with e | ⟨r, e, hr⟩
  · rw [e, h]
  · rw [e, State.runsPlant_iff, State.setRole_pair]
    rcases hr h with rfl | rfl
    · exact .inr (.inl rfl)
    · exact .inr (.inr (.inl rfl))

section
variable (s : State) (time : Nat)

theorem execHoldPulse_completes (h1 : s.single = false) (hk : s.power.keeper = .running) (hr : s.runsPlant = true) :
    Completes (.holdPulse time) s (fun u => u.out = [.hold true] ∧ u.pair.driving = true ∧
      u.pair.confirmAt = max s.now time) := by
  have h1' : (s.at time).single = false := h1
  have hr' : (s.at time).runsPlant = true := hr
  exact ⟨_, congrArg Host.Outcome.next (if_neg (by simp [h1', hk, hr'])), rfl, rfl, rfl⟩

theorem execKeeperConfirmTimeout_completes (hd : s.pair.driving = true) (ht : s.pair.confirmAt + 200000 ≤ max s.now time) :
    Completes (.keeperConfirmTimeout time) s (fun u => u.out = [.hold false] ∧ u.pair.driving = false) := by
  have hd' : (s.at time).pair.driving = true := hd
  have ht' : (s.at time).pair.confirmAt + 200000 ≤ (s.at time).now := ht
  exact ⟨_, congrArg Host.Outcome.next (if_pos (by rw [hd', decide_eq_true ht']; rfl)), rfl, rfl⟩

/-- A module that watches the line and sees the partner's pulse begins to follow (R240). -/
theorem execPulseSeen_completes (h1 : s.single = false) (hc : s.pair.claimAt = none) (hr : s.runsPlant = false) :
    Completes (.pulseSeen time) s (fun u => u.pair.partnerPulse = true ∧ u.pair.sense = true ∧
      (s.watchesHold = true → u.pair.role = .notReady)) := by
  have h1' : (s.at time).single = false := h1
  have hc' : (s.at time).pair.claimAt.isSome = false := congrArg Option.isSome hc
  have hr' : (s.at time).runsPlant = false := hr
  refine ⟨_, congrArg Host.Outcome.next ((if_neg (Bool.eq_false_iff.mp h1')).trans
    ((if_neg (Bool.eq_false_iff.mp hc')).trans (if_neg (Bool.eq_false_iff.mp hr')))), ?_⟩
  dsimp only
  generalize hs : State.modPair _ _ = s1
  have hp : s1.pair.partnerPulse = true ∧ s1.pair.sense = true := hs ▸ ⟨rfl, rfl⟩
  have hw : s1.watchesHold = s.watchesHold := hs ▸ rfl
  rw [hw]
  split
  · rw [State.beginFollow_pair]
    exact ⟨hp.1, hp.2, fun _ => rfl⟩
  · next h => exact ⟨hp.1, hp.2, fun h' => absurd h' h⟩

theorem State.watchesHold_iff : s.watchesHold = true ↔ s.single = false ∧ s.power.state = .run ∧
    s.power.keeper = .running ∧ s.pair.role = .offline ∧ s.pair.stayOffline = false ∧ s.pair.sideConflict = false ∧
    s.pair.switchAt = none ∧ s.pair.claimAt = none := by
  simp [State.watchesHold, and_assoc]

/-- A module that watches the line and misses the partner's pulse claims it (R240). -/
theorem execPulseAbsent_completes (hw : s.watchesHold = true) (hf : s.pair.holdFault = false) :
    Completes (.pulseAbsent time) s (fun u => u.pair.partnerPulse = false ∧ u.out = [.hold true] ∧
      u.pair.claimAt = some (max s.now time) ∧ u.pair.driving = true) := by
  obtain ⟨h1, -, -, hrole, -, -, -, hc⟩ := s.watchesHold_iff.mp hw
  have h1' : (s.at time).single = false := h1
  have hc' : (s.at time).pair.claimAt.isSome = false := congrArg Option.isSome hc
  have hr' : (s.at time).runsPlant = false := by
    rw [State.runsPlant, State.role, h1', State.at_pair, hrole]
    rfl
  refine ⟨_, congrArg Host.Outcome.next (if_neg (by rw [h1', hc', hr']; decide)), ?_⟩
  dsimp only
  generalize hs : State.modPair _ _ = s1
  have hclaims : (s1.watchesHold && !s1.pair.holdFault) = true :=
    hs ▸ Bool.and_eq_true_iff.mpr ⟨hw, congrArg not hf⟩
  rw [if_pos hclaims]
  exact ⟨hs ▸ rfl, hs ▸ rfl, hs ▸ rfl, rfl⟩

/-- A claim that has lasted 1 ms on a line that carried the module's own pulse takes the plant (R240). -/
theorem execClaimEnd_completes (a : Nat) (hc : s.pair.claimAt = some a) (ht : a + 1000000 ≤ max s.now time)
    (ho : s.pair.seenOwn = true) (hs : s.pair.sideConflict = false) :
    Completes (.claimEnd time) s (fun u => u.pair.claimAt = none ∧ u.runsPlant = true) := by
  have hc' : (s.at time).pair.claimAt = some a := hc
  have ht' : ¬ (s.at time).now < a + 1000000 := Nat.not_lt.mpr ht
  have ho' : ¬ (!(s.at time).pair.seenOwn) = true := by rw [State.at_pair, ho]; decide
  have hs' : ¬ (s.at time).pair.sideConflict = true := by rw [State.at_pair, hs]; decide
  refine ⟨((((s.at time).modPair (fun p =>
    { p with claimAt := none, absentAt := none })).setRole .alone).startPlant).settleRole, ?_, ?_⟩
  · simp only [exec, execClaimEnd, evt, hc', if_neg ht', if_neg ho', if_neg hs']
  generalize hu : State.startPlant _ = s1
  have hp : s1.pair = { s.pair with claimAt := none, absentAt := none, role := .alone } := by
    rw [← hu, (State.startPlant_only _).pair_eq rfl, State.setRole_pair]
    rfl
  refine ⟨?_, s1.settleRole_runsPlant (s1.runsPlant_iff.mpr (.inr (.inr (.inl (congrArg Pair.role hp)))))⟩
  obtain ⟨r, hr⟩ := s1.settleRole_pair
  rw [hr, hp]

/-- Side B gives way on a contended line: it ends its claim, or gives up the plant (R240, R244). -/
theorem execContention_completes (h1 : s.single = false) (hb : s.ident.sideB = true) :
    (s.pair.claimAt.isSome = true → Completes (.contention time) s (fun u =>
      u.pair.claimAt = none ∧ u.pair.driving = false ∧ u.out = [.hold false])) ∧
    (s.pair.claimAt = none → s.runsPlant = true → Completes (.contention time) s (fun u =>
      u.pair.role = .offline ∧ u.pair.giveUpAt = some (max s.now time))) := by
  have h1' : ¬ (s.at time).single = true := Bool.eq_false_iff.mp h1
  refine ⟨fun hc => ?_, fun hc hr => ?_⟩
  · exact ⟨_, congrArg Host.Outcome.next ((if_neg h1').trans ((if_pos hc).trans (if_pos hb))), rfl, rfl, rfl⟩
  · have hc' : ¬ (s.at time).pair.claimAt.isSome = true := by rw [State.at_pair, hc]; decide
    have hg : (s.at time).givesUp .contention = true := by
      show (!s.single && (s.runsPlant && s.ident.sideB)) = true
      rw [h1, hr, hb]
      rfl
    refine ⟨_, congrArg Host.Outcome.next ((if_neg h1').trans ((if_neg hc').trans (if_pos hg))), ?_⟩
    dsimp only
    rw [State.doGiveUp_pair]
    exact ⟨rfl, rfl⟩

/-- A module that misses its own pulse gives up where the partner can take over, and notes a faulty line otherwise (R244). -/
theorem execOwnPulseMissing_completes (h1 : s.single = false) (hr : s.runsPlant = true) :
    Completes (.ownPulseMissing time) s (fun u =>
      if s.partnerFollows && s.linkUp then u.pair.role = .offline else u.pair.holdFault = true) := by
  have h1' : (s.at time).single = false := h1
  have hr' : (s.at time).runsPlant = true := hr
  have hg : (s.at time).givesUp .ownPulse = (s.partnerFollows && s.linkUp) := by
    show (!s.single && (s.runsPlant && (s.partnerFollows && s.linkUp))) = _
    rw [h1, hr]
    rfl
  refine ⟨_, congrArg Host.Outcome.next (if_neg (by rw [h1', hr']; decide)), ?_⟩
  dsimp only
  rw [hg]
  split
  · rw [State.doGiveUp_pair]
    rfl
  · rfl

/-- Without the partner's sense the module gives up where the partner follows over a link that is up (R244). -/
theorem execPartnerSenseAbsent_completes (h1 : s.single = false) :
    Completes (.partnerSenseAbsent time) s (fun u => u.pair.sense = false ∧
      (s.runsPlant = true → s.linkUp = true → s.partnerFollows = true → u.pair.role = .offline)) := by
  refine ⟨_, congrArg Host.Outcome.next (if_neg (Bool.eq_false_iff.mp h1)), ?_⟩
  dsimp only
  generalize hs : State.modPair _ _ = s1
  have hsense : s1.pair.sense = false := hs ▸ rfl
  have hg : s1.givesUp .senseAbsent = (!s.single && (s.runsPlant && (s.partnerFollows && s.linkUp))) := hs ▸ rfl
  by_cases hn : (!(s.at time).runsPlant || !(s.at time).linkUp) = true
  · rw [if_pos hn]
    refine ⟨hsense, fun hr hl => ?_⟩
    have hn' : (!s.runsPlant || !s.linkUp) = true := hn
    rw [hr, hl] at hn'
    cases hn'
  · rw [if_neg hn, hg]
    split
    · rw [State.doGiveUp_pair]
      exact ⟨hsense, fun _ _ _ => rfl⟩
    · next h =>
      refine ⟨hsense, fun hr hl hf => absurd ?_ h⟩
      rw [h1, hr, hf, hl]
      rfl

end

/-- Settles O23: each event of the line by its rule above, on the state at its instant. -/
theorem holdLineComplete : Obligations.HoldLineComplete :=
  ⟨execHoldPulse_completes, execKeeperConfirmTimeout_completes, execPulseSeen_completes, execPulseAbsent_completes,
    execClaimEnd_completes, execContention_completes, execOwnPulseMissing_completes, execPartnerSenseAbsent_completes⟩

end Sys2Proof.Machine
end

section
namespace Sys2Proof.Machine

/-! ## What the module knows of its partner (R239, R242, R243) -/

/-- What a control block says of the partner, as the pair's record keeps it (R239, R241, R243). -/
def Pair.seen (p : Pair) : Option Role × ControlBlock × Bool × Bool :=
  (p.partner, p.partnerBlock, p.fwMismatch, p.sideConflict)

/-- The lanes of the link and the partner's role (R235, R239). -/
def Pair.link (p : Pair) : Bool × Bool × Option Role := (p.lane1, p.lane2, p.partner)

theorem State.settle_seen (s : State) : Pair.seen s.settleRole.settleWaits.pair = Pair.seen s.pair ∧
    Pair.link s.settleRole.settleWaits.pair = Pair.link s.pair := by
  obtain ⟨r, hr⟩ := s.settleRole_pair
  obtain ⟨l, hl⟩ := s.settleRole.settleWaits_pair
  rw [hl, hr]
  exact ⟨rfl, rfl⟩

/-- A step of plant time moves the instants of the pair's record alone (R13). -/
theorem State.stepTime_seen (s : State) (n : Nat) : Pair.seen (s.stepTime n).pair = Pair.seen s.pair := by
  unfold State.stepTime
  split
  · rw [forEach_pair _ _ _ (fun _ _ => (State.cmpStepped_only ..).pair_eq rfl)]
    rfl
  · rfl

theorem State.discipline_seen (s : State) (o : Int) : Pair.seen (s.discipline o).pair = Pair.seen s.pair := by
  unfold State.discipline
  dsimp only
  split
  · exact State.stepTime_seen _ _
  · rfl

/-- A follower's requests mark its mirror sets and its tile (R251, R254). -/
theorem State.followerAsks_seen (s : State) : Pair.seen s.followerAsks.pair = Pair.seen s.pair := by
  unfold State.followerAsks
  extract_lets due s1
  have h1 : Pair.seen s1.pair = Pair.seen s.pair :=
    forEach_keeps (fun u => Pair.seen u.pair = Pair.seen s.pair) _ s _ rfl (fun t k _ ht => ht)
  split
  · exact h1
  · split
    · exact h1
    · exact h1

section
variable (s : State) (time : Nat)

/-- With the second lane down, the loss of the first one ends the link, and the partner's role is unknown (R235, R239). -/
theorem execLaneDown_completes (hh : s.power.hibAsk = none) (h2 : s.pair.lane2 = false) :
    Completes (.laneDown 0 time) s (fun u => u.linkUp = false ∧ (s.linkUp = true → u.pair.partner = none)) := by
  refine ⟨_, rfl, ?_⟩
  dsimp only
  generalize hs : State.modPair (s.at time) _ = s1
  have hdown : s1.linkUp = false := by rw [← hs]; exact h2
  have hasked : s1.power.hibAsk = none := hs ▸ hh
  by_cases hl : s.linkUp = true
  · have hl' : (s.at time).linkUp = true := hl
    rw [hl', hdown, if_pos (by decide)]
    have hpower : s1.linkLost.power.hibAsk = none :=
      ((State.linkLost_only s1).supplied Power.hibAsk (fun _ => rfl) rfl).trans hasked
    rw [State.linkGone, hpower, if_neg (by decide)]
    obtain ⟨l, hlost⟩ := State.endResyncs_resyncs (s1.modPair (fun p =>
      { p with lane1 := false, lane2 := false, partner := none, linkUpAt := none, mapAt := none, takeupAsked := false }))
    have hlink := (s1.linkLost.settle_seen).2
    rw [show s1.linkLost.pair = _ from hlost] at hlink
    injection hlink with e1 e2
    injection e2 with e2 e3
    exact ⟨by rw [State.linkUp, e1, e2]; rfl, fun _ => e3⟩
  · have hl' : (s.at time).linkUp = false := Bool.eq_false_iff.mpr hl
    rw [hl', Bool.false_and, if_neg (by decide)]
    exact ⟨hdown, fun h => absurd h hl⟩

theorem execLaneUp_completes (lane : Fin 2) (h1 : s.single = false) (hd : s.up 49 = true) (hk : s.keeperUp = true) :
    Completes (.laneUp lane time) s (fun u => u.linkUp = true ∧
      (if lane = 0 then u.pair.lane1 = true else u.pair.lane2 = true) ∧
      (s.linkUp = false → u.pair.linkUpAt = some (max s.now time))) := by
  have h1' : (s.at time).single = false := h1
  have hd' : (s.at time).up 49 = true := hd
  have hk' : (s.at time).keeperUp = true := hk
  refine ⟨_, congrArg Host.Outcome.next (if_neg (by rw [h1', hd', hk']; decide)), ?_⟩
  dsimp only
  generalize hs : (if (s.at time).linkUp = true then s.at time else (s.at time).linkCame) = s1
  have hcame : s.linkUp = false → s1.pair.linkUpAt = some (max s.now time) := by
    intro hl
    rw [← hs, if_neg (Bool.eq_false_iff.mp (show (s.at time).linkUp = false from hl))]
    rfl
  by_cases hz : lane = 0
  · subst hz
    exact ⟨rfl, rfl, hcame⟩
  · have hv : ¬ lane.val = 0 := fun h => hz (Fin.ext h)
    simp only [State.linkUp, State.modPair, if_neg hv, if_neg hz]
    exact ⟨Bool.or_true _, trivial, hcame⟩

/-- What a control block says of the partner stands, whatever the module then does about it (R239, R241, R243). -/
theorem execControlBlockReceived_completes (b : ControlBlock) (h1 : s.single = false) (hl : s.linkUp = true) :
    Completes (.controlBlockReceived b time) s (fun u => u.pair.partner = some b.role ∧ u.pair.partnerBlock = b ∧
      u.pair.fwMismatch = (b.release != s.release.toNat) ∧ u.pair.sideConflict = (b.sideB == s.ident.sideB)) := by
  have h1' : (s.at time).single = false := h1
  have hl' : (s.at time).linkUp = true := hl
  refine ⟨_, congrArg Host.Outcome.next (if_neg (by rw [h1', hl']; decide)), ?_⟩
  extract_lets s1 s2 s3 s4 takes
  have told (u : State) (hu : Pair.seen u.pair = Pair.seen s1.pair) :
      u.pair.partner = some b.role ∧ u.pair.partnerBlock = b ∧ u.pair.fwMismatch = (b.release != s.release.toNat) ∧
      u.pair.sideConflict = (b.sideB == s.ident.sideB) := by
    injection hu with e1 e2
    injection e2 with e2 e3
    injection e3 with e3 e4
    exact ⟨e1, e2, e3, e4⟩
  have h2 : Pair.seen s2.pair = Pair.seen s1.pair := by
    simp only [s2]
    split
    · rfl
    · rfl
  have h3 : Pair.seen s3.pair = Pair.seen s1.pair := s2.settle_seen.1.trans h2
  refine told _ ?_
  split
  · have h4 : Pair.seen s4.pair = Pair.seen s1.pair :=
      (State.followerAsks_seen _).trans ((State.discipline_seen _ _).trans h3)
    exact doIf_keeps (fun u => Pair.seen u.pair = Pair.seen s1.pair) _ _ _ h4 (fun h => h)
  · split
    · rw [forEach_pair _ _ _ (fun _ _ => (State.turnIfWhole_only ..).pair_eq rfl)]
      exact h3
    · exact h3

end

/-! ## The end of a fold and the return of the module (R242, R249) -/

/-- One chain's turn in FOLD_END. -/
def State.unturn (s : State) (c : Nat) : State :=
  match (s.chain c).running with
  | .folded => s.sendSegment c (s.chPositions c) 0
  | .reversed => s.sendSegment c 1 0
  | _ => s

theorem State.unturn_only (s : State) (c : Nat) : Only [.chains] s (s.unturn c) := by
  unfold State.unturn
  split
  · exact State.sendSegment_only ..
  · exact State.sendSegment_only ..
  · exact Only.refl _ _

theorem State.unturn_other (s : State) (k c : Nat) (h : c ≠ k) : (s.unturn k).chain c = s.chain c := by
  unfold State.unturn
  split
  · exact State.modChain_chain_other s k c _ h
  · exact State.modChain_chain_other s k c _ h
  · rfl

theorem State.sendSegment_segments (s : State) (c p v : Nat) : (p, v) ∈ ((s.sendSegment c p v).chain c).segments := by
  rw [State.sendSegment, State.modChain_chain_same]
  exact List.mem_append_right _ (List.mem_singleton.mpr rfl)

section
variable (s : State) (time a : Nat)

/-- With the partner following over a link that has been up for 1 s, each folded chain's far monitor is set back (R249). -/
theorem execFoldEnd_completes (h1 : s.single = false) (hr : s.runsPlant = true) (hl : s.linkUp = true)
    (hf : s.partnerFollows = true) (hu : s.pair.linkUpAt = some a) (ht : a + 1000000000 ≤ max s.now time) :
    Completes (.foldEnd time) s (fun u => ∀ c : Nat, c < 64 → (s.chain c).running = .folded →
      (s.chPositions c, 0) ∈ (u.chain c).segments) := by
  have h1' : (s.at time).single = false := h1
  have hr' : (s.at time).runsPlant = true := hr
  have hl' : (s.at time).linkUp = true := hl
  have hf' : (s.at time).partnerFollows = true := hf
  have hu' : (s.at time).pair.linkUpAt = some a := hu
  have ht' : a + 1000000000 ≤ (s.at time).now := ht
  refine ⟨forEach (List.range 64) (s.at time) State.unturn, ?_, fun c hc hfold => ?_⟩
  · refine congrArg Host.Outcome.next (if_neg ?_)
    simp [h1', hr', hl', hf', hu, ht]
  refine forEach_at (fun t => Only [.chains] (s.at time) t ∧ t.chain c = s.chain c)
    (fun t => (s.chPositions c, 0) ∈ (t.chain c).segments) (List.range 64) List.nodup_range (s.at time) State.unturn c
    (List.mem_range.mpr hc) ⟨Only.refl _ _, rfl⟩ ?_ ?_ ?_
  · rintro t k hk ⟨ho, he⟩
    exact ⟨(t.unturn_only k).after (by decide) ho, (t.unturn_other k c hk.symm).trans he⟩
  · rintro t ⟨ho, he⟩
    have hpos : t.chPositions c = s.chPositions c := by
      rw [State.chPositions, State.parN, State.par, show t.cfg = s.cfg from ho.keeps .cfg rfl]
      rfl
    rw [State.unturn, he, hfold, hpos]
    exact t.sendSegment_segments c _ 0
  · intro t k hk hm
    rw [t.unturn_other k c hk.symm]
    exact hm

/-- 10 ms after PAIR_SWITCHOVER the module follows (R242). -/
theorem execSwitchoverReturn_completes (hs : s.pair.switchAt = some a) (ht : a + 10000000 ≤ max s.now time)
    (hr : s.pair.role = .offline) :
    Completes (.switchoverReturn time) s (fun u => u.pair.switchAt = none ∧ u.pair.role = .notReady) := by
  have hs' : (s.at time).pair.switchAt = some a := hs
  have ht' : ¬ ((s.at time).now < a + 10000000 ∨ (s.at time).pair.role ≠ .offline) := by
    rintro (h | h)
    · exact absurd h (Nat.not_lt.mpr ht)
    · exact h hr
  refine ⟨((s.at time).modPair (fun p => { p with switchAt := none })).beginFollow, ?_, ?_⟩
  · simp only [exec, execSwitchoverReturn, evt, hs', if_neg ht']
  · dsimp only
    rw [State.beginFollow_pair]
    exact ⟨rfl, rfl⟩

end

/-! ## HIBERNATE (R413, R414) -/

section
variable (s : State) (time : Nat)

theorem execHibernateReceived_completes (h1 : s.single = false) (hl : s.linkUp = true) (hr : s.runsPlant = false)
    (hp : s.power.state = .run) (hk : s.power.keeper = .running) :
    Completes (.hibernateReceived time) s (fun u => u.power.state = .hibernate) := by
  have h1' : (s.at time).single = false := h1
  have hl' : (s.at time).linkUp = true := hl
  have hr' : (s.at time).runsPlant = false := hr
  refine ⟨(s.at time).partnerHibernates, congrArg Host.Outcome.next (if_neg (by simp [h1', hl', hr', hp, hk])), ?_⟩
  exact (State.syncPtos_only _).supplied Power.state (fun _ => rfl) rfl

/-- Without an answer of the partner for 1 s the request is refused (R413, R425). -/
theorem execHibernatePartnerTimeout_completes (t q a : Nat) (p : Packet) (hh : s.power.hibAsk = some (t, q, a))
    (ht : a + 1000000000 ≤ max s.now time) (he : (s.tenant t).executing = [{ pkt := p }]) (hq : (s.tenant t).queued = [])
    (hs : p.req.seq = q) (hf : p.req.flags = 0) :
    Completes (.hibernatePartnerTimeout time) s (fun u => u.power.hibAsk = none ∧
      (u.tenant t).unread = (s.tenant t).unread ++
        [{ words := replyWords { status := stRejected 0x33, seq := q, tag := p.req.tag } }]) := by
  subst hs
  have hh' : (s.at time).power.hibAsk = some (t, p.req.seq, a) := hh
  have ht' : a + 1000000000 ≤ (s.at time).now := ht
  refine ⟨((s.at time).modPower (fun p => { p with hibAsk := none })).finish t p.req.seq (stRejected 0x33) [], ?_, ?_, ?_⟩
  · simp only [exec, execHibernatePartnerTimeout, evt, State.dropHibernate, hh', if_pos ht']
  · exact (State.finish_only ..).supplied Power.hibAsk (fun _ => rfl) rfl
  · have h := (State.finish_reply ((s.at time).modPower (fun p => { p with hibAsk := none })) t p (stRejected 0x33) []
      he hq).1
    rw [hf] at h
    exact h

end

/-- Settles O24: each event of the link by its rule above, on the state at its instant. -/
theorem pairLinkComplete : Obligations.PairLinkComplete :=
  ⟨execLaneDown_completes, fun s lane time => execLaneUp_completes s time lane,
    fun s b time => execControlBlockReceived_completes s time b, execFoldEnd_completes, execSwitchoverReturn_completes,
    execHibernateReceived_completes, execHibernatePartnerTimeout_completes⟩

end Sys2Proof.Machine
end

section
namespace Sys2Proof.Machine

/-! ## What an opcode of group 0x40 finds (R239, R243, R257) -/

theorem Books.pair {s u : State} (h : Books s u) : u.pair = s.pair := by
  obtain ⟨_, _, _, _, _, _, rfl⟩ := h
  rfl

theorem Books.ident {s u : State} (h : Books s u) : u.ident = s.ident := by
  obtain ⟨_, _, _, _, _, _, rfl⟩ := h
  rfl

theorem Books.now {s u : State} (h : Books s u) : u.now = s.now := by
  obtain ⟨_, _, _, _, _, _, rfl⟩ := h
  rfl

section
variable {s u : State} {t : Fin 16} {r : Req} {op : Nat}

theorem Executing.pair (h : Executing s t r op u) : u.pair = s.pair := h.books.pair

theorem Executing.single (h : Executing s t r op u) : u.single = s.single :=
  State.single_of_pair (congrArg Pair.mode h.pair)

theorem Executing.role (h : Executing s t r op u) : u.role = s.role := by
  rw [State.role, h.single, h.pair, State.role]

theorem Executing.follows (h : Executing s t r op u) : u.follows = s.follows := State.follows_pair h.pair

/-- What a follower lacks does not turn on a request: a domain that it wakes was up (R20, R243). -/
theorem Executing.unready (h : Executing s t r op u) : u.unready = s.unready := by
  have up : ∀ d, u.up d = s.up d := h.wakes.up
  unfold State.unready
  simp only [up]
  obtain ⟨_, _, _, _, _, _, rfl⟩ := h.books
  rfl

theorem Executing.notReadyWord (h : Executing s t r op u) : u.notReadyWord = s.notReadyWord := by
  rw [State.notReadyWord, h.single, h.pair, h.unready, State.notReadyWord]

theorem Executing.pairLink (h : Executing s t r op u) : u.pairLink = s.pairLink := by
  rw [State.pairLink, h.single, h.pair, State.pairLink]

theorem Executing.partnerCode (h : Executing s t r op u) : u.partnerCode = s.partnerCode := by
  rw [State.partnerCode, h.pair, State.partnerCode]

theorem Executing.mirrorLoads (h : Executing s t r op u) : u.mirrorLoads = s.mirrorLoads := by
  obtain ⟨_, _, _, _, _, _, rfl⟩ := h.books
  rfl

end

/-! ## PAIR_SWITCHOVER (R242, R258) -/

/-- A switchover can be had: to a STANDBY, or, forced, to any partner that follows, over a link that is up (R258). -/
def State.switchable (s : State) (force : Bool) : Bool :=
  s.linkUp && (s.pair.partner == some .standby || (force && s.partnerFollows)) && !s.single

/-- What PAIR_SWITCHOVER answers: OK, with a mark for the give-up that comes after the answer, or its refusal (R258). -/
def switchoverBody (can force : Bool) (s : State) : State × Answer :=
  if can then (s.modPair (fun p => { p with sentGiveUp := true }), ok)
  else if force then (s, no (stRejected 0x13))
  else (s, no (stRejected 0x10))

/-! ## The opcodes of group 0x40 (R238, R242, R254, R258) -/

section
variable (s : State) (t : Fin 16) (r : Req)

theorem execPairStatus_completes (h : s.Ready t r) (ha : s.Allows t r 0) (hn : r.payload.length = 0) (_ : True) :
    Completes (.pairStatus t r) s (Replied s t r
      [w32 s.role.code, w32 s.partnerCode, s.notReadyWord, s.pairLink, w32 s.mirrorLoads]) := by
  obtain ⟨-, -, hrec, -⟩ := id h
  have g := State.gate_none s t r { opcode := 0x4001 } hrec (by simpa using hn) ha.2 rfl ha.1 rfl (by simp)
  refine opcode_reads s t r _ _ _ h ha.2 g (fun u hx => ?_)
  rw [hx.role, hx.partnerCode, hx.notReadyWord, hx.pairLink, hx.mirrorLoads]

theorem execPairSwitchover_gives_up (s1 : State)
    (h : opcode ((s.at r.time).modPair (fun p => { p with sentGiveUp := false })) t r
      { opcode := 0x4002, role := 1, len := lenIs 1, active := true }
      (switchoverBody ((s.at r.time).switchable (bitOf (r.w 2) 0)) (bitOf (r.w 2) 0)) = .next s1)
    (hs : s1.pair.sentGiveUp = true) :
    exec (.pairSwitchover t r) s =
      .next ((s1.modPair (fun p => { p with sentGiveUp := s.pair.sentGiveUp })).doGiveUp .switchover) := by
  unfold switchoverBody State.switchable at h
  simp only [exec, execPairSwitchover, evt, h, hs, if_true]
  rfl

/-- The module that runs the plant hands it to a partner in STANDBY: it answers, and gives up (R242, R258). -/
theorem execPairSwitchover_completes (h : s.Ready t r) (ha : s.Allows t r 1) (hn : r.payload.length = 1)
    (hq : s.single = false ∧ s.runsPlant = true ∧ s.linkUp = true ∧ s.pair.partner = some .standby) :
    Completes (.pairSwitchover t r) s (fun u => u.pair.role = .offline ∧ u.pair.switchAt = some (max s.now r.time)) := by
  obtain ⟨h1, hr, hl, hp⟩ := hq
  have ⟨_, _, hrec, _⟩ := h
  generalize hs0 : (s.at r.time).modPair (fun p => { p with sentGiveUp := false }) = s0
  have hcan : (s.at r.time).switchable (bitOf (r.w 2) 0) = true := by
    show (s.linkUp && (s.pair.partner == some .standby || (bitOf (r.w 2) 0 && s.partnerFollows)) && !s.single) = true
    rw [hl, hp, h1]
    rfl
  have g : s0.gate t r { opcode := 0x4002, role := 1, len := lenIs 1, active := true } = none :=
    State.gate_none s0 t r _ (hs0 ▸ hrec) (by simp [lenIs, hn]) ha.2 rfl (hs0 ▸ ha.1) rfl (fun _ => hs0 ▸ hr)
  obtain ⟨u, hx, he⟩ := opcode_answers s0 t r _
    (switchoverBody ((s.at r.time).switchable (bitOf (r.w 2) 0)) (bitOf (r.w 2) 0)) (hs0 ▸ h) g
  generalize hs1 : State.drain 32 _ _ = s1 at he
  have hbooks : Books (u.modPair (fun p => { p with sentGiveUp := true })) s1 := by
    rw [← hs1, hcan]
    exact (State.answer_books ..).trans (State.drain_books ..)
  have hnow : s1.now = max s.now r.time := by
    rw [hbooks.now]
    exact hx.now.trans (by rw [← hs0]; simp)
  refine ⟨_, execPairSwitchover_gives_up s t r s1 (hs0 ▸ he) (congrArg Pair.sentGiveUp hbooks.pair), ?_⟩
  dsimp only
  rw [State.doGiveUp_pair]
  exact ⟨rfl, congrArg some hnow⟩

/-- A new side waits for the next module reset (R238). -/
theorem execPairSetSide_completes (h : s.Ready t r) (ha : s.Allows t r 2) (hn : r.payload.length = 1)
    (hq : s.role ≠ .active ∧ s.role ≠ .alone ∧ s.role ≠ .newt) :
    Completes (.pairSetSide t r) s (fun u => Replied s t r [] u ∧ u.ident.sideNext = bitOf (r.w 2) 0 ∧
      u.ident.sideB = s.ident.sideB) := by
  obtain ⟨hactive, halone, hnewt⟩ := hq
  refine opcode_replies s t r _ _ _ _ h ha.2 (s.gate_oneWord t r 0x4003 2 h ha hn) (fun u hx => ?_)
  refine ⟨{ u with ident := { u.ident with sideNext := bitOf (r.w 2) 0 } }, ?_, rfl, fun w hw => ?_⟩
  · rw [hx.role]
    split
    · next e => exact absurd e hactive
    · next e => exact absurd e halone
    · next e => exact absurd e hnewt
    · rfl
  · rw [hw.ident]
    have hside : u.ident.sideB = s.ident.sideB := by rw [hx.books.ident]; rfl
    exact ⟨rfl, hside⟩

/-- A module that follows takes the tile's slots anew (R254). -/
theorem execPairResync_completes (h : s.Ready t r) (ha : s.Allows t r 1) (hn : r.payload.length = 1)
    (hq : fieldOf (r.w 2) 7 0 ≤ 63 ∧ s.follows = true) :
    Completes (.pairResync t r) s (fun u => Replied s t r [] u ∧ fieldOf (r.w 2) 7 0 ∉ u.pair.resynced) := by
  obtain ⟨hc, hf⟩ := hq
  refine opcode_replies s t r _ _ _ _ h ha.2 (s.gate_oneWord t r 0x4004 1 h ha hn) (fun u hx => ?_)
  refine ⟨_, (if_neg (fun hb => Nat.not_lt.mpr hc hb.1)).trans (if_neg (by rw [hx.follows, hf]; decide)), ?_,
    fun w hw => ?_⟩
  · exact (State.settleRole_only _).tenant_eq t rfl
  · obtain ⟨q, hq⟩ := State.settleRole_pair (u.modPair (fun p =>
      { p with resynced := p.resynced.filter (fun k => fieldOf (r.w 2) 7 0 != 255 && k != fieldOf (r.w 2) 7 0) }))
    rw [hw.pair, hq]
    simp [State.modPair]

end

/-- Settles O27: each opcode by its rule above, on the state in which its request executes. -/
theorem pairOpcodesComplete : Obligations.PairOpcodesComplete :=
  ⟨execPairStatus_completes, execPairSwitchover_completes, execPairSetSide_completes, execPairResync_completes⟩

end Sys2Proof.Machine
end

section
namespace Sys2Proof.Machine

/-! ## What has left the module in a step is not taken back (R245, R247) -/

/-- What had left the module in s has left it in u. -/
def OutKept (s u : State) : Prop := s.out ⊆ u.out

theorem OutKept.refl (s : State) : OutKept s s := List.Subset.refl _

theorem OutKept.trans {s t u : State} (h : OutKept s t) (k : OutKept t u) : OutKept s u := List.Subset.trans h k

/-- An operation that does not list `out`. -/
theorem Only.outKept {l : List Region} {s u : State} (h : Only l s u) (hl : l.contains .out = false) : OutKept s u := by
  rw [OutKept, h.out_eq hl]
  exact List.Subset.refl _

theorem OutKept.ite {p : Prop} [Decidable p] {s t u : State} (h : p → OutKept s t) (k : ¬ p → OutKept s u) :
    OutKept s (if p then t else u) := by
  split
  · exact h ‹_›
  · exact k ‹_›

theorem forEach_outKept {α : Type} (l : List α) (s : State) (f : State → α → State) (h : ∀ t x, OutKept t (f t x)) :
    OutKept s (forEach l s f) :=
  forEach_keeps (OutKept s) l s f (.refl s) (fun t x _ ht => ht.trans (h t x))

/-- Turns that act under a condition. -/
theorem forEach_ite_outKept {α : Type} (l : List α) (s : State) (q : State → α → Prop) [∀ t x, Decidable (q t x)]
    (f : State → α → State) (h : ∀ t x, OutKept t (f t x)) :
    OutKept s (forEach l s (fun s x => if q s x then f s x else s)) :=
  forEach_outKept l s _ (fun t x => .ite (fun _ => h t x) (fun _ => .refl t))

theorem doIf_outKept (b : Bool) (s : State) (f : State → State) (h : OutKept s (f s)) : OutKept s (doIf b s f) :=
  doIf_keeps (OutKept s) b s f (.refl s) (fun _ => h)

theorem State.emit_outKept (s : State) (o : Out) : OutKept s (s.emit o) := List.subset_append_left _ _

theorem State.syncPtos_outKept (s : State) : OutKept s s.syncPtos := fun o h => s.syncPtos_mem_out o h

/-! ### Events and the tenants' books (R162, R206) -/

theorem State.event_outKept (s : State) (v n : Nat) : OutKept s (s.event v n) := doIf_outKept _ _ _ (s.raise_out v n)

theorem State.windowEvent_outKept (s : State) (t n : Nat) : OutKept s (s.windowEvent t n) :=
  .ite (fun _ => s.event_outKept _ n) (fun _ => .refl s)

theorem State.modTenant_outKept (s : State) (t : Nat) (f : Tenant → Tenant) : OutKept s (s.modTenant t f) := .refl s

theorem State.toUnread_outKept (s : State) (t : Nat) (r : Reply) : OutKept s (s.toUnread t r) := by
  unfold State.toUnread
  exact (s.modTenant_outKept t _).trans ((State.emit_outKept _ _).trans
    (doIf_outKept _ _ _ (State.windowEvent_outKept _ t 288)))

theorem State.enqueue_outKept (s : State) (t : Nat) (p : Packet) : OutKept s (s.enqueue t p) :=
  .ite (fun _ => .refl s) (fun _ => ((s.awake_only 33).outKept rfl).trans (State.modTenant_outKept _ t _))

theorem State.answerMalformed_outKept (s : State) (t : Nat) (p : Packet) : OutKept s (s.answerMalformed t p) := by
  unfold State.answerMalformed
  refine .ite (fun _ => (s.modTenant_outKept t _).trans (State.toUnread_outKept _ t _)) (fun _ => ?_)
  split
  · exact (s.modTenant_outKept t _).trans (State.toUnread_outKept _ t _)
  · exact ((s.modTenant_outKept t _).trans (State.modTenant_outKept _ t _)).trans (State.toUnread_outKept _ t _)

theorem State.drain_outKept (fuel : Nat) (s : State) (t : Nat) : OutKept s (State.drain fuel s t) := by
  induction fuel generalizing s with
  | zero => exact .refl s
  | succ n ih =>
    unfold State.drain
    split
    · exact .ite (fun _ => (s.answerMalformed_outKept t _).trans (ih _)) (fun _ => .refl s)
    · exact .refl s

theorem State.readSession_outKept (fuel : Nat) (s : State) (t : Nat) : OutKept s (State.readSession fuel s t) := by
  induction fuel generalizing s with
  | zero => exact .refl s
  | succ n ih =>
    unfold State.readSession
    split
    · exact .refl s
    · split
      · exact .refl s
      · exact .ite (fun _ => .refl s)
          (fun _ => ((s.modTenant_outKept t _).trans (State.enqueue_outKept _ t _)).trans (ih _))

theorem State.creditBack_outKept (s : State) (t : Nat) : OutKept s (s.creditBack t) := by
  unfold State.creditBack
  have h1 := (s.modTenant_outKept t (fun x => { x with credits := x.credits + 1 })).trans
    (State.windowEvent_outKept _ t 289)
  refine .ite (fun _ => ?_) (fun _ => ?_)
  · exact ((h1.trans (State.modTenant_outKept _ t _)).trans (State.enqueue_outKept _ t _)).trans
      (State.drain_outKept _ _ t)
  · exact (h1.trans (State.readSession_outKept _ _ t)).trans (State.drain_outKept _ _ t)

theorem State.finish_outKept (s : State) (t seq status : Nat) (payload : List Word) (flags : Nat) :
    OutKept s (s.finish t seq status payload flags) := by
  unfold State.finish
  split
  · exact .refl s
  · refine .ite (fun _ => (s.modTenant_outKept t _).trans (State.creditBack_outKept _ t)) (fun _ => ?_)
    exact (((s.modTenant_outKept t _).trans (State.modTenant_outKept _ t _)).trans (State.toUnread_outKept _ t _)).trans
      (State.drain_outKept _ _ t)

theorem State.tenantReset_outKept (s : State) (t detail : Nat) : OutKept s (s.tenantReset t detail) := by
  have held (u : State) : OutKept u (u.holderLost t detail) :=
    .ite (fun _ => (State.breakLock_only ..).outKept rfl) (fun _ => .refl u)
  unfold State.tenantReset
  extract_lets x waiting opening gone stay back s1
  have h1 : OutKept s s1 := held (s.setTenant t _)
  exact .ite (fun _ => h1) (fun _ => h1.trans (State.windowEvent_outKept _ t 289))

/-! ### Partitions (R201, R203) -/

theorem State.loopOff_outKept (s : State) (i : Nat) : OutKept s (s.loopOff i) := by
  have off : OutKept s ((((s.injEndAll i).modLoop i (fun x =>
      { sp := x.sp, satCount := x.satCount, arithCount := x.arithCount, at_ := x.at_, uPrev := x.u }))).loopDestSafe i) :=
    ((State.injEndAll_only ..).outKept rfl).trans (((State.modLoop_only ..).outKept rfl).trans
      ((State.loopDestSafe_only ..).outKept rfl))
  unfold State.loopOff State.loopChange
  exact .ite (fun _ => .refl s) (fun _ => .ite (fun _ => off.trans (State.event_outKept _ _ _)) (fun _ => off))

theorem State.leapSafe_outKept (s : State) (p : Nat) : OutKept s (s.leapSafe p) :=
  doIf_outKept _ (s.modFb p _) _ (State.emit_outKept _ _)

theorem State.outputsSafe_outKept (s : State) (p : Nat) : OutKept s (s.outputsSafe p) := by
  unfold State.outputsSafe
  refine OutKept.trans ?_ ((State.syncFdp_only _).outKept rfl)
  refine OutKept.trans ?_ (OutKept.refl _)
  refine OutKept.trans ?_ (forEach_ite_outKept _ _ _ _ (fun t _ => t.leapSafe_outKept _))
  refine OutKept.trans ?_ (forEach_ite_outKept _ _ _ _ (fun t _ => (t.valveSafe_only _).outKept rfl))
  refine OutKept.trans ?_ (forEach_ite_outKept _ _ _ _ (fun t _ => (t.anaSafe_only _).outKept rfl))
  refine OutKept.trans ?_ (forEach_ite_outKept _ _ _ _ (fun t _ => (t.doSafe_only _).outKept rfl))
  exact forEach_ite_outKept _ _ _ _ (fun t i => t.loopOff_outKept i)

theorem State.refuseAsks_outKept (s : State) (p : Nat) : OutKept s (s.refuseAsks p) := by
  unfold State.refuseAsks
  refine OutKept.trans (t := s.modPart p (fun x => { x with asks := [] })) (.refl s) (forEach_outKept _ _ _ (fun t a => ?_))
  cases a with
  | stop k q => exact State.finish_outKept ..
  | hold k q => exact State.finish_outKept ..
  | step k q => exact State.finish_outKept ..

theorem State.partReset_outKept (s : State) (p : Nat) : OutKept s (s.partReset p) := by
  have tenant (u : State) (d : Nat) : OutKept u (u.partTenantReset p d) := by
    unfold State.partTenantReset
    split
    · exact .refl u
    · exact u.tenantReset_outKept _ _
  unfold State.partReset
  extract_lets s1 s2 zones s3
  have h1 : OutKept s s1 := ((s.outputsSafe_outKept p).trans (State.refuseAsks_outKept _ p)).trans (tenant _ 1)
  clear_value s1
  have h3 : OutKept s1 s3 := .refl s1
  exact (h1.trans h3).trans ((State.setupView_only s3 p).outKept rfl)

theorem State.coldPart_outKept (s : State) (p : Nat) (newt : Bool) : OutKept s (s.coldPart p newt) := by
  have mirrored (u : State) (q : Option PartMirror) :
      OutKept u (match q with | none => u | some m => u.newtPart p m) := by
    cases q with
    | none => exact .refl u
    | some m => exact (State.newtPart_only ..).outKept rfl
  unfold State.coldPart
  extract_lets snap ran s1 s2
  have h2 : OutKept s s2 := (s.partReset_outKept p).trans (mirrored s1 snap)
  exact .ite (fun _ => h2.trans ((State.partStart_only s2 p).outKept rfl)) (fun _ => h2)

/-! ### The plant taken over (R247, R248) -/

theorem State.hotPlant_outKept (s : State) : OutKept s s.hotPlant := by
  have parts (u : State) (p : Nat) (q : Option PartMirror) :
      OutKept u (match q with | some m => u.hotPart p m | none => u) := by
    cases q with
    | none => exact .refl u
    | some m => exact (State.hotPart_only ..).outKept rfl
  unfold State.hotPlant
  refine OutKept.trans ((s.hotLoops_only).outKept rfl) (OutKept.trans (forEach_outKept _ _ _ (fun t p => ?_))
    ((State.modPair_only ..).outKept rfl |>.trans (State.emit_outKept _ _)))
  exact .ite (fun _ => .refl t) (fun _ => parts t p _)

theorem State.coldPlant_outKept (s : State) (newt : Bool) : OutKept s (s.coldPlant newt) := by
  unfold State.coldPlant
  extract_lets s1 s2
  have h1 : OutKept s s1 := forEach_ite_outKept _ _ _ _ (fun t p => t.coldPart_outKept p newt)
  have h2 : OutKept s1 s2 := .ite (fun _ => (s1.hotLoops_only).outKept rfl)
    (fun _ => forEach_outKept _ _ _ (fun _ _ => (State.modLoop_only ..).outKept rfl))
  exact (h1.trans h2).trans (((State.modPair_only s2 _).outKept rfl).trans (State.emit_outKept _ _))

theorem State.canToMonitor_outKept (s : State) (k : Nat) : OutKept s (s.canToMonitor k) := by
  have moved (t : State) : OutKept t (t.canTo k 0) := by
    unfold State.canTo
    refine .ite (fun _ => .refl t) (fun _ => ?_)
    refine OutKept.trans ?_ (doIf_outKept _ _ _ ((State.canDrop_only ..).outKept rfl))
    exact (((State.modCan_only ..).outKept rfl).trans (State.eventAll_out _ _)).trans ((State.record_only ..).outKept rfl)
  unfold State.canToMonitor
  refine .ite (fun _ => .refl s) (fun _ => ?_)
  exact ((State.modCan_only ..).outKept rfl).trans (((State.canDrop_only ..).outKept rfl).trans
    (((State.modCan_only ..).outKept rfl).trans (doIf_outKept _ _ _ (moved _))))

theorem State.setRole_outKept (s : State) (r : Role) : OutKept s (s.setRole r) := by
  rcases s.setRole_turned r with ⟨e, -⟩ | ⟨f, e⟩
  · rw [e]
    exact .refl s
  · rw [e]
    refine .ite (fun _ => s.turned_out r f) (fun _ => .ite (fun _ => ?_) (fun _ => ?_))
    · exact ((show OutKept s _ from s.turned_out r f).trans
        (forEach_outKept _ _ _ (fun _ _ => (State.canConfigure_only ..).outKept rfl))).trans
        ((State.meetEov_only _).outKept rfl)
    · exact (show OutKept s _ from s.turned_out r f).trans (forEach_outKept _ _ _ (fun t k => t.canToMonitor_outKept k))

theorem State.resyncHook_outKept (s : State) (c p n : Nat) : OutKept s (s.resyncHook c p n) := by
  unfold State.resyncHook
  split
  · exact .refl s
  · refine .ite (fun _ => .refl s) (fun _ => .ite (fun _ => ?_) (fun _ => ?_))
    · exact ((State.modTile_only ..).outKept rfl).trans (State.emit_outKept _ _)
    · split
      · exact (State.installSlots_only ..).outKept rfl
      · exact .refl s

theorem State.advance_outKept (fuel : Nat) (s : State) (c p : Nat) : OutKept s (State.advance fuel s c p) := by
  induction fuel generalizing s with
  | zero => exact .refl s
  | succ k ih =>
    unfold State.advance
    dsimp only
    split
    · exact .ite (fun _ => (((State.updatePosition_only ..).outKept rfl).trans (State.resyncHook_outKept ..)).trans (ih _))
        (fun _ => .refl s)
    · exact .refl s

theorem State.endResyncs_outKept (s : State) : OutKept s s.endResyncs := by
  have caughtUp (t : State) (c p : Nat) : OutKept t (t.catchUp c p) :=
    (forEach_outKept _ _ _ (fun _ _ => (State.updatePosition_only ..).outKept rfl)).trans (State.advance_outKept ..)
  refine forEach_outKept _ _ _ (fun t c => ?_)
  unfold State.endResync
  split
  · exact .refl t
  · exact ((State.modTile_only ..).outKept rfl).trans (forEach_outKept _ _ _ (fun u p => caughtUp u c p))

end Sys2Proof.Machine
end

section
namespace Sys2Proof.Machine

/-! ## Taking the plant over (R246 to R248) -/

/-- The plant goes on hot: the first output cycle is noted, and no ramp down runs (R247). -/
theorem State.hotPlant_pair (s : State) : s.hotPlant.pair = { s.pair with outputAt := s.now, rampDown := none } := by
  have parts (u : State) (p : Nat) (q : Option PartMirror) :
      (match q with | some m => u.hotPart p m | none => u).pair = u.pair := by
    cases q with
    | none => rfl
    | some m => exact (State.hotPart_only ..).pair_eq rfl
  unfold State.hotPlant
  extract_lets s2
  have h2 : s2.pair = s.pair := by
    refine (forEach_pair _ _ _ (fun t p => ?_)).trans (s.hotLoops_only.pair_eq rfl)
    split
    · rfl
    · exact parts t p _
  rw [State.emit_pair, State.modPair, h2]

/-- The plant starts cold: as after a hot takeover, the first output cycle is noted (R248). -/
theorem State.coldPlant_pair (s : State) (newt : Bool) :
    (s.coldPlant newt).pair = { s.pair with outputAt := s.now, rampDown := none } := by
  unfold State.coldPlant
  extract_lets s1 s2
  have h1 : s1.pair = s.pair := by
    refine forEach_pair _ _ _ (fun t p => ?_)
    split
    · exact (State.coldPart_only ..).pair_eq rfl
    · rfl
  have h2 : s2.pair = s1.pair := by
    simp only [s2]
    split
    · exact s1.hotLoops_only.pair_eq rfl
    · exact forEach_pair _ _ _ (fun _ _ => (State.modLoop_only ..).pair_eq rfl)
  rw [State.emit_pair, State.modPair, h2, h1]

/-- The Keeper's state and the strings of a takeover: rebuilt from the plant where no mirror is current (R129, R248). -/
theorem State.stringsTaken_only (s : State) (b : Bool) :
    Only [.power, .pool, .chains, .strs, .groups, .disp, .recorder] s
      (if b then s.rebuildKeeper else s).resumeStrings := by
  refine (State.resumeStrings_only _).after (by decide) ?_
  split
  · exact s.rebuildKeeper_only
  · exact Only.refl _ _

/-- The module that takes over drives the line, ALONE after a hot takeover and as a Newt otherwise (R242, R246). -/
theorem State.takeOver_leads (s : State) : Out.hold true ∈ s.takeOver.out ∧ s.takeOver.pair.driving = true ∧
    s.takeOver.pair.role = (if s.pair.role == .standby && s.pair.mode != 2 then .alone else .newt) := by
  unfold State.takeOver
  extract_lets hot cold bits keeper held s1 s2 s3 s4 s5 s6 s7 s8
  have h1 : Out.hold true ∈ s1.out ∧ s1.pair.driving = true := ⟨State.mem_emit _ _, rfl⟩
  have p2 : s2.pair = { s1.pair with role := if hot then .alone else .newt } := State.setRole_pair ..
  have h3 : Only [.power, .pool, .recorder] s2 s3 := doIf_only _ _ (fun _ => State.record_only ..) (Only.refl _ _)
  have h4 : Only [.ident, .cfg, .config] s3 s4 := State.takeoverLock_only ..
  have h5 : Only [.power, .pool, .chains, .strs, .groups, .disp, .recorder] s4 s5 := s4.stringsTaken_only _
  have h7 : Only [.chains] s6 s7 := State.takeChains_only _
  have p8 : s8.pair = { s7.pair with outputAt := s7.now, rampDown := none } := by
    simp only [s8]
    split
    · exact s7.hotPlant_pair
    · exact s7.coldPlant_pair _
  have o8 : OutKept s7 s8 := .ite (fun _ => s7.hotPlant_outKept) (fun _ => s7.coldPlant_outKept _)
  have out : OutKept s1 s8.syncPtos.driveAllDo :=
    (s1.setRole_outKept _).trans <| (h3.outKept rfl).trans <| (h4.outKept rfl).trans <| (h5.outKept rfl).trans <|
      s5.endResyncs_outKept.trans <| (h7.outKept rfl).trans <| o8.trans <|
        s8.syncPtos_outKept.trans ((State.driveAllDo_only _).outKept rfl)
  obtain ⟨l, p6⟩ : Resyncs s5 s6 := s5.endResyncs_resyncs
  rw [(State.driveAllDo_only _).pair_eq rfl, (State.syncPtos_only _).pair_eq rfl, p8, h7.pair_eq rfl, p6, h5.pair_eq rfl,
    h4.pair_eq rfl, h3.pair_eq rfl, p2]
  exact ⟨out h1.1, h1.2, rfl⟩

/-! ## Giving up and taking over (R244 to R248) -/

section
variable (s : State) (time : Nat)

theorem execGiveUp_completes (cause : GiveUpCause) (h : s.givesUp cause = true) :
    Completes (.giveUp cause time) s (fun u => u.pair.role = .offline ∧ u.pair.driving = false ∧
      u.pair.giveUpAt = some (max s.now time) ∧ (s.runsPlant = true → u.pair.frozen = some (max s.now time))) := by
  refine ⟨(s.at time).doGiveUp cause, congrArg Host.Outcome.next (if_pos h), ?_⟩
  dsimp only
  rw [State.doGiveUp_pair]
  exact ⟨rfl, rfl, rfl, fun hr => if_pos hr⟩

/-- The partner that has given up is OFFLINE, and a module that follows counts its silence from there (R246). -/
theorem execGiveUpReceived_completes (cause : GiveUpCause) (h1 : s.single = false) (hl : s.linkUp = true) :
    Completes (.giveUpReceived cause time) s (fun u => u.pair.partner = some .offline ∧
      (s.follows = true → u.pair.giveUpSeen = some (max s.now time))) := by
  have h1' : (s.at time).single = false := h1
  have hl' : (s.at time).linkUp = true := hl
  refine ⟨_, congrArg Host.Outcome.next (if_neg (by rw [h1', hl']; decide)), ?_⟩
  dsimp only
  by_cases hf : s.follows = true
  · rw [if_pos (show (s.at time).follows = true from hf)]
    exact ⟨rfl, fun _ => rfl⟩
  · rw [if_neg (show ¬ (s.at time).follows = true from hf)]
    obtain ⟨r, hr⟩ := ((s.at time).modPair (fun p => { p with partner := some .offline })).settleRole_pair
    rw [hr]
    exact ⟨rfl, fun h => absurd h hf⟩

/-- Outputs that are let go are frozen no longer (R245). -/
theorem State.unfreeze_pair (s : State) : s.unfreeze.pair = { s.pair with frozen := none } := by
  unfold State.unfreeze
  rw [(State.driveAllDo_only _).pair_eq rfl, forEach_pair _ _ _ (fun _ _ => (State.outputsSafe_only ..).pair_eq rfl)]
  rfl

theorem execFirstOutputReceived_completes (hf : s.isFrozen = true) :
    Completes (.firstOutputReceived time) s (fun u => u.pair.frozen = none) := by
  exact ⟨_, congrArg Host.Outcome.next (if_pos hf), congrArg Pair.frozen (State.unfreeze_pair _)⟩

theorem execFreezeTimeout_completes (a : Nat) (hf : s.pair.frozen = some a) (ht : a + 2500000 ≤ max s.now time) :
    Completes (.freezeTimeout time) s (fun u => u.pair.frozen = none) := by
  have hf' : (s.at time).pair.frozen = some a := hf
  have ht' : a + 2500000 ≤ (s.at time).now := ht
  refine ⟨(s.at time).unfreeze, ?_, congrArg Pair.frozen (State.unfreeze_pair _)⟩
  simp only [exec, execFreezeTimeout, evt, hf', if_pos ht']

/-- The module takes over ALONE where it was ready and does not run in Newt mode, and as a Newt otherwise (R247, R248). -/
theorem execTakeoverDecision_completes (hd : (s.at time).takeoverDue = true) (hk : s.keeperUp = true) :
    Completes (.takeoverDecision time) s (fun u => Out.hold true ∈ u.out ∧ u.pair.driving = true ∧
      u.pair.role = (if s.pair.role = .standby ∧ s.pair.mode ≠ 2 then .alone else .newt)) := by
  have hk' : (s.at time).keeperUp = true := hk
  refine ⟨(s.at time).takeOver, congrArg Host.Outcome.next (if_pos (by rw [hd, hk']; rfl)), ?_⟩
  obtain ⟨hout, hdrive, hrole⟩ := (s.at time).takeOver_leads
  exact ⟨hout, hdrive, by simpa using hrole⟩

end

/-- Settles O25: each event of a give-up and of the takeover after it by its rule above, on the state at its instant. -/
theorem giveUpAndTakeoverComplete : Obligations.GiveUpAndTakeoverComplete :=
  ⟨fun s cause time => execGiveUp_completes s time cause, fun s cause time => execGiveUpReceived_completes s time cause,
    execFirstOutputReceived_completes, execFreezeTimeout_completes, execTakeoverDecision_completes⟩

end Sys2Proof.Machine
end

section
namespace Sys2Proof.Machine

/-! ## What the Leapfrog leaves of a port (R309, R310) -/

theorem Only.fb {l : List Region} {s u : State} (h : Only l s u) (hl : l.contains .fbs = false) (p : Nat) :
    u.fb p = s.fb p :=
  congrArg (fun m => Map.get m p) (h.keeps .fbs hl)

/-- A port without its Leapfrog compare. -/
def Fb.withoutLeap (x : Fb) : Fb := { x with leapArmed := false, leapOvr := false, leapNext := 0, leapEnd := none }

/-- What turns on no field of the compare is the same in ports that are the same without it. -/
theorem Fb.eq_of_withoutLeap {α : Type} {x y : Fb} (h : Fb.withoutLeap x = Fb.withoutLeap y) (f : Fb → α)
    (hf : ∀ z, f (Fb.withoutLeap z) = f z) : f x = f y := by
  rw [← hf x, h, hf]

section
variable (s : State) (p : Nat)

theorem State.leapPulse_withoutLeap : Fb.withoutLeap ((s.leapPulse p).fb p) = Fb.withoutLeap (s.fb p) := by
  unfold State.leapPulse
  split
  · rw [(State.emit_only ..).fb rfl, State.modFb_fb_same]
    rfl
  · rfl

theorem State.leapFire_withoutLeap : Fb.withoutLeap ((s.leapFire p).fb p) = Fb.withoutLeap (s.fb p) := by
  unfold State.leapFire
  rw [State.leapPulse_withoutLeap]
  split
  · rw [(State.event_only ..).fb rfl, State.modFb_fb_same]
    rfl
  · rw [State.modFb_fb_same]
    rfl

theorem State.leapLoop_withoutLeap (fuel : Nat) :
    Fb.withoutLeap ((State.leapLoop fuel s p).fb p) = Fb.withoutLeap (s.fb p) := by
  induction fuel generalizing s with
  | zero => rw [State.leapLoop, State.modFb_fb_same]; rfl
  | succ n ih =>
    rw [State.leapLoop]
    split
    · exact (ih _).trans (s.leapFire_withoutLeap p)
    · rw [State.modFb_fb_same]; rfl

theorem State.leapCheck_withoutLeap : Fb.withoutLeap ((s.leapCheck p).fb p) = Fb.withoutLeap (s.fb p) :=
  s.leapLoop_withoutLeap p 256

theorem State.leapLoad_withoutLeap (target : Word) (arm : Bool) :
    Fb.withoutLeap ((s.leapLoad p target arm).fb p) = Fb.withoutLeap (s.fb p) := by
  have loaded : ∀ f : Fb → Fb, (∀ x, Fb.withoutLeap (f x) = Fb.withoutLeap x) →
      Fb.withoutLeap ((s.modFb p f).fb p) = Fb.withoutLeap (s.fb p) := fun f hf => by rw [State.modFb_fb_same, hf]
  unfold State.leapLoad
  cases arm
  · exact loaded _ (fun _ => rfl)
  · exact (State.leapCheck_withoutLeap ..).trans (loaded _ (fun _ => rfl))

/-- A move of the position leaves what its step leaves, but for the Leapfrog. -/
theorem State.fbMove_withoutLeap (f : State → State) :
    Fb.withoutLeap ((s.fbMove p f).fb p) = Fb.withoutLeap ((f s).fb p) := by
  unfold State.fbMove
  exact doIf_keeps (fun u => Fb.withoutLeap (u.fb p) = Fb.withoutLeap ((f s).fb p)) _ (f s) _ rfl
    (fun _ => (f s).leapCheck_withoutLeap p)

/-- A compare whose condition does not hold does not fire (R310). -/
theorem State.leapLoop_rests (fuel : Nat)
    (h : leapMeets (s.parB 0x23 (p - 1) 0xF) (s.fb p).count (s.fb p).leapNext = false) :
    State.leapLoop fuel s p = s.modFb p (fun x => { x with leapOvr := false }) := by
  cases fuel with
  | zero => simp only [State.leapLoop, h, Bool.and_false]
  | succ n => simp only [State.leapLoop, h, Bool.and_false, Bool.false_eq_true, if_false]

/-- A target that is not reached yet is armed (R309, R314). -/
theorem State.leapLoad_arms (target : Word)
    (h : leapMeets (s.parB 0x23 (p - 1) 0xF) (s.fb p).count target = false) :
    ((s.leapLoad p target true).fb p).leapArmed = true ∧ ((s.leapLoad p target true).fb p).leapNext = target := by
  have e : s.leapLoad p target true =
      State.modFb (s.modFb p (fun x => { x with leapNext := target, leapArmed := true, leapOvr := false })) p
        (fun x => { x with leapOvr := false }) :=
    State.leapLoop_rests _ p 256 (by rw [State.modFb_fb_same]; exact h)
  rw [e, State.modFb_fb_same, State.modFb_fb_same]
  exact ⟨rfl, rfl⟩

theorem State.leapLoad_disarms (target : Word) : ((s.leapLoad p target false).fb p).leapArmed = false := by
  rw [State.leapLoad, doIf_false, State.modFb_fb_same]

end

/-! ## Edges in QUAD mode (R300) -/

theorem quadCount_of_levels {old new : BitVec 3} {a b a' b' : Bool}
    (h : ((old.getLsbD 0, old.getLsbD 1), (new.getLsbD 0, new.getLsbD 1)) = ((a, b), (a', b'))) :
    quadCount old new = if (a != a') && (b != b') then none else if a != a' then some (if a' == b' then -1 else 1)
      else if b != b' then some (if a' == b' then 1 else -1) else some 0 := by
  simp only [Prod.mk.injEq] at h
  obtain ⟨⟨rfl, rfl⟩, rfl, rfl⟩ := h
  rfl

/-- The four changes that count up, a rise of A while B is low among them. -/
theorem quadCount_up {old new : BitVec 3}
    (h : let o := (old.getLsbD 0, old.getLsbD 1)
      let n := (new.getLsbD 0, new.getLsbD 1)
      (o, n) = ((false, false), (true, false)) ∨ (o, n) = ((true, false), (true, true)) ∨
        (o, n) = ((true, true), (false, true)) ∨ (o, n) = ((false, true), (false, false))) :
    quadCount old new = some 1 := by
  rcases h with h | h | h | h <;> exact quadCount_of_levels h

/-- The same four in the other direction count down. -/
theorem quadCount_down {old new : BitVec 3}
    (h : let o := (old.getLsbD 0, old.getLsbD 1)
      let n := (new.getLsbD 0, new.getLsbD 1)
      (o, n) = ((true, false), (false, false)) ∨ (o, n) = ((true, true), (true, false)) ∨
        (o, n) = ((false, true), (true, true)) ∨ (o, n) = ((false, false), (false, true))) :
    quadCount old new = some (-1) := by
  rcases h with h | h | h | h <;> exact quadCount_of_levels h

theorem quadCount_unchanged {old new : BitVec 3}
    (h : (old.getLsbD 0, old.getLsbD 1) = (new.getLsbD 0, new.getLsbD 1)) : quadCount old new = some 0 := by
  obtain ⟨ha, hb⟩ := Prod.mk.inj h
  rw [quadCount, ha, hb, bne_self_eq_false, bne_self_eq_false]
  rfl

theorem quadCount_both {old new : BitVec 3} (ha : old.getLsbD 0 ≠ new.getLsbD 0) (hb : old.getLsbD 1 ≠ new.getLsbD 1) :
    quadCount old new = none := by
  rw [quadCount, bne_iff_ne.mpr ha, bne_iff_ne.mpr hb]
  rfl

/-- Levels with Z low are those of A and B alone. -/
theorem levels_and_three : ∀ l : BitVec 3, l.getLsbD 2 = false → l &&& 3 = l := by decide

section
variable (s : State) (p : Nat) {levels : BitVec 3}

/-- FB_DIR negates a count (R299). -/
theorem State.i32_fbSign (n : Int) : i32 (s.fbSign (p + 1) n) = if s.parB 0x23 p 3 then -i32 n else i32 n := by
  rw [State.fbSign, Nat.add_sub_cancel]
  split
  · exact BitVec.ofInt_neg
  · rfl

/-- An edge that counts moves the position, and takes the levels. -/
theorem State.fbCount_counts {n : Int} (hm : s.fbMode p = 1) (hq : quadCount (s.fb p).levels levels = some n) :
    s.fbCount p levels =
      s.modFb p (fun x => { x with levels := levels, count := x.count + i32 (s.fbSign p n) }) := by
  simp only [State.fbCount, hm, if_true, hq]

/-- A change of A and B at once takes the levels, and is marked for the sample. -/
theorem State.fbCount_marks (hm : s.fbMode p = 1) (hq : quadCount (s.fb p).levels levels = none) :
    s.fbCount p levels = s.modFb p (fun x => { x with levels := levels, quadNow := true }) := by
  simp only [State.fbCount, hm, if_true, hq]

/-- The position and the levels once an edge has counted and the Leapfrog has seen it. -/
theorem State.fbMove_counts {n : Int} (hm : s.fbMode p = 1) (hq : quadCount (s.fb p).levels levels = some n) :
    let x := (s.fbMove p (fun s => s.fbCount p levels)).fb p
    x.levels = levels ∧ x.count = (s.fb p).count + i32 (s.fbSign p n) ∧ x.indexCount = (s.fb p).indexCount := by
  have h := s.fbMove_withoutLeap p (fun s => s.fbCount p levels)
  rw [s.fbCount_counts p hm hq, State.modFb_fb_same] at h
  exact ⟨Fb.eq_of_withoutLeap h Fb.levels (fun _ => rfl), Fb.eq_of_withoutLeap h Fb.count (fun _ => rfl),
    Fb.eq_of_withoutLeap h Fb.indexCount (fun _ => rfl)⟩

/-- Where both change, the position stands and the Leapfrog does not act. -/
theorem State.fbMove_marks (hm : s.fbMode p = 1) (hq : quadCount (s.fb p).levels levels = none) :
    s.fbMove p (fun s => s.fbCount p levels) = s.modFb p (fun x => { x with levels := levels, quadNow := true }) := by
  simp only [State.fbMove, s.fbCount_marks p hm hq, State.modFb_fb_same, bne_self_eq_false, doIf_false]

end

section
variable (s : State) (port : Fin 8) (levels : BitVec 3) (time : Nat)

/-- An edge without a rise of Z counts its levels as they are; a rise of Z waits for its capture (R308). -/
theorem exec_fbEdge_quad (hu : s.unitUp 45 = true) (hm : s.fbMode (port.val + 1) = 1)
    (hz : levels.getLsbD 2 = true → (s.fb (port.val + 1)).levels.getLsbD 2 = true) :
    exec (.fbEdge port levels time) s =
      .next ((s.at time).fbMove (port.val + 1) (fun s => s.fbCount (port.val + 1) levels)) := by
  have hu' : (s.at time).unitUp 45 = true := hu
  have hm' : (s.at time).fbMode (port.val + 1) = 1 := hm
  have taken : (if (s.fb (port.val + 1)).levels.getLsbD 2 then levels else levels &&& 3) = levels := by
    split
    · rfl
    · next h => exact levels_and_three levels (eq_false_of_ne_true (fun hl => h (hz hl)))
  have taken' : (if ((s.at time).fb (port.val + 1)).levels.getLsbD 2 then levels else levels &&& 3) = levels := taken
  simp only [exec, execFbEdge, evt, hu', hm', beq_self_eq_true, Bool.and_self, if_true, State.fbMove, taken']

theorem execFbEdge_counts (n : Int) (hu : s.unitUp 45 = true) (hm : s.fbMode (port.val + 1) = 1)
    (hz : levels.getLsbD 2 = true → (s.fb (port.val + 1)).levels.getLsbD 2 = true)
    (hq : quadCount (s.fb (port.val + 1)).levels levels = some n) :
    Completes (.fbEdge port levels time) s (fun u => (u.fb (port.val + 1)).levels = levels ∧
      (u.fb (port.val + 1)).count = (s.fb (port.val + 1)).count + i32 (s.fbSign (port.val + 1) n)) := by
  obtain ⟨hl, hc, -⟩ := (s.at time).fbMove_counts (port.val + 1) hm hq
  exact ⟨_, exec_fbEdge_quad s port levels time hu hm hz, hl, hc⟩

end

/-! ## The capture at Z (R308) -/

/-- What a port has captured at Z, and how often. -/
def Fb.captures (x : Fb) : Word × Nat := (x.indexCap, x.indexCount)

theorem State.modFb_captures (s : State) (p : Nat) (f : Fb → Fb) (hf : ∀ x, Fb.captures (f x) = Fb.captures x) :
    Fb.captures ((s.modFb p f).fb p) = Fb.captures (s.fb p) := by
  rw [State.modFb_fb_same, hf]

theorem State.indexRecord_captures (s : State) (p : Nat) (cap : Word) (d : Int) :
    Fb.captures ((s.indexRecord p cap d).fb p) = Fb.captures (s.fb p) := by
  unfold State.indexRecord
  extract_lets due
  split
  · rw [State.modFb_captures _ p _ (fun _ => by rfl), (State.record_only ..).fb rfl]
  · rfl

/-- The check and the correction of an index leave the capture. -/
theorem State.indexCheck_captures (s : State) (p : Nat) :
    Fb.captures ((s.indexCheck p).fb p) = Fb.captures (s.fb p) := by
  unfold State.indexCheck
  extract_lets turn cap d off s1 s2
  have h1 : Fb.captures (s1.fb p) = Fb.captures (s.fb p) := s.modFb_captures p _ (fun _ => by rfl)
  have h2 : Fb.captures (s2.fb p) = Fb.captures (s.fb p) :=
    doIf_keeps (fun u => Fb.captures (u.fb p) = Fb.captures (s.fb p)) off s1 _ h1
      (fun h => (s1.indexRecord_captures p cap d).trans h)
  split
  · rfl
  · split
    · have corrected := Fb.eq_of_withoutLeap
        (s2.fbMove_withoutLeap p (fun s => s.modFb p (fun x => { x with count := x.count - i32 d }))) Fb.captures
        (fun _ => rfl)
      exact (corrected.trans (s2.modFb_captures p _ (fun _ => by rfl))).trans h2
    · exact h2

/-- A rise of Z captures the position, with an edge of the same instant counted (R308). -/
theorem execFbIndexCapture_completes (s : State) (port : Fin 8) (levels : BitVec 3) (time : Nat) (n : Int)
    (hu : s.unitUp 45 = true) (hm : s.fbMode (port.val + 1) = 1) (hz : levels.getLsbD 2 = true)
    (hl : (s.fb (port.val + 1)).levels.getLsbD 2 = false)
    (hq : quadCount (s.fb (port.val + 1)).levels levels = some n) :
    Completes (.fbIndexCapture port levels time) s (fun u =>
      (u.fb (port.val + 1)).indexCap = (s.fb (port.val + 1)).count + i32 (s.fbSign (port.val + 1) n) ∧
      (u.fb (port.val + 1)).indexCount = ((s.fb (port.val + 1)).indexCount + 1) % 256) := by
  have hu' : (s.at time).unitUp 45 = true := hu
  have hm' : (s.at time).fbMode (port.val + 1) = 1 := hm
  have hl' : ((s.at time).fb (port.val + 1)).levels.getLsbD 2 = false := hl
  refine ⟨_, congrArg Host.Outcome.next (if_pos (by rw [hu', hm', hz, hl']; rfl)), ?_⟩
  dsimp only
  obtain ⟨-, hc, hi⟩ := (s.at time).fbMove_counts (port.val + 1) hm hq
  generalize (s.at time).fbMove (port.val + 1) (fun s => s.fbCount (port.val + 1) levels) = s1 at hc hi ⊢
  have hcap := State.indexCheck_captures (State.eventAll (s1.modFb (port.val + 1) (fun x =>
    { x with indexCap := x.count, indexCount := (x.indexCount + 1) % 256 })) (111 + (port.val + 1))) (port.val + 1)
  rw [(State.eventAll_only ..).fb rfl, State.modFb_fb_same] at hcap
  obtain ⟨h1, h2⟩ := Prod.mk.inj hcap
  exact ⟨h1.trans hc, h2.trans (by rw [hi]; rfl)⟩

/-! ## The sample (R302, R304, R312) -/

theorem b2n_testBit (b : Bool) (i : Nat) : (b2n b).testBit i = (decide (i = 0) && b) := by
  cases b
  · exact Nat.testBit_bool_toNat false i
  · exact Nat.testBit_bool_toNat true i

/-- A bit of a packed word is set where a field sets it. -/
theorem packWord_getLsbD (fs : List (Nat × Nat)) (i : Nat) (h : i < 32) :
    (packWord fs).getLsbD i = fs.any (fun f => (f.2 * 2 ^ f.1).testBit i) := by
  have fold : ∀ (l : List (Nat × Nat)) (w : Word),
      (l.foldl (fun acc f => acc ||| BitVec.ofNat 32 (f.2 * 2 ^ f.1)) w).getLsbD i =
        (w.getLsbD i || l.any (fun f => (f.2 * 2 ^ f.1).testBit i)) := by
    intro l
    induction l with
    | nil => intro w; simp
    | cons f r ih =>
      intro w
      rw [List.foldl_cons, ih, BitVec.getLsbD_or, BitVec.getLsbD_ofNat, decide_eq_true h, List.any_cons, Bool.true_and,
        Bool.or_assoc]
  rw [packWord, fold]
  simp

theorem hallSector_lt (code : Nat) : hallSector code < 8 := by
  unfold hallSector
  split <;> decide

/-- A latched sample takes the position, and shows VALID as it is given and QUAD_ERR as it was collected. -/
theorem State.fbLatch_shows (s : State) (p : Nat) (valid crcBad serErr timeout : Bool) :
    ((s.fbLatch p valid crcBad serErr timeout).fb p).pos = (s.fb p).count ∧
    ((s.fbLatch p valid crcBad serErr timeout).fb p).stat.getLsbD 3 = valid ∧
    ((s.fbLatch p valid crcBad serErr timeout).fb p).stat.getLsbD 6 = (s.fb p).quadNow := by
  have sector (c : Prop) [Decidable c] (k i : Nat) (hi : 3 ≤ i) :
      (if c then hallSector k else 0).testBit i = false := by
    refine Nat.testBit_lt_two_pow (Nat.lt_of_lt_of_le ?_ (Nat.pow_le_pow_right (by decide) hi))
    split
    · exact hallSector_lt k
    · decide
  have latched (u : State) (b : Bool) (f : Fb → Fb) : (doIf b (u.modFb p f) State.tookFree).fb p = f (u.fb p) := by
    cases b
    · exact State.modFb_fb_same u p f
    · exact ((State.tookFree_only _).fb rfl p).trans (State.modFb_fb_same u p f)
  unfold State.fbLatch
  dsimp only
  rw [latched]
  have bits (w : Word) (i : Nat) (hi : i < 14) : (w.truncate 14).getLsbD i = w.getLsbD i := by simp [hi]
  refine ⟨rfl, (bits _ 3 (by decide)).trans ?_, (bits _ 6 (by decide)).trans ?_⟩ <;>
    rw [packWord_getLsbD _ _ (by decide)] <;>
    simp [Nat.testBit_mul_two_pow, b2n_testBit, sector, -Nat.testBit_zero]

section
variable (s : State) (port : Fin 8) (serial : Option SerialRead) (time : Nat)

/-- At its instant a port in QUAD mode takes what waits for the sample, and latches. -/
theorem exec_fbSample_quad (ht : max s.now time % 62500 = 0) (hu : s.unitUp 45 = true)
    (hm : s.fbMode (port.val + 1) = 1) : exec (.fbSample port serial time) s =
      .next (((s.at time).fbLoads (port.val + 1)).fbLatch (port.val + 1) true false false false) := by
  have hu' : (s.at time).unitUp 45 = true := hu
  have hm' : (s.at time).fbMode (port.val + 1) = 1 := hm
  simp [exec, execFbSample, evt, ht, hu', hm']

theorem execFbSample_completes (ht : max s.now time % 62500 = 0) (hu : s.unitUp 45 = true)
    (hm : s.fbMode (port.val + 1) = 1) (hp : (s.fb (port.val + 1)).posSet = none)
    (hl : (s.fb (port.val + 1)).leapSet = none) :
    Completes (.fbSample port serial time) s (fun u =>
      (u.fb (port.val + 1)).pos = (s.fb (port.val + 1)).count ∧ Fb.valid (u.fb (port.val + 1)) = true) := by
  have hp' : ((s.at time).fb (port.val + 1)).posSet = none := hp
  have hl' : ((s.at time).fb (port.val + 1)).leapSet = none := hl
  obtain ⟨hpos, hvalid, -⟩ := ((s.at time).fbLoads (port.val + 1)).fbLatch_shows (port.val + 1) true false false false
  refine ⟨_, exec_fbSample_quad s port serial time ht hu hm, hpos.trans ?_, hvalid⟩
  simp only [State.fbLoads, hp', hl', State.modFb_fb_same]
  rfl

/-- What waits for the sample leaves a double change to be shown. -/
theorem State.fbLoads_quadNow (p : Nat) : ((s.fbLoads p).fb p).quadNow = (s.fb p).quadNow := by
  have moved (v : Word) : ((s.fbMove p (fun s => s.modFb p (fun x => { x with count := v }))).fb p).quadNow =
      (s.fb p).quadNow :=
    (Fb.eq_of_withoutLeap (s.fbMove_withoutLeap p _) Fb.quadNow (fun _ => rfl)).trans (by rw [State.modFb_fb_same])
  have loaded (u : State) (n : Word) (arm : Bool) : ((u.leapLoad p n arm).fb p).quadNow = (u.fb p).quadNow :=
    Fb.eq_of_withoutLeap (u.leapLoad_withoutLeap p n arm) Fb.quadNow (fun _ => rfl)
  unfold State.fbLoads
  dsimp only
  rw [State.modFb_fb_same]
  cases (s.fb p).posSet <;> cases (s.fb p).leapSet <;> simp only [loaded, moved]

/-- A double change shows QUAD_ERR in the next sample, and VALID (R300, R312). -/
theorem execFbSample_showsQuadErr (ht : max s.now time % 62500 = 0) (hu : s.unitUp 45 = true)
    (hm : s.fbMode (port.val + 1) = 1) (hq : (s.fb (port.val + 1)).quadNow = true) :
    Completes (.fbSample port serial time) s (fun v =>
      (v.fb (port.val + 1)).stat.getLsbD 6 = true ∧ (v.fb (port.val + 1)).stat.getLsbD 3 = true) := by
  obtain ⟨-, hvalid, herr⟩ := ((s.at time).fbLoads (port.val + 1)).fbLatch_shows (port.val + 1) true false false false
  exact ⟨_, exec_fbSample_quad s port serial time ht hu hm,
    (herr.trans ((s.at time).fbLoads_quadNow (port.val + 1))).trans hq, hvalid⟩

end

/-- Settles O45: an edge that counts, by the count of its change; a double change leaves the position and is marked for
the next sample, whatever that sample loads. -/
theorem quadratureCounts : Obligations.QuadratureCounts := by
  intro s port levels time hu hm hz old new one
  have hexec := exec_fbEdge_quad s port levels time hu hm (fun h => hz.trans h)
  cases hq : quadCount (s.fb (port.val + 1)).levels levels with
  | none =>
    have uncounted {n : Int} (h : quadCount (s.fb (port.val + 1)).levels levels = some n) : False := by
      rw [hq] at h; cases h
    rw [(s.at time).fbMove_marks (port.val + 1) hm hq] at hexec
    refine ⟨_, hexec, ?_⟩
    dsimp only
    rw [State.modFb_fb_same]
    refine ⟨rfl, fun h => (uncounted (quadCount_up h)).elim, fun h => (uncounted (quadCount_down h)).elim, fun _ => rfl,
      fun _ _ => ⟨rfl, fun serial next hn => ?_⟩⟩
    exact execFbSample_showsQuadErr _ port serial next hn hu hm (by rw [State.modFb_fb_same])
  | some n =>
    have counted {m : Int} (h : quadCount (s.fb (port.val + 1)).levels levels = some m) : n = m :=
      Option.some.inj (hq.symm.trans h)
    obtain ⟨u, he, hl, hc⟩ := execFbEdge_counts s port levels time n hu hm (fun h => hz.trans h) hq
    refine ⟨u, he, hl, fun h => ?_, fun h => ?_, fun h => ?_, fun ha hb => ?_⟩
    · rw [hc, counted (quadCount_up h), State.i32_fbSign]
      rfl
    · rw [hc, counted (quadCount_down h), State.i32_fbSign, BitVec.sub_eq_add_neg]
      exact congrArg _ (apply_ite Neg.neg _ (-1 : Word) 1).symm
    · rw [hc, counted (quadCount_unchanged h), State.i32_fbSign]
      exact (congrArg _ (ite_self _)).trans (BitVec.add_zero _)
    · rw [quadCount_both ha hb] at hq
      cases hq

/-! ## What leaves a port and what its partner sends (R307, R311) -/

section
variable (s : State) (port : Fin 8) (time : Nat)

/-- LFO goes low when its pulse is over (R311). -/
theorem execLeapPulseEnd_completes (e : Nat) (hl : (s.fb (port.val + 1)).leapEnd = some e) (he : e ≤ max s.now time) :
    Completes (.leapPulseEnd port time) s (fun u => u.out = [.lfo (port.val + 1) false] ∧
      (u.fb (port.val + 1)).leapEnd = none) := by
  have hl' : ((s.at time).fb (port.val + 1)).leapEnd = some e := hl
  have he' : e ≤ (s.at time).now := he
  refine ⟨((s.at time).modFb (port.val + 1) (fun x => { x with leapEnd := none })).emit (.lfo (port.val + 1) false), ?_,
    rfl, ?_⟩
  · simp only [exec, execLeapPulseEnd, evt, hl', if_pos he']
  · rw [(State.emit_only ..).fb rfl, State.modFb_fb_same]

/-- A command of the module that runs the plant waits for the sample on the partner too (R307). -/
theorem execFbForwardReceived_completes (pos leap : Word) (arm : Bool) (hr : s.runsPlant = false) :
    Completes (.fbForwardReceived port (some pos) (some leap) arm time) s (fun u =>
      (u.fb (port.val + 1)).posSet = some pos ∧ (u.fb (port.val + 1)).leapSet = some (leap, arm)) := by
  have hr' : (s.at time).runsPlant = false := hr
  refine ⟨_, congrArg Host.Outcome.next (if_neg (by rw [hr']; decide)), ?_⟩
  dsimp only
  rw [State.modFb_fb_same]
  exact ⟨rfl, rfl⟩

end

/-! ## The opcodes of group 0x23 (R304, R309, R314) -/

theorem Books.fb {s u : State} (h : Books s u) (p : Nat) : u.fb p = s.fb p := by
  obtain ⟨_, _, _, _, _, _, rfl⟩ := h
  rfl

theorem Executing.fb {s u : State} {t : Fin 16} {r : Req} {op : Nat} (h : Executing s t r op u) (p : Nat) :
    u.fb p = s.fb p := h.books.fb p

theorem Executing.parB {s u : State} {t : Fin 16} {r : Req} {op : Nat} (h : Executing s t r op u) (b i k : Nat) :
    u.parB b i k = s.parB b i k := by
  obtain ⟨_, _, _, _, _, _, rfl⟩ := h.books
  rfl

theorem Executing.fbMode {s u : State} {t : Fin 16} {r : Req} {op : Nat} (h : Executing s t r op u) (p : Nat) :
    u.fbMode p = s.fbMode p := by
  obtain ⟨_, _, _, _, _, _, rfl⟩ := h.books
  rfl

theorem portOk_iff {w : Word} : portOk w = true ↔ 1 ≤ w.toNat ∧ w.toNat ≤ 8 := decide_eq_true_iff

/-- In Single a request for a port that is not OFF loads its compare at once (R314). -/
theorem leapBody_loads (r : Req) (s : State) (h1 : s.single = true) (hp : portOk (r.w 2) = true)
    (hm : s.fbMode (r.w 2).toNat ≠ 0) :
    leapBody r s = (s.leapLoad (r.w 2).toNat (r.w 3) (bitOf (r.w 4) 0), ok) := by
  simp only [leapBody, hp, Bool.not_true, Bool.false_eq_true, if_false, if_neg hm, h1, if_true]

section
variable (s : State) (t : Fin 16) (r : Req)

theorem execFbRead_completes (h : s.Ready t r) (ha : s.Allows t r 0) (hn : r.payload.length = 1)
    (hp : 1 ≤ (r.w 2).toNat ∧ (r.w 2).toNat ≤ 8) :
    Completes (.fbRead t r) s (Replied s t r (Fb.words (s.fb (r.w 2).toNat))) := by
  refine opcode_reads s t r _ _ _ h ha.2 (s.gate_oneWord t r 0x2301 0 h ha hn) (fun u hx => ?_)
  simp only [portOk_iff.mpr hp, if_true, hx.fb]

/-- A position waits for the next sample, in a Pair on both modules (R304, R307). -/
theorem execFbPosSet_completes (h : s.Ready t r) (ha : s.Allows t r 1) (hn : r.payload.length = 2)
    (hq : s.runsPlant = true ∧ 1 ≤ (r.w 2).toNat ∧ (r.w 2).toNat ≤ 8 ∧
      (s.fbMode (r.w 2).toNat = 1 ∨ s.fbMode (r.w 2).toNat = 2)) :
    Completes (.fbPosSet t r) s (fun u => Replied s t r [] u ∧ (u.fb (r.w 2).toNat).posSet = some (r.w 3)) := by
  obtain ⟨hr, hlo, hhi, hmode⟩ := hq
  have ⟨_, _, hrec, _⟩ := h
  have hm : ¬ (s.fbMode (r.w 2).toNat = 0 ∨ s.fbMode (r.w 2).toNat = 3) := by omega
  have g := State.gate_none s t r { opcode := 0x2302, role := 1, len := lenIs 2, active := true } hrec
    (by simp [lenIs, hn]) ha.2 rfl ha.1 rfl (fun _ => hr)
  refine opcode_replies s t r _ _ _ _ h ha.2 g (fun u hx => ?_)
  simp only [portOk_iff.mpr ⟨hlo, hhi⟩, Bool.not_true, Bool.false_eq_true, if_false, hx.fbMode, if_neg hm]
  refine ⟨_, rfl, (State.fbForward_only ..).tenant_eq t rfl, fun w hw => ?_⟩
  rw [hw.fb, (State.fbForward_only ..).fb rfl, State.modFb_fb_same]

/-- In Single FB_LEAP_ARM loads the compare of the port and answers OK (R314). -/
theorem opcode_leap (arm : Bool) (P : Fb → Prop) (h : s.Ready t r) (ha : s.Allows t r 1) (hn : r.payload.length = 3)
    (h1 : s.single = true) (hp : 1 ≤ (r.w 2).toNat ∧ (r.w 2).toNat ≤ 8) (hm : s.fbMode (r.w 2).toNat ≠ 0)
    (hb : bitOf (r.w 4) 0 = arm)
    (hP : ∀ u, Executing s t r 0x2303 u → P ((u.leapLoad (r.w 2).toNat (r.w 3) arm).fb (r.w 2).toNat)) :
    ∃ u, opcode s t r { opcode := 0x2303, role := s.leapRole t r, len := lenIs 3, active := true } (leapBody r) =
        .next u ∧ Replied s t r [] u ∧ P (u.fb (r.w 2).toNat) := by
  subst hb
  have ⟨_, _, hrec, _⟩ := h
  have hrole : s.leapRole t r ≤ 1 := by
    unfold State.leapRole
    split
    · exact Nat.zero_le 1
    · exact Nat.le_refl 1
  have hruns : s.runsPlant = true := s.runsPlant_iff.mpr (.inl h1)
  have g := State.gate_none s t r { opcode := 0x2303, role := s.leapRole t r, len := lenIs 3, active := true } hrec
    (by simp [lenIs, hn]) ha.2 rfl (Nat.le_trans hrole ha.1) rfl (fun _ => hruns)
  refine opcode_replies s t r _ _ _ _ h ha.2 g (fun u hx => ?_)
  refine ⟨_, leapBody_loads r u (hx.single.trans h1) (portOk_iff.mpr hp) (hx.fbMode _ ▸ hm),
    (State.leapLoad_only ..).tenant_eq t rfl, fun w hw => ?_⟩
  rw [hw.fb]
  exact hP u hx

theorem execFbLeapArm_completes (h : s.Ready t r) (ha : s.Allows t r 1) (hn : r.payload.length = 3)
    (hq : s.single = true ∧ 1 ≤ (r.w 2).toNat ∧ (r.w 2).toNat ≤ 8 ∧ s.fbMode (r.w 2).toNat ≠ 0 ∧
      bitOf (r.w 4) 0 = true ∧
      leapMeets (s.parB 0x23 ((r.w 2).toNat - 1) 0xF) (s.fb (r.w 2).toNat).count (r.w 3) = false) :
    Completes (.fbLeapArm t r) s (fun u => Replied s t r [] u ∧ (u.fb (r.w 2).toNat).leapArmed = true ∧
      (u.fb (r.w 2).toNat).leapNext = r.w 3) := by
  obtain ⟨h1, hlo, hhi, hm, hb, hunmet⟩ := hq
  refine opcode_leap s t r true (fun x => x.leapArmed = true ∧ x.leapNext = r.w 3) h ha hn h1 ⟨hlo, hhi⟩ hm hb
    (fun u hx => u.leapLoad_arms _ _ ?_)
  rw [hx.parB, hx.fb]
  exact hunmet

theorem execFbLeapDisarm_completes (h : s.Ready t r) (ha : s.Allows t r 1) (hn : r.payload.length = 3)
    (hq : s.single = true ∧ 1 ≤ (r.w 2).toNat ∧ (r.w 2).toNat ≤ 8 ∧ s.fbMode (r.w 2).toNat ≠ 0 ∧
      bitOf (r.w 4) 0 = false) :
    Completes (.fbLeapDisarm t r) s (fun u => Replied s t r [] u ∧ (u.fb (r.w 2).toNat).leapArmed = false) := by
  obtain ⟨h1, hlo, hhi, hm, hb⟩ := hq
  exact opcode_leap s t r false (fun x => x.leapArmed = false) h ha hn h1 ⟨hlo, hhi⟩ hm hb
    (fun u _ => u.leapLoad_disarms _ _)

end

/-- Settles O33: each event of a port and each opcode of group 0x23 by its rule above. -/
theorem feedbackComplete : Obligations.FeedbackComplete :=
  ⟨fun s port levels time n hu hm hz hq => execFbEdge_counts s port levels time n hu hm (fun _ => hz) hq,
    execFbSample_completes, execFbIndexCapture_completes, execLeapPulseEnd_completes,
    fun s port pos leap arm time => execFbForwardReceived_completes s port time pos leap arm,
    execFbRead_completes, execFbPosSet_completes, execFbLeapArm_completes, execFbLeapDisarm_completes⟩

end Sys2Proof.Machine
end
